-- ==== Sys2Proof/Word.lean ====
section
/-! DEFINITION. The words of the block: the widths its registers, lines, tags and addresses have. -/

namespace Sys2Proof

/-- One byte of memory, of a frame or of an image stream. -/
abbrev Byte := BitVec 8

/-- One register word of the register window (R451). -/
abbrev Word := BitVec 32

/-- One 64-bit quantity: a general register, a Log index, a Waypoint sequence, the Chronometer. -/
abbrev DWord := BitVec 64

/-- One 64-byte line; byte i is bits [8i+7:8i] (R52, R58). -/
abbrev Line := BitVec 512

/-- The 56-bit port address of a host request (R33). -/
abbrev PortAddr := BitVec 56

/-- A subchannel, numbered 2 × channel + subchannel (R478). -/
abbrev Sub := Fin 32

/-- A Pilot engine number (R364). -/
abbrev EngineNo := Fin 32

end Sys2Proof
end

