-- ==== Sys2Proof/Syntax.lean ====
section
/-! DEFINITION. The commands the block takes, with their operands: requests at its ports, register accesses, frames
of its links, events on its pins, device answers and the times its own sequencers act (spec/opcode_table.json). -/

namespace Sys2Proof

/-- The request bundle of one host port handshake (R52): the opcode is the command itself. -/
structure HostReq where
  /-- the host port the request arrives at -/
  port : Fin 16
  /-- RQ_TAG -/
  tag : BitVec 12
  /-- RQ_LABEL -/
  label : BitVec 6
  /-- RQ_ATTR -/
  attr : BitVec 8
  /-- RQ_ADDR -/
  addr : PortAddr
  /-- RQ_MASK, one bit for each byte of RQ_DATA -/
  mask : BitVec 64
  /-- RQ_DATA -/
  data : Line
  deriving DecidableEq, Repr

/-- The requester paths that reach CFG: the host ports and the management chain (R451, R452). -/
inductive Path where
  | host (p : Fin 16)
  | chain
  deriving DecidableEq, Repr

/-- The queues of the table of R21, in its order, each with the instance of R517. -/
inductive Queue where
  | hpxIngress (p : Fin 16)
  | hpxEgress (p : Fin 16)
  | chsRead (c : Sub)
  | chsWrite (c : Sub)
  | eccReturn (ch : Fin 16)
  | plgMark
  | plgDrain
  | twnOut
  | twnIn
  | dtiCmd
  | dreFetch (q : Fin 64)
  | cphJob (cls : Fin 8)
  deriving DecidableEq, Repr

/-- Who holds a reservation (R93): a host port with its label, or a Pilot engine. -/
inductive ResvId where
  | host (p : Fin 16) (label : BitVec 6)
  | engine (e : EngineNo)
  deriving DecidableEq, Repr

/-- One Bureo frame as it arrives (R132): header, payload bytes, CHECK as computed by the sender, and the tag
that follows an authenticated frame. -/
structure Frame where
  typ : BitVec 4
  flags : BitVec 4
  lane : BitVec 2
  ver : BitVec 2
  plen : BitVec 9
  seq : Word
  ack : Word
  epoch : Word
  arg0 : DWord
  arg1 : Word
  check : Word
  payload : List Byte
  tag : Option (BitVec 128)
  deriving DecidableEq, Repr

/-- Module kinds an SPD can report (R6, R231). -/
inductive ModuleKind where
  | rdimm | mrdimm | lrdimm
  deriving DecidableEq, Repr

/-- Device widths an SPD can report (R6, R231). -/
inductive DevWidth where
  | x4 | x8 | x16
  deriving DecidableEq, Repr

/-- What SGT reads from the SPD hub of one DIMM slot (R231, R233, R236): geometry, and the timing parameters in
picoseconds with their minima in CK, in the order of the fields of R201; `cas` lists the supported CAS latencies. -/
structure SpdModule where
  channel : Fin 16
  slot : Fin 2
  present : Bool
  kind : ModuleKind
  width : DevWidth
  rowBits : BitVec 2
  cidBits : BitVec 2
  /-- chip selects of the DIMM, 1 to 4 -/
  chipSelects : Nat
  maxRate : BitVec 4
  tps : List Nat
  minCk : List Nat
  cas : List Nat
  deriving DecidableEq, Repr

/-- A DRAM location (R38, R40). -/
structure Loc where
  sub : Sub
  /-- chip select -/
  cs : Nat
  /-- logical rank -/
  rank : Nat
  cid : Nat
  bg : Nat
  bank : Nat
  row : Nat
  /-- line index in the row (R39) -/
  col : Nat
  deriving DecidableEq, Repr

/-- PPR states of a remap table entry (R283). -/
inductive Ppr where
  | none | pending | done
  deriving DecidableEq, Repr

/-- One entry of the remap table and directory (R282): the row, its pool slot and its PPR state. -/
structure Remap where
  row : Loc
  slot : Nat
  ppr : Ppr
  deriving DecidableEq, Repr

/-- A migration of bank or rank sparing (R284): copied lines so far and in all. -/
structure Migration where
  ch : Fin 16
  rankKind : Bool
  rank : Nat
  bank : Nat
  spare : Nat
  pos : Nat
  total : Nat
  /-- started by ECC_CMD -/
  byCmd : Bool
  deriving DecidableEq, Repr

/-- A binding of a spare chip select of one channel, with the banks it serves (R284). -/
structure Binding where
  ch : Fin 16
  rank : Nat
  spare : Nat
  mask : Word
  deriving DecidableEq, Repr

/-- How one step of initial Sighting ended for its scope (R239–R242): the PHY results it leaves, the device its
failures lie in, and the RAA thresholds that MR58 reports. -/
structure StepResult where
  channel : Fin 16
  sub : Fin 2
  /-- DIMM slot of a DIMM-scope step, chip select of a rank-scope step -/
  unit : Fin 4
  step : BitVec 4
  pass : Bool
  device : Option (BitVec 4)
  results : List (Nat × Word)
  raa : Option (BitVec 9 × BitVec 9)
  deriving DecidableEq, Repr

/-- A read burst as it returns (R246, R268, R340, R356): the error pattern on the stored burst, the DQS delays the PHY
followed to (DQS, RXEN, RDC), whether the two copies of the tweak unit disagreed on the line, and the core whose two copies
disagreed on a block, if one did. -/
structure ReadReturn where
  err : BitVec 640
  moved : List (Fin 10 × BitVec 10 × BitVec 10)
  tweakMiss : Bool
  coreFault : Option (Fin 38)
  deriving DecidableEq, Repr

/-- The subsystems that ask SUA for units beside the engines (R379). -/
inductive Internal where
  | snd
  | sgt
  | twn
  deriving DecidableEq, Repr

/-- The fields of a vector operation as encoded (R398, R402). -/
structure VFields where
  vd : BitVec 4
  va : BitVec 4
  vb : BitVec 4
  mask : BitVec 3
  elem : BitVec 2
  all : BitVec 1
  deriving DecidableEq, Repr

/-- The commands of the block: one constructor for each row of the spec's table of operations and events
(spec/opcode_table.json), with the row's operands. An operand `event` has one value and says nothing: what its row reports is the
state's to decide. -/
inductive Instr where
  /-- READ (R57). -/
  | read (q : HostReq)
  /-- WRITE (R57). -/
  | write (q : HostReq)
  /-- WRITE_FULL (R57). -/
  | writeFull (q : HostReq)
  /-- ATOM_CAS8 (R58). -/
  | atomCas8 (q : HostReq)
  /-- ATOM_CAS16 (R58). -/
  | atomCas16 (q : HostReq)
  /-- ATOM_FADD (R58). -/
  | atomFadd (q : HostReq)
  /-- ATOM_SWAP (R58). -/
  | atomSwap (q : HostReq)
  /-- ATOM_AND (R58). -/
  | atomAnd (q : HostReq)
  /-- ATOM_OR (R58). -/
  | atomOr (q : HostReq)
  /-- RESV_LD (R93). -/
  | resvLd (q : HostReq)
  /-- COND_ST (R96). -/
  | condSt (q : HostReq)
  /-- OFENCE (R86). -/
  | ofence (q : HostReq)
  /-- PFENCE (R118). -/
  | pfence (q : HostReq)
  /-- STAGE_HINT (R60). -/
  | stageHint (q : HostReq)
  /-- CFG_RD (R451). -/
  | cfgRd (q : HostReq)
  /-- CFG_WR (R451). -/
  | cfgWr (q : HostReq)
  /-- HOST_RESPONSE_ACK (R62). -/
  | hostResponseAck (port : Fin 16)
  /-- HOLD_TIMEOUT (R66). -/
  | holdTimeout (port : Fin 16) (tag : BitVec 12)
  /-- IDLE_ITEM (R20). -/
  | idleItem (q : Queue)
  /-- QUEUE_SILENT (R20). -/
  | queueSilent (q : Queue)
  /-- PACE_SAMPLE (R32). -/
  | paceSample (m : Fin 8) (pace : BitVec 12)
  /-- PILOT_STORE_RESPONSE (R84). -/
  | pilotStoreResponse (e : EngineNo)
  /-- STORE_BUFFER_AGE_ISSUE (R80). -/
  | storeBufferAgeIssue (e : EngineNo)
  /-- RESERVATION_EXPIRE (R95). -/
  | reservationExpire (who : ResvId)
  /-- RESERVATION_CLEAR_ALL (R99). -/
  | reservationClearAll (p : Path)
  /-- ATU_RCFG_WRITE (R100). -/
  | atuRcfgWrite (p : Path) (v : Word)
  /-- DRAIN_ISSUE (R108). -/
  | drainIssue
  /-- DRAIN_COMPLETE (R110). -/
  | drainComplete (idx : DWord)
  /-- DRAIN_REISSUE (R110). -/
  | drainReissue (idx : DWord)
  /-- DRAIN_STALL (R112). -/
  | drainStall
  /-- FENCE_TIMEOUT (R118). -/
  | fenceTimeout (id : Nat)
  /-- PLG_BUDGET_WRITE (R113). -/
  | plgBudgetWrite (p : Path) (v : Word)
  /-- PIN_SET (R126). -/
  | pinSet (p : Path) (k : Fin 3)
  /-- PIN_CLR (R126). -/
  | pinClr (p : Path) (k : Fin 3)
  /-- ANCHOR_RELEASED (R122). -/
  | anchorReleased
  /-- MIRROR_FRAME_SEND (R135). -/
  | mirrorFrameSend (lane : Fin 2)
  /-- MIRROR (R130). -/
  | mirror (f : Frame)
  /-- MIRROR_FRAME_RESUME (R14). -/
  | mirrorFrameResume (lane : Fin 2)
  /-- FWD_WR (R130). -/
  | fwdWr (f : Frame)
  /-- FWD_ACK (R129). -/
  | fwdAck (f : Frame)
  /-- FWD_TABLE_ADMIT (R129). -/
  | fwdTableAdmit
  /-- BEAT (R138). -/
  | beat (f : Frame)
  /-- HEARTBEAT (R138). -/
  | heartbeat
  /-- HELLO (R142). -/
  | hello (f : Frame)
  /-- HELLO_RESEND (R142). -/
  | helloResend
  /-- OWN_TABLE (R143). -/
  | ownTable (f : Frame)
  /-- OWN_HANDOVER (R144). -/
  | ownHandover (f : Frame)
  /-- OWN_ACK (R144). -/
  | ownAck (f : Frame)
  /-- OWN_TAKE (R145). -/
  | ownTake (f : Frame)
  /-- OWN_FENCE (R147). -/
  | ownFence (f : Frame)
  /-- OWN_SYNC_DONE (R151). -/
  | ownSyncDone (f : Frame)
  /-- FETCH (R152). -/
  | fetch (f : Frame)
  /-- FETCH_NAK (R175). -/
  | fetchNak (f : Frame)
  /-- CTRL (R372). -/
  | ctrl (f : Frame)
  /-- EPOCH_WAIT (R130). -/
  | epochWait (lane : Fin 2)
  /-- RETRY_TIMEOUT (R139). -/
  | retryTimeout (lane : Fin 3)
  /-- SILENT_TIMEOUT (R140). -/
  | silentTimeout
  /-- TWN_UP (R142). -/
  | twnUp (p : Path)
  /-- TWN_DOWN (R140). -/
  | twnDown (p : Path)
  /-- TWN_FULL (R148). -/
  | twnFull (p : Path)
  /-- TWN_HOVER (R144). -/
  | twnHover (p : Path) (reach : BitVec 16)
  /-- HANDOVER_SEND (R144). -/
  | handoverSend (reach : BitVec 16)
  /-- TWN_GRANT_GO (R145). -/
  | twnGrantGo (p : Path)
  /-- GRANT_DONE (R145). -/
  | grantDone
  /-- RESYNC_LEAF_COPY (R149). -/
  | resyncLeafCopy
  /-- PF_WARN (R166). -/
  | pfWarn
  /-- SAVE_META_WRITE (R168). -/
  | saveMetaWrite (event : Unit)
  /-- SAVE_FIRST_FLUSH_DONE (R168). -/
  | saveFirstFlushDone (event : Unit)
  /-- SAVE_DONE (R171). -/
  | saveDone (event : Unit)
  /-- VAULT_META_WRITEBACK (R165). -/
  | vaultMetaWriteback (unit : Nat)
  /-- RESTORE_SUPERBLOCK_READ (R172). -/
  | restoreSuperblockRead (event event2 : Unit)
  /-- RESTORE_METADATA_READ (R172). -/
  | restoreMetadataRead (event : Unit)
  /-- RESTORE_SERVICE_START (R173). -/
  | restoreServiceStart (event : Unit)
  /-- VLT_INIT (R172). -/
  | vltInit (p : Path)
  /-- VLT_RELEASE (R179). -/
  | vltRelease (p : Path)
  /-- BACKGROUND_REFILL (R180). -/
  | backgroundRefill
  /-- LEAF_REFILL_DONE (R176). -/
  | leafRefillDone (leaf : Nat)
  /-- SIGHTING_COMPLETE (R437). -/
  | sightingComplete
  /-- CHS_DECIDE (R194). -/
  | chsDecide (c : Sub)
  /-- COMMAND_LAUNCH (R199). -/
  | commandLaunch (c : Sub)
  /-- READ_DATA_RETURN (R268). -/
  | readDataReturn (c : Sub) (r : ReadReturn)
  /-- CHS_CFG_WRITE (R203). -/
  | chsCfgWrite (p : Path) (ch : Fin 16) (v : Word)
  /-- CHS_WM_WRITE (R209). -/
  | chsWmWrite (p : Path) (ch : Fin 16) (v : Word)
  /-- CHS_TIM_WRITE (R203). -/
  | chsTimWrite (p : Path) (ch : Fin 16) (n : Fin 8) (v : Word)
  /-- REFRESH_TICK (R213). -/
  | refreshTick (c : Sub) (cs : Fin 4)
  /-- THERMAL_POLL (R216). -/
  | thermalPoll (ch : Fin 16) (readings : List (Option Byte))
  /-- TRACKER_CLEAR (R219). -/
  | trackerClear (ch : Fin 16)
  /-- PAUSE_GRANT (R223). -/
  | pauseGrant (c : Sub)
  /-- RPM_CFG_WRITE (R212). -/
  | rpmCfgWrite (p : Path) (v : Word)
  /-- SGT_DISCOVER (R233). -/
  | sgtDiscover (p : Path) (hubs : List SpdModule)
  /-- SGT_START (R233). -/
  | sgtStart (p : Path)
  /-- SGT_RESIGHT (R248). -/
  | sgtResight (p : Path) (v : Word)
  /-- SGT_RESIGHT_FULL (R251). -/
  | sgtResightFull (p : Path) (v : Word)
  /-- SIGHT_STEP_DONE (R240). -/
  | sightStepDone (r : StepResult)
  /-- SIDEBAND_CMD_GO (R235). -/
  | sidebandCmdGo (p : Path) (v : Word)
  /-- SIDEBAND_DONE (R234). -/
  | sidebandDone (result : BitVec 3) (data : Word)
  /-- CA_PARITY (R238). -/
  | caParity (c : Sub)
  /-- OSC_SAMPLE (R247). -/
  | oscSample (c : Sub) (counts : List (BitVec 16)) (drifts : List (BitVec 8))
  /-- RESIGHT_DUE (R248). -/
  | resightDue (c : Sub) (cs : Fin 4)
  /-- RESIGHT_INTERVAL (R248). -/
  | resightInterval (c : Sub) (cs : Fin 4)
  /-- RESIGHT_CHUNK (R249). -/
  | resightChunk (c : Sub) (pass : Bool) (results : List (Nat × Word))
  /-- SOUNDING_PASS_START (R278). -/
  | soundingPassStart
  /-- SOUNDING_READ (R279). -/
  | soundingRead (c : Sub) (event : Unit)
  /-- ECC_RETIRE_ROW (R282). -/
  | eccRetireRow (p : Path) (v : Word)
  /-- ECC_MARK_DEV (R270). -/
  | eccMarkDev (p : Path) (v : Word)
  /-- ECC_SPARE_BANK (R284). -/
  | eccSpareBank (p : Path) (v : Word)
  /-- ECC_SPARE_RANK (R284). -/
  | eccSpareRank (p : Path) (v : Word)
  /-- ECC_RETIRE_PE (R286). -/
  | eccRetirePe (p : Path) (v : Word)
  /-- ECC_MARK_WRITE (R270). -/
  | eccMarkWrite (p : Path) (c : Sub) (v : Word)
  /-- SPARE_COPY (R284). -/
  | spareCopy (ch : Fin 16)
  /-- WQ_HEAL_FETCH (R277). -/
  | wqHealFetch (leaf : Nat)
  /-- HEAL_TIMEOUT (R277). -/
  | healTimeout (leaf : Nat)
  /-- BWR_WINDOW (R297). -/
  | bwrWindow
  /-- BWR_SLOT (R297). -/
  | bwrSlot
  /-- BWR_COMMIT (R304). -/
  | bwrCommit (p : Path)
  /-- BWR_CHART_COMMIT (R301). -/
  | bwrChartCommit (p : Path)
  /-- FILL_ISSUE (R316). -/
  | fillIssue
  /-- SLOT_EVICT (R317). -/
  | slotEvict (slot : Nat)
  /-- FILL_COMPLETE (R316). -/
  | fillComplete (sb : Nat)
  /-- SEAL_FLUSH (R327). -/
  | sealFlush (seg : Nat)
  /-- SEAL_DONE (R327). -/
  | sealDone (seg : Nat)
  /-- DTI_PUB_GO (R329). -/
  | dtiPubGo (p : Path)
  /-- DP_COMMAND_ISSUE (R332). -/
  | dpCommandIssue
  /-- DP_READ_BEAT (R331). -/
  | dpReadBeat (id : BitVec 12) (beat : BitVec 6) (data : Line)
  /-- DP_COMPLETION (R331). -/
  | dpCompletion (id : BitVec 12) (stat : BitVec 3) (sb : BitVec 256)
  /-- DP_TIMEOUT (R333). -/
  | dpTimeout (id : BitVec 12)
  /-- PORT_RESET (R333). -/
  | portReset (p : Path)
  /-- LOAD256 (R345). -/
  | load256 (slot : Fin 64) (key : BitVec 512)
  /-- LOAD512 (R345). -/
  | load512 (slot : Fin 64) (key : BitVec 512)
  /-- KEY_ZERO (R345). -/
  | keyZero (slot : Fin 64)
  /-- KEY_BAD_OP (R345). -/
  | keyBadOp (slot : Fin 64)
  /-- CPH_KZERO (R359). -/
  | cphKzero (p : Path) (slot : Fin 64)
  /-- CORE_KAT (R356). -/
  | coreKat (core : Fin 38) (pass : Bool)
  /-- PEA_START (R368). -/
  | peaStart (p : Path) (e : EngineNo)
  /-- PEA_STOP (R368). -/
  | peaStop (p : Path) (e : EngineNo)
  /-- PEA_LOAD (R366). -/
  | peaLoad (p : Path) (e : EngineNo)
  /-- PEA_RESET (R368). -/
  | peaReset (p : Path) (e : EngineNo)
  /-- PEA_IMG (R366). -/
  | peaImg (p : Path) (e : EngineNo) (v : Word)
  /-- STOP_DONE (R368). -/
  | stopDone (e : EngineNo)
  /-- SUA_REQUEST (R375). -/
  | suaRequest (e : EngineNo) (u : Fin 6) (prio : BitVec 4)
  /-- SUA_WITHDRAW (R375). -/
  | suaWithdraw (e : EngineNo) (u : Fin 6)
  /-- SUA_RELEASE (R375). -/
  | suaRelease (e : EngineNo) (u : Fin 6)
  /-- SUA_INTERNAL_REQUEST (R379). -/
  | suaInternalRequest (who : Internal) (u : Fin 6)
  /-- SUA_REQUEST_DUE (R379). -/
  | suaRequestDue (who : Internal) (u : Fin 6)
  /-- SUA_WINDOW (R377). -/
  | suaWindow
  /-- LONG_HOLD (R380). -/
  | longHold (inst : Fin 28)
  /-- MV_COPY (R383). -/
  | mvCopy (e : EngineNo)
  /-- MV_FILL (R383). -/
  | mvFill (e : EngineNo)
  /-- MV_SEAL (R383). -/
  | mvSeal (e : EngineNo)
  /-- MV_ABORT (R382). -/
  | mvAbort (e : EngineNo)
  /-- MOVER_DONE (R383). -/
  | moverDone (ch : Fin 8)
  /-- SLOT_DP_READ (R384). -/
  | slotDpRead (e : EngineNo)
  /-- SLOT_DP_WRITE (R384). -/
  | slotDpWrite (e : EngineNo)
  /-- SLOT_DP_FLUSH (R384). -/
  | slotDpFlush (e : EngineNo)
  /-- SD_PROBE (R385). -/
  | sdProbe (e : EngineNo) (addr : DWord)
  /-- SG_REQ (R385). -/
  | sgReq (e : EngineNo) (v : Word)
  /-- BC_GO (R386). -/
  | bcGo (e : EngineNo)
  /-- KJ_ZERO (R386). -/
  | kjZero (e : EngineNo)
  /-- KJ_GCM_ENC (R386). -/
  | kjGcmEnc (e : EngineNo)
  /-- KJ_GCM_DEC (R386). -/
  | kjGcmDec (e : EngineNo)
  /-- KJ_GMAC (R386). -/
  | kjGmac (e : EngineNo)
  /-- KEY_JOB_DONE (R355). -/
  | keyJobDone
  /-- ADD (R401). -/
  | add (e : EngineNo) (rd rs1 rs2 : BitVec 5)
  /-- SUB (R401). -/
  | sub (e : EngineNo) (rd rs1 rs2 : BitVec 5)
  /-- AND (R401). -/
  | and (e : EngineNo) (rd rs1 rs2 : BitVec 5)
  /-- OR (R401). -/
  | or (e : EngineNo) (rd rs1 rs2 : BitVec 5)
  /-- XOR (R401). -/
  | xor (e : EngineNo) (rd rs1 rs2 : BitVec 5)
  /-- SLL (R401). -/
  | sll (e : EngineNo) (rd rs1 rs2 : BitVec 5)
  /-- SRL (R401). -/
  | srl (e : EngineNo) (rd rs1 rs2 : BitVec 5)
  /-- SRA (R401). -/
  | sra (e : EngineNo) (rd rs1 rs2 : BitVec 5)
  /-- CMPLT (R401). -/
  | cmplt (e : EngineNo) (rd rs1 rs2 : BitVec 5)
  /-- CMPLTU (R401). -/
  | cmpltu (e : EngineNo) (rd rs1 rs2 : BitVec 5)
  /-- MUL (R401). -/
  | mul (e : EngineNo) (rd rs1 rs2 : BitVec 5)
  /-- MULHU (R401). -/
  | mulhu (e : EngineNo) (rd rs1 rs2 : BitVec 5)
  /-- DIVU (R401). -/
  | divu (e : EngineNo) (rd rs1 rs2 : BitVec 5)
  /-- REMU (R401). -/
  | remu (e : EngineNo) (rd rs1 rs2 : BitVec 5)
  /-- DIV (R401). -/
  | div (e : EngineNo) (rd rs1 rs2 : BitVec 5)
  /-- REM (R401). -/
  | rem (e : EngineNo) (rd rs1 rs2 : BitVec 5)
  /-- MIN (R401). -/
  | min (e : EngineNo) (rd rs1 rs2 : BitVec 5)
  /-- MAX (R401). -/
  | max (e : EngineNo) (rd rs1 rs2 : BitVec 5)
  /-- MINU (R401). -/
  | minu (e : EngineNo) (rd rs1 rs2 : BitVec 5)
  /-- MAXU (R401). -/
  | maxu (e : EngineNo) (rd rs1 rs2 : BitVec 5)
  /-- CLZ (R401). -/
  | clz (e : EngineNo) (rd rs1 rs2 : BitVec 5)
  /-- CTZ (R401). -/
  | ctz (e : EngineNo) (rd rs1 rs2 : BitVec 5)
  /-- POPC (R401). -/
  | popc (e : EngineNo) (rd rs1 rs2 : BitVec 5)
  /-- BSWAP (R401). -/
  | bswap (e : EngineNo) (rd rs1 rs2 : BitVec 5)
  /-- CRC (R401). -/
  | crc (e : EngineNo) (rd rs1 rs2 : BitVec 5)
  /-- CMPEQ (R401). -/
  | cmpeq (e : EngineNo) (rd rs1 rs2 : BitVec 5)
  /-- CMPLE (R401). -/
  | cmple (e : EngineNo) (rd rs1 rs2 : BitVec 5)
  /-- CMPLEU (R401). -/
  | cmpleu (e : EngineNo) (rd rs1 rs2 : BitVec 5)
  /-- ADDI (R400). -/
  | addi (e : EngineNo) (rd rs1 : BitVec 5) (imm : BitVec 16)
  /-- ANDI (R400). -/
  | andi (e : EngineNo) (rd rs1 : BitVec 5) (imm : BitVec 16)
  /-- ORI (R400). -/
  | ori (e : EngineNo) (rd rs1 : BitVec 5) (imm : BitVec 16)
  /-- XORI (R400). -/
  | xori (e : EngineNo) (rd rs1 : BitVec 5) (imm : BitVec 16)
  /-- CMPLTI (R400). -/
  | cmplti (e : EngineNo) (rd rs1 : BitVec 5) (imm : BitVec 16)
  /-- CMPLTUI (R400). -/
  | cmpltui (e : EngineNo) (rd rs1 : BitVec 5) (imm : BitVec 16)
  /-- SHI_SLL (R400). -/
  | shiSll (e : EngineNo) (rd rs1 : BitVec 5) (imm : BitVec 16)
  /-- SHI_SRL (R400). -/
  | shiSrl (e : EngineNo) (rd rs1 : BitVec 5) (imm : BitVec 16)
  /-- SHI_SRA (R400). -/
  | shiSra (e : EngineNo) (rd rs1 : BitVec 5) (imm : BitVec 16)
  /-- SHI_ROR (R400). -/
  | shiRor (e : EngineNo) (rd rs1 : BitVec 5) (imm : BitVec 16)
  /-- SHIN (R400). -/
  | shin (e : EngineNo) (rd rs1 : BitVec 5) (imm : BitVec 16)
  /-- MOVI (R400). -/
  | movi (e : EngineNo) (rd rs1 : BitVec 5) (imm : BitVec 16)
  /-- LD (R405). -/
  | ld (e : EngineNo) (rd rs1 : BitVec 5) (size : BitVec 3) (off : BitVec 13)
  /-- LDU (R405). -/
  | ldu (e : EngineNo) (rd rs1 : BitVec 5) (size : BitVec 3) (off : BitVec 13)
  /-- ST (R405). -/
  | st (e : EngineNo) (rd rs1 : BitVec 5) (size : BitVec 3) (off : BitVec 13)
  /-- LDP (R400). -/
  | ldp (e : EngineNo) (rd rs1 : BitVec 5) (size : BitVec 3) (off : BitVec 13)
  /-- STP (R400). -/
  | stp (e : EngineNo) (rd rs1 : BitVec 5) (size : BitVec 3) (off : BitVec 13)
  /-- VLD (R400). -/
  | vld (e : EngineNo) (rd rs1 : BitVec 5) (size : BitVec 3) (off : BitVec 13)
  /-- VST (R400). -/
  | vst (e : EngineNo) (rd rs1 : BitVec 5) (size : BitVec 3) (off : BitVec 13)
  /-- PILOT_LOAD_DATA (R405). -/
  | pilotLoadData (e : EngineNo)
  /-- PILOT_DEFER_RETRY (R405). -/
  | pilotDeferRetry (e : EngineNo)
  /-- LDR (R404). -/
  | ldr (e : EngineNo) (rd rs1 rs2 : BitVec 5) (func : BitVec 11)
  /-- STC (R404). -/
  | stc (e : EngineNo) (rd rs1 rs2 : BitVec 5) (func : BitVec 11)
  /-- FAR_CAS8 (R403). -/
  | farCas8 (e : EngineNo) (rd rs1 rs2 : BitVec 5) (func : BitVec 11)
  /-- FAR_CAS16 (R403). -/
  | farCas16 (e : EngineNo) (rd rs1 rs2 : BitVec 5) (func : BitVec 11)
  /-- FAR_FADD (R403). -/
  | farFadd (e : EngineNo) (rd rs1 rs2 : BitVec 5) (func : BitVec 11)
  /-- FAR_SWAP (R403). -/
  | farSwap (e : EngineNo) (rd rs1 rs2 : BitVec 5) (func : BitVec 11)
  /-- FAR_AND (R403). -/
  | farAnd (e : EngineNo) (rd rs1 rs2 : BitVec 5) (func : BitVec 11)
  /-- FAR_OR (R403). -/
  | farOr (e : EngineNo) (rd rs1 rs2 : BitVec 5) (func : BitVec 11)
  /-- BCOND_EQZ (R400). -/
  | bcondEqz (e : EngineNo) (rs1 : BitVec 5) (z : BitVec 1) (woff : BitVec 16)
  /-- BCOND_NEZ (R400). -/
  | bcondNez (e : EngineNo) (rs1 : BitVec 5) (z : BitVec 1) (woff : BitVec 16)
  /-- BCOND_LTZ (R400). -/
  | bcondLtz (e : EngineNo) (rs1 : BitVec 5) (z : BitVec 1) (woff : BitVec 16)
  /-- BCOND_GEZ (R400). -/
  | bcondGez (e : EngineNo) (rs1 : BitVec 5) (z : BitVec 1) (woff : BitVec 16)
  /-- BCOND_GTZ (R400). -/
  | bcondGtz (e : EngineNo) (rs1 : BitVec 5) (z : BitVec 1) (woff : BitVec 16)
  /-- BCOND_LEZ (R400). -/
  | bcondLez (e : EngineNo) (rs1 : BitVec 5) (z : BitVec 1) (woff : BitVec 16)
  /-- BCOND_ODD (R400). -/
  | bcondOdd (e : EngineNo) (rs1 : BitVec 5) (z : BitVec 1) (woff : BitVec 16)
  /-- BCOND_EVEN (R400). -/
  | bcondEven (e : EngineNo) (rs1 : BitVec 5) (z : BitVec 1) (woff : BitVec 16)
  /-- BCOND_ALWAYS (R400). -/
  | bcondAlways (e : EngineNo) (rs1 : BitVec 5) (z : BitVec 1) (woff : BitVec 16)
  /-- CALL (R400). -/
  | call (e : EngineNo) (rd : BitVec 5) (woff : BitVec 21)
  /-- JUMPR (R400). -/
  | jumpr (e : EngineNo) (rd rs1 : BitVec 5) (imm : BitVec 16)
  /-- CALLR (R400). -/
  | callr (e : EngineNo) (rd rs1 : BitVec 5) (imm : BitVec 16)
  /-- VADD (R402). -/
  | vadd (e : EngineNo) (f : VFields)
  /-- VSUB (R402). -/
  | vsub (e : EngineNo) (f : VFields)
  /-- VMUL (R402). -/
  | vmul (e : EngineNo) (f : VFields)
  /-- VMIN (R402). -/
  | vmin (e : EngineNo) (f : VFields)
  /-- VMAX (R402). -/
  | vmax (e : EngineNo) (f : VFields)
  /-- VMINU (R402). -/
  | vminu (e : EngineNo) (f : VFields)
  /-- VMAXU (R402). -/
  | vmaxu (e : EngineNo) (f : VFields)
  /-- VAND (R402). -/
  | vand (e : EngineNo) (f : VFields)
  /-- VOR (R402). -/
  | vor (e : EngineNo) (f : VFields)
  /-- VXOR (R402). -/
  | vxor (e : EngineNo) (f : VFields)
  /-- VANDN (R402). -/
  | vandn (e : EngineNo) (f : VFields)
  /-- VSLL (R402). -/
  | vsll (e : EngineNo) (f : VFields)
  /-- VSRL (R402). -/
  | vsrl (e : EngineNo) (f : VFields)
  /-- VSRA (R402). -/
  | vsra (e : EngineNo) (f : VFields)
  /-- VSEL (R402). -/
  | vsel (e : EngineNo) (f : VFields)
  /-- VCOMPRESS (R402). -/
  | vcompress (e : EngineNo) (f : VFields)
  /-- VCMPEQ (R402). -/
  | vcmpeq (e : EngineNo) (f : VFields)
  /-- VCMPNE (R402). -/
  | vcmpne (e : EngineNo) (f : VFields)
  /-- VCMPLT (R402). -/
  | vcmplt (e : EngineNo) (f : VFields)
  /-- VCMPLTU (R402). -/
  | vcmpltu (e : EngineNo) (f : VFields)
  /-- VCMPLE (R402). -/
  | vcmple (e : EngineNo) (f : VFields)
  /-- VCMPLEU (R402). -/
  | vcmpleu (e : EngineNo) (f : VFields)
  /-- VRED_SUM (R402). -/
  | vredSum (e : EngineNo) (rd rs1 rs2 : BitVec 5) (func : BitVec 11)
  /-- VRED_MIN (R402). -/
  | vredMin (e : EngineNo) (rd rs1 rs2 : BitVec 5) (func : BitVec 11)
  /-- VRED_MAX (R402). -/
  | vredMax (e : EngineNo) (rd rs1 rs2 : BitVec 5) (func : BitVec 11)
  /-- VRED_MINU (R402). -/
  | vredMinu (e : EngineNo) (rd rs1 rs2 : BitVec 5) (func : BitVec 11)
  /-- VRED_MAXU (R402). -/
  | vredMaxu (e : EngineNo) (rd rs1 rs2 : BitVec 5) (func : BitVec 11)
  /-- VRED_AND (R402). -/
  | vredAnd (e : EngineNo) (rd rs1 rs2 : BitVec 5) (func : BitVec 11)
  /-- VRED_OR (R402). -/
  | vredOr (e : EngineNo) (rd rs1 rs2 : BitVec 5) (func : BitVec 11)
  /-- VRED_XOR (R402). -/
  | vredXor (e : EngineNo) (rd rs1 rs2 : BitVec 5) (func : BitVec 11)
  /-- VBCAST (R402). -/
  | vbcast (e : EngineNo) (rd rs1 rs2 : BitVec 5) (func : BitVec 11)
  /-- VEXT (R402). -/
  | vext (e : EngineNo) (rd rs1 rs2 : BitVec 5) (func : BitVec 11)
  /-- MTOG (R402). -/
  | mtog (e : EngineNo) (rd rs1 rs2 : BitVec 5) (func : BitVec 11)
  /-- GTOM (R402). -/
  | gtom (e : EngineNo) (rd rs1 rs2 : BitVec 5) (func : BitVec 11)
  /-- MPOPC (R402). -/
  | mpopc (e : EngineNo) (rd rs1 rs2 : BitVec 5) (func : BitVec 11)
  /-- PILOT_OFENCE (R86). -/
  | pilotOfence (e : EngineNo) (rd rs1 : BitVec 5) (imm : BitVec 12)
  /-- PILOT_PFENCE (R405). -/
  | pilotPfence (e : EngineNo) (rd rs1 : BitVec 5) (imm : BitVec 12)
  /-- DFENCE (R87). -/
  | dfence (e : EngineNo) (rd rs1 : BitVec 5) (imm : BitVec 12)
  /-- PILOT_FENCE_DONE (R86). -/
  | pilotFenceDone (e : EngineNo)
  /-- CRD (R407). -/
  | crd (e : EngineNo) (rd rs1 : BitVec 5) (imm : BitVec 12)
  /-- CWR (R407). -/
  | cwr (e : EngineNo) (rd rs1 : BitVec 5) (imm : BitVec 12)
  /-- CSET (R407). -/
  | cset (e : EngineNo) (rd rs1 : BitVec 5) (imm : BitVec 12)
  /-- CCLR (R407). -/
  | cclr (e : EngineNo) (rd rs1 : BitVec 5) (imm : BitVec 12)
  /-- MSG_POP (R407). -/
  | msgPop (e : EngineNo) (rs1 : BitVec 5)
  /-- TAKE (R406). -/
  | take (e : EngineNo) (rd rs1 : BitVec 5) (imm : BitVec 12)
  /-- POST (R406). -/
  | post (e : EngineNo) (rd rs1 : BitVec 5) (imm : BitVec 12)
  /-- WAIT (R406). -/
  | wait (e : EngineNo) (rd rs1 : BitVec 5) (imm : BitVec 12)
  /-- HALT (R406). -/
  | halt (e : EngineNo) (rd rs1 : BitVec 5) (imm : BitVec 12)
  /-- SQ_DOORBELL (R413). -/
  | sqDoorbell (p : Path) (q : Fin 64) (v : Word)
  /-- CQ_DOORBELL (R416). -/
  | cqDoorbell (p : Path) (q : Fin 64) (v : Word)
  /-- DESCRIPTOR_FETCH (R414). -/
  | descriptorFetch
  /-- DESCRIPTOR_DISPATCH (R414). -/
  | descriptorDispatch (q : Fin 64)
  /-- DESC_STAGE (R421). -/
  | descStage (q : Fin 64)
  /-- DESC_COURSE (R323). -/
  | descCourse (q : Fin 64)
  /-- DESC_COURSE_ABORT (R423). -/
  | descCourseAbort (q : Fin 64)
  /-- DESC_COMMIT (R424). -/
  | descCommit (e : EngineNo)
  /-- DESC_SCAN (R421). -/
  | descScan (e : EngineNo)
  /-- DESC_COPY (R421). -/
  | descCopy (e : EngineNo)
  /-- DESC_FILL (R421). -/
  | descFill (e : EngineNo)
  /-- DESC_SEAL (R421). -/
  | descSeal (e : EngineNo)
  /-- DESC_CHECKSUM (R421). -/
  | descChecksum (e : EngineNo)
  /-- DESC_SNAPSHOT_TAKE (R425). -/
  | descSnapshotTake (e : EngineNo)
  /-- DESC_SNAPSHOT_COPY (R425). -/
  | descSnapshotCopy (e : EngineNo)
  /-- DESC_SNAPSHOT_DROP (R425). -/
  | descSnapshotDrop (e : EngineNo)
  /-- DESC_VSYNC (R421). -/
  | descVsync (e : EngineNo)
  /-- DESC_PROBE (R421). -/
  | descProbe (e : EngineNo)
  /-- DESC_USER (R421). -/
  | descUser (e : EngineNo) (status : BitVec 16) (result : DWord)
  /-- IRQ_COALESCE_TIMEOUT (R417). -/
  | irqCoalesceTimeout (q : Fin 64)
  /-- HMP_RESPONSE (R427). -/
  | hmpResponse (tag : BitVec 8) (stat : BitVec 2) (data : Line)
  /-- HMP_TIMEOUT (R427). -/
  | hmpTimeout (tag : BitVec 8)
  /-- DRE_SQ_CFG_WRITE (R432). -/
  | dreSqCfgWrite (p : Path) (q : Fin 64) (v : Word)
  /-- DRE_CQ_CFG_WRITE (R433). -/
  | dreCqCfgWrite (p : Path) (q : Fin 64) (v : Word)
  /-- DRE_VEC_CTL_WRITE (R417). -/
  | dreVecCtlWrite (p : Path) (vec : Fin 64) (v : Word)
  /-- MAP_COMMIT (R46). -/
  | mapCommit (p : Path)
  /-- REACH_ENTRY_READ (R48). -/
  | reachEntryRead (p : Path)
  /-- REACH_ENTRY_WRITE (R48). -/
  | reachEntryWrite (p : Path) (v : DWord)
  /-- MODE_SAVE (R445). -/
  | modeSave (p : Path)
  /-- DR_ENTER (R445). -/
  | drEnter (p : Path)
  /-- DR_ACK (R443). -/
  | drAck (p : Path) (bits : BitVec 10)
  /-- CFG_MODECFG_WRITE (R449). -/
  | cfgModecfgWrite (p : Path) (v : Word)
  /-- CFG_LOCK (R456). -/
  | cfgLock (p : Path)
  /-- STS_CLR (R454). -/
  | stsClr (p : Path) (off : BitVec 24) (v : Word)
  /-- STS_COR_READ (R455). -/
  | stsCorRead (p : Path) (off : BitVec 24)
  /-- PAIR_LO_READ (R452). -/
  | pairLoRead (p : Path) (off : BitVec 24)
  /-- PAIR_HI_WRITE (R452). -/
  | pairHiWrite (p : Path) (off : BitVec 24) (v : Word)
  /-- ALIAS_READ (R460). -/
  | aliasRead (p : Path) (off : BitVec 26)
  /-- ALIAS_WRITE (R461). -/
  | aliasWrite (p : Path) (off : BitVec 26) (v : Word)
  /-- DP_DATA_ACCESS (R462). -/
  | dpDataAccess (p : Path) (wr : Option Word)
  /-- DP_BURST (R463). -/
  | dpBurst (p : Path) (wr : Option Line)
  /-- REGISTER_WRITE (R451). -/
  | registerWrite (p : Path) (off : BitVec 24) (v : Word)
  /-- MC_READ (R465). -/
  | mcRead (frame : List Byte)
  /-- MC_WRITE (R465). -/
  | mcWrite (frame : List Byte)
  /-- MC_SETADDR (R467). -/
  | mcSetaddr (frame : List Byte)
  /-- MC_PING (R465). -/
  | mcPing (frame : List Byte)
  /-- MC_FORWARD (R466). -/
  | mcForward (frame : List Byte)
  /-- MC_CRC (R466). -/
  | mcCrc (frame : List Byte)
  /-- CHRSET_WRITE (R475). -/
  | chrsetWrite (p : Path) (v : DWord)
  /-- PTP_SYNC_EDGE (R476). -/
  | ptpSyncEdge
  /-- PTP_REF_WRITE (R476). -/
  | ptpRefWrite (p : Path) (v : DWord)
  /-- CSEL_WRITE (R477). -/
  | cselWrite (p : Path) (k : Fin 512) (v : Word)
  /-- COUNTER_SNAP (R479). -/
  | counterSnap (p : Path)
  /-- COUNTER_CLEAR (R479). -/
  | counterClear (p : Path)
  /-- LOG_RD_WRITE (R481). -/
  | logRdWrite (p : Path) (v : Word)
  /-- LOG_LATCH_READ (R481). -/
  | logLatchRead (p : Path) (slot : Fin 1024)
  /-- TRACE_ARM (R484). -/
  | traceArm (p : Path)
  /-- TRACE_STOP (R484). -/
  | traceStop (p : Path)
  /-- TRACE_LATCH_READ (R485). -/
  | traceLatchRead (p : Path)
  /-- LOOKOUT_WARN (R486). -/
  | lookoutWarn (e : EngineNo) (trigger : BitVec 4)
  /-- LOOKOUT_STOP (R486). -/
  | lookoutStop (e : EngineNo)
  /-- LOOKOUT_FAIL (R486). -/
  | lookoutFail (e : EngineNo)
  /-- LOOKOUT_KICK (R486). -/
  | lookoutKick (p : Path)
  /-- FIRMWARE_KICK_TIMEOUT (R486). -/
  | firmwareKickTimeout
  /-- LOOKOUT_DR (R486). -/
  | lookoutDr
  /-- LKO_CFG_WRITE (R492). -/
  | lkoCfgWrite (p : Path) (v : Word)
  /-- RST_N_ASSERT (R507). -/
  | rstNAssert
  /-- RST_N_RELEASE (R506). -/
  | rstNRelease (edgeSync : BitVec 20)
  /-- POWER_UP_SELFTEST_DONE (R506). -/
  | powerUpSelftestDone (engines : List (Fin 34)) (cores : List (Fin 38))
  /-- BYPASS (R512). -/
  | bypass
  /-- IDCODE (R512). -/
  | idcode
  /-- SAMPLE_PRELOAD (R512). -/
  | samplePreload (cells : BitVec 2384)
  /-- EXTEST (R514). -/
  | extest (cells : BitVec 2384)
  /-- IJTAG (R513). -/
  | ijtag (mbist fuse : Bool)
  /-- SCAN (R514). -/
  | scan
  /-- BAD_OPCODE (R65). -/
  | badOpcode (op : BitVec 4) (q : HostReq)
  /-- ILLEGAL_INSTRUCTION (R399). -/
  | illegalInstruction (e : EngineNo) (w : Word)
  /-- CONDITIONAL_STORE_RESPONSE (R404). -/
  | conditionalStoreResponse (e : EngineNo)
  deriving DecidableEq, Repr

end Sys2Proof
end

