-- ==== Sys2Proof/Config.lean ====
section
/-! DEFINITION. Values the spec leaves open or to the implementation: opaque, so that nothing rests on them. -/

namespace Sys2Proof.Config

/-- The n-th free value: what the block returns where the spec states no value. -/
opaque freeValue : Nat → BitVec 64

/-- The set of the mark directory a leaf hashes to, of its 262,144 (R103): the hash is not given. -/
opaque markSet : Nat → Fin 262144

/-- The set of the reservation table a granule and an identity hash to, of its 1024 (R94): the hash is not given. -/
opaque resvSet : Nat → Nat → Fin 1024

/-- The IDCODE of the test access port (R512), which the chip fuses fix. -/
opaque idcode : BitVec 32

/-- The modules in the DIMM slots (R233), as their SPD hubs answer where no command has told what they answer. -/
opaque modules : List SpdModule

/-- The bits the test chains of the test access port capture (R512–R514): for a stage of the chain, its bit. -/
opaque testChain : Nat → Bool

end Sys2Proof.Config
end

