-- ==== Sys2Proof/Machine/State.lean ====
section
/-! DEFINITION. The state of the block as plain data, one structure for each subsystem, the ways a step can stop, and
the state after reset. -/

namespace Sys2Proof.Machine

/-- Faults of the block. The spec lets the block complete every command of its table, so nothing raises one: the
constructor stands for a machine that has stopped and is safe, since no step reaches it. -/
inductive Fault where
  | stopped
  deriving DecidableEq, Repr

/-- Refusals. -/
inductive Refusal where
  /-- the command has no meaning in the model yet; raised by no meaning; safe -/
  | notModelled (mnemonic : String)
  deriving DecidableEq, Repr

/-! ### Access, answers, status, log -/

/-- Response codes (R9). -/
inductive Code where
  | ok | defer | poison | resvFail | errAccess | errDevice | errOwner | errFenced | errMode
  deriving DecidableEq, Repr

/-- The 4-bit encoding of a response code (R9). -/
def Code.bits : Code → BitVec 4
  | .ok => 0 | .defer => 1 | .poison => 2 | .resvFail => 3 | .errAccess => 4
  | .errDevice => 5 | .errOwner => 6 | .errFenced => 7 | .errMode => 8

/-- Operating modes (R5). -/
inductive Mode where
  | reset | sighting | restore | service | solo | resync | deadReckoning | save
  deriving DecidableEq, Repr

/-- The 3-bit encoding of a mode (R5). -/
def Mode.bits : Mode → BitVec 3
  | .reset => 0 | .sighting => 1 | .restore => 2 | .service => 3
  | .solo => 4 | .resync => 5 | .deadReckoning => 6 | .save => 7

/-- One *_STS register: sequence, event bits and, for each bit that ever occurred, L_b (R454). -/
structure StsCell where
  seq : BitVec 8 := 0
  bits : BitVec 24 := 0
  last : List (Nat × BitVec 8) := []
  deriving DecidableEq, Repr

/-- One error log entry (R480). -/
structure LogEntry where
  chron : Nat
  addr : DWord
  src : BitVec 16
  code : BitVec 16
  seq : Word
  info : DWord
  deriving DecidableEq, Repr

/-- One trace buffer entry (R484, R485): a request, or a copy of a log entry. -/
inductive TraceEntry where
  | request (chron : Nat) (addr : DWord) (src : BitVec 16) (op : Byte) (cls : Byte) (code : BitVec 4)
      (tag : BitVec 16) (lat : Word)
  | log (e : LogEntry)
  deriving DecidableEq, Repr

/-- The trace buffer's control state (R484, R491). -/
structure TraceState where
  run : Bool := false
  triggered : Bool := false
  /-- entries still to capture after the trigger -/
  remaining : Option Nat := none
  next : Nat := 0
  count : Nat := 0
  /-- TEL_TRC_CFG as it stood at the last ARM (R491) -/
  cfg : Word := 0
  slots : List (Nat × TraceEntry) := []
  deriving DecidableEq, Repr

/-- One performance counter whose selector was written (R477, R479). -/
structure Counter where
  sel : Word := 0
  value : BitVec 48 := 0
  wrap : Bool := false
  deriving DecidableEq, Repr

/-- One pace monitor (R30, R32). -/
structure Pace where
  samples : List (BitVec 12) := []
  pace : BitVec 12 := 0
  max : BitVec 12 := 0
  armed : Bool := true
  deriving DecidableEq, Repr

/-- One subject of the Lookout (R486): its stage and since when its present stage or condition runs. -/
structure Subject where
  stage : Nat := 0
  since : Nat := 0
  trigger : Nat := 0
  deriving DecidableEq, Repr

/-- The last access CFG answered: who asked, the code and the data (R451). -/
structure RegAnswer where
  path : Path
  code : Code
  data : Line
  deriving DecidableEq, Repr

/-- The pair latch of one requester path for one marked pair: the latched HI half and the held LO half (R452). -/
structure PairLatch where
  hi : Option Word := none
  lo : Option Word := none
  deriving DecidableEq, Repr

/-- A data port of CFG: its last status words (R462, R463, R471); its address word is a register. -/
structure DataPort where
  words : Nat := 0
  code : Code := .ok
  deriving DecidableEq, Repr

/-! ### TEL and CFG -/

/-- TEL: counters, error log, trace, pace monitors, PTP and the Lookout. -/
structure Tel where
  log : List (Nat × LogEntry) := []
  logWr : Word := 0
  logLost : Word := 0
  /-- log latch of each requester path: slot and entry (R481) -/
  logLatch : List (Path × Nat × LogEntry) := []
  trace : TraceState := {}
  /-- trace latch of each requester path (R485): none stands for a slot nothing was written to -/
  traceLatch : List (Path × Option TraceEntry) := []
  counters : List (Nat × Counter) := []
  snapshot : List (Nat × Counter) := []
  pace : List (Nat × Pace) := []
  /-- TEL_PTP_CAP, and whether a REF may use it (R476) -/
  ptpCap : Nat := 0
  ptpFresh : Bool := false
  ptpOfs : Int := 0
  /-- offset still to be slewed out, and REFCLK periods between two corrections of one ns (R476) -/
  slewLeft : Int := 0
  slewDiv : Nat := 0
  slewCount : Nat := 0
  chrSetTaken : Bool := false
  engines : List (Nat × Subject) := []
  /-- time of the last silent-producer report of each queue -/
  queues : List (Queue × Subject) := []
  firmware : Subject := {}
  /-- whether the firmware timer runs, the time of the last kick and the period then in force, in ms -/
  kickRun : Bool := false
  lastKick : Nat := 0
  kickMs : Nat := 0
  deriving DecidableEq, Repr

/-- The mode controller and CFG (R436–R450, R462–R467). -/
structure Cfg where
  mode : Mode := .reset
  prev : Mode := .reset
  /-- the block's reset input is held -/
  resetHeld : Bool := false
  startAccepted : Bool := false
  sightDone : Bool := false
  sightingComplete : Bool := false
  restoreBegun : Bool := false
  restoreDone : Bool := false
  saveEntered : Bool := false
  noSave : Bool := false
  /-- PF_WARN handled without a Save in Reset or Sighting: no further transition (R441) -/
  frozen : Bool := false
  twnReq : Mode := .solo
  drCause : BitVec 10 := 0
  pfWarn : Bool := false
  saveDonePin : Bool := false
  lockTaken : Bool := false
  dp0 : DataPort := {}
  dp1 : DataPort := {}
  latches : List (Path × Nat × PairLatch) := []
  chainAddr : BitVec 7 := 0x7F
  enumIn : Bool := true
  enumOut : Bool := false
  /-- the last frame the block sent on MC_OUT, and whether it is its own response -/
  mcOut : List Byte := []
  answer : Option RegAnswer := none
  deriving DecidableEq, Repr

/-! ### Requests and jobs -/

/-- Far atomic operations (R58). -/
inductive AtomOp where
  | cas8 | cas16 | fadd | swap | and | or
  deriving DecidableEq, Repr

/-- Who made a Tier 0 access past MAP (R10, R480). -/
inductive Requester where
  | host (p : Fin 16) (tag : BitVec 12) (label : BitVec 6)
  | engine (e : EngineNo)
  | mover (e : EngineNo)
  | mirror (lane : Nat)
  | refill
  | agent (page : Nat)
  deriving DecidableEq, Repr

/-- The kinds of a write-class access (R57, R80, R102). -/
inductive WKind where
  | partialWrite
  | full
  | atom (op : AtomOp)
  | cond
  deriving DecidableEq, Repr

/-- The host opcodes (R57); `bad` is a reserved RQ_OP, or RQ_OP 3 with a reserved OP (R65). -/
inductive HostOp where
  | read | write | writeFull | atom (op : AtomOp) | resvLd | condSt | ofence | pfence | stageHint | cfgRd | cfgWr
  | bad (op : BitVec 4)
  deriving DecidableEq, Repr

/-- Priority levels (R193). -/
inductive Level where
  | low | normal | high
  deriving DecidableEq, Repr

/-- What a trace entry says of a request besides its answer (R485): the port address, the time of acceptance and the
level. -/
structure Asked where
  addr : Nat := 0
  since : Nat := 0
  level : Level := .normal
  deriving DecidableEq, Repr

/-- A write-class access on its way to acceptance. -/
structure WJob where
  who : Requester
  /-- Tier 0 line index, PA[45:6] -/
  line : Nat
  /-- byte offset of the operand inside the line (atomics) -/
  offset : Nat := 0
  kind : WKind
  mask : BitVec 64
  data : Line
  pois : Bool := false
  /-- set when the write came by FWD_WR: the forwarder's FTAG (R130) -/
  ftag : Option (BitVec 12) := none
  /-- the ciphertext line and POIS to store, once merged and encrypted -/
  final : Option (Line × Bool) := none
  /-- the merge read is under way and the merge lock is held (R191) -/
  merging : Bool := false
  /-- old value for the response (R58) -/
  old : Line := 0
  /-- the Pilot load or store-buffer entry the access belongs to -/
  seq : Nat := 0
  /-- order of arrival of the request -/
  no : Nat := 0
  /-- the Reach entry the request saw as it passed MAP stage 4 (R49) -/
  entry : Option DWord := none
  /-- the Mover's request, for the trace -/
  asked : Asked := {}
  deriving DecidableEq, Repr

/-- Where the data of a DRAM or forwarded read goes. -/
inductive ReadDest where
  | host (p : Fin 16) (tag : BitVec 12) (label : BitVec 6) (resv : Bool)
  | merge (j : WJob)
  | drain (idx : Nat) (off : Nat)
  | pilot (e : EngineNo) (seq : Nat) (addr : Nat) (resv : Bool)
  | ring (q : Fin 64) (slot : Nat)
  /-- a Sounding read of a Tier 0 line: of the walk, or a probe (R278, R385) -/
  | sounding (probe : Bool)
  /-- a Sounding read of a spare chip select that serves no Tier 0 line (R278) -/
  | soundSpare
  /-- a read of row remapping or of sparing: the line goes to where it moves to (R282, R284) -/
  | copy
  /-- a line of a leaf that is read for the twin (R149, R150, R152) -/
  | toTwin (leaf off no : Nat)
  deriving DecidableEq, Repr

/-- What a held or recorded miss waits for (R66): a leaf of Tier 0 or a sub-block of Tier 1. -/
inductive MissOn where
  | leaf (l : Nat)
  | sub (seg : Nat) (k : Nat)
  deriving DecidableEq, Repr

/-- Who makes a request that stands before admission (R55, R298). -/
inductive Source where
  | host (op : HostOp) (q : HostReq)
  /-- one line of a Pilot load, at its address -/
  | load (e : EngineNo) (seq : Nat) (addr : Nat) (resv : Bool)
  /-- a store-buffer entry that issues (R80) -/
  | store (e : EngineNo) (id : Nat) (line : Nat) (mask : BitVec 64) (data : Line)
  /-- a Pilot far atomic -/
  | atom (e : EngineNo) (seq : Nat) (op : AtomOp) (addr : Nat) (data : Line)
  /-- a Pilot conditional store -/
  | cond (e : EngineNo) (addr : Nat) (mask : BitVec 64) (data : Line)
  deriving DecidableEq, Repr

/-- One request that is not yet past admission (R55, R63). -/
structure Waiting where
  /-- order of arrival at the fabric -/
  no : Nat
  src : Source
  arrived : Nat
  /-- the Tier 0 line, once the request has passed MAP stage 4 (R49) -/
  cleared : Option Nat := none
  /-- the Reach entry it saw there (R49) -/
  entry : Option DWord := none
  /-- the class it was given when it was held (R295) -/
  cls : Option Nat := none
  /-- the miss a Pilot request waits for (R176, R318) -/
  on : Option MissOn := none
  /-- a Pilot request answered DEFER: the memory port has yet to retry it (R405) -/
  deferred : Bool := false
  deriving DecidableEq, Repr

/-- An outstanding tag of a host port (R62): the request it stands for and whether its response was formed. -/
structure TagEntry where
  op : HostOp
  q : HostReq
  arrived : Nat
  no : Nat
  answered : Bool := false
  level : Level := .normal
  deriving DecidableEq, Repr

/-- One response bundle (R52). -/
structure Response where
  tag : BitVec 12
  code : Code
  hint : BitVec 16 := 0
  data : Line := 0
  deriving DecidableEq, Repr

/-- A request in a hold slot (R66). -/
structure Held where
  w : Waiting
  tag : BitVec 12
  on : MissOn
  since : Nat
  tmo : Nat
  deriving DecidableEq, Repr

/-- One access past admission that waits at the enqueue port of its subchannel: for a free entry, for the merge lock of
its line, or for step 5 of the write path (R187, R191). -/
inductive Access where
  | rd (dest : ReadDest) (line : Nat) (who : Requester) (level : Level) (reserved : Bool)
  | wr (j : WJob) (level : Level) (reserved : Bool)
  deriving DecidableEq, Repr

/-- One host port (R52–R72). -/
structure Port where
  /-- the levels of the REQ and ACK wires of the request and response channels (R53): a transition is an event -/
  rqReq : Bool := false
  rqAck : Bool := false
  rsReq : Bool := false
  rsAck : Bool := false
  /-- requests announced by RQ_REQ whose RQ_ACK is withheld (R55, R56) -/
  unacked : List (HostOp × HostReq) := []
  held : List Held := []
  tags : List (Nat × TagEntry) := []
  /-- responses not yet acknowledged; the first is on the RS wires (R54) -/
  egress : List Response := []
  deriving DecidableEq, Repr

/-! ### Ordering, reservations, fences -/

/-- One reservation (R93, R94): granule number, size exponent, placement time and placement order. -/
structure Resv where
  who : ResvId
  granule : Nat
  gran : Nat
  placed : Nat
  life : Nat
  order : Nat
  deriving DecidableEq, Repr

/-- The fence streams of R119. -/
inductive Stream where
  | port (p : Fin 16)
  | label (l : BitVec 6)
  | engine (e : EngineNo)
  deriving DecidableEq, Repr

/-- What a pending PFENCE answers to. -/
inductive FenceOwner where
  | host (p : Fin 16) (tag : BitVec 12)
  | engine (e : EngineNo)
  deriving DecidableEq, Repr

/-- What became of an accepted or forwarded write for the TWIN level (R115, R118, R119). -/
inductive Fate where
  /-- the Reach was UNM -/
  | unmirrored
  /-- not shipped, or dropped from shipping -/
  | missed
  /-- shipped, its frame not yet acknowledged -/
  | shipped
  | atTwin
  /-- forwarded under FTAG, no FWD_ACK yet (R129) -/
  | forwarded (ftag : BitVec 12)
  /-- forwarded and acknowledged: the owner's Waypoint sequence and MISSED (R135) -/
  | forwardAcked (seq : Nat) (missed : Bool)
  deriving DecidableEq, Repr

/-- One write a fence can cover (R117): who made it, its Waypoint sequence (zero for a forwarded one) and its fate. -/
structure Covered where
  who : Requester
  /-- order of arrival of its request -/
  no : Nat
  seq : Nat
  fate : Fate
  /-- its place among the writes a fence can cover, in the order in which they were accepted or forwarded (R117) -/
  ord : Nat
  /-- streams whose completed PFENCE has covered the write (R119) -/
  told : List Stream := []
  deriving DecidableEq, Repr

/-- A PFENCE waiting for its level (R117, R118). -/
structure PFence where
  id : Nat
  owner : FenceOwner
  stream : Stream
  level : Nat
  arrived : Nat
  tmo : Nat
  /-- its order of arrival, and the place the next covered write was to take then -/
  no : Nat
  limit : Nat
  /-- tags of its port whose writes are not yet accepted or answered -/
  waitOn : List (BitVec 12)
  /-- set once S is taken -/
  target : Option Nat
  deriving DecidableEq, Repr

/-- An OFENCE of a host port: the tags it waits for (R86). -/
structure OFence where
  port : Fin 16
  tag : BitVec 12
  no : Nat
  waitOn : List (BitVec 12)
  deriving DecidableEq, Repr

/-- ATU and the fence bookkeeping. -/
structure Atu where
  resv : List Resv := []
  /-- reserved loads whose read is under way: each places its reservation when its data is delivered (R93, R96) -/
  resvPend : List Resv := []
  nextOrder : Nat := 0
  evictions : Word := 0
  /-- lines under a merge lock (R191) -/
  locks : List Nat := []
  /-- requests not yet past admission, in order of arrival: the ingress queues of R21 and the Pilot memory ports -/
  waiting : List Waiting := []
  nextNo : Nat := 0
  /-- accesses past admission that wait at the enqueue port, in order of arrival -/
  parked : List Access := []
  fences : List PFence := []
  ofences : List OFence := []
  nextFence : Nat := 0
  covered : List Covered := []
  nextCov : Nat := 0
  /-- PFENCEs that ended by their timeout before every write they cover was accepted, the last of each (R119) -/
  late : List PFence := []
  deriving DecidableEq, Repr

/-! ### MAP -/

/-- The committed set of MAP_COMMIT (R46): the values the decode uses. -/
structure MapSet where
  committed : Bool := false
  width8 : Bool := false
  hash : Bool := true
  rowBits : Nat := 0
  cidBits : Nat := 0
  rankBits : Nat := 0
  carveBase : Nat := 0
  logBase : Nat := 0
  logEntries : Nat := 28
  segtBase : Nat := 0
  t1Segs : Nat := 0
  stageBase : Nat := 0
  stageSize : Nat := 0
  remapBase : Nat := 0
  remapSize : Nat := 0
  redoBase : Nat := 0
  redoSize : Nat := 0
  /-- the active chip-select map of each channel (R40) -/
  csmap : List Word := List.replicate 16 0x3210
  deriving DecidableEq, Repr

/-- MAP: the committed set, the Reach table (entries not zero), the Reaches TWN holds unresolved (R143), the copy
set, and the twin's entries of its last OWN TABLE (R175). -/
structure MapState where
  act : MapSet := {}
  commitErr : BitVec 4 := 0
  reach : List (Nat × DWord) := []
  unresolved : List Nat := []
  copySet : List Nat := []
  twinTable : List (Nat × DWord) := []
  /-- a Restore runs: an unlisted leaf from `walk` on is ZERO, every other unlisted leaf PRESENT (R174) -/
  restoring : Bool := false
  /-- where the background walk stands (R180) -/
  walk : Nat := 0
  /-- Restore states of the leaves that differ from that -/
  absent : List (Nat × Nat) := []
  deriving DecidableEq, Repr

/-! ### PLG -/

/-- The source of a Log entry (R106). -/
structure LogRec where
  seq : Nat
  stamp : Nat
  label : BitVec 6
  req : BitVec 8
  src : BitVec 3
  leaf : Nat
  epoch : Word
  deriving DecidableEq, Repr

/-- A drain in flight (R108–R110): the Log index, the leaf, the ciphertext lines read so far, whether one was
uncorrectable, and what it waits for. -/
structure Drain where
  idx : Nat
  leaf : Nat
  lines : List (Nat × Line × Bool) := []
  /-- the vault write was issued -/
  written : Bool := false
  /-- the deep port answered: OK or failed -/
  result : Option Bool := none
  /-- not before this time is the drain issued again (R110) -/
  retryAt : Option Nat := none
  deriving DecidableEq, Repr

/-- PLG (R102–R123). -/
structure Plg where
  w : Nat := 0
  d : Nat := 0
  a : Nat := 0
  /-- the drain-issue pointer I -/
  i : Nat := 0
  ring : List (Nat × LogRec) := []
  /-- mark directory: leaf, Log index, order of entry (R103) -/
  marks : List (Nat × Nat × Nat) := []
  markOrder : Nat := 0
  /-- the address array of the dirty-mark queue: the last 256 leaves that entered it (R21) -/
  markArr : List Nat := []
  /-- leaves evicted from the directory, with the Log index of the entry that stayed live (R103, R104) -/
  evicted : List (Nat × Nat) := []
  /-- indices in [D, W) whose drain has completed -/
  drained : List Nat := []
  drains : List Drain := []
  pins : List (Nat × Nat) := []
  wpl : Nat := 0
  wpt : Nat := 0
  wpv : Nat := 0
  remark : Word := 0
  /-- WPV held in Save after a failed leaf (R170) -/
  wpvHold : Option Nat := none
  budgetFull : Bool := false
  urgent : Bool := false
  /-- time of the last drain completion, or since live entries exist; and whether DRAIN_STALL was logged since -/
  lastDone : Nat := 0
  stalled : Bool := false
  pressure : Bool := false
  /-- start of the hold timer (R121) -/
  holdSince : Option Nat := none
  deriving DecidableEq, Repr

/-! ### TWN -/

/-- A frame the block sends, kept in the retry store of its lane (R139). -/
structure OutFrame where
  frame : Frame
  /-- Waypoint sequences of the writes it carries, and its Reach -/
  seqs : List Nat := []
  reach : Option Nat := none
  /-- set when an OWN FENCE dropped its writes (R138) -/
  dropped : Bool := false
  /-- a CTRL message: the unit instance's engine (R153) -/
  engine : Option EngineNo := none
  sentAt : Nat := 0
  deriving DecidableEq, Repr

/-- One entry of the mirror-out queue: a ciphertext line or a Resync or Refill line (R12, R149, R152), or a
forwarded write (R129). -/
inductive MirrorItem where
  | line (l : Nat) (data : Line) (pois : Bool) (epoch : Word) (seq : Option Nat) (resync refill : Bool) (fetch : Nat)
  | fwd (ftag : BitVec 12) (line : Nat) (pois : Bool) (op : BitVec 4) (mask : BitVec 64) (data : Line) (epoch : Word)
  deriving DecidableEq, Repr

/-- One lane of one direction pair (R131, R137, R139). -/
structure Lane where
  nextSeq : Word := 0
  wrap : Word := 0
  retry : List OutFrame := []
  goBacks : Nat := 0
  /-- time the oldest unacknowledged frame was last (re)sent, and that of the last BUSY BEAT -/
  oldestAt : Nat := 0
  busyAt : Nat := 0
  /-- receive side -/
  expect : Word := 0
  rxWrap : Word := 0
  /-- a NAK is due, and the time of the last NAK for the gap that is open (R137) -/
  nakDue : Bool := false
  nakAt : Option Nat := none
  /-- a frame that waits for dirty budget or epoch, since when, how many of its lines are applied -/
  waiting : Option (Frame × Nat × Nat) := none
  /-- BUSY bit reported -/
  busy : Bool := false
  deriving DecidableEq, Repr

/-- One outstanding forward (R129): the requester and the line. -/
structure Forward where
  ftag : BitVec 12
  who : Requester
  /-- the tag of a host request, the store entry of an engine -/
  tag : Nat
  line : Nat
  asked : Asked := {}
  deriving DecidableEq, Repr

/-- A write performed for the twin whose FWD_ACK waits for the mirror frame that carries it back (R130). -/
structure FwdHere where
  ftag : BitVec 12
  line : Nat
  seq : Nat
  deriving DecidableEq, Repr

/-- The twin's last HELLO (R135). -/
structure PeerHello where
  node : DWord
  reaches : Nat
  image : DWord
  peerImage : DWord
  t0Top : DWord
  auth : Bool
  anchor : Bool
  stale : Bool
  deriving DecidableEq, Repr

/-- A handover in progress (R144): the Reach, whether HANDOVER was sent. -/
structure Handover where
  reach : Nat
  epoch : Word
  /-- sequences of the MIRROR frames of the Reach queued before step 1 -/
  sent : Bool := false
  deriving DecidableEq, Repr

/-- A leaf that is read for the twin, by a Resync or for a FETCH of an identity (R149, R150, R152): its lines so far, none
for one sent with POIS. -/
structure LeafRead where
  leaf : Nat
  /-- tells a read of the leaf from an earlier one that a link-down gave up -/
  no : Nat
  resync : Bool
  fetch : Nat := 0
  lines : List (Nat × Option Line) := []
  deriving DecidableEq, Repr

/-- A Resync being sent (R149): the Reach of the copy set in progress, the leaf reached in it, the Reaches copied, the walk
position, and whether the walk has reached W. -/
structure Resync where
  full : Bool
  reaches : List Nat
  done : List Nat := []
  leaf : Nat := 0
  walk : Nat := 0
  walked : Bool := false
  deriving DecidableEq, Repr

/-- TWN: link state 0 DOWN, 1 HELLO, 2 UP (R160). -/
structure Twn where
  link : BitVec 2 := 0
  cause : BitVec 4 := 0
  lanes : List Lane := [{}, {}, {}]
  /-- mirror-out queue, oldest first (R21: 4096 frames) -/
  out : List MirrorItem := []
  /-- control frames formed and not yet sent -/
  ctrlOut : List OutFrame := []
  /-- the frames the block put on the link last, at most 64 -/
  sent : List Frame := []
  forwards : List Forward := []
  fwdHere : List FwdHere := []
  hello : Option PeerHello := none
  helloAcked : Bool := false
  helloSeq : Option Word := none
  lastHello : Nat := 0
  tableOut : Bool := false
  tableIn : Nat := 0
  lastControl : Nat := 0
  lastBeat : Nat := 0
  beatDue : Bool := false
  authFail : Word := 0
  authTimes : List Nat := []
  retryCount : Word := 0
  /-- TWN_LCFG, LSEL and STALE_RD in force since the last bring-up (R157, R158) -/
  lcfg : Word := 0x0D0A00C8
  lsel : Nat := 0
  staleRd : Bool := false
  image : DWord := 0
  peerImage : DWord := 0
  stale : Bool := false
  fullReq : Bool := false
  peerWpv : Nat := 0
  peerWpl : Nat := 0
  handover : List Handover := []
  grantRes : Word := 0
  grantPend : Option (Nat × Nat × Word) := none
  resync : Option Resync := none
  /-- the twin's SYNC_DONE: the last RESYNC sequence of each lane, until both are accepted (R151) -/
  syncIn : Option (Word × Word) := none
  /-- shipped writes not yet acknowledged: Waypoint sequence, lowest first -/
  shipped : List Nat := []
  /-- each of them with the Log index of the entry it is attached to, and its Reach (R115, R148) -/
  shippedIdx : List (Nat × Nat × Nat) := []
  /-- the leaves being read for the twin -/
  reading : List LeafRead := []
  nextRead : Nat := 0
  /-- a RESYNC frame has come and no SYNC_DONE since (R154) -/
  resyncSeen : Bool := false
  /-- last RESYNC frame sequence sent on each data lane; where a lane had none, the sequence before the Resync's first -/
  lastResync : Word × Word := (0, 0)
  /-- FETCH requests sent: id and leaf; next id -/
  fetches : List (Nat × Nat) := []
  nextFetch : Nat := 0
  /-- one SPLIT_BRAIN was logged in this bring-up (R143) -/
  splitBrain : Bool := false
  /-- entries firmware wrote while the link is UP, to be sent as OWN TABLE (R143) -/
  pendTable : List Nat := []
  deriving DecidableEq, Repr

/-! ### VLT -/

/-- VLT phases (R185). -/
inductive Phase where
  | idle | quiesce | drain | metaOut | saved | metaIn | refill | waitInit
  deriving DecidableEq, Repr

/-- A leaf of the demand queue, or a refill in flight (R175). -/
structure Demand where
  leaf : Nat
  inFlight : Bool := false
  /-- 0 zeros, 1 vault, 2 twin -/
  source : Nat := 0
  fetched : Bool := false
  demand : Bool := true
  /-- the vault unit as it arrived: whether its READ was OK, its data and sideband -/
  arrived : Option (Bool × List Byte × BitVec 256) := none
  /-- lines of the leaf that arrived in REFILL frames (R152) -/
  lines : List Nat := []
  since : Nat := 0
  deriving DecidableEq, Repr

/-- Steps of Save and Restore that VLT carries out on the deep port (R168, R172–R174): the reads of the superblocks, of the
metadata up to the leaf map, and of the Log and segment units; the units, first flush, superblock and second flush of Save;
the units and flush of an INIT; the RUNNING superblock and its flush; a leaf-map unit of an eager walk. -/
inductive VltStep where
  | superRead | metaRead | logRead | saveUnits | saveFlush | saveSuper | saveLast
  | initUnits | initFlush | runSuper | runFlush | eagerRead
  deriving DecidableEq, Repr

/-- A step in progress: its number, the ranges of units not yet handed to the deep port, the commands handed over and not
complete, reason and unit of the first failure (R517), and the units read. -/
structure VltJob where
  step : VltStep
  no : Nat
  todo : List (Nat × Nat) := []
  out : Nat := 0
  failed : Option (Nat × Nat) := none
  got : List (Nat × List Byte) := []
  deriving DecidableEq, Repr

/-- VLT (R162–R181). -/
structure Vlt where
  phase : Phase := .idle
  /-- STATE of the superblock in use, its slot and GEN -/
  sbState : BitVec 2 := 0
  slot : Bool := false
  gen : DWord := 0
  lazyRun : Bool := false
  eager : Bool := false
  lastSave : Word := 0
  failed : Word := 0
  /-- leaves failed in this Save -/
  failedNow : Nat := 0
  saveStart : Nat := 0
  /-- leaf-map codes that are not ZERO (R165) -/
  leafMap : List (Nat × Nat) := []
  /-- dirty metadata units, those of them whose write-behind is on its way, and those whose change waits until fewer than
  4096 are dirty (R165) -/
  dirty : List Nat := []
  writing : List Nat := []
  waits : List Nat := []
  /-- the step of Save or Restore VLT is at, and the number of the last one (R168, R172) -/
  job : Option VltJob := none
  jobNo : Nat := 0
  /-- a metadata write-behind failed in Save after its retries (R170) -/
  broken : Bool := false
  /-- the leaf-map unit an eager walk has read (R174) -/
  eagerUnit : Option Nat := none
  demands : List Demand := []
  /-- refill times by source, the last 64 of each (R177) -/
  refillTimes : List (Nat × Nat) := []
  /-- the newer valid superblock of the medium, its slot and GEN, where Restore found one (R164, R172) -/
  onMedium : Option (Bool × DWord) := none
  /-- the 80 bytes of the superblock VLT wrote last (R164) -/
  superOut : List Byte := []
  /-- the RUNNING superblock of R173 step 4 is durable -/
  running : Bool := false
  /-- first free position of an eager walk -/
  walk : Nat := 0
  /-- the image starts empty: the Log ring and the segment table are still to be zero-filled -/
  zeroFill : Bool := false
  chosenRunning : Bool := false
  deriving DecidableEq, Repr

/-! ### Channel schedulers, refresh, Sighting -/

/-- The DDR5 commands the block issues (R198), DES apart. -/
inductive DOp where
  | act | rd | rda | wr | wra | prePb | preSb | preAb | refAb | refSb | rfmAb | rfmSb | mrw | mrr | mpc | sre | srx
  deriving DecidableEq, Repr

/-- Why a command was chosen: it decides what its launch does (R194, R197, R215, R218, R220). -/
inductive Why where
  | demand | conflict | pageClose | refresh | rfm | targeted (first : Bool) | replay
  deriving DecidableEq, Repr

/-- Reasons of a hold item (R204). -/
inductive HoldReason where
  | refresh | turn | timing | pause | empty
  deriving DecidableEq, Repr

/-- One item of the scheduler (R194, R199); `entry` names the queue entry it serves. -/
inductive Item where
  | cmd (op : DOp) (loc : Loc) (entry : Option Nat) (why : Why)
  | hold (r : HoldReason)
  deriving DecidableEq, Repr

/-- One read-queue entry (R187). -/
structure REntry where
  id : Nat
  loc : Loc
  line : Nat
  dest : ReadDest
  who : Requester
  level : Level
  stamp : Nat
  /-- handed to the edge -/
  issuing : Bool := false
  /-- reserved traffic of R188 -/
  reserved : Bool := false
  deriving DecidableEq, Repr

/-- Even parity of the address of a line, as its queue's address array keeps it (R21). -/
def addrParity (line : Nat) : Bool := (List.range 40).foldl (fun b i => b != line.testBit i) false

/-- One write-queue entry (R187, R189): ciphertext line and POIS. -/
structure WEntry where
  id : Nat
  loc : Loc
  line : Nat
  data : Line
  pois : Bool
  who : Requester
  level : Level
  stamp : Nat
  issuing : Bool := false
  reserved : Bool := false
  /-- the write of a copied line, which R280 lets demand give way to -/
  copy : Bool := false
  /-- the parity kept with its address (R21, R276) -/
  par : Bool := addrParity line
  deriving DecidableEq, Repr

/-- One command on the pins (R200, R238): slot and command. -/
structure Launched where
  slot : Nat
  op : DOp
  loc : Loc
  /-- the DDR5 column address sent with a column command: the line index times 16 (R39) -/
  ca : Nat := 0
  deriving DecidableEq, Repr

/-- A read burst on its way back (R199, R268). -/
structure Burst where
  entry : REntry
  slot : Nat
  /-- the stored line as the burst carries it, and whether it is stored as poisoned -/
  line : Line
  pois : Bool
  /-- its data is to be discarded: the read is executed again (R21, R204) -/
  discard : Bool := false
  /-- CA slots of its RD that have no class yet: useful when its data is delivered, wasted when it is discarded (R204) -/
  slots : Nat := 0
  deriving DecidableEq, Repr

/-- One bank of a chip select (R196, R197): the open row, the score, the row page_close last closed, how the last
PRE came about and the slot of the last column command. -/
structure Bank where
  key : Nat
  openRow : Option Nat := none
  score : Nat := 2
  lastClosed : Option Nat := none
  /-- that close was the precharge of RDA or WRA (R197) -/
  auto : Bool := false
  conflict : Bool := false
  lastCol : Nat := 0
  /-- the last ACT opened again the row page_close had closed (R204) -/
  reopen : Bool := false
  deriving DecidableEq, Repr

/-- The two modes of a subchannel (R195). -/
inductive RW where
  | rd | wr
  deriving DecidableEq, Repr

/-- One subchannel of a channel scheduler. -/
structure SubState where
  rq : List REntry := []
  wq : List WEntry := []
  nextId : Nat := 0
  mode : RW := .rd
  batch : Nat := 0
  idle : Nat := 0
  /-- a Sighting pause is in force (R223) -/
  pause : Bool := false
  /-- the Sounding read that background_cmd offers: not due, and in no queue (R222, R280) -/
  offer : Option REntry := none
  /-- its ranks refresh themselves: between SRE and SRX (R171, R251) -/
  selfRef : Bool := false
  /-- write entries whose poisoned write has yet to launch: a pause runs while there is one (R276) -/
  poisonLeft : List Nat := []
  /-- after a CA parity error: chip selects still to precharge; the pause runs while there is one or a command is still
  to be issued again (R238) -/
  parityPre : List Nat := []
  /-- the slot register: at most two items with the slot at which each arrived, oldest first (R199) -/
  slotReg : List (Nat × Item) := []
  /-- CK slot count published by the edge (R200) -/
  slot : Nat := 0
  hist : List Launched := []
  /-- replay record of 32 column commands (R238) -/
  replay : List Launched := []
  replayPend : List Launched := []
  banks : List Bank := []
  bursts : List Burst := []
  /-- CK slots at which the data bus carries a kept burst (R204): first slots -/
  busy : List Nat := []
  /-- CA slots of the last ACT of each bank that are not classed yet: CMD at its first column command, wasted when its
  row closes without one (R204) -/
  actSlots : List (Nat × Nat) := []
  /-- class of the cycles of the last command launched: 1 wasted, 2 CMD, 3 an ACT and 4 a RD not classed yet -/
  lastClass : Nat := 2
  lastParity : Option Nat := none
  deriving DecidableEq, Repr

/-- Pointers, notices and idle times of one protected queue (R18–R20). -/
structure QGuard where
  head : Nat := 0
  tail : Nat := 0
  headGray : Nat := 0
  tailGray : Nat := 0
  /-- the count of the last notice the producer sent and of the last one the consumer saw (R19) -/
  notice : Nat := 0
  seen : Nat := 0
  /-- the packets that are in the queue, oldest first: header and notice -/
  notices : List (Nat × Byte) := []
  /-- the notice of the last idle item (R20) -/
  idle : Byte := 0
  lastSeen : Nat := 0
  /-- an enqueue or dequeue found the copies of a pointer different -/
  bad : Bool := false
  deriving DecidableEq, Repr

/-- One tracker entry (R219). -/
structure Track where
  row : Nat
  count : Nat
  deriving DecidableEq, Repr

/-- A queued targeted refresh (R220): its bank and aggressor row, the ACTs counted
since, when it became due and the victim ACTs still to make. -/
structure Targeted where
  loc : Loc
  slack : Nat
  acts : Nat := 0
  due : Bool := false
  rows : List Nat
  /-- the first of them is open -/
  opened : Bool := false
  rfmLeft : Bool
  deriving DecidableEq, Repr

/-- RPM's accounts of one subchannel (R213–R220): debt of each chip select, refresh-set position, per bank RAA and
tracker, queued targeted refreshes. -/
structure RpmSub where
  debt : List (Nat × Int) := []
  setPos : List (Nat × Nat) := []
  /-- time of the last tREFI tick of each chip select -/
  ticked : List (Nat × Nat) := []
  /-- POSTPONE and PULLIN as the last tick of each chip select found them (R227) -/
  limits : List (Nat × Int × Int) := []
  raa : List (Nat × Nat) := []
  track : List (Nat × List Track) := []
  targeted : List Targeted := []
  /-- chip selects that a tick found with their RPM_CSEN bit clear: no accounting, no RFM (R221) -/
  off : List Nat := []
  /-- tREFI of each chip select since its last tick (R216) -/
  refiAt : List (Nat × Nat) := []
  pauseAsked : Bool := false
  deriving DecidableEq, Repr

/-- The temperature state of one channel (R216). -/
structure Thermal where
  latest : Byte := 0
  max : Byte := 0
  hot : Bool := false
  overCrit : Bool := false
  bad : Nat := 0
  good : Nat := 0
  byFail : Bool := false
  /-- time of the last poll -/
  polled : Nat := 0
  deriving DecidableEq, Repr

/-- What SGT sets in an RCD or MRCD (R237): the RATE code of its speed band, host CA parity, drive strength, QCA timing,
loopback, and on MRDIMM the multiplexing of the pseudo-channels. -/
structure Rcd where
  band : Nat
  parity : Bool := true
  strong : Bool
  qca1N : Bool := true
  loopback : Bool := false
  muxed : Bool := false
  deriving DecidableEq, Repr

/-- The DRAM mode registers SGT writes (R245), as far as the spec gives their content. -/
structure ModeRegs where
  /-- MR0: BL16 and CL -/
  bl16 : Bool := true
  cl : Nat
  /-- MR2: 1N mode, training modes off -/
  oneN : Bool := true
  /-- MR4: the refresh tRFC mode is FGR -/
  fgr : Bool
  /-- MR6 -/
  twr : Nat
  trtp : Nat
  /-- MR8: preambles in CK, postambles in half CK -/
  rdPre : Nat := 2
  wrPre : Nat := 2
  post : Nat := 1
  /-- MR10, MR11 -/
  vrefDq : Nat
  vrefCa : Nat
  /-- MR13 -/
  tccdL : Nat
  /-- MR35 to MR32 -/
  odt : Word
  /-- MR45 in CK -/
  oscRun : Nat := 1024
  /-- MR50: write CRC on -/
  writeCrc : Bool := false
  /-- MR59 -/
  arfm : Nat
  deriving DecidableEq, Repr

/-- SGT phases (R254). -/
inductive SgtPhase where
  | idle | discover | train | track | outage
  deriving DecidableEq, Repr

/-- A re-sight wanted or running (R248): kinds asked, whether it is due, since when, the chunk reached and whether
the chunk failed once. -/
structure Resight where
  sub : Sub
  cs : Nat
  rdTrack : Bool
  wrTrack : Bool
  due : Bool
  since : Nat
  chunk : Nat := 0
  failed : Bool := false
  /-- the Pilot engine that asked through the Sighting sequencer unit -/
  engine : Option EngineNo := none
  /-- it belongs to a channel re-sight (R251) -/
  whole : Bool := false
  /-- SGT_PCFG.DEFER_MS as it stood when it was asked for (R256) -/
  defer : Nat := 1
  deriving DecidableEq, Repr

/-- SGT (R231–R251). -/
structure Sgt where
  phase : SgtPhase := .idle
  step : BitVec 4 := 0
  pop : Word := 0
  discovered : Bool := false
  timeUs : Word := 0
  started : Nat := 0
  /-- failing step of each chip select, 0 passed, 15 not present, keyed 8 × channel + 4 × subchannel + chip select -/
  rsts : List (Nat × Nat) := []
  /-- steps each scope has passed, keyed by channel, DIMM or rank; retries used -/
  stepsDone : List (Nat × Nat) := []
  retries : List (Nat × Nat) := []
  fallbacks : Nat := 0
  resights : List Resight := []
  /-- last re-sight of each rank, and the temperature then -/
  lastResight : List (Nat × Nat × Byte) := []
  /-- channel re-sights in their outage (R251) -/
  outages : List Nat := []
  sbBusy : Bool := false
  sbResult : BitVec 3 := 0
  /-- sPPR records: remap keys repaired in service (R283) -/
  sppr : List Loc := []
  /-- PHY result registers, by offset (R261–R263) -/
  phy : List (Nat × Word) := []
  /-- PHY_DQS registers as last trained, by offset (R246) -/
  trained : List (Nat × Word) := []
  /-- what the SPD hubs last answered (R233) -/
  hubs : List SpdModule := []
  /-- the hubs have answered -/
  asked : Bool := false
  /-- channels whose DDR5 RESET_n stands at 1: CLOCK releases it, the block's reset drives it low (R240, R507) -/
  resetHigh : List Nat := []
  /-- control words of the RCD or MRCD of each DIMM, keyed 2 × channel + slot (R237) -/
  rcd : List (Nat × Rcd) := []
  /-- time at which read tracking last moved each PHY_DQS register (R246) -/
  trackedAt : List (Nat × Nat) := []
  /-- DRAM mode registers, keyed 8 × channel + 4 × subchannel + chip select (R245) -/
  modeRegs : List (Nat × ModeRegs) := []
  /-- channels whose sideband bus has made its first transaction and runs in I3C with packet error checking (R234) -/
  i3c : List Nat := []
  /-- the transaction in progress: its word, and when it began; it comes after a temperature poll that was ready with it (R234, R235) -/
  sbCmd : Word := 0
  sbSince : Nat := 0
  sbAfterPoll : Bool := false
  /-- time of the last sample pause of each subchannel (R247) -/
  sampled : List (Nat × Nat) := []
  /-- host-side results of the channels in an outage as they stood before it (R251) -/
  before : List (Nat × Word) := []
  deriving DecidableEq, Repr

/-! ### ECC, SND, BWR -/

/-- A leaf being healed (R277): its lines in the heal table, the WPL awaited, since when, whether FETCH was sent. -/
structure Heal where
  leaf : Nat
  lines : List Nat
  wpl : Nat
  since : Nat
  fetched : Bool := false
  deriving DecidableEq, Repr

/-- A row that moves, by its key: to a pool slot, or back from it after hPPR (R282, R283). Requests to its lines are held. -/
structure RowMove where
  row : Loc
  slot : Nat
  back : Bool := false
  /-- the address that made the row failing -/
  addr : Nat := 0
  byCmd : Bool := false
  /-- its Tier 0 lines that are still to be read -/
  todo : List Nat
  deriving DecidableEq, Repr

/-- A line on its way to another place in DRAM (R282, R284): `got` is what its read brought. -/
structure LineCopy where
  line : Nat
  dst : Loc
  got : Option (Line × Bool) := none
  deriving DecidableEq, Repr

/-- ECC and SND (R265–R294). -/
structure Ecc where
  /-- position counters: keyed 40 × subchannel + 10 × chip select + position -/
  posCount : List (Nat × Nat) := []
  /-- corrected lines of each row in this pass -/
  rowCe : List (Loc × Nat) := []
  marks : List (Nat × Nat) := []
  failing : List (Nat × Nat) := []
  remaps : List Remap := []
  retired : List Nat := []
  /-- rows remapped so far, per bank key -/
  bankRows : List (Nat × Nat) := []
  bindings : List Binding := []
  migrations : List Migration := []
  rankFail : List (Nat × Nat) := []
  /-- rows that move, in the order they began, and the lines that are being copied -/
  moves : List RowMove := []
  copies : List LineCopy := []
  /-- per channel, the lines at the pointer of its migration while they are copied and so merge-locked (R284) -/
  copying : List (Nat × List Nat) := []
  /-- time of the last copy of a migration on each channel (R284) -/
  copiedAt : List (Nat × Nat) := []
  heals : List Heal := []
  cmdRes : BitVec 4 := 0
  cmdBusy : Bool := false
  ceCnt : Word := 0
  ueCnt : Word := 0
  /-- engine numbers served by PE32 and PE33 (R286), and whether each spare itself is failed -/
  peSpare : List (Nat × Nat) := []
  pass : Word := 0
  passStart : Nat := 0
  /-- walk position of each subchannel in its pass, negative while it is still in the one before (R278); SND_CFG as it
  stood at the start of the pass (R293) -/
  sndPos : List (Nat × Int) := []
  sndCfg : Word := 0x80040018
  /-- the line of the Sounding probe that is queued (R385) -/
  probe : Option Nat := none
  sndDue : List Nat := []
  deriving DecidableEq, Repr

/-- The active set of BWR (R304). -/
structure BwrSet where
  win : Nat := 4
  eff : Nat := 0xD0
  drain : Nat := 0
  mirin : Nat := 0
  min : List Nat := List.replicate 16 0
  deriving DecidableEq, Repr

/-- Whose request BWR holds at its source, apart from the requests of the ports and the memory ports (R295, R298). -/
inductive Holder where
  /-- the lines of a unit's instance -/
  | unit (inst : Nat)
  /-- the reads of a service -/
  | svc (e : Nat)
  /-- the completions and the descriptors of a ring -/
  | compl (q : Nat)
  | desc (q : Nat)
  | fill (seg sub : Nat)
  | refill (leaf : Nat)
  | resync (leaf : Nat)
  | fetch (leaf : Nat)
  deriving DecidableEq, Repr

/-- BWR (R295–R306). -/
structure Bwr where
  act : BwrSet := {}
  pend : Option BwrSet := none
  chart : List Byte := List.replicate 64 0
  chartPend : Bool := false
  credit : List Nat := List.replicate 16 0
  pool : Nat := 0
  /-- time of the last window boundary, and the slot of the window in progress (R297) -/
  start : Nat := 0
  slot : Nat := 0
  need : Nat := 0
  have_ : Nat := 0
  hRun : Nat := 0
  scale : Nat := 1024
  causes : BitVec 4 := 0
  lastLogged : Nat := 1024
  scaled : List Nat := List.replicate 16 0
  /-- requests held at a source, with the class each was given (R295) -/
  kept : List (Holder × Nat) := []
  heldThis : Bool := false
  heldPrev : Bool := false
  /-- vault writes completed in the last ms: times -/
  vaultTimes : List Nat := []
  deriving DecidableEq, Repr

/-! ### The deep tier and the deep port -/

/-- A staging slot of the slot table (R315). -/
structure Slot where
  seg : Nat
  present : List Nat := []
  inflight : List Nat := []
  readers : Nat := 0
  ref : Bool := false
  deriving DecidableEq, Repr

/-- Levels of a fill (R320) and its state: queued, reading from target 0 or re-fetched from target 1. -/
structure Fill where
  seg : Nat
  sub : Nat
  level : Nat
  /-- Course that wants it -/
  course : Option Nat := none
  started : Option Nat := none
  /-- its read asks target 1 (R321) -/
  refetch : Bool := false
  /-- unit data and sideband as delivered, with the completion's verdict -/
  arrived : Option (Bool × List Byte × BitVec 256) := none
  /-- its 64 lines are handed to CHS: the sub-block becomes visible once all of them are written (R97) -/
  staged : Bool := false
  /-- the data is to be discarded: its segment left SEALED (R322, R334) -/
  discard : Bool := false
  deriving DecidableEq, Repr

/-- A descriptor taken from a ring (R418): the ring, its slot, its 64 bytes; from its dispatch on, its completion ring,
and WPL and the time at dispatch (R414, R421). -/
structure Desc where
  sq : Fin 64
  slot : Nat
  bytes : List Byte
  cq : Nat := 0
  wpl : Nat := 0
  at_ : Nat := 0
  deriving DecidableEq, Repr

/-- A Course (R323): its descriptor, its list as read, and its position. -/
structure Course where
  no : Nat
  d : Desc
  list : List Nat
  ahead : Nat
  cfill : Nat
  /-- consumer: an engine, or a port with a label -/
  byPort : Bool
  port : Nat
  who : Nat
  pos : Nat := 0
  wait : Bool := false
  deriving DecidableEq, Repr

/-- Who issued a deep port command (R332). -/
inductive DpOwner where
  | fill (seg sub : Nat) (gen : Word)
  | repair
  | drain (idx : Nat)
  | vaultMeta (unit : Nat)
  | seal (seg : Nat) (gen : Word)
  | sealFlush (seg : Nat) (gen : Word)
  | slot (inst no : Nat)
  | refill (leaf : Nat)
  | vault (no unit : Nat)
  deriving DecidableEq, Repr

/-- One deep port command (R330): operation 0 READ, 1 WRITE, 2 FLUSH. -/
structure DpCmd where
  op : BitVec 2
  tgt : Bool
  unit : BitVec 48
  sb : BitVec 256 := 0
  data : List Byte := []
  owner : DpOwner
  /-- level of R332 in its stream -/
  level : Nat
  tries : Nat := 0
  /-- order of its arrival among the commands -/
  no : Nat := 0
  deriving DecidableEq, Repr

/-- An outstanding command identity (R331): the command, when it was issued and the beats received. -/
structure DpOut where
  id : BitVec 12
  cmd : DpCmd
  since : Nat
  beats : List Line := []
  deriving DecidableEq, Repr

/-- A seal in progress (R327). -/
structure Seal where
  seg : Nat
  /-- the Mover channel and the deep-port slot that serve it -/
  chan : Nat
  dport : Nat
  writesLeft : Nat
  /-- FLUSHes not yet complete; 3 until they are issued -/
  flushLeft : Nat := 3
  deriving DecidableEq, Repr

/-- A STAGE descriptor being served (R421): the sub-blocks not yet settled, how many it staged, and whether one lies in
a LOST segment. -/
structure StageWork where
  d : Desc
  left : List (Nat × Nat)
  staged : Nat
  lost : Bool
  deriving DecidableEq, Repr

/-- DTI (R312–R333). -/
structure Dti where
  /-- segment table entries that are not VOID zero entries: 32 bytes each (R313) -/
  segt : List (Nat × List Byte) := []
  slots : List (Nat × Slot) := []
  hand : Nat := 0
  fills : List Fill := []
  courses : List Course := []
  seals : List Seal := []
  wstream : List DpCmd := []
  rstream : List DpCmd := []
  lastWrite : Bool := false
  nextCmd : Nat := 0
  out : List DpOut := []
  quarantine : List (BitVec 12) := []
  down : Bool := false
  times : List Nat := []
  refetch : Word := 0
  lost : Word := 0
  repairFail : Nat := 0
  pubRes : Bool := false
  stages : List StageWork := []
  /-- sub-blocks of hints that wait for room in the fill queue (R318) -/
  hints : List (Nat × Nat) := []
  deriving DecidableEq, Repr

/-! ### CPH -/

/-- A key slot (R341, R362). -/
structure KeySlot where
  key : BitVec 512 := 0
  loaded : Bool := false
  wide : Bool := false
  fresh : Bool := false
  spent : Bool := false
  deriving DecidableEq, Repr

/-- States of a core (R339, R356, R357). -/
inductive CoreState where
  | active | spare | failed
  deriving DecidableEq, Repr

/-- A job of the key port unit in scheduler class SEAL (R386). -/
structure KeyJob where
  engine : EngineNo
  op : BitVec 2
  slot : Fin 64
  aborted : Bool := false
  /-- the key it began with (R358) -/
  key : BitVec 512
  iv : Nat
  aad : Nat
  aadLen : Nat
  src : Nat
  dst : Nat
  len : Nat
  tag : Nat
  /-- its output has been handed over; its code -/
  handed : Bool := false
  code : Nat := 0
  deriving DecidableEq, Repr

/-- What a context slot of CPH holds (R354): a job with its key slot and IV, its next counter block, both GHASH
accumulators, the bytes of additional data and of data it has taken, its position in 16-byte blocks, and its output. -/
structure JobCtx where
  job : KeyJob
  counter : Nat
  ghash : Nat := 0
  ghash2 : Nat := 0
  aadBytes : Nat := 0
  dataBytes : Nat := 0
  pos : Nat := 0
  out : List Byte := []
  deriving DecidableEq, Repr

/-- CPH (R339–R357). -/
structure Cph where
  slots : List (Nat × KeySlot) := []
  cores : List CoreState := List.replicate 36 .active ++ [.spare, .spare]
  faults : Word := 0
  authFail : Word := 0
  /-- the jobs that run, oldest first -/
  jobs : List KeyJob := []
  /-- the context slots in use: the suspended jobs, oldest first (R354) -/
  contexts : List JobCtx := []
  lastKat : Nat := 0
  /-- last mismatch of each tweak unit (R340) -/
  tweak : List (Nat × Nat) := []
  /-- the faults of each core, by the time of each (R356) -/
  coreTimes : List (Nat × List Nat) := []
  /-- the last response on the key port: slot and code (R345) -/
  answer : Option (Fin 64 × BitVec 3) := none
  deriving DecidableEq, Repr

/-! ### Pilot engines and SUA -/

/-- Engine states (R368). -/
inductive EState where
  | empty | loading | loaded | running | stopping | stopped | halted | rejected | failed
  deriving DecidableEq, Repr

/-- The 4-bit code of an engine state (R368). -/
def EState.bits : EState → BitVec 4
  | .empty => 0 | .loading => 1 | .loaded => 2 | .running => 3 | .stopping => 4
  | .stopped => 5 | .halted => 6 | .rejected => 7 | .failed => 8

/-- One store-buffer entry (R80). -/
structure SbEntry where
  id : Nat
  line : Nat
  mask : BitVec 64
  data : Line
  opened : Nat
  issued : Bool := false
  /-- it is to begin to issue, and takes no further merge (R80) -/
  closed : Bool := false
  /-- performed: it waits only for its response -/
  code : Option Code := none
  /-- its request, once it has issued -/
  asked : Asked := {}
  deriving DecidableEq, Repr

/-- What an access in flight at the memory port is, and what it writes when its data arrives (R403–R405). -/
inductive LoadKind where
  | gpr (rd : BitVec 5) (size : Nat) (signed : Bool)
  | pair (rd : BitVec 5)
  | vec (vd : BitVec 4)
  | resv (rd : BitVec 5)
  | atom (op : AtomOp) (rd : BitVec 5) (data : Line)
  | cond (rd : BitVec 5) (data : DWord)
  deriving DecidableEq, Repr

/-- An access outstanding at the memory port. -/
structure Load where
  seq : Nat
  kind : LoadKind
  addr : DWord
  /-- pieces still awaited, those of them asked for, and the lines of those that arrived, by the address of the piece (R98);
  poison and error answers -/
  want : List Nat
  sent : List Nat := []
  got : List (Nat × Line) := []
  bad : Option Code := none
  /-- its requests, by the address of the piece -/
  asked : List (Nat × Asked) := []
  pc : BitVec 16
  /-- an earlier access has faulted: it completes without effect (R409, R410) -/
  dropped : Bool := false
  deriving DecidableEq, Repr

/-- What an engine that does not advance waits for (R373); a fence with its start and, in ns, the Lookout's
limit then in force (R486, R492). -/
inductive PWait where
  | none
  | load
  | fence (kind : Nat) (level : Nat) (rd : BitVec 5) (since : Nat) (lim : Nat)
  | descriptor
  | message
  | cond
  deriving DecidableEq, Repr

/-- How far a built-in service has come with the descriptor in progress (R421, R424): its phase, the status and result
it will post. -/
structure SvcRun where
  phase : Nat
  status : BitVec 16 := 0
  result : DWord := 0
  /-- bytes written so far, and lines of them written poisoned -/
  done : Nat := 0
  pois : Nat := 0
  /-- lines read so far -/
  got : List Line := []
  deriving DecidableEq, Repr

/-- One engine number (R364–R372, R394–R409). -/
structure Engine where
  phys : Nat := 0
  state : EState := .empty
  /-- image stream so far (R366) -/
  image : List Byte := []
  digest : List Word := List.replicate 8 0
  imem : List Host.Cell := []
  dmem : List Host.Cell := []
  entry : BitVec 16 := 0
  pc : BitVec 16 := 0
  g : List DWord := List.replicate 32 0
  v : List Line := List.replicate 16 0
  m : List DWord := List.replicate 8 0
  arith : DWord := 0
  msgDst : DWord := 0
  dmemCe : DWord := 0
  buffer : List SbEntry := []
  nextSb : Nat := 0
  loads : List Load := []
  nextLoad : Nat := 0
  wait : PWait := .none
  /-- DFENCE's failure record (R87) -/
  failCode : Code := .ok
  fails : Nat := 0
  failLine : DWord := 0
  exc : Word := 0
  /-- cause to set when the engine has drained (R409) -/
  pendExc : Option (BitVec 8) := none
  inbox : List Desc := []
  desc : Option Desc := none
  svc : Option SvcRun := none
  msgs : List (BitVec 6 × List Byte) := []
  msgLost : Word := 0
  /-- response of the conditional store in flight (R404) -/
  cond : Option Code := none
  /-- result of a PFENCE that has completed for the engine (R119) -/
  fenceRes : Option DWord := none
  /-- data and PRIO of arbiter requests: unit to PRIO kept (R381) -/
  prio : List (Nat × Nat) := []
  deriving DecidableEq, Repr

/-- Who asks SUA: an engine number or a subsystem (R374). -/
inductive Asker where
  | engine (e : EngineNo)
  | internal (i : Internal)
  deriving DecidableEq, Repr

/-- A waiting unit request (R375–R379). -/
structure Ask where
  who : Asker
  unit : Nat
  prio : Nat
  since : Nat
  due : Bool := false
  hint : BitVec 16 := 0
  deriving DecidableEq, Repr

/-- A granted instance (R374, R380). -/
structure Grant where
  inst : Nat
  who : Asker
  since : Nat
  longLogged : Bool := false
  deriving DecidableEq, Repr

/-- An operation of a Mover channel or of a deep-port slot as its GO found it (R382–R384): the instance, the engine, the
operation code, source, destination or buffer, lines or target, the FILL value; and how far it has come: lines handed
over, poisoned ones, whether all are, its code and the deep port status. -/
structure Move where
  inst : Nat
  engine : EngineNo
  op : Nat
  src : Nat
  dst : Nat
  len : Nat
  pat : DWord
  pos : Nat := 0
  pois : Nat := 0
  handed : Bool := false
  code : Code := .ok
  stat : Nat := 0
  /-- number of the deep port command of a slot -/
  cmd : Nat := 0
  deriving DecidableEq, Repr

/-- SUA (R374–R387): instance registers keyed 4096 × instance + offset. -/
structure Sua where
  asks : List Ask := []
  grants : List Grant := []
  counts : List (Nat × Nat) := []
  winUs : Nat := 100
  holds : List (Nat × Nat) := []
  unitRegs : List (Nat × DWord) := []
  /-- BUSY instances, the operations of the Mover and of the deep-port slots, and the first line an instance has handed over
  that was answered with an error, with its code -/
  busy : List Nat := []
  /-- instances that have failed, or have been removed with no spare (R85) -/
  failed : List Nat := []
  /-- lines that BWR has admitted for an instance and that it has not used yet, with the level of the last of them (R10) -/
  paid : List (Nat × Nat × Level) := []
  moves : List Move := []
  faults : List (Nat × Nat × Code) := []
  /-- deep-port slot commands that completed: instance, status, data and sideband -/
  arrived : List (Nat × Nat × List Byte × BitVec 256) := []
  deriving DecidableEq, Repr

/-! ### DRE -/

/-- A submission ring's own state (R412, R414). -/
structure SqState where
  head : Nat := 0
  fetched : List Desc := []
  nextFetch : Nat := 0
  fault : Bool := false
  /-- descriptors dispatched and not completed, by slot -/
  open_ : List Nat := []
  /-- how often the ring has been enabled: a fetch of an earlier time is discarded (R429) -/
  gen : Nat := 0
  deriving DecidableEq, Repr

/-- A completion not yet written (R416): its fields, the slot of its descriptor, and IRQ_NOW. -/
structure Compl where
  result : DWord
  tag : BitVec 16
  status : BitVec 16
  sq : Fin 64
  slot : Nat
  irqNow : Bool
  deriving DecidableEq, Repr

/-- A completion ring's own state (R415–R417). -/
structure CqState where
  tail : Nat := 0
  phase : Bool := true
  reserved : Nat := 0
  waiting : List Compl := []
  fault : Bool := false
  sinceMsg : Nat := 0
  oldest : Option Nat := none
  gen : Nat := 0
  deriving DecidableEq, Repr

/-- What an outstanding HMP request is for (R427, R428); a slot or ring carries the count of times its ring had been
enabled, times 65536. -/
inductive HmpUse where
  | fetch (q : Fin 64) (slot : Nat)
  | completion (q : Fin 64) (gen : Nat)
  | message (vec : Fin 64)
  deriving DecidableEq, Repr

/-- An outstanding HMP request (R426). -/
structure HmpOut where
  tag : Byte
  op : BitVec 2
  addr : DWord
  mask : BitVec 64
  data : Line
  use : HmpUse
  since : Nat
  deriving DecidableEq, Repr

/-- DRE (R411–R428). -/
structure Dre where
  sq : List (Nat × SqState) := []
  cq : List (Nat × CqState) := []
  /-- the ring whose turn is next -/
  turn : Nat := 0
  /-- vectors with a message held by MASK -/
  pending : List Nat := []
  hmp : List HmpOut := []
  /-- requests that wait for a tag -/
  hmpWait : List HmpOut := []
  hmpQuar : List Byte := []
  /-- DTI descriptors dispatched and not yet served -/
  dtiWork : List Desc := []
  /-- descriptors that came back from an inbox (R371) -/
  back : List Desc := []
  deriving DecidableEq, Repr

/-! ### Pins and test access -/

/-- The test access port (R512): the instruction register and the boundary cells. -/
inductive TapInstr where
  | bypass | idcode | samplePreload | extest | ijtag | scan
  deriving DecidableEq, Repr

/-- TAP, straps and pins the spec names outside the other units. -/
structure Pins where
  tap : TapInstr := .bypass
  cells : BitVec 2384 := 0
  edgeSync : BitVec 20 := 0
  /-- time of the last rising edge of PTP_SYNC (R507) -/
  ptpEdgeAt : Option Nat := none
  selftestDone : Bool := true
  /-- the shift register selected between TDI and TDO: what a scan of the instruction captures -/
  tapData : List Bool := []
  deriving DecidableEq, Repr


/-! ### The whole block -/

/-- An event of the command in progress for a *_STS register: its offset and bit (R454). -/
structure Evt where
  sts : Nat
  bit : Nat
  deriving DecidableEq, Repr

/-- An error log entry of the command in progress (R480, R481). -/
structure LogReq where
  code : BitVec 16
  addr : DWord
  src : BitVec 16
  info : DWord
  deriving DecidableEq, Repr

/-- The state of the block. -/
structure State where
  /-- commands that wait, first in first out: the model's own queue -/
  pending : List Instr
  /-- the Chronometer in ns (R474) -/
  chron : Nat
  /-- events and log entries of the command in progress: the model's own scratch, empty between commands -/
  evts : List Evt
  logq : List LogReq
  /-- a write has reached the test control behind a reserved RW bit (R458) -/
  testCtl : Bool
  /-- index of the next free value: the model's own -/
  freeCtr : Nat
  /-- words of the registers that hold a value other than their reset value, by offset (R468) -/
  regs : List (Nat × Word)
  sts : List (Nat × StsCell)
  cfg : Cfg
  tel : Tel
  ports : List (Nat × Port)
  guards : List (Queue × QGuard)
  atu : Atu
  map : MapState
  plg : Plg
  twn : Twn
  vlt : Vlt
  subs : List (Nat × SubState)
  rpm : List (Nat × RpmSub)
  thermal : List (Nat × Thermal)
  rpmTrig : Word
  rpmRfm : Word
  sgt : Sgt
  ecc : Ecc
  bwr : Bwr
  dti : Dti
  cph : Cph
  engines : List (Nat × Engine)
  sua : Sua
  dre : Dre
  pins : Pins
  /-- DRAM: ciphertext bytes by DRAM byte address, and the lines stored as poisoned (R11, R267) -/
  mem : List Host.Cell
  poison : List Nat
  deriving DecidableEq, Repr

/-- The block right after its reset (R440, R468, R474): every register at its reset value, DRAM with nothing listed,
no key in any slot, the reset input released. -/
def State.reset : State where
  pending := []
  chron := 0
  evts := []
  logq := []
  testCtl := false
  freeCtr := 0
  regs := []
  sts := []
  cfg := {}
  tel := {}
  ports := []
  guards := []
  atu := {}
  map := {}
  plg := {}
  twn := {}
  vlt := {}
  subs := []
  rpm := []
  thermal := []
  rpmTrig := 0
  rpmRfm := 0
  sgt := {}
  ecc := {}
  bwr := {}
  dti := {}
  cph := {}
  engines := []
  sua := {}
  dre := {}
  pins := {}
  mem := []
  poison := []

end Sys2Proof.Machine
end

