-- ==== Sys2Proof/Machine/Ops.lean ====
section
/-! DEFINITION. Named operations over the plain data of the state: sorted association lists, byte memories, and the
conversions between bytes, words and lines. -/

namespace Sys2Proof.Machine

/-! ### Sorted association lists -/

/-- The value a sorted list holds at a key. -/
def aget {α : Type} (l : List (Nat × α)) (k : Nat) : Option α :=
  match l with
  | [] => none
  | (j, v) :: r => if j = k then some v else aget r k

/-- The value at a key, or the value an unlisted key has. -/
def agetD {α : Type} (l : List (Nat × α)) (k : Nat) (d : α) : α := (aget l k).getD d

/-- The list with the value at a key, keys rising. -/
def aput {α : Type} (l : List (Nat × α)) (k : Nat) (v : α) : List (Nat × α) :=
  match l with
  | [] => [(k, v)]
  | (j, w) :: r => if k < j then (k, v) :: (j, w) :: r else if j = k then (k, v) :: r else (j, w) :: aput r k v

/-- The list without a key. -/
def adel {α : Type} (l : List (Nat × α)) (k : Nat) : List (Nat × α) :=
  match l with
  | [] => []
  | (j, w) :: r => if j = k then r else (j, w) :: adel r k

/-- The list with the value at a key, where an entry equal to `d`, what an unlisted key has, is not listed. -/
def aputD {α : Type} [DecidableEq α] (l : List (Nat × α)) (k : Nat) (v d : α) : List (Nat × α) :=
  if v = d then adel l k else aput l k v

/-- A member of a set of numbers kept rising. -/
def insertNat (l : List Nat) (k : Nat) : List Nat :=
  match l with
  | [] => [k]
  | j :: r => if k < j then k :: j :: r else if j = k then j :: r else j :: insertNat r k

/-- The list with the elements that satisfy `p` changed by `f`. -/
def mapIf {α : Type} (l : List α) (p : α → Bool) (f : α → α) : List α := l.map fun x => if p x then f x else x

/-- The list with its element at an index set. -/
def setAt {α : Type} (l : List α) (i : Nat) (v : α) : List α := l.set i v

/-- The list without its first element that satisfies `p`. -/
def dropFirst {α : Type} (l : List α) (p : α → Bool) : List α :=
  match l with
  | [] => []
  | x :: r => if p x then r else x :: dropFirst r p

/-- The numbers a ≤ k < a + n. -/
def natsFrom (a : Nat) (n : Nat) : List Nat := (List.range n).map (a + ·)

/-! ### Byte memories -/

/-- The byte of a memory at an address; a byte nothing has written reads as zero (DESIGN CHOICE). -/
def memByte (m : List Host.Cell) (a : Nat) : Byte := agetD m a 0

/-- The memory with one byte written, in its canonical form: addresses rising, no entry equal to zero. -/
def memSet (m : List Host.Cell) (a : Nat) (b : Byte) : List Host.Cell := aputD m a b 0

/-- n bytes from an address. -/
def memBytes (m : List Host.Cell) (a n : Nat) : List Byte := (List.range n).map fun i => memByte m (a + i)

/-- The memory with bytes written from an address. -/
def memPut (m : List Host.Cell) (a : Nat) (bs : List Byte) : List Host.Cell :=
  match bs with
  | [] => m
  | b :: r => memPut (memSet m a b) (a + 1) r

/-- The canonical form of a byte memory: addresses strictly rising, no entry equal to what an unlisted byte reads as. -/
def Memory.wf (m : List Host.Cell) : Bool :=
  match m with
  | [] => true
  | [(_, b)] => b != 0
  | (a, b) :: (a', b') :: r => b != 0 && decide (a < a') && Memory.wf ((a', b') :: r)

/-! ### Bytes, words, lines -/

/-- Byte i of a line. -/
def lineByte (l : Line) (i : Nat) : Byte := l.extractLsb' (8 * i) 8

/-- The 64 bytes of a line. -/
def lineBytes (l : Line) : List Byte := (List.range 64).map (lineByte l)

/-- The number whose little-endian bytes are given. -/
def bytesNat (bs : List Byte) : Nat := bs.foldr (fun b n => b.toNat + 256 * n) 0

/-- n little-endian bytes of a number. -/
def natBytes (n : Nat) (v : Nat) : List Byte :=
  match n with
  | 0 => []
  | k + 1 => BitVec.ofNat 8 v :: natBytes k (v / 256)

/-- The line whose bytes are given. -/
def bytesLine (bs : List Byte) : Line := BitVec.ofNat 512 (bytesNat bs)

/-- Doubleword i of a line. -/
def lineDword (l : Line) (i : Nat) : DWord := l.extractLsb' (64 * i) 64

/-- Word i of a line. -/
def lineWord (l : Line) (i : Nat) : Word := l.extractLsb' (32 * i) 32

/-- The line mask with every bit of the bytes a byte mask names. -/
def expandMask (m : BitVec 64) : Line :=
  bytesLine ((List.range 64).map fun i => if m.getLsbD i then 0xFF else 0)

/-- A line with the bytes a mask names taken from another. -/
def mergeLine (old new : Line) (m : BitVec 64) : Line :=
  let x := expandMask m
  (old &&& ~~~x) ||| (new &&& x)

/-- Bits [lo+n-1:lo] of a number. -/
def bitsOf (v : Nat) (lo n : Nat) : Nat := (v >>> lo) % 2 ^ n

/-- A field of a register word. -/
def field (w : Word) (lo n : Nat) : Nat := bitsOf w.toNat lo n

/-- One bit of a register word. -/
def bit (w : Word) (i : Nat) : Bool := w.getLsbD i

/-- A field value placed at its bits. -/
def at_ (v : Nat) (lo n : Nat) : Word := BitVec.ofNat 32 ((v % 2 ^ n) <<< lo)

/-- One bit placed. -/
def bitAt (b : Bool) (i : Nat) : Word := if b then BitVec.ofNat 32 (1 <<< i) else 0

/-- Zero acts as one. -/
def orOne (n : Nat) : Nat := if n = 0 then 1 else n

/-- A 32-bit counter that saturates (R487). -/
def satAdd (w : Word) (n : Nat) : Word := if w.toNat + n ≥ 2 ^ 32 then 0xFFFFFFFF else w + BitVec.ofNat 32 n

/-- a is later than b under RFC 1982 comparison (R516). -/
def serialLater (a b : Word) : Bool := a ≠ b && decide ((a - b).toNat < 2 ^ 31)

/-- The low word of a 64-bit quantity. -/
def loWord (n : Nat) : Word := BitVec.ofNat 32 n

/-- The high word of a 64-bit quantity. -/
def hiWord (n : Nat) : Word := BitVec.ofNat 32 (n >>> 32)

/-- The signed value of a doubleword difference taken modulo 2^64. -/
def ofInt64 (i : Int) : DWord := BitVec.ofInt 64 i

/-! ### State updates -/

/-- Port p. -/
def State.port (s : State) (p : Nat) : Port := agetD s.ports p {}

/-- The state with port p set. -/
def State.setPort (s : State) (p : Nat) (v : Port) : State := { s with ports := aputD s.ports p v {} }

/-- Subchannel c of the schedulers. -/
def State.sub (s : State) (c : Nat) : SubState := agetD s.subs c {}

/-- The state with subchannel c set. -/
def State.setSub (s : State) (c : Nat) (v : SubState) : State := { s with subs := aputD s.subs c v {} }

/-- RPM's accounts of subchannel c. -/
def State.rpmSub (s : State) (c : Nat) : RpmSub := agetD s.rpm c {}

/-- The state with RPM's accounts of subchannel c set. -/
def State.setRpm (s : State) (c : Nat) (v : RpmSub) : State := { s with rpm := aputD s.rpm c v {} }

/-- Engine number e. -/
def State.engine (s : State) (e : Nat) : Engine := agetD s.engines e { phys := e }

/-- The state with engine number e set. -/
def State.setEngine (s : State) (e : Nat) (v : Engine) : State :=
  { s with engines := aputD s.engines e v { phys := e } }

/-- The state with engine number e changed. -/
def State.updEngine (s : State) (e : Nat) (f : Engine → Engine) : State := s.setEngine e (f (s.engine e))

/-- The state with its part `cfg` changed. -/
def State.updCfg (s : State) (f : Cfg → Cfg) : State := { s with cfg := f s.cfg }

/-- The state with its part `tel` changed. -/
def State.updTel (s : State) (f : Tel → Tel) : State := { s with tel := f s.tel }

/-- The state with its part `atu` changed. -/
def State.updAtu (s : State) (f : Atu → Atu) : State := { s with atu := f s.atu }

/-- The state with its part `map` changed. -/
def State.updMap (s : State) (f : MapState → MapState) : State := { s with map := f s.map }

/-- The state with its part `plg` changed. -/
def State.updPlg (s : State) (f : Plg → Plg) : State := { s with plg := f s.plg }

/-- The state with its part `twn` changed. -/
def State.updTwn (s : State) (f : Twn → Twn) : State := { s with twn := f s.twn }

/-- The state with its part `vlt` changed. -/
def State.updVlt (s : State) (f : Vlt → Vlt) : State := { s with vlt := f s.vlt }

/-- The state with its part `sgt` changed. -/
def State.updSgt (s : State) (f : Sgt → Sgt) : State := { s with sgt := f s.sgt }

/-- The state with its part `ecc` changed. -/
def State.updEcc (s : State) (f : Ecc → Ecc) : State := { s with ecc := f s.ecc }

/-- The state with its part `bwr` changed. -/
def State.updBwr (s : State) (f : Bwr → Bwr) : State := { s with bwr := f s.bwr }

/-- The state with its part `dti` changed. -/
def State.updDti (s : State) (f : Dti → Dti) : State := { s with dti := f s.dti }

/-- The state with its part `cph` changed. -/
def State.updCph (s : State) (f : Cph → Cph) : State := { s with cph := f s.cph }

/-- The state with its part `sua` changed. -/
def State.updSua (s : State) (f : Sua → Sua) : State := { s with sua := f s.sua }

/-- The state with its part `dre` changed. -/
def State.updDre (s : State) (f : Dre → Dre) : State := { s with dre := f s.dre }

/-- The state with its part `pins` changed. -/
def State.updPins (s : State) (f : Pins → Pins) : State := { s with pins := f s.pins }

/-- A register of a unit instance's page (R382). -/
def State.unitReg (s : State) (inst off : Nat) : DWord := agetD s.sua.unitRegs (4096 * inst + off) 0

/-- The state with a register of a unit instance's page set. -/
def State.setUnitReg (s : State) (inst off : Nat) (v : DWord) : State :=
  s.updSua fun u => { u with unitRegs := aputD u.unitRegs (4096 * inst + off) v 0 }

/-- The next free value, and the state in which it is spent. -/
def State.free (s : State) : DWord × State := (Config.freeValue s.freeCtr, { s with freeCtr := s.freeCtr + 1 })

end Sys2Proof.Machine
end

