-- ==== Sys2Proof/Machine/RegTable.lean ====
section
/-! DEFINITION. The register map: every register the chapters list, with its offset, repetition, reset value and the
access types of its bits (R7, R8, R468), and the stored word of a register. -/

namespace Sys2Proof.Machine

/-- One register, or a regular array of registers (R468): the offset in its page, the repetitions (count, stride),
the reset value, and for each access type of R7 the bits that have it. Bits in no mask are RO; `rsv` holds the
reserved bits of access RW (R8). -/
structure RegSpec where
  off : Nat
  dims : List (Nat × Nat) := []
  reset : Word := 0
  rw : Word := 0
  lk : Word := 0
  wo1 : Word := 0
  w1p : Word := 0
  wo : Word := 0
  sqc : Word := 0
  rsv : Word := 0
  /-- the LO word of a marked pair (R452) -/
  pair : Bool := false
  deriving DecidableEq, Repr

/-- The CFG page (R447, R469). -/
def cfgRegs : List RegSpec := [
    { off := 0x0, reset := 0x4C320100 },
    { off := 0x4, wo1 := 0x1 },
    { off := 0x8, lk := 0x1, rsv := 0xFFFFFFFE },
    { off := 0xC, reset := 0x7F },
    { off := 0x10, reset := 0x4, rw := 0x3F, rsv := 0xFFFFFFC0 },
    { off := 0x14 },
    { off := 0x20, dims := [(2, 0x10)], rw := 0x80FFFFFC, rsv := 0x7F000000 },
    { off := 0x24, dims := [(2, 0x10)], rw := 0xFFFFFFFF },
    { off := 0x28, dims := [(2, 0x10)] },
    { off := 0x40, reset := 0x4F000 },
    { off := 0x44, reset := 0x80000000, rw := 0xC0000000, rsv := 0x3FFFFFFF },
    { off := 0x48, w1p := 0xC00003FF, rsv := 0x3FFFFC00 },
    { off := 0x4C },
    { off := 0x50, sqc := 0x7F },
    { off := 0x54, wo := 0xFFFFFFFF } ]

/-- The TEL page (R30, R31, R489). -/
def telRegs : List RegSpec := [
    { off := 0x0, pair := true },
    { off := 0x4 },
    { off := 0x8, wo1 := 0xFFFFFFFF, pair := true },
    { off := 0xC, wo1 := 0xFFFFFFFF },
    { off := 0x10, pair := true },
    { off := 0x14 },
    { off := 0x18, rw := 0xFFFFFFFF, pair := true },
    { off := 0x1C, rw := 0xFFFFFFFF },
    { off := 0x20, reset := 0xA640001, rw := 0xFFFFFFFF },
    { off := 0x24 },
    { off := 0x40 },
    { off := 0x44, reset := 0xFFFFFFFF, rw := 0xFFFFFFFF },
    { off := 0x48 },
    { off := 0x60, w1p := 0x3 },
    { off := 0x80, rw := 0xF03F8F03, rsv := 0xFC070FC },
    { off := 0x84, w1p := 0x3 },
    { off := 0x88 },
    { off := 0x8C, rw := 0xFFF, rsv := 0xFFFFF000 },
    { off := 0xC0, reset := 0xA32, rw := 0xFFFFFFFF },
    { off := 0xC4, w1p := 0x1 },
    { off := 0xC8 },
    { off := 0x100, sqc := 0x3FF },
    { off := 0x104, wo := 0xFFFFFFFF },
    { off := 0x108, reset := 0x1, rw := 0xF, rsv := 0xFFFFFFF0 },
    { off := 0x800, dims := [(8, 0x4)] },
    { off := 0x820, reset := 0x1583, rw := 0x1FFF, rsv := 0xFFFFE000 },
    { off := 0x1000, dims := [(1024, 0x20), (8, 0x4)] },
    { off := 0x9000, dims := [(512, 0x8)], pair := true },
    { off := 0x9004, dims := [(512, 0x8)] },
    { off := 0xA000, dims := [(512, 0x4)], rw := 0x80FFFFFF, rsv := 0x7F000000 },
    { off := 0xB000, dims := [(8, 0x4)] } ]

/-- The HPX page (R69). -/
def hpxRegs : List RegSpec := [
    { off := 0x0, dims := [(16, 0x10)], reset := 0x142000, rw := 0xE0FF3F00, rsv := 0x1F00C0FF },
    { off := 0x4, dims := [(16, 0x10)], rw := 0xFFFFFFFF },
    { off := 0x8, dims := [(16, 0x10)] },
    { off := 0xC, dims := [(16, 0x10)], rsv := 0xFFFFFFFF },
    { off := 0x200, sqc := 0x1F },
    { off := 0x204, wo := 0xFFFFFFFF } ]

/-- The DRE page (R430). -/
def dreRegs : List RegSpec := [
    { off := 0x0, reset := 0x3E8, rw := 0x8000FFFF, rsv := 0x7FFF0000 },
    { off := 0x100, sqc := 0x3F },
    { off := 0x104, wo := 0xFFFFFFFF },
    { off := 0x1000, dims := [(64, 0x20)], rw := 0xFFFFFFFF, pair := true },
    { off := 0x1004, dims := [(64, 0x20)], rw := 0xFFFFFFFF },
    { off := 0x1008, dims := [(64, 0x20)], reset := 0x406, rw := 0x803F8F1F, rsv := 0x3FC070E0 },
    { off := 0x100C, dims := [(64, 0x20)], rw := 0xFFFF, rsv := 0xFFFF0000 },
    { off := 0x1010, dims := [(64, 0x20)] },
    { off := 0x2000, dims := [(64, 0x20)], rw := 0xFFFFFFFF, pair := true },
    { off := 0x2004, dims := [(64, 0x20)], rw := 0xFFFFFFFF },
    { off := 0x2008, dims := [(64, 0x20)], reset := 0x10006, rw := 0xBFFFFF9F, rsv := 0x60 },
    { off := 0x200C, dims := [(64, 0x20)], rw := 0xFFFF, rsv := 0xFFFF0000 },
    { off := 0x2010, dims := [(64, 0x20)] },
    { off := 0x3000, dims := [(64, 0x10)], rw := 0xFFFFFFFF, pair := true },
    { off := 0x3004, dims := [(64, 0x10)], rw := 0xFFFFFFFF },
    { off := 0x3008, dims := [(64, 0x10)], rw := 0xFFFFFFFF },
    { off := 0x300C, dims := [(64, 0x10)], reset := 0x1, rw := 0x1, rsv := 0xFFFFFFFC } ]

/-- The MAP page (R50). -/
def mapRegs : List RegSpec := [
    { off := 0x0, reset := 0x80, lk := 0x1BF, rsv := 0xFFFFFE40 },
    { off := 0x8, pair := true },
    { off := 0xC },
    { off := 0x10, lk := 0xFFFF, rsv := 0xFFFF0000 },
    { off := 0x14, lk := 0xFFFFFFFF },
    { off := 0x18, reset := 0x1C, lk := 0x3F, rsv := 0xFFFFFFC0 },
    { off := 0x1C, lk := 0xFFFFFFFF },
    { off := 0x20, lk := 0xFFFFFFFF },
    { off := 0x24, lk := 0xFFFFFFFF },
    { off := 0x28, lk := 0xFFFFFFFF },
    { off := 0x2C, lk := 0xFFFFFFFF },
    { off := 0x30, lk := 0xFFFFFFFF },
    { off := 0x34, lk := 0xFFFFFFFF },
    { off := 0x38, lk := 0xFFFFFFFF },
    { off := 0x40, w1p := 0x1 },
    { off := 0x44 },
    { off := 0x48, sqc := 0x3F },
    { off := 0x4C, wo := 0xFFFFFFFF },
    { off := 0x50, rw := 0x8000FFFF, rsv := 0x7FFF0000 },
    { off := 0x58, rw := 0x43, rsv := 0xFFFFFF3C, pair := true },
    { off := 0x5C, rw := 0xFFFFFFFF },
    { off := 0x100, dims := [(16, 0x4)], reset := 0x3210, rw := 0xFFFF, rsv := 0xFFFF0000 } ]

/-- The ATU page (R99). -/
def atuRegs : List RegSpec := [
    { off := 0x0, reset := 0x100002, rw := 0xFF0007, rsv := 0xFF00FFF8 },
    { off := 0x4 },
    { off := 0x8 },
    { off := 0xC, w1p := 0x1 },
    { off := 0x10, sqc := 0x3 },
    { off := 0x14, wo := 0xFFFFFFFF } ]

/-- The BWR page (R308). -/
def bwrRegs : List RegSpec := [
    { off := 0x0, reset := 0x4D000, rw := 0x803FFF00, rsv := 0x7FC000FF },
    { off := 0x4, rw := 0xFFFFFFFF },
    { off := 0x8, rw := 0xFFFFFFFF },
    { off := 0xC, w1p := 0x1 },
    { off := 0x10, w1p := 0x1 },
    { off := 0x14 },
    { off := 0x18 },
    { off := 0x1C, reset := 0x400 },
    { off := 0x20 },
    { off := 0x40, dims := [(16, 0x4)], rw := 0xFFFFF, rsv := 0xFFF00000 },
    { off := 0x100, dims := [(16, 0x4)], rw := 0x8F8F8F8F, rsv := 0x70707070 },
    { off := 0x300, sqc := 0x3F },
    { off := 0x304, wo := 0xFFFFFFFF },
    { off := 0x400, dims := [(16, 0x20), (8, 0x4)], rw := 0xFFFFFFFF } ]

/-- The RPM page (R226). -/
def rpmRegs : List RegSpec := [
    { off := 0x0, reset := 0x440, rw := 0xFF3, rsv := 0xFFFFF00C },
    { off := 0x4, reset := 0x5F550008, rw := 0xFFFF00FF, rsv := 0xFF00 },
    { off := 0x8, reset := 0x80000020, rw := 0x830001FF, rsv := 0x7CFFFE00 },
    { off := 0xC, reset := 0xC00040, rw := 0x1FF01FF, rsv := 0xFE00FE00 },
    { off := 0x10, reset := 0xA1000400, rw := 0xFFFFFFFF },
    { off := 0x14 },
    { off := 0x18 },
    { off := 0x100, dims := [(16, 0x4)], reset := 0xFF, rw := 0xFF, rsv := 0xFFFFFF00 },
    { off := 0x140, dims := [(16, 0x4)] },
    { off := 0x180, dims := [(16, 0x4)] },
    { off := 0x300, sqc := 0x7E },
    { off := 0x304, wo := 0xFFFFFFFF } ]

/-- The SGT page (R254). -/
def sgtRegs : List RegSpec := [
    { off := 0x0, reset := 0x8200, lk := 0x8FFF, rsv := 0xFFFF7000 },
    { off := 0x4, reset := 0x1814, rw := 0xFFFF, rsv := 0xFFFF0000 },
    { off := 0x8, reset := 0x60323C01, rw := 0xF0FFFFFF, rsv := 0xF000000 },
    { off := 0xC, reset := 0x4080C04, rw := 0xFFFFFFFF },
    { off := 0x10, w1p := 0xF00F1300 },
    { off := 0x14 },
    { off := 0x18 },
    { off := 0x1C },
    { off := 0x20, rw := 0xFFFFFFFF },
    { off := 0x24, rw := 0xFFFFFFFF },
    { off := 0x30, rw := 0x7F7F07FF, w1p := 0x80000000, rsv := 0x80F800 },
    { off := 0x34, rw := 0xFFFFFFFF },
    { off := 0x38 },
    { off := 0x40, dims := [(16, 0x4)] },
    { off := 0x100, sqc := 0x3FF },
    { off := 0x104, wo := 0xFFFFFFFF } ]

/-- The ECC page (R288). -/
def eccRegs : List RegSpec := [
    { off := 0x0, reset := 0x400403, rw := 0xFFFF03, rsv := 0xFF0000FC },
    { off := 0x4, reset := 0x2080004, rw := 0xFFFF003F, rsv := 0xFFC0 },
    { off := 0x8, reset := 0x64, rw := 0xFFFF, rsv := 0xFFFF0000 },
    { off := 0x10, w1p := 0xFFBFE00F },
    { off := 0x14, rw := 0x3F03FFFF, rsv := 0xC0FC0000 },
    { off := 0x18 },
    { off := 0x1C },
    { off := 0x20 },
    { off := 0x24 },
    { off := 0x28 },
    { off := 0x2C },
    { off := 0x30 },
    { off := 0x100, dims := [(16, 0x8), (2, 0x4)], rw := 0x8F8F8F8F, rsv := 0x70707070 },
    { off := 0x200, dims := [(16, 0x8)] },
    { off := 0x204, dims := [(16, 0x8)] },
    { off := 0x300, sqc := 0x3FFF },
    { off := 0x304, wo := 0xFFFFFFFF } ]

/-- The SND page (R292). -/
def sndRegs : List RegSpec := [
    { off := 0x0, reset := 0x80040018, rw := 0x80FFFFFF, rsv := 0x7F000000 },
    { off := 0x4 },
    { off := 0x8 },
    { off := 0xC },
    { off := 0x100, sqc := 0x7 },
    { off := 0x104, wo := 0xFFFFFFFF } ]

/-- The CPH page (R359). -/
def cphRegs : List RegSpec := [
    { off := 0x0, lk := 0x3F, rsv := 0xFFFFFFC0 },
    { off := 0x4, reset := 0xA140404, rw := 0xFFFFFF3F, rsv := 0xC0 },
    { off := 0x8, w1p := 0x8000003F },
    { off := 0xC },
    { off := 0x10, pair := true },
    { off := 0x14 },
    { off := 0x18 },
    { off := 0x1C },
    { off := 0x100, dims := [(64, 0x4)] },
    { off := 0x300, sqc := 0x3FF },
    { off := 0x304, wo := 0xFFFFFFFF } ]

/-- The PLG page (R124). -/
def plgRegs : List RegSpec := [
    { off := 0x0, reset := 0x64C, rw := 0xFFFFF, rsv := 0xFFF00000 },
    { off := 0x4, reset := 0x4000000, rw := 0x1FFFFFFF, rsv := 0xE0000000 },
    { off := 0x8 },
    { off := 0xC, reset := 0x1388, rw := 0xFFFF, rsv := 0xFFFF0000 },
    { off := 0x10, reset := 0x3E8, rw := 0xFFFF, rsv := 0xFFFF0000 },
    { off := 0x20, pair := true },
    { off := 0x24 },
    { off := 0x28, pair := true },
    { off := 0x2C },
    { off := 0x30, pair := true },
    { off := 0x34 },
    { off := 0x38, pair := true },
    { off := 0x3C },
    { off := 0x40, pair := true },
    { off := 0x44 },
    { off := 0x48, pair := true },
    { off := 0x4C },
    { off := 0x50, dims := [(4, 0x8)], pair := true },
    { off := 0x54, dims := [(4, 0x8)] },
    { off := 0x70, w1p := 0xE0E00, rsv := 0xFFF1F1F0 },
    { off := 0x78 },
    { off := 0x100, sqc := 0x7F },
    { off := 0x104, wo := 0xFFFFFFFF } ]

/-- The TWN page (R156). -/
def twnRegs : List RegSpec := [
    { off := 0x0, rw := 0xA00000F0, lk := 0x403F0000, rsv := 0x1FC0FF0F },
    { off := 0x4, reset := 0xD0A00C8, rw := 0xFFFFFFF, rsv := 0xF0000000 },
    { off := 0x8, reset := 0x140810, rw := 0xF0FFFFFF, rsv := 0xF000000 },
    { off := 0xC, w1p := 0x7 },
    { off := 0x10 },
    { off := 0x14, w1p := 0x8000FFFF },
    { off := 0x18, lk := 0xFFFFFFFF, pair := true },
    { off := 0x1C, lk := 0xFFFFFF, rsv := 0xFF000000 },
    { off := 0x20, pair := true },
    { off := 0x24 },
    { off := 0x30, rw := 0xFFFF, rsv := 0xFFFF0000 },
    { off := 0x34, rw := 0x1FFFF, rsv := 0xFFFE0000 },
    { off := 0x38, rw := 0xFFFFFFFF },
    { off := 0x3C, w1p := 0x1 },
    { off := 0x40 },
    { off := 0x44 },
    { off := 0x48 },
    { off := 0x4C },
    { off := 0x50, pair := true },
    { off := 0x54 },
    { off := 0x58, pair := true },
    { off := 0x5C },
    { off := 0x100, sqc := 0xFFF },
    { off := 0x104, wo := 0xFFFFFFFF } ]

/-- The DTI page (R335). -/
def dtiRegs : List RegSpec := [
    { off := 0x0, reset := 0x40000300, lk := 0xC03F0F00, rsv := 0x3FC0F0FF },
    { off := 0x4, reset := 0x40008000, rw := 0xFFF0FFF0, rsv := 0xF000F },
    { off := 0x8, reset := 0x3E80064, rw := 0xFFFFFFFF },
    { off := 0x10, lk := 0xFFFFFFFF, pair := true },
    { off := 0x14, lk := 0xFFFFFFFF },
    { off := 0x18 },
    { off := 0x1C },
    { off := 0x20 },
    { off := 0x24 },
    { off := 0x28 },
    { off := 0x2C },
    { off := 0x30, rw := 0x7FFFFFFF, rsv := 0x80000000 },
    { off := 0x34, rw := 0xFFFFFFFF },
    { off := 0x38, w1p := 0x1 },
    { off := 0x3C },
    { off := 0x40, w1p := 0x1 },
    { off := 0x100, dims := [(64, 0x4)] },
    { off := 0x300, sqc := 0x1FF },
    { off := 0x304, wo := 0xFFFFFFFF } ]

/-- The VLT page (R182). -/
def vltRegs : List RegSpec := [
    { off := 0x0, reset := 0x300, lk := 0x3F0F01, rsv := 0xFFC0F0FE },
    { off := 0x4, reset := 0x402000, rw := 0x80FFFF00, rsv := 0x7F0000FF },
    { off := 0x8, w1p := 0x3 },
    { off := 0xC },
    { off := 0x10, lk := 0xFFFFFFFF, pair := true },
    { off := 0x14, lk := 0xFFFFFFFF },
    { off := 0x18, pair := true },
    { off := 0x1C },
    { off := 0x20, pair := true },
    { off := 0x24 },
    { off := 0x28 },
    { off := 0x2C },
    { off := 0x100, sqc := 0x1FF },
    { off := 0x104, wo := 0xFFFFFFFF } ]

/-- The CHS page of one channel (R201, R207). -/
def chsRegs : List RegSpec := [
    { off := 0x0, reset := 0x60000000, rw := 0xF0000000, rsv := 0xFFFFFFF },
    { off := 0x4, reset := 0x402008, rw := 0x7F7F3F, rsv := 0xFF8080C0 },
    { off := 0x8, reset := 0x800020, rw := 0xFFF0FFF, rsv := 0xF000F000 },
    { off := 0xC, reset := 0x1007D0, rw := 0xFFFFFF, rsv := 0xFF000000 },
    { off := 0x10, reset := 0x808, rw := 0x1F1F, rsv := 0xFFFFE0E0 },
    { off := 0x14 },
    { off := 0x18 },
    { off := 0x1C },
    { off := 0x100, reset := 0x28282628, rw := 0xFFFFFFFF },
    { off := 0x104, reset := 0x4812754D, rw := 0xFFFFFFFF },
    { off := 0x108, reset := 0x2200C08, rw := 0xFFFFFFFF },
    { off := 0x10C, reset := 0x8300C08, rw := 0xFFFFFFFF },
    { off := 0x110, reset := 0x10041806, rw := 0xFFFFFFFF },
    { off := 0x114, reset := 0x11402C4, rw := 0xFFF0FFF, rsv := 0xF000F000 },
    { off := 0x118, reset := 0x48000180, rw := 0xFF000FFF, rsv := 0xFFF000 },
    { off := 0x11C, reset := 0x220C0222, rw := 0xFFFF0FFF, rsv := 0xF000 },
    { off := 0x200, sqc := 0x3F },
    { off := 0x204, wo := 0xFFFFFFFF } ]

/-- The PHY page of one channel (R261). -/
def phyRegs : List RegSpec := [
    { off := 0x0, reset := 0x80000000, rw := 0x80000000, rsv := 0x7FFFFFFF },
    { off := 0x4 },
    { off := 0x100, dims := [(2, 0x40), (10, 0x4)] },
    { off := 0x300, dims := [(2, 0x40), (4, 0x10)] },
    { off := 0x304, dims := [(2, 0x40), (4, 0x10)] },
    { off := 0x308, dims := [(2, 0x40), (4, 0x10)] },
    { off := 0x400, dims := [(2, 0x200), (4, 0x80), (10, 0x4)] },
    { off := 0x1000, dims := [(2, 0x800), (4, 0x200), (40, 0x4)] },
    { off := 0xF00, sqc := 0xF },
    { off := 0xF04, wo := 0xFFFFFFFF } ]

/-- The PEA page of one engine number (R388). -/
def peaRegs : List RegSpec := [
    { off := 0x0, w1p := 0xF },
    { off := 0x4 },
    { off := 0x8, rw := 0xFFFF, rsv := 0xFFFF0000 },
    { off := 0xC },
    { off := 0x10 },
    { off := 0x14 },
    { off := 0x20, dims := [(8, 0x4)], lk := 0xFFFFFFFF },
    { off := 0x40, lk := 0x1, rsv := 0xFFFFFFFE },
    { off := 0x60, dims := [(8, 0x4)] },
    { off := 0x100, wo := 0xFFFFFFFF },
    { off := 0x200, sqc := 0xF },
    { off := 0x204, wo := 0xFFFFFFFF } ]

/-- The SUA page (R391). -/
def suaRegs : List RegSpec := [
    { off := 0x0, reset := 0xA640064, rw := 0xFFFFFFFF },
    { off := 0x4, reset := 0x111144, rw := 0xFFFFFF, rsv := 0xFF000000 },
    { off := 0x8, lk := 0xFFFFFFFF, pair := true },
    { off := 0xC, lk := 0xFFFFFFFF },
    { off := 0x10, lk := 0xFFFFFFFF },
    { off := 0x100, dims := [(6, 0x4)] },
    { off := 0x180, dims := [(28, 0x4)] },
    { off := 0x300, sqc := 0x7 },
    { off := 0x304, wo := 0xFFFFFFFF } ]

/-- Whether an offset is one of the repetitions of a register. -/
def dimsHit (ds : List (Nat × Nat)) (d : Nat) : Bool :=
  match ds with
  | [] => d = 0
  | (n, st) :: r => decide (d / st < n) && dimsHit r (d % st)

/-- The register of a page at an offset in it. -/
def findSpec (l : List RegSpec) (off : Nat) : Option RegSpec :=
  l.find? fun r => decide (r.off ≤ off) && dimsHit r.dims (off - r.off)

/-- The registers of the page an offset lies in, and the offset in the page (R468). -/
def pageOf (off : Nat) : List RegSpec × Nat :=
  let o := off % 0x10000
  match off / 0x10000 with
  | 0x0 => (cfgRegs, o) | 0x1 => (telRegs, o) | 0x2 => (hpxRegs, o) | 0x3 => (dreRegs, o) | 0x4 => (mapRegs, o)
  | 0x5 => (atuRegs, o) | 0x6 => (bwrRegs, o) | 0x7 => (rpmRegs, o) | 0x8 => (sgtRegs, o) | 0x9 => (eccRegs, o)
  | 0xA => (sndRegs, o) | 0xB => (cphRegs, o) | 0xC => (plgRegs, o) | 0xD => (twnRegs, o) | 0xE => (dtiRegs, o)
  | 0xF => (vltRegs, o)
  | p => if p < 0x20 then (chsRegs, o) else if p < 0x30 then (phyRegs, o)
      else if p < 0x34 then (peaRegs, off % 0x2000) else if p = 0x34 then (suaRegs, o) else ([], o)

/-- The register at an offset, 4-byte aligned, of the register region; none where no chapter defines one (R451). -/
def regSpec (off : Nat) : Option RegSpec :=
  if off % 4 ≠ 0 then none else findSpec (pageOf off).1 (pageOf off).2

/-- The reset value of the register at an offset; zero where there is none. -/
def regReset (off : Nat) : Word := match regSpec off with | some r => r.reset | none => 0

/-- The stored word of the register at an offset: what was last written or set, or its reset value (R468). -/
def State.reg (s : State) (off : Nat) : Word := match aget s.regs off with | some w => w | none => regReset off

/-- The state with the stored word of a register set; words equal to their reset value are not listed. -/
def State.setReg (s : State) (off : Nat) (w : Word) : State := { s with regs := aputD s.regs off w (regReset off) }

/-- A field of the stored word of a register. -/
def State.fld (s : State) (off lo n : Nat) : Nat := field (s.reg off) lo n

/-- One bit of the stored word of a register. -/
def State.flag (s : State) (off i : Nat) : Bool := bit (s.reg off) i

/-- VLT_CFG.EN. -/
def State.vaultOn (s : State) : Bool := s.flag 0x0F0000 0

/-- A Save without a vault: nothing drains, nothing is issued on the deep port, no PFENCE is answered (R166). -/
def State.bareSave (s : State) : Bool := s.cfg.mode == .save && !s.vaultOn

/-- The 64-bit value of a pair of registers. -/
def State.reg64 (s : State) (off : Nat) : Nat := (s.reg off).toNat + 2 ^ 32 * (s.reg (off + 4)).toNat

end Sys2Proof.Machine
end

