-- ==== Sys2Proof/Machine/Flags.lean ====
section
/-! DEFINITION. Status events, error log entries, performance counters and the trace buffer, and `flush`, which
records what one handshake has raised (R454, R477–R485, R517). -/

namespace Sys2Proof.Machine

/-! ### Raising events and entries -/

/-- Raise one event of a *_STS register (R454); `flush` records it. -/
def State.event (s : State) (sts b : Nat) : State := { s with evts := s.evts ++ [⟨sts, b⟩] }

/-- Raise an event when a condition holds. -/
def State.eventIf (s : State) (c : Bool) (sts b : Nat) : State := if c then s.event sts b else s

/-- Raise one error log entry (R480); `flush` writes it. -/
def State.logE (s : State) (code : Nat) (src : BitVec 16) (addr info : Nat) : State :=
  { s with logq := s.logq ++ [⟨BitVec.ofNat 16 code, BitVec.ofNat 64 addr, src, BitVec.ofNat 64 info⟩] }

/-- SOURCE of a host port (R480). -/
def srcHost (p : Nat) : BitVec 16 := BitVec.ofNat 16 (0x1000 + p)

/-- SOURCE of a Pilot engine (R480). -/
def srcEngine (e : Nat) : BitVec 16 := BitVec.ofNat 16 (0x2000 + e)

/-- SOURCE of the Mover (R480), with the engine number it works for. -/
def srcMover (e : Nat) : BitVec 16 := BitVec.ofNat 16 (0x3000 + e)

/-- SOURCE of the management chain (R480). -/
def srcChain : BitVec 16 := 0x4000

/-- SOURCE of the twin (R480). -/
def srcTwin : BitVec 16 := 0x5000

/-- SOURCE of a subsystem, by its register page (R480). -/
def srcInt (page : Nat) : BitVec 16 := BitVec.ofNat 16 (0x6000 + page)

/-- SOURCE of a requester path (R480). -/
def srcPath : Path → BitVec 16
  | .host p => srcHost p
  | .chain => srcChain

/-- SOURCE of a requester past MAP (R480). -/
def srcOf : Requester → BitVec 16
  | .host p _ _ => srcHost p
  | .engine e => srcEngine e
  | .mover e => srcMover e
  | .mirror _ => srcTwin
  | .refill => srcInt 0x0F
  | .agent page => srcInt page

/-- INFO's DRAM location L (R517). -/
def infoLoc (l : Loc) : Nat :=
  l.row % 2 ^ 18 + (l.bg * 4 + l.bank) % 32 * 2 ^ 18 + l.cid % 4 * 2 ^ 24 + l.cs % 4 * 2 ^ 26
    + l.sub.val % 2 * 2 ^ 28 + l.sub.val / 2 * 2 ^ 32 + l.rank % 4 * 2 ^ 40

/-- INFO's chip select, subchannel and channel (R517). -/
def infoCs (c : Nat) (cs : Nat) : Nat := cs % 4 * 2 ^ 26 + c % 2 * 2 ^ 28 + c / 2 * 2 ^ 32

/-- The queue identity Q of R517: the queue's row in the table of R21 and its instance. -/
def queueId : Queue → Nat
  | .hpxIngress p => 0x100 + p
  | .hpxEgress p => 0x200 + p
  | .chsRead c => 0x300 + c
  | .chsWrite c => 0x400 + c
  | .eccReturn ch => 0x500 + ch
  | .plgMark => 0x600
  | .plgDrain => 0x700
  | .twnOut => 0x800
  | .twnIn => 0x900
  | .dtiCmd => 0xA00
  | .dreFetch q => 0xB00 + q
  | .cphJob cls => 0xC00 + cls

/-! ### Performance counters -/

/-- A counter after n more of its event, and whether it wrapped (R479). -/
def Counter.add (c : Counter) (n : Nat) : Counter × Bool :=
  let v := c.value.toNat + n
  ({ c with value := BitVec.ofNat 48 v, wrap := c.wrap || decide (v ≥ 2 ^ 48) }, decide (v ≥ 2 ^ 48))

/-- Whether a counter counts an event (R477): enabled, and group, event and instance as selected. -/
def Counter.counts (c : Counter) (group event inst : Nat) : Bool :=
  bit c.sel 31 && field c.sel 16 8 == group && field c.sel 8 8 == event && field c.sel 0 8 == inst

/-- The counters after n of an event, each with whether it wrapped. -/
def countAll (cs : List (Nat × Counter)) (group event inst n : Nat) : List (Nat × Counter) × Bool :=
  match cs with
  | [] => ([], false)
  | (k, c) :: r =>
    let t := countAll r group event inst n
    if c.counts group event inst then ((k, (c.add n).1) :: t.1, (c.add n).2 || t.2) else ((k, c) :: t.1, t.2)

/-- Count n of an event in every counter that selects it (R477–R479). -/
def State.count (s : State) (group event inst n : Nat) : State :=
  let r := countAll s.tel.counters group event inst n
  ({ s with tel := { s.tel with counters := r.1 } }).eventIf r.2 0x010100 5

/-! ### The trace buffer -/

/-- One more trace entry, while capture runs (R484). -/
def State.capture (s : State) (e : TraceEntry) : State :=
  let t := s.tel.trace
  if !t.run then s else
    let wrap := bit t.cfg 30
    let t1 := { t with slots := aput t.slots t.next e, next := (t.next + 1) % 4096, count := Nat.min (t.count + 1) 4096 }
    let full := !wrap && t1.count == 4096
    let t2 := match t1.remaining with
      | some n => if n ≤ 1 then { t1 with run := false, remaining := none } else { t1 with remaining := some (n - 1) }
      | none => t1
    let t3 := if full then { t2 with run := false } else t2
    ({ s with tel := { s.tel with trace := t3 } }).eventIf full 0x010100 6

/-- Whether the trace records requests of a source: KIND and NUM as at the last ARM, and the class filter (R491). -/
def State.traces (s : State) (kind num cls : Nat) : Bool :=
  let t := s.tel.trace
  t.run && field t.cfg 28 2 == kind && field t.cfg 16 6 == num && (!bit t.cfg 15 || field t.cfg 8 4 == cls)

/-! ### The error log -/

/-- The class of an entry (R482, R483). -/
def logClass (code : Nat) (info : Nat) : Nat :=
  if code = 0x0007 then (if bitsOf info 4 3 = 6 then 3 else 0)
  else if code = 0x0B07 then (if bitsOf info 16 6 < 32 then 3 else 1)
  else if code ∈ [0x0602, 0x0703, 0x0D02, 0x0F05] then 0
  else if code ∈ [0x0901, 0x0903, 0x0905, 0x090B, 0x0C04, 0x0D05, 0x0D07, 0x0E01, 0x0E03, 0x0F01, 0x0F02, 0x0F03,
      0x0F04] then 2
  else if code ∈ [0x0104, 0x0105, 0x0106, 0x0107, 0x090C, 0x090E, 0x0B01, 0x0B05, 0x0E06] then 3
  else 1

/-- Write one entry to the log (R481): its slot, the loss of an unread entry, its class bit, the trace's copy and
trigger (R484). -/
def State.writeLog (s : State) (q : LogReq) : State :=
  let t := s.tel
  let e : LogEntry := ⟨s.chron, q.addr, q.src, q.code, t.logWr, q.info⟩
  let slot := t.logWr.toNat % 1024
  let lost := match aget t.log slot with
    | some old => serialLater old.seq (s.reg 0x010044)
    | none => false
  let s := { s with tel := { t with log := aput t.log slot e, logWr := t.logWr + 1,
                                    logLost := if lost then satAdd t.logLost 1 else t.logLost } }
  let s := s.eventIf lost 0x010100 4
  let cls := logClass q.code.toNat q.info.toNat
  let s := s.event 0x010100 cls
  let s := if field t.trace.cfg 28 2 = 3 then s.capture (.log e) else s
  let tcls := field t.trace.cfg 0 2
  if s.tel.trace.run && bit t.trace.cfg 30 && tcls != 0 && decide (tcls ≤ cls) && !s.tel.trace.triggered then
    ({ s with tel := { s.tel with trace := { s.tel.trace with triggered := true, remaining := some 1024 } } }).event
      0x010100 7
  else s

/-- Entries in ascending CODE order, entries of one code as they arose (R481). -/
def insertReq (q : LogReq) : List LogReq → List LogReq
  | [] => [q]
  | r :: rs => if q.code.toNat < r.code.toNat then q :: r :: rs else r :: insertReq q rs

/-- The entries of one handshake in the order in which they are written. -/
def sortReqs (l : List LogReq) : List LogReq := l.foldl (fun acc q => insertReq q acc) []

/-! ### Recording a handshake -/

/-- One *_STS register after a handshake with the events `bs` of it (R454). -/
def StsCell.record (c : StsCell) (bs : List Nat) : StsCell :=
  let seq := c.seq + 1
  { seq := seq
    bits := bs.foldl (fun w b => w ||| BitVec.ofNat 24 (1 <<< b)) c.bits
    last := bs.foldl (fun l b => aput l b seq) c.last }

/-- Record the raised events: one advance of SEQ for every register with an event (R454). -/
def State.recordEvts (s : State) : State :=
  let regs := (s.evts.map fun e => e.sts).eraseDups
  let sts := regs.foldl (fun m r =>
    aput m r ((agetD m r {}).record ((s.evts.filter fun e => e.sts == r).map fun e => e.bit))) s.sts
  { s with sts := sts, evts := [] }

/-- Record what the handshake raised: the log entries, then the status events. -/
def State.flush (s : State) : State :=
  if s.logq.isEmpty && s.evts.isEmpty then s
  else
    let s1 := { s with logq := [] }
    ((sortReqs s.logq).foldl State.writeLog s1).recordEvts

/-! ### Time -/

/-- The state when the Chronometer has reached a time at the earliest (R474). -/
def State.until_ (s : State) (t : Nat) : State := { s with chron := Nat.max s.chron t }

end Sys2Proof.Machine
end

