-- ==== Sys2Proof/Machine/Guard.lean ====
section
/-! DEFINITION. The duplicated pointers, the notice and the idle time of every protected queue (R18–R20). -/

namespace Sys2Proof.Machine

/-- The Gray code of a pointer (R18). -/
def gray (n : Nat) : Nat := Nat.xor n (n / 2)

/-- The guard of a queue. -/
def guardOf (gs : List (Queue × QGuard)) (q : Queue) : QGuard :=
  match gs with
  | [] => {}
  | (k, g) :: r => if k = q then g else guardOf r q

/-- The guards with that of a queue set. -/
def setGuard (gs : List (Queue × QGuard)) (q : Queue) (g : QGuard) : List (Queue × QGuard) :=
  match gs with
  | [] => [(q, g)]
  | (k, h) :: r => if k = q then (k, g) :: r else (k, h) :: setGuard r q g

/-- The guard of a queue. -/
def State.guard (s : State) (q : Queue) : QGuard := guardOf s.guards q

/-- The state with the guard of a queue set. -/
def State.withGuard (s : State) (q : Queue) (g : QGuard) : State := { s with guards := setGuard s.guards q g }

/-- The two copies of both pointers agree (R18). -/
def QGuard.agrees (g : QGuard) : Bool := g.headGray == gray g.head && g.tailGray == gray g.tail

/-- Whether the lowest n bits of a number hold an odd count of ones. -/
def oddOnes (x n : Nat) : Bool := (List.range n).foldl (fun b i => b != x.testBit i) false

/-- The notice of a packet (R19): the count, and even parity over the two halves of its 64-bit header. Which bit covers
which half is not given: [1] covers the upper one (DESIGN CHOICE, entry 65). -/
def noticeOf (count h : Nat) : Byte :=
  BitVec.ofNat 8 (count % 64 * 4 + (if oddOnes (h / 2 ^ 32) 32 then 2 else 0) + (if oddOnes h 32 then 1 else 0))

/-- A packet enters a queue: the pointer copies are compared, and the tail and the notice count advance by one; it carries
its notice (R18, R19). -/
def State.qIn (s : State) (q : Queue) (h : Nat) : State :=
  let g := s.guard q
  s.withGuard q (if g.agrees then
    { g with
      tail := g.tail + 1, tailGray := gray (g.tail + 1), notice := (g.notice + 1) % 64, lastSeen := s.chron
      notices := g.notices ++ [(h, noticeOf (g.notice + 1) h)] }
  else { g with bad := true })

/-- The consumer's check of the next packet (R19): its count is one more than the last one seen, and its parity holds. -/
def QGuard.fits (g : QGuard) : Bool :=
  match g.notices with
  | (h, b) :: _ => b == noticeOf (g.seen + 1) h
  | [] => true

/-- A packet leaves a queue: the pointer copies are compared, its notice is checked, and the head advances by one (R18,
R19). -/
def State.qOut (s : State) (q : Queue) : State :=
  let g := s.guard q
  s.withGuard q (if g.agrees && g.fits then
    { g with
      head := g.head + 1, headGray := gray (g.head + 1), notices := g.notices.drop 1
      seen := if g.notices.isEmpty then g.seen else (g.seen + 1) % 64 }
  else { g with bad := true })

/-- A packet that is taken in the step in which it enters. -/
def State.qThrough (s : State) (q : Queue) (h : Nat) : State := (s.qIn q h).qOut q

/-- A queue restarts empty with both pointer copies equal (R21). -/
def State.qRestart (s : State) (q : Queue) : State :=
  let g := s.guard q
  s.withGuard q { g with
    head := 0, tail := 0, headGray := 0, tailGray := 0, seen := g.notice, notices := [], lastSeen := s.chron, bad := false }

/-- Packets that enter a queue again after its restart. -/
def State.qAgain (s : State) (q : Queue) (hs : List Nat) : State := hs.foldl (fun t h => t.qIn q h) s

/-! ### Jobs of CPH -/

/-- The active cores (R339, R357). -/
def State.activeCores (s : State) : Nat := s.cph.cores.countP (· == .active)

/-- J0 of an IV of 96 bits (R349). -/
def j0Of (iv : Nat) : Nat := iv * 2 ^ 32 + 1

/-- The scheduler suspends a running job (R354): the youngest of class SEAL, the one class whose jobs run for more than one
step of the model. All its blocks run in KEY_JOB_DONE, so it stands at its first block boundary (DESIGN CHOICE, entry 67). -/
def State.suspendJob (s : State) : State :=
  match s.cph.jobs.getLast? with
  | some j =>
    if decide (32 ≤ s.cph.contexts.length) || j.handed || j.aborted then s
    else { s with cph := { s.cph with
      jobs := s.cph.jobs.dropLast, contexts := s.cph.contexts ++ [{ job := j, counter := j0Of j.iv + 1 }] } }
  | none => s

/-- A job that is done in the step in which it starts (R353): one of class 1 to 4 takes a free core, or that of a job it has
suspended (R354); it passes the queue of its class (R21). -/
def State.cphJob (s : State) (cls : Fin 8) (header : Nat) : State :=
  (if cls.val < 5 && s.activeCores ≤ s.cph.jobs.length then s.suspendJob else s).qThrough (.cphJob cls) header

/-- A suspended job resumes on any core that is free, ahead of new jobs of its class (R354). -/
def State.resumeJob (s : State) : State :=
  match s.cph.contexts with
  | x :: r => if s.cph.jobs.length < s.activeCores then { s with cph := { s.cph with jobs := x.job :: s.cph.jobs, contexts := r } } else s
  | [] => s

/-- The class of a drain's GMAC (R353): CRITICAL in Save and while urgent, DRAIN otherwise. -/
def State.drainClass (s : State) : Fin 8 := if s.cfg.mode = .save || s.plg.urgent then 1 else 3

/-- The idle interval in ns (R20): CFG_QCTL.IDLE_INT in steps of 250 ns. -/
def State.idleInterval (s : State) : Nat := (let n := s.fld 0x000010 0 6; if n = 0 then 64 else n) * 250

end Sys2Proof.Machine
end

