-- ==== Sys2Proof/Machine/Mode.lean ====
section
/-! DEFINITION. The mode controller: how the mode is derived, what a change of mode does, and the Dead Reckoning causes
(R436–R446). -/

namespace Sys2Proof.Machine

/-- The mode R436 derives from its inputs. -/
def nextMode (c : Cfg) : Mode :=
  if c.resetHeld then .reset
  else if c.saveEntered then .save
  else if !c.startAccepted then .reset
  else if !c.restoreBegun then .sighting
  else if !c.restoreDone then .restore
  else if c.drCause ≠ 0 then .deadReckoning
  else c.twnReq

/-- INFO of MODE_CHANGE (R438). -/
def infoMode (old new : Mode) (cause : BitVec 10) : Nat :=
  old.bits.toNat + new.bits.toNat * 2 ^ 4 + cause.toNat * 2 ^ 16

/-- A change of CFG_MODE (R438): PREV, every reservation cleared (R95), MODE_CHANGE logged. -/
def State.changeMode (s : State) (m : Mode) : State :=
  let old := s.cfg.mode
  ({ s with cfg := { s.cfg with mode := m, prev := old }, atu := { s.atu with resv := [], resvPend := [] } }).logE
    0x0007 (srcInt 0) 0 (infoMode old m s.cfg.drCause)

/-- The mode evaluated again (R436); a frozen controller takes no transition (R441). -/
def State.reeval (s : State) : State :=
  if s.cfg.frozen || nextMode s.cfg == s.cfg.mode then s else s.changeMode (nextMode s.cfg)

/-- Set a Dead Reckoning cause (R443); one that becomes set in Dead Reckoning logs MODE_CHANGE again (R444). -/
def State.setCause (s : State) (k : Nat) : State :=
  let was := s.cfg.drCause.getLsbD k
  let c := s.cfg.drCause ||| BitVec.ofNat 10 (1 <<< k)
  let s1 := { s with cfg := { s.cfg with drCause := c } }
  if s.cfg.mode = .deadReckoning && !was then
    s1.logE 0x0007 (srcInt 0) 0 (infoMode .deadReckoning .deadReckoning c)
  else s1.reeval

/-- Clear Dead Reckoning causes (R443). -/
def State.clearCause (s : State) (m : BitVec 10) : State :=
  { s with cfg := { s.cfg with drCause := s.cfg.drCause &&& ~~~m } }

/-- CFG_LOCK is set (R456). -/
def State.locked (s : State) : Bool := s.flag 0x000004 0

/-- Key slot k (R341). -/
def State.keySlot (s : State) (k : Nat) : KeySlot := agetD s.cph.slots k {}

/-- CPH_CFG.XSLOT, the XTS slot (R342). -/
def State.xslot (s : State) : Nat := s.fld 0x0B0000 0 6

/-- CPH_STATE.XREADY: the XTS slot holds a LOAD512 key (R342, R361). -/
def State.xready (s : State) : Bool := (s.keySlot s.xslot).loaded && (s.keySlot s.xslot).wide

/-- A tag fails in CPH (R355). -/
def State.tagFails (s : State) : State :=
  ({ s with cph := { s.cph with authFail := satAdd s.cph.authFail 1 } }).event 0x0B0300 0

/-- Hosts and engines are served in these modes (R439). -/
def Mode.serves : Mode → Bool
  | .restore | .service | .solo | .resync | .deadReckoning => true
  | _ => false

/-- Over-budget requests are held only in these modes (R299, R439). -/
def Mode.holds : Mode → Bool
  | .service | .solo => true
  | _ => false

/-- Reset or Sighting: the modes of the commit and training registers (R439). -/
def Mode.early : Mode → Bool
  | .reset | .sighting => true
  | _ => false

end Sys2Proof.Machine
end

