-- ==== Sys2Proof/Machine/AddrMap.lean ====
section
/-! DEFINITION. MAP: the regions, the Tier 0 interleave, the carve-outs, the commit check and the Reach table
(R33–R51). -/

namespace Sys2Proof.Machine

/-! ### Geometry -/

/-- c of R38: 5 for x4 devices, 4 for x8. -/
def MapSet.c (m : MapSet) : Nat := if m.width8 then 4 else 5

/-- b of R36 and R38. -/
def MapSet.b (m : MapSet) : Nat := 18 + m.c

/-- ROW of R36. -/
def MapSet.row (m : MapSet) : Nat := 16 + m.rowBits

/-- The capacity of the geometry (R36). -/
def MapSet.capacity (m : MapSet) : Nat := 2 ^ (m.b + m.row + m.cidBits + m.rankBits)

/-- Populated Tier 0 capacity in bytes, MAP_T0_TOP (R36); zero before the first commit. -/
def MapSet.top (m : MapSet) : Nat := if m.committed then m.capacity else 0

/-- Lines of one row (R39). -/
def MapSet.rowLines (m : MapSet) : Nat := 2 ^ (m.c + 2)

/-- First byte of the carve region. -/
def MapSet.carveAt (m : MapSet) : Nat := m.carveBase * 2 ^ 30

/-- An address in the carve region (R43). -/
def MapSet.inCarve (m : MapSet) (pa : Nat) : Bool := decide (m.carveAt ≤ pa)

/-- An address in the redo area (R44). -/
def MapSet.inRedo (m : MapSet) (pa : Nat) : Bool :=
  decide (m.redoBase * 2 ^ 20 ≤ pa) && decide (pa < (m.redoBase + m.redoSize) * 2 ^ 20)

/-- The chip select of a logical rank in one channel's map (R40). -/
def csOf (w : Word) (rank : Nat) : Nat := field w (4 * rank) 2

/-- The DRAM location of a Tier 0 line (R38–R40). -/
def MapSet.loc (m : MapSet) (line : Nat) : Loc :=
  let pa := line * 64
  let c := m.c
  let b := m.b
  let key (lo n : Nat) : Nat := if m.hash then bitsOf pa lo n else 0
  let sub := bitsOf pa 8 1 ^^^ key b 1
  let ch := bitsOf pa 9 4 ^^^ key b 4
  let bg := bitsOf pa 13 3 ^^^ key (b + 4) 3
  let rank := bitsOf pa (b + m.row + m.cidBits) m.rankBits
  { sub := Fin.ofNat 32 (2 * ch + sub)
    cs := csOf (m.csmap.getD ch 0x3210) rank
    rank := rank
    cid := bitsOf pa (b + m.row) m.cidBits
    bg := bg
    bank := bitsOf pa (16 + c) 2
    row := bitsOf pa b m.row
    col := bitsOf pa 16 c * 4 + bitsOf pa 6 2 }

/-- The Tier 0 line at a DRAM location, given by its logical rank (R38, R39): the mapping read backwards. -/
def MapSet.lineAt (m : MapSet) (l : Loc) : Nat :=
  let c := m.c
  let row := l.row % 2 ^ m.row
  let key (lo n : Nat) : Nat := if m.hash then bitsOf row lo n else 0
  let sub := (l.sub.val % 2) ^^^ key 0 1
  let ch := (l.sub.val / 2) ^^^ key 0 4
  let bg := l.bg ^^^ key 4 3
  let pa := (l.col % 4) * 2 ^ 6 + sub * 2 ^ 8 + ch * 2 ^ 9 + bg * 2 ^ 13 + (l.col / 4) * 2 ^ 16
    + l.bank * 2 ^ (16 + c) + row * 2 ^ m.b + l.cid * 2 ^ (m.b + m.row) + l.rank * 2 ^ (m.b + m.row + m.cidBits)
  pa / 64

/-! ### Regions -/

/-- Where an address leads (R33, R34). -/
inductive Region where
  /-- a mapped Tier 0 address -/
  | t0 (pa : Nat)
  /-- a mapped Tier 1 address: segment, sub-block, line in the sub-block -/
  | t1 (seg sub line : Nat)
  /-- the register window: offset from its first address -/
  | window (off : Nat)
  | unmapped
  deriving DecidableEq, Repr

/-- The region of an address (R33, R34, R41). -/
def State.region (s : State) (a : Nat) : Region :=
  if a < 2 ^ 46 then (if a < s.map.act.top then .t0 a else .unmapped)
  else if 0x0010000000000000 ≤ a ∧ a < 0x0020000000000000 then
    let o := a - 0x0010000000000000
    let seg := bitsOf o 21 31
    if s.map.act.committed && decide (seg < s.map.act.t1Segs) then .t1 seg (bitsOf o 12 9) (bitsOf o 6 6) else .unmapped
  else if a < 0x00FF000000000000 then .unmapped
  else
    let o := a - 0x00FF000000000000
    if o < 0x1010000 then .window o
    else if 0x2000000 ≤ o ∧ o < 0x4000000 then .window o
    else .unmapped

/-- First Tier 1 address of a segment (R41, R517). -/
def segAddr (seg : Nat) : Nat := 0x0010000000000000 + seg * 2 ^ 21

/-- Tier 1 address of a sub-block. -/
def subAddr (seg sub : Nat) : Nat := segAddr seg + sub * 2 ^ 12

/-- The Tier 0 line a staged Tier 1 line lies in (R41). -/
def MapSet.stageLine (m : MapSet) (slot sub line : Nat) : Nat :=
  (m.stageBase * 2 ^ 20 + slot * 2 ^ 21 + sub * 2 ^ 12) / 64 + line

/-- Reach of a Tier 0 line (R38). -/
def reachOfLine (line : Nat) : Nat := line / 2 ^ 24

/-- Leaf of a Tier 0 line (R38). -/
def leafOfLine (line : Nat) : Nat := line / 64

/-- Reach of a leaf. -/
def reachOfLeaf (leaf : Nat) : Nat := leaf / 2 ^ 18

/-- First byte of a leaf, its leaf address (R517). -/
def leafAddr (leaf : Nat) : Nat := leaf * 4096

/-- First byte of a line, its line address (R517). -/
def lineAddr (line : Nat) : Nat := line * 64

/-- Populated Reaches. -/
def MapSet.reaches (m : MapSet) : Nat := m.top / 2 ^ 30

/-- Populated leaves. -/
def MapSet.leaves (m : MapSet) : Nat := m.top / 4096

/-- Populated leaves outside the carve region. -/
def MapSet.dataLeaves (m : MapSet) : Nat := Nat.min m.top m.carveAt / 4096

/-- Staging slots of the committed set. -/
def MapSet.stageSlots (m : MapSet) : Nat := m.stageSize / 2

/-! ### Commit -/

/-- The set MAP_COMMIT would apply: the shadow registers (R46). -/
def State.candidate (s : State) : MapSet where
  committed := true
  width8 := s.flag 0x040000 8
  hash := s.flag 0x040000 7
  rowBits := s.fld 0x040000 4 2
  cidBits := s.fld 0x040000 2 2
  rankBits := s.fld 0x040000 0 2
  carveBase := s.fld 0x040010 0 16
  logBase := s.fld 0x040014 0 32
  logEntries := s.fld 0x040018 0 6
  segtBase := s.fld 0x04001C 0 32
  t1Segs := s.fld 0x040020 0 32
  stageBase := s.fld 0x040024 0 32
  stageSize := s.fld 0x040028 0 32
  remapBase := s.fld 0x04002C 0 32
  remapSize := s.fld 0x040030 0 32
  redoBase := s.fld 0x040034 0 32
  redoSize := s.fld 0x040038 0 32
  csmap := (List.range 16).map fun n => s.reg (0x040100 + 4 * n)

/-- The live fields of one chip-select map obey R40. -/
def csmapOk (w : Word) (ranks : Nat) : Bool :=
  let fs := (List.range ranks).map fun i => field w (4 * i) 4
  fs.all (fun f => f < 8) && (fs.map (· % 4)).eraseDups.length == ranks

/-- The four structures of the carve region as (first byte, size) (R44). -/
def MapSet.structs (m : MapSet) : List (Nat × Nat) :=
  [ (m.logBase * 2 ^ 20, 2 ^ m.logEntries * 32),
    (m.segtBase * 2 ^ 20, (m.t1Segs * 32 + (2 ^ 21 - 1)) / 2 ^ 21 * 2 ^ 21),
    (m.stageBase * 2 ^ 20, m.stageSize * 2 ^ 20),
    (m.remapBase * 2 ^ 20, m.remapSize * 2 ^ 20) ]

/-- Whether two structures overlap. -/
def overlaps (x y : Nat × Nat) : Bool := decide (Nat.max x.1 y.1 < Nat.min (x.1 + x.2) (y.1 + y.2))

/-- Whether two of the structures overlap (R43). -/
def anyOverlap (l : List (Nat × Nat)) : Bool :=
  match l with
  | [] => false
  | x :: r => r.any (overlaps x) || anyOverlap r

/-- The first failing check of a set, 0 where it is valid (R46). A redo area wholly above MAP_T0_TOP is outside the carve
region too, as R43 asks, but no Tier 0 line: it fails as PLACE (DESIGN CHOICE, entry 66). -/
def MapSet.check (m : MapSet) : Nat :=
  let cap := m.capacity
  let carve := m.carveAt
  if m.rowBits = 3 || m.cidBits = 3 || m.rankBits = 3 || !(m.csmap.all fun w => csmapOk w (2 ^ m.rankBits)) then 1
  else if carve ≥ cap then 2
  else if !(m.structs.all fun x => decide (carve ≤ x.1) && decide (x.1 + x.2 ≤ cap))
      || (m.redoSize != 0 && decide ((m.redoBase + m.redoSize) * 2 ^ 20 > carve)) then 3
  else if anyOverlap m.structs then 4
  else if m.logBase * 2 ^ 20 % (2 ^ m.logEntries * 32) ≠ 0 || m.segtBase % 2 ≠ 0 || m.stageBase % 2 ≠ 0 then 5
  else if m.logEntries < 20 || m.logEntries > 32 || m.stageSize % 2 ≠ 0 || m.stageSize < 64 || m.remapSize < 1
      || m.remapSize > 64 || m.redoSize > 4096 then 6
  else if m.t1Segs = 0 || m.t1Segs > 2 ^ 31 then 7
  else 0

/-! ### Reach table -/

/-- The Reach entry of a Reach (R47). -/
def State.reach (s : State) (r : Nat) : DWord := agetD s.map.reach r 0

/-- The Reach a reservation's granule lies in. -/
def Resv.reach (x : Resv) : Nat := x.granule * 2 ^ x.gran / 2 ^ 24

/-- The state with a Reach entry set; a change of the entry loses the reservations on its Reach (R49, R95). -/
def State.setReach (s : State) (r : Nat) (v : DWord) : State :=
  let kept (l : List Resv) : List Resv := if s.reach r = v then l else l.filter fun x => x.reach != r
  { s with map := { s.map with reach := aputD s.map.reach r v 0 }
           atu := { s.atu with resv := kept s.atu.resv, resvPend := kept s.atu.resvPend } }

/-- STATE of a Reach: 0 UNM, 1 LOCAL, 2 TWIN (R47). -/
def State.reachState (s : State) (r : Nat) : Nat := bitsOf (s.reach r).toNat 0 2

/-- FWD of a Reach. -/
def State.reachFwd (s : State) (r : Nat) : Bool := (s.reach r).getLsbD 6

/-- The Reaches of the carve region are held in state UNM (R43). -/
def State.carveUnm (s : State) : State :=
  (s.map.reach.filter fun x => decide (s.map.act.carveBase ≤ x.1) && bitsOf x.2.toNat 0 2 != 0).foldl
    (fun t x => t.setReach x.1 (x.2 &&& ~~~3#64)) s

/-- MAP_COMMIT.GO in Reset or Sighting (R43, R46). -/
def State.mapCommit (s : State) : State :=
  let m := s.candidate
  let code := m.check
  if code = 0 then
    ({ s with map := { s.map with act := m, commitErr := 0 } }).carveUnm.event 0x040048 4
  else ({ s with map := { s.map with commitErr := BitVec.ofNat 4 code } }).event 0x040048 5

/-- INSTEP of a Reach. -/
def State.reachInStep (s : State) (r : Nat) : Bool := (s.reach r).getLsbD 7

/-- EPOCH of a Reach. -/
def State.reachEpoch (s : State) (r : Nat) : Word := (s.reach r).extractLsb' 32 32

/-- A Reach entry of an epoch, state, FWD and INSTEP. -/
def mkReach (epoch : Word) (st : Nat) (fwd inStep : Bool) : DWord :=
  BitVec.ofNat 64 (epoch.toNat * 2 ^ 32 + (if inStep then 128 else 0) + (if fwd then 64 else 0) + st % 4)

/-- Set or clear INSTEP of a Reach. -/
def State.setInStep (s : State) (r : Nat) (b : Bool) : State :=
  s.setReach r ((s.reach r &&& ~~~0x80#64) ||| (if b then 0x80#64 else 0#64))

/-- An epoch earlier than another under RFC 1982; values exactly 2^31 apart are each earlier (R516). -/
def epochEarlier (a b : Word) : Bool := a ≠ b && decide ((b - a).toNat ≤ 2 ^ 31)

/-- Whether a write of a Reach entry is refused (R48). -/
def State.reachRefused (s : State) (r : Nat) (v : DWord) : Bool :=
  decide (s.map.act.reaches ≤ r) || decide (s.map.act.carveBase ≤ r) || bitsOf v.toNat 0 2 == 3
    || epochEarlier (v.extractLsb' 32 32) (s.reachEpoch r)

/-! ### Leaves -/

/-- The Restore state of a leaf that is not listed (R174): ZERO ahead of the background walk, else PRESENT. -/
def MapState.leafDefault (m : MapState) (leaf : Nat) : Nat :=
  if m.restoring && decide (m.walk ≤ leaf) && decide (leaf < m.act.dataLeaves) then 3 else 0

/-- The Restore state of a leaf: 0 PRESENT, 1 ABSENT, 2 ABSENT_TWIN_ONLY, 3 ZERO (R174). -/
def State.leafState (s : State) (leaf : Nat) : Nat := agetD s.map.absent leaf (s.map.leafDefault leaf)

/-- The state with the Restore state of a leaf set. -/
def State.setLeaf (s : State) (leaf : Nat) (v : Nat) : State :=
  { s with map := { s.map with absent := aputD s.map.absent leaf v (s.map.leafDefault leaf) } }

/-- Leaves not PRESENT, VLT_LEFT (R182). -/
def State.leavesLeft (s : State) : Nat :=
  let m := s.map
  let deflt := if m.restoring then m.act.dataLeaves - m.walk else 0
  m.absent.foldl (fun n (l, v) =>
    if m.leafDefault l = 0 then (if v = 0 then n else n + 1) else (if v = 0 then n - 1 else n)) deflt

/-- The background walk moved on to a leaf: what lies before it is listed by its own state (R180). -/
def State.setWalk (s : State) (w : Nat) : State :=
  let m := { s.map with walk := w }
  { s with map := { m with absent := s.map.absent.filter fun x => x.2 != m.leafDefault x.1 } }

end Sys2Proof.Machine
end

