-- ==== Sys2Proof/Machine/Crypto.lean ====
section
/-! DEFINITION. The arithmetic the spec names by its standards: AES-256, XTS, GCM and GMAC, SHA-256 and CRC-32C
(R136, R341, R348–R350, R367, R465). Blocks are lists of byte values. -/

namespace Sys2Proof.Machine

/-- Bytewise XOR. -/
def xorBytes (a b : List Nat) : List Nat := List.zipWith Nat.xor a b

/-- The big-endian number of a list of byte values. -/
def beNat (l : List Nat) : Nat := l.foldl (fun n b => n * 256 + b) 0

/-- n big-endian byte values of a number. -/
def beBytes (n v : Nat) : List Nat := (List.range n).map fun i => (v >>> (8 * (n - 1 - i))) % 256

/-- n little-endian byte values of a number. -/
def leBytes (n v : Nat) : List Nat := (List.range n).map fun i => (v >>> (8 * i)) % 256

/-- The little-endian number of a list of byte values. -/
def leNat (l : List Nat) : Nat := l.foldr (fun b n => b + 256 * n) 0

/-! ### AES-256 -/

/-- The AES S-box, 32 entries to a number, entry 0 lowest. -/
def sboxWords : List Nat := [
  0xC072A49CAFA2D4ADF04759FA7DC982CA76ABD7FE2B670130C56F6BF27B777C63,
  0x75B227EBE28012079A059618C323C7041531D871F1E5A534CCF73F362693FDB7,
  0xCF584C4A39BECB6A5BB1FC20ED00D153842FE329B3D63B52A05A6E1B1A2C8309,
  0xD2F3FF1021DAB6BCF5389D928F40A351A89F3C507F02F94585334D43FBAAEFD0,
  0xDB0B5EDE14B8EE4688902A22DC4F816073195D643D7EA7C41744975FEC130CCD,
  0x08AE7A65EAF4566CA94ED58D6D37C8E779E4959162ACD3C25C2406490A3A32E0,
  0x9E1DC186B95735610EF6034866B53E708A8BBD4B1F74DDE8C6B4A61C2E2578BA,
  0x16BB54B00F2D99416842E6BF0D89A18CDF2855CEE9871E9B948ED9691198F8E1 ]

/-- The AES substitution of one byte. -/
def sbox (b : Nat) : Nat := (sboxWords.getD (b / 32) 0 >>> (8 * (b % 32))) % 256

/-- Multiplication by x in the AES field. -/
def xtime (b : Nat) : Nat := if b < 128 then 2 * b else Nat.xor (2 * b % 256) 0x1B

/-- The words of the AES-256 key schedule (FIPS 197): `n` words beyond those in `ws`, newest first. -/
def aesSchedule (n : Nat) (ws : List (List Nat)) (rcon : Nat) : List (List Nat) :=
  match n with
  | 0 => ws
  | k + 1 =>
    let i := ws.length
    let t := ws.getD 0 []
    let t1 := if i % 8 = 0 then
        xorBytes ((t.drop 1 ++ t.take 1).map sbox) [rcon, 0, 0, 0]
      else if i % 8 = 4 then t.map sbox else t
    aesSchedule k (xorBytes (ws.getD 7 []) t1 :: ws) (if i % 8 = 0 then xtime rcon else rcon)

/-- Lists of n elements each. -/
def chunks {α : Type} (n : Nat) (fuel : Nat) (l : List α) : List (List α) :=
  match fuel with
  | 0 => []
  | k + 1 => if l.isEmpty then [] else l.take n :: chunks n k (l.drop n)

/-- The 15 round keys of a 32-byte key. -/
def aesKeys (key : List Nat) : List (List Nat) :=
  let ws := (aesSchedule 52 (chunks 4 8 key).reverse 1).reverse
  (chunks 4 15 ws).map List.flatten

/-- ShiftRows. -/
def shiftRows (s : List Nat) : List Nat :=
  (List.range 16).map fun i => s.getD ((i + 4 * (i % 4)) % 16) 0

/-- MixColumns on one column. -/
def mixColumn (c : List Nat) : List Nat :=
  let t := c.foldl Nat.xor 0
  (List.range 4).map fun i =>
    let a := c.getD i 0
    Nat.xor (Nat.xor a t) (xtime (Nat.xor a (c.getD ((i + 1) % 4) 0)))

/-- The rounds of AES after the first key addition. -/
def aesRounds (ks : List (List Nat)) (s : List Nat) : List Nat :=
  match ks with
  | [] => s
  | [k] => xorBytes (shiftRows (s.map sbox)) k
  | k :: r => aesRounds r (xorBytes ((chunks 4 4 (shiftRows (s.map sbox))).map mixColumn).flatten k)

/-- AES-256 of one 16-byte block under a 32-byte key. -/
def aes (key block : List Nat) : List Nat :=
  match aesKeys key with
  | [] => block
  | k :: r => aesRounds r (xorBytes block k)

/-- The inverse substitution: the byte whose substitution is given. -/
def invSbox (b : Nat) : Nat := ((List.range 256).find? fun a => sbox a = b).getD 0

/-- Multiplication in the AES field. -/
def aesMul (a b : Nat) : Nat :=
  (List.range 8).foldl (fun (acc : Nat × Nat) i =>
    (if (b >>> i) % 2 = 1 then Nat.xor acc.1 acc.2 else acc.1, xtime acc.2)) (0, a) |>.1

/-- Inverse ShiftRows. -/
def invShiftRows (s : List Nat) : List Nat :=
  (List.range 16).map fun i => s.getD ((i + 12 * (i % 4)) % 16) 0

/-- Inverse MixColumns on one column. -/
def invMixColumn (c : List Nat) : List Nat :=
  (List.range 4).map fun i =>
    Nat.xor (Nat.xor (aesMul (c.getD i 0) 14) (aesMul (c.getD ((i + 1) % 4) 0) 11))
      (Nat.xor (aesMul (c.getD ((i + 2) % 4) 0) 13) (aesMul (c.getD ((i + 3) % 4) 0) 9))

/-- The rounds of the inverse cipher, the round keys given from the last. -/
def aesInvRounds (ks : List (List Nat)) (s : List Nat) : List Nat :=
  match ks with
  | [] => s
  | [k] => xorBytes ((invShiftRows s).map invSbox) k
  | k :: r =>
    aesInvRounds r ((chunks 4 4 (xorBytes ((invShiftRows s).map invSbox) k)).map invMixColumn).flatten

/-- The inverse of AES-256 of one block. -/
def aesInv (key block : List Nat) : List Nat :=
  match (aesKeys key).reverse with
  | [] => block
  | k :: r => aesInvRounds r (xorBytes block k)

/-! ### XTS (R348) -/

/-- T·α in GF(2^128), IEEE 1619. -/
def xtsDouble (t : List Nat) : List Nat :=
  let n := 2 * leNat t
  leBytes 16 (if n < 2 ^ 128 then n else Nat.xor (n % 2 ^ 128) 0x87)

/-- One XTS data unit: each 16-byte block through `f`, between its tweak values. -/
def xtsBlocks (f : List Nat → List Nat) (t : List Nat) (bs : List (List Nat)) : List Nat :=
  match bs with
  | [] => []
  | b :: r => xorBytes (f (xorBytes b t)) t ++ xtsBlocks f (xtsDouble t) r

/-- The bytes of a 512-bit key (R341, R344). -/
def keyBytes (k : BitVec 512) : List Nat := leBytes 64 k.toNat

/-- XTS-AES-256 encryption of a line under a slot's key, the data unit number being the line index (R348). -/
def xtsEncrypt (key : BitVec 512) (line : Nat) (p : Line) : Line :=
  let kb := keyBytes key
  BitVec.ofNat 512 (leNat (xtsBlocks (aes (kb.take 32)) (aes (kb.drop 32) (leBytes 16 line)) (chunks 16 4 (leBytes 64 p.toNat))))

/-- XTS-AES-256 decryption of a line. -/
def xtsDecrypt (key : BitVec 512) (line : Nat) (c : Line) : Line :=
  let kb := keyBytes key
  BitVec.ofNat 512 (leNat (xtsBlocks (aesInv (kb.take 32)) (aes (kb.drop 32) (leBytes 16 line)) (chunks 16 4 (leBytes 64 c.toNat))))

/-! ### GCM and GMAC (NIST SP 800-38D, R349, R350) -/

/-- Multiplication in the GCM field; blocks as big-endian numbers. -/
def ghashMul (x y : Nat) : Nat :=
  ((List.range 128).foldl (fun (acc : Nat × Nat) i =>
    (if (x >>> (127 - i)) % 2 = 1 then Nat.xor acc.1 acc.2 else acc.1,
     if acc.2 % 2 = 1 then Nat.xor (acc.2 / 2) (0xE1 <<< 120) else acc.2 / 2)) (0, y)).1

/-- Bytes padded with zeros to whole blocks. -/
def padBlocks (l : List Nat) : List Nat := l ++ List.replicate ((16 - l.length % 16) % 16) 0

/-- GHASH of padded additional data and ciphertext with their lengths, under a hash subkey. -/
def ghash (h : Nat) (aad ct : List Nat) : Nat :=
  let bytes := padBlocks aad ++ padBlocks ct ++ beBytes 8 (8 * aad.length) ++ beBytes 8 (8 * ct.length)
  (chunks 16 (bytes.length / 16) bytes).foldl (fun y b => ghashMul (Nat.xor y (beNat b)) h) 0

/-- The counter-mode keystream blocks from a counter on. -/
def gctr (key : List Nat) (iv : Nat) (ctr : Nat) (bs : List (List Nat)) : List Nat :=
  match bs with
  | [] => []
  | b :: r => xorBytes b (aes key (beBytes 12 iv ++ beBytes 4 ctr)) ++ gctr key iv (ctr + 1) r

/-- The hash subkey H of K1 (R341). -/
def hashKey (key : List Nat) : Nat := beNat (aes key (List.replicate 16 0))

/-- The second hash subkey H2 of K1 (R341). -/
def hashKey2 (key : List Nat) : Nat := beNat (aes key (List.replicate 15 0 ++ [1]))

/-- The tag of additional data and ciphertext under a 96-bit IV. -/
def gcmTag (key : List Nat) (iv : Nat) (aad ct : List Nat) : Nat :=
  Nat.xor (ghash (hashKey key) aad ct) (beNat (aes key (beBytes 12 iv ++ beBytes 4 1)))

/-- GCM encryption: ciphertext and tag. -/
def gcmEncrypt (key : List Nat) (iv : Nat) (aad pt : List Nat) : List Nat × Nat :=
  let ct := gctr key iv 2 (chunks 16 (pt.length / 16 + 1) pt)
  (ct, gcmTag key iv aad ct)

/-- GCM decryption: the plaintext where the tag compares equal. -/
def gcmDecrypt (key : List Nat) (iv : Nat) (aad ct : List Nat) (tag : Nat) : Option (List Nat) :=
  if gcmTag key iv aad ct = tag then some (gctr key iv 2 (chunks 16 (ct.length / 16 + 1) ct)) else none

/-- K1 of a slot's key: the key GCM and GMAC use (R341). -/
def k1 (k : BitVec 512) : List Nat := (keyBytes k).take 32

/-- The synthetic IV of a vault leaf: G2 of its additional data in bits [91:0], 0x2 in [95:92] (R349, R350). -/
def leafIv (key : List Nat) (aad : List Nat) : Nat := ghash (hashKey2 key) aad [] % 2 ^ 92 + 2 * 2 ^ 92

/-- The GMAC of a vault leaf's additional data (R350). -/
def leafTag (key : List Nat) (aad : List Nat) : Nat := gcmTag key (leafIv key aad) aad []

/-- The key check value: the first three bytes of AES-K1 of sixteen bytes 0xFF, byte 0 in bits [23:16] (R341). -/
def keyCheck (k : BitVec 512) : Nat := beNat ((aes (k1 k) (List.replicate 16 0xFF)).take 3)

/-! ### CRC-32C and SHA-256 -/

/-- One bit of the reflected CRC-32C register (polynomial 0x1EDC_6F41). -/
def crcStep (c : Nat) : Nat := if c % 2 = 1 then Nat.xor (c / 2) 0x82F63B78 else c / 2

/-- One byte of the reflected CRC-32C register. -/
def crcByte (c b : Nat) : Nat := (List.range 8).foldl (fun c _ => crcStep c) (Nat.xor c b)

/-- CRC-32C of bytes (R465). -/
def crc32c (l : List Byte) : Word := BitVec.ofNat 32 (Nat.xor (l.foldl (fun c b => crcByte c b.toNat) 0xFFFFFFFF) 0xFFFFFFFF)

/-- The SHA-256 round constants, eight to a number, the first lowest. -/
def shaKWords : List Nat := [
  0xAB1C5ED5923F82A459F111F13956C25BE9B5DBA5B5C0FBCF71374491428A2F98,
  0xC19BF1749BDC06A780DEB1FE72BE5D74550C7DC3243185BE12835B01D807AA98,
  0x76F988DA5CB0A9DC4A7484AA2DE92C6F240CA1CC0FC19DC6EFBE4786E49B69C1,
  0x1429296706CA6351D5A79147C6E00BF3BF597FC7B00327C8A831C66D983E5152,
  0x92722C8581C2C92E766A0ABB650A735453380D134D2C6DFC2E1B213827B70A85,
  0x106AA070F40E3585D6990624D192E819C76C51A3C24B8B70A81A664BA2BFE8A1,
  0x682E6FF35B9CCA4F4ED8AA4A391C0CB334B0BCB52748774C1E376C0819A4C116,
  0xC67178F2BEF9A3F7A4506CEB90BEFFFA8CC7020884C8781478A5636F748F82EE ]

/-- SHA-256 round constant t. -/
def shaK (t : Nat) : Word := BitVec.ofNat 32 (shaKWords.getD (t / 8) 0 >>> (32 * (t % 8)))

/-- The SHA-256 initial hash value. -/
def shaInit : List Word :=
  (List.range 8).map fun i => BitVec.ofNat 32 (0x5BE0CD191F83D9AB9B05688C510E527FA54FF53A3C6EF372BB67AE856A09E667 >>> (32 * i))

/-- The message schedule, newest word first. -/
def shaSchedule (n : Nat) (ws : List Word) : List Word :=
  match n with
  | 0 => ws
  | k + 1 =>
    let a := ws.getD 14 0
    let b := ws.getD 1 0
    let s0 := a.rotateRight 7 ^^^ a.rotateRight 18 ^^^ (a >>> 3)
    let s1 := b.rotateRight 17 ^^^ b.rotateRight 19 ^^^ (b >>> 10)
    shaSchedule k ((ws.getD 15 0 + s0 + ws.getD 6 0 + s1) :: ws)

/-- The 64 rounds over the schedule. -/
def shaRounds (t : Nat) (ws : List Word) (h : List Word) : List Word :=
  match ws with
  | [] => h
  | w :: r =>
    let a := h.getD 0 0
    let b := h.getD 1 0
    let c := h.getD 2 0
    let e := h.getD 4 0
    let f := h.getD 5 0
    let g := h.getD 6 0
    let s1 := e.rotateRight 6 ^^^ e.rotateRight 11 ^^^ e.rotateRight 25
    let t1 := h.getD 7 0 + s1 + ((e &&& f) ^^^ (~~~e &&& g)) + shaK t + w
    let s0 := a.rotateRight 2 ^^^ a.rotateRight 13 ^^^ a.rotateRight 22
    let t2 := s0 + ((a &&& b) ^^^ (a &&& c) ^^^ (b &&& c))
    shaRounds (t + 1) r [t1 + t2, a, b, c, h.getD 3 0 + t1, e, f, g]

/-- One block of SHA-256. -/
def shaBlock (h : List Word) (block : List Nat) : List Word :=
  let ws := (chunks 4 16 block).map fun b => (BitVec.ofNat 32 (beNat b) : Word)
  List.zipWith (· + ·) h (shaRounds 0 (shaSchedule 48 ws.reverse).reverse h)

/-- SHA-256 of bytes: the 32 digest bytes. -/
def sha256 (l : List Byte) : List Nat :=
  let n := l.length
  let msg := l.map (·.toNat) ++ [0x80] ++ List.replicate ((119 - n % 64) % 64) 0 ++ beBytes 8 (8 * n)
  ((chunks 64 (msg.length / 64) msg).foldl shaBlock shaInit).flatMap fun w => beBytes 4 w.toNat

end Sys2Proof.Machine
end

