-- ==== Sys2Proof/Machine/LineCode.lean ====
section
/-! DEFINITION. The line code: RS(10,8) over GF(2^8), the poison pattern, and the decision between the hypotheses
(R265–R271). -/

namespace Sys2Proof.Machine

/-- Multiplication in GF(2^8) with field polynomial 0x11D (R265). -/
def gfMul (a b : Byte) : Byte :=
  ((List.range 8).foldl (fun (acc : Byte × Byte) i =>
    (if b.getLsbD i then acc.1 ^^^ acc.2 else acc.1,
     if acc.2.getLsbD 7 then (acc.2 <<< 1) ^^^ 0x1D else acc.2 <<< 1)) (0, a)).1

/-- α^n, α being 0x02 (R265). -/
def alphaPow (n : Nat) : Byte :=
  match n with
  | 0 => 1
  | k + 1 => gfMul (alphaPow k) 2

/-- The syndromes S0 and S1 of ten symbols, position 0 first (R265). -/
def syndrome (cw : List Byte) : Byte × Byte :=
  let xs := cw.zipIdx
  (xs.foldl (fun a x => a ^^^ x.1) 0, xs.foldl (fun a x => a ^^^ gfMul x.1 (alphaPow x.2)) 0)

/-- The codeword of eight data bytes: the check symbols that make both syndromes zero (R265). 0xF4 is the inverse of
1 + α. -/
def codeword (data : List Byte) : List Byte :=
  let s := syndrome ([0, 0] ++ data)
  let c1 := gfMul (s.1 ^^^ s.2) 0xF4
  [s.1 ^^^ c1, c1] ++ data

/-- The ten symbols of codeword j of a line as stored; a poisoned line has 0xA5 on both check symbols (R267). -/
def storedWord (l : Line) (pois : Bool) (j : Nat) : List Byte :=
  match codeword ((List.range 8).map fun i => lineByte l (8 * j + i)) with
  | a :: b :: r => if pois then (a ^^^ 0xA5) :: (b ^^^ 0xA5) :: r else a :: b :: r
  | w => w

/-- Where a symbol of codeword j travels (R266): for its bits [3:0] and [7:4] the beat and the first of four pins, DQ[31:0]
being pins 0 to 31 and CB[7:0] pins 32 to 39. -/
def symbolPins (width8 : Bool) (j p : Nat) : (Nat × Nat) × (Nat × Nat) :=
  if width8 then
    let beat := 2 * j + p % 2
    let pin := if p < 2 then 32 else 8 * ((p - 2) / 2)
    ((beat, pin), (beat, pin + 4))
  else
    let pin := if p < 2 then 32 + 4 * p else 4 * (p - 2)
    ((2 * j, pin), (2 * j + 1, pin))

/-- What an error pattern of a burst does to a symbol: the pattern holds 16 beats of 40 pins, beat 0 lowest, a beat's pins in
ascending order. -/
def symbolError (width8 : Bool) (err : BitVec 640) (j p : Nat) : Byte :=
  let x := symbolPins width8 j p
  err.extractLsb' (40 * x.2.1 + x.2.2) 4 ++ err.extractLsb' (40 * x.1.1 + x.1.2) 4

/-- The symbols of codeword j as read: the stored burst with the error pattern of the read on it. -/
def readWord (width8 : Bool) (l : Line) (pois : Bool) (err : BitVec 640) (j : Nat) : List Byte :=
  (storedWord l pois j).zipIdx.map fun x => x.1 ^^^ symbolError width8 err j x.2

/-- How one codeword looks under one hypothesis (R268). -/
inductive Fit where
  | zero
  | error (pos : Nat)
  | bad
  deriving DecidableEq, Repr

/-- The fit of a syndrome: zero, a locatable single error, at the marked position where there is a mark, or neither
(R265, R268, R271). -/
def fitOf (s : Byte × Byte) (mark : Option Nat) : Fit :=
  if s.1 = 0 ∧ s.2 = 0 then .zero
  else if s.1 = 0 then .bad
  else match mark with
    | some m => if s.2 = gfMul s.1 (alphaPow m) then .error m else .bad
    | none =>
      match (List.range 10).find? fun i => s.2 = gfMul s.1 (alphaPow i) with
      | some i => .error i
      | none => .bad

/-- The outcome of a line's decode (R268): with corrected data, the line and the position corrected in each codeword. -/
inductive Decoded where
  | clean (l : Line)
  | corrected (l : Line) (pos : List Nat)
  | poisoned
  | bad
  deriving DecidableEq, Repr

/-- A codeword corrected at its fit's position by its S0. -/
def correctWord (cw : List Byte) (f : Fit) : List Byte :=
  match f with
  | .error p => cw.set p ((cw.getD p 0) ^^^ (syndrome cw).1)
  | _ => cw

/-- The line the codewords hold. -/
def wordsLine (cws : List (List Byte)) : Line := bytesLine (cws.flatMap fun c => c.drop 2)

/-- ECC's decision on eight codewords as read (R268). -/
def decodeWords (cws : List (List Byte)) (mark : Option Nat) : Decoded :=
  let syn := cws.map syndrome
  let fd := syn.map fun s => fitOf s mark
  let fp := syn.map fun s => fitOf (s.1, s.2 ^^^ 0xF2) mark
  let okD := fd.all (· != .bad)
  let okP := fp.all (· != .bad)
  let errs (l : List Fit) : Nat := (l.filter (· != .zero)).length
  let data := wordsLine (List.zipWith correctWord cws fd)
  let pos := fd.filterMap fun f => match f with | .error p => some p | _ => none
  if fd.all (· == .zero) then .clean (wordsLine cws)
  else if okD && (!okP || decide (errs fd < errs fp)) then .corrected data pos
  else if okP then .poisoned
  else .bad

/-- The decode of a stored line read with an error pattern (R268). -/
def decodeLine (width8 : Bool) (l : Line) (pois : Bool) (err : BitVec 640) (mark : Option Nat) : Decoded :=
  decodeWords ((List.range 8).map (readWord width8 l pois err)) mark

end Sys2Proof.Machine
end

