-- ==== Sys2Proof/Machine/LineStore.lean ====
section
/-! DEFINITION. Where a Tier 0 line lies in DRAM after row remapping and sparing, the stored lines, and the coherent
view of a line: its newest write entry, else DRAM (R74, R189, R282, R284). -/

namespace Sys2Proof.Machine

/-! ### Physical location -/

/-- The key of a row in the remap directory: channel, subchannel, chip select, chip ID, bank group, bank, row (R282). -/
def rowKey (l : Loc) : Loc := { l with col := 0, rank := 0 }

/-- The remap entry of a location's row: the directory is keyed on the chip select that serves it (R282). -/
def State.remapOf (s : State) (l : Loc) : Option Remap := s.ecc.remaps.find? fun r => r.row == rowKey l

/-- Slots of the remap region (R282). -/
def MapSet.poolSlots (m : MapSet) : Nat := Nat.min 1024 (127 * m.remapSize)

/-- The Tier 0 line of one line of a pool slot (R282). -/
def MapSet.poolLine (m : MapSet) (slot col : Nat) : Nat :=
  (m.remapBase * 2 ^ 20 + m.remapSize * 2 ^ 20 / 128 + slot * 8192) / 64 + col

/-- Bank number of a location: bank group × 4 + bank. -/
def bankNo (l : Loc) : Nat := l.bg * 4 + l.bank

/-- Position of a line in the ascending order of a copied bank or rank of one subchannel (R284). -/
def MapSet.copyPos (m : MapSet) (rankKind : Bool) (l : Loc) : Nat :=
  (((if rankKind then l.cid * 32 + bankNo l else l.cid) * 2 ^ m.row) + l.row) * m.rowLines + l.col

/-- The location a position of that order names. -/
def MapSet.copyLoc (m : MapSet) (g : Migration) (sub cs : Nat) (pos : Nat) : Loc :=
  let col := pos % m.rowLines
  let row := pos / m.rowLines % 2 ^ m.row
  let u := pos / m.rowLines / 2 ^ m.row
  let bk := if g.rankKind then u % 32 else g.bank
  { sub := Fin.ofNat 32 (2 * g.ch.val + sub), cs := cs, rank := g.rank, cid := if g.rankKind then u / 32 else u,
    bg := bk / 4, bank := bk % 4, row := row, col := col }

/-- The migration that moves a location's line, with its line below the pointer. -/
def State.movedBy (s : State) (l : Loc) : Option Migration :=
  s.ecc.migrations.find? fun g => g.ch.val == l.sub.val / 2 && g.rank == l.rank
    && (g.rankKind || g.bank == bankNo l) && decide (s.map.act.copyPos g.rankKind l < g.pos)

/-- The spare chip select that serves a location's bank (R284). -/
def State.boundSpare (s : State) (l : Loc) : Option Nat :=
  match s.ecc.bindings.find? fun b => b.ch.val == l.sub.val / 2 && b.rank == l.rank && bit b.mask (bankNo l) with
  | some b => some b.spare
  | none => (s.movedBy l).map fun g => g.spare

/-- A location with the spare that serves its bank in place of its chip select. -/
def State.spared (s : State) (l : Loc) : Loc :=
  match s.boundSpare l with
  | some c => { l with cs := c }
  | none => l

/-- Where a Tier 0 line would be stored with an empty directory (R38, R284). -/
def State.homeOf (s : State) (line : Nat) : Loc := s.spared (s.map.act.loc line)

/-- Where a line of a pool slot is stored (R282, R284). -/
def State.slotLoc (s : State) (slot col : Nat) : Loc := s.homeOf (s.map.act.poolLine slot col)

/-- Where a Tier 0 line is stored: R38, then a sparing, then a directory hit, never two (R282, R284). -/
def State.locOf (s : State) (line : Nat) : Loc :=
  let l := s.homeOf line
  match s.remapOf l with
  | some r => s.slotLoc r.slot l.col
  | none => l

/-! ### DRAM -/

/-- The number of a DRAM line: subchannel, chip select, chip ID, bank group, bank, row, line in the row. -/
def dramLine (l : Loc) : Nat :=
  ((((((l.sub.val * 4 + l.cs % 4) * 4 + l.cid % 4) * 8 + l.bg % 8) * 4 + l.bank % 4) * 2 ^ 18) + l.row % 2 ^ 18) * 128
    + l.col % 128

/-- The ciphertext line stored at a DRAM location, and whether it is stored as poisoned. -/
def State.dramRead (s : State) (l : Loc) : Line × Bool :=
  let k := dramLine l
  (bytesLine (memBytes s.mem (64 * k) 64), s.poison.contains k)

/-- DRAM with a line stored; a poisoned line is stored with its poison pattern (R267). -/
def State.dramWrite (s : State) (l : Loc) (d : Line) (pois : Bool) : State :=
  let k := dramLine l
  { s with mem := memPut s.mem (64 * k) (lineBytes d)
           poison := if pois then insertNat s.poison k else s.poison.filter (· != k) }

/-- The mark of a chip select: the symbol position of its marked device (R271). -/
def markKey (sub cs : Nat) : Nat := 4 * sub + cs

/-- The marked position that applies to a location. -/
def State.markOf (s : State) (l : Loc) : Option Nat := aget s.ecc.marks (markKey l.sub l.cs)

/-! ### The coherent view -/

/-- The newest write entry of a line in its subchannel's write queue (R189). -/
def newestEntry (q : List WEntry) (line : Nat) : Option WEntry := (q.filter fun e => e.line == line).getLast?

/-- The subchannel that serves a line. -/
def State.subOf (s : State) (line : Nat) : Sub := (s.locOf line).sub

/-- The newest write entry of a Tier 0 line, for where the line is stored now. -/
def State.writeEntry (s : State) (line : Nat) : Option WEntry :=
  let l := s.locOf line
  newestEntry ((s.sub l.sub).wq.filter fun e => e.loc == l) line

/-- The line as the next read of it would find it, ciphertext and poison (R74). -/
def State.coherent (s : State) (line : Nat) : Line × Bool :=
  match s.writeEntry line with
  | some e => (e.data, e.pois)
  | none => s.dramRead (s.locOf line)

/-- The key of the XTS slot, where it holds one (R342, R348). -/
def State.xtsKey (s : State) : Option (BitVec 512) :=
  let k := s.keySlot s.xslot
  if k.loaded then some k.key else none

/-- The plaintext of a ciphertext line under the XTS slot (R348). -/
def State.plain (s : State) (line : Nat) (c : Line) : Option Line := s.xtsKey.map fun k => xtsDecrypt k line c

/-- The ciphertext of a plaintext line under the XTS slot (R348). -/
def State.cipher (s : State) (line : Nat) (p : Line) : Option Line := s.xtsKey.map fun k => xtsEncrypt k line p

/-- A logical rank marked failed in CHS_RANKFAIL (R192, R285): keyed by subchannel. -/
def State.rankFailed (s : State) (l : Loc) : Bool := bitsOf (agetD s.ecc.rankFail l.sub 0) l.rank 1 == 1

/-- The CHS page of a channel (R207). -/
def chsPage (ch : Nat) : Nat := 0x100000 + ch * 0x10000

/-- A line whose requests are answered ERR_DEVICE at the enqueue port: it decodes, after a directory hit, to a failed rank or
a channel not enabled (R192, R282). -/
def State.deadLine (s : State) (line : Nat) : Bool :=
  let l := s.locOf line
  s.rankFailed l || !s.flag (chsPage (l.sub.val / 2)) 31

/-- Requests to a line are held: its row moves (R282). -/
def State.rowHeld (s : State) (line : Nat) : Bool := s.ecc.moves.any fun m => m.row == rowKey (s.homeOf line)

/-- A line in the heal table (R277). -/
def State.healing (s : State) (line : Nat) : Bool := s.ecc.heals.any fun h => h.lines.contains line

/-- A leaf whose marking writes are held for a heal (R150, R277). -/
def State.healHeld (s : State) (leaf : Nat) : Bool := s.ecc.heals.any fun h => h.leaf == leaf

end Sys2Proof.Machine
end

