-- ==== Sys2Proof/Machine/Telem.lean ====
section
/-! DEFINITION. TEL: the Chronometer's registers, the counters, the latches of the log and the trace, and the firmware
timer of the Lookout (R475–R492). -/

namespace Sys2Proof.Machine

/-! ### Chronometer -/

/-- What a Chronometer load does with its value (R475): none where it is below the current value. -/
def State.chrLoad (s : State) (v : Nat) : Option State :=
  let s1 := { s with tel := { s.tel with chrSetTaken := true } }
  if v < s.chron then none else some { s1 with chron := v }

/-- A PTP_SYNC edge that stays high long enough (R476); one closer than 1 ms to the edge before it is not captured (R507). -/
def State.ptpEdge (s : State) : State :=
  let s1 := { s with pins := { s.pins with ptpEdgeAt := some s.chron } }
  let close : Bool := match s.pins.ptpEdgeAt with | some t => decide (s.chron < t + 1000000) | none => false
  if s.flag 0x010020 0 && !close then { s1 with tel := { s1.tel with ptpCap := s.chron, ptpFresh := true } } else s1

/-- REF − CAP as a signed 64-bit value (R476). -/
def State.ptpDelta (s : State) (ref : Nat) : Int := (BitVec.ofNat 64 ref - BitVec.ofNat 64 s.tel.ptpCap).toInt

/-- REFCLK periods from one correction of one nanosecond to the next (R476): the faster of HORIZON's rate and MAXPPM's
limit is not exceeded. -/
def State.slewPeriods (s : State) (ofs : Int) : Nat :=
  let ppm := Nat.min 200 (orOne (s.fld 0x010020 16 8))
  let horizon := orOne (s.fld 0x010020 24 8)
  let n := ofs.natAbs
  orOne (Nat.max ((100000 + ppm - 1) / ppm) (if n = 0 then 1 else horizon * 100000 / n))

/-- A write of TEL_PTP_REF at its HI word (R476). -/
def State.ptpRef (s : State) (ref : Nat) : State :=
  if !s.tel.ptpFresh then s
  else
    let ofs := s.ptpDelta ref
    let s1 := { s with tel := { s.tel with
      ptpFresh := false, ptpOfs := ofs, slewLeft := ofs, slewDiv := s.slewPeriods ofs, slewCount := 0 } }
    if ofs.natAbs > 1000 * orOne (s.fld 0x010020 1 15) then
      (s1.logE 0x0102 (srcInt 0x01) 0 (BitVec.ofInt 64 ofs).toNat).event 0x010100 8
    else s1

/-- TEL_PTP_OFS: the last OFS, saturating at 32 bits (R476). -/
def State.ptpOfsWord (s : State) : Word :=
  BitVec.ofInt 32 (if s.tel.ptpOfs > 2147483647 then 2147483647
    else if s.tel.ptpOfs < -2147483648 then -2147483648 else s.tel.ptpOfs)

/-! ### Counters -/

/-- Events of a counter group and its instances, per event where they differ (R478). -/
def counterListed (group event inst : Nat) : Bool :=
  match group with
  | 0x01 => decide (event < 7) && decide (inst < 16)
  | 0x02 => decide (event < 12) && decide (inst < 32)
  | 0x03 => decide (event < 15) && decide (inst < 32)
  | 0x04 => decide (event < 4) && decide (inst < 38)
  | 0x05 => decide (event < 3) && decide (inst < 32)
  | 0x06 => decide (event < 5) && decide (inst = 0)
  | 0x07 => decide (event < 4) && decide (inst < 16)
  | 0x08 => decide (event < 4) && decide (inst < 3)
  | 0x09 => (decide (event < 4) && decide (inst = 0)) || (decide (event = 4) && decide (inst < 64))
  | 0x0A => decide (event < 3) && decide (inst < 6)
  | _ => false

/-- A write of TEL_CSEL_k (R477). -/
def State.cselWrite (s : State) (k : Nat) (v : Word) : State :=
  if counterListed (field v 16 8) (field v 8 8) (field v 0 8) then
    { s with tel := { s.tel with counters := aput s.tel.counters k { sel := v } } }
  else s.event 0x010100 9

/-- TEL_CSEL_k as it reads. -/
def State.csel (s : State) (k : Nat) : Word := (agetD s.tel.counters k {}).sel

/-- TEL_CCTL.SNAP (R479). -/
def State.snap (s : State) : State := { s with tel := { s.tel with snapshot := s.tel.counters } }

/-- TEL_CCTL.CLEAR (R479). -/
def State.clearCounters (s : State) : State :=
  { s with tel := { s.tel with counters := s.tel.counters.map fun x => (x.1, { x.2 with value := 0, wrap := false }) } }

/-- TEL_CCTL: SNAP before CLEAR where one write holds both. -/
def State.cctlWrite (s : State) (v : Word) : State :=
  let s1 := if bit v 0 then s.snap else s
  if bit v 1 then s1.clearCounters else s1

/-- TEL_CNT_k_LO and HI, the snapshot of counter k (R479, R489). -/
def State.cntWord (s : State) (k : Nat) (hi : Bool) : Word :=
  let c := agetD s.tel.snapshot k {}
  if hi then c.value.extractLsb' 32 16 |>.setWidth 32 |> (· ||| bitAt c.wrap 31) else c.value.setWidth 32

/-! ### Log and trace latches -/

/-- Word w of a log entry (R480). -/
def LogEntry.word (e : LogEntry) (w : Nat) : Word :=
  match w with
  | 0 => loWord e.chron
  | 1 => hiWord e.chron
  | 2 => e.addr.setWidth 32
  | 3 => e.addr.extractLsb' 32 32
  | 4 => e.code ++ e.src
  | 5 => e.seq
  | 6 => e.info.setWidth 32
  | 7 => e.info.extractLsb' 32 32
  | _ => 0

/-- Word w of a trace entry (R485). -/
def TraceEntry.word (e : TraceEntry) (w : Nat) : Word :=
  match e with
  | .log l => l.word w
  | .request chron addr src op cls code tag lat =>
    match w with
    | 0 => loWord chron
    | 1 => hiWord chron
    | 2 => addr.setWidth 32
    | 3 => addr.extractLsb' 32 32
    | 4 => cls ++ op ++ src
    | 5 => tag ++ (0 : BitVec 12) ++ code
    | 6 => lat
    | _ => 0

/-- What a slot of the log nothing was written to holds. -/
def LogEntry.zero : LogEntry := ⟨0, 0, 0, 0, 0, 0⟩

/-- A read of word w of log slot k: word 0 loads the path's latch (R481). -/
def State.logRead (s : State) (p : Path) (k w : Nat) : Word × State :=
  if w = 0 then
    let e := agetD s.tel.log k LogEntry.zero
    let rest := s.tel.logLatch.filter fun x => x.1 != p
    (e.word 0, { s with tel := { s.tel with logLatch := rest ++ [(p, k, e)] } })
  else
    match s.tel.logLatch.find? fun x => x.1 == p with
    | some (_, j, e) => (if j = k then e.word w else 0, s)
    | none => (0, s)

/-- A read of TEL_TRC_Ww: word 0 loads the path's trace latch (R485). -/
def State.traceRead (s : State) (p : Path) (w : Nat) : Word × State :=
  if w = 0 then
    let e := aget s.tel.trace.slots (s.fld 0x01008C 0 12)
    let rest := s.tel.traceLatch.filter fun x => x.1 != p
    ((match e with | some t => t.word 0 | none => 0), { s with tel := { s.tel with traceLatch := rest ++ [(p, e)] } })
  else
    match s.tel.traceLatch.find? fun x => x.1 == p with
    | some (_, some t) => (t.word w, s)
    | _ => (0, s)

/-- TEL_TRC_CTL.ARM (R484): the buffer is emptied and capture starts under the configuration as it stands. -/
def State.traceArm (s : State) : State :=
  if s.flag 0x010080 31 then { s with tel := { s.tel with trace := { run := true, cfg := s.reg 0x010080 } } } else s

/-- TEL_TRC_CTL.STOP (R484). -/
def State.traceStop (s : State) : State :=
  { s with tel := { s.tel with trace := { s.tel.trace with run := false, remaining := none } } }

/-- TEL_TRC_CTL: ARM before STOP where one write holds both. -/
def State.trcCtlWrite (s : State) (v : Word) : State :=
  let s1 := if bit v 0 then s.traceArm else s
  if bit v 1 then s1.traceStop else s1

/-- TEL_TRC_STAT (R489). -/
def State.trcStat (s : State) : Word :=
  let t := s.tel.trace
  bitAt t.run 31 ||| bitAt t.triggered 30 ||| at_ t.next 16 12 ||| at_ t.count 0 13

/-- One more request in the trace, as its response forms (R484, R485). -/
def State.traceReq (s : State) (kind num cls level : Nat) (addr : Nat) (src : BitVec 16) (op : Nat) (code : Code)
    (tag : Nat) (accepted : Nat) : State :=
  if s.traces kind num cls then
    let lat := s.chron - accepted
    s.capture (.request accepted (BitVec.ofNat 64 addr) src (BitVec.ofNat 8 op)
      (BitVec.ofNat 8 (level * 16 + cls % 16)) code.bits (BitVec.ofNat 16 tag)
      (if lat ≥ 2 ^ 32 then 0xFFFFFFFF else BitVec.ofNat 32 lat))
  else s

/-! ### The Lookout's registers -/

/-- TEL_LKO_KICK (R486). -/
def State.kick (s : State) : State :=
  let ms := s.fld 0x0100C0 16 16
  if ms = 0 then s
  else { s with tel := { s.tel with kickRun := true, lastKick := s.chron, kickMs := ms, firmware := {} } }

/-- TEL_LKO_CFG written (R486, R492): the firmware timer starts or stops with KICK_MS. -/
def State.lkoWrite (s : State) (v : Word) : State :=
  let old := s.fld 0x0100C0 16 16
  let new := field v 16 16
  let s1 := s.setReg 0x0100C0 v
  if new = 0 then { s1 with tel := { s1.tel with kickRun := false, firmware := {} } }
  else if old = 0 then
    { s1 with tel := { s1.tel with kickRun := true, lastKick := s.chron, kickMs := new, firmware := {} } }
  else s1

/-- TEL_LKO_STAT (R489): the highest stage held, and the subjects at stage 1 or above. -/
def State.lkoStat (s : State) : Word :=
  let subj := s.tel.engines.map (fun x => x.2.stage) ++ s.tel.queues.map (fun x => x.2.stage) ++ [s.tel.firmware.stage]
  at_ (subj.foldl Nat.max 0) 16 2 ||| at_ (subj.filter (0 < ·)).length 0 8

end Sys2Proof.Machine
end

