-- ==== Sys2Proof/Machine/Bandwidth.lean ====
section
/-! DEFINITION. BWR: classes, charges, windows and their credit, the Chart, the admission check and the scaling of
minima (R295–R311). -/

namespace Sys2Proof.Machine

/-! ### Classes -/

/-- Class of a host request (R295): entry (port, label) of BWR_CMAP. -/
def State.hostClass (s : State) (p label : Nat) : Nat := s.fld (0x060400 + p * 0x20 + label / 8 * 4) (label % 8 * 4) 4

/-- Class of an engine's requests (R295, R310): that of its Watch. -/
def State.engineClass (s : State) (e : Nat) : Nat := s.fld 0x060008 (16 + 4 * (e / 8)) 4

/-- Class of the Mover (R310). -/
def State.moverClass (s : State) : Nat := s.fld 0x060008 12 4

/-- Class of DRE traffic to Tier 0 (R310). -/
def State.dreClass (s : State) : Nat := s.fld 0x060008 8 4

/-- Class of staging fills (R310). -/
def State.fillClass (s : State) : Nat := s.fld 0x060008 4 4

/-- Class of Restore refills (R310). -/
def State.refillClass (s : State) : Nat := s.fld 0x060008 0 4

/-- Charge of a write under its mask (R296). -/
def writeCharge (full : Bool) (mask : BitVec 64) : Nat := if full || mask == BitVec.allOnes 64 then 1 else 2

/-! ### Admission -/

/-- The level a class is admitted at when it is not lowered (R298). -/
def classLevel (cls : Nat) : Level := if cls = 15 then .high else .normal

/-- What R298 does with a classed request. -/
inductive Verdict where
  | admitted (l : Level)
  | held
  deriving DecidableEq, Repr

/-- Admit a request of a class with a charge, or hold it (R298, R299). -/
def State.admission (s : State) (cls charge : Nat) : Verdict × State :=
  let b := s.bwr
  if !s.flag 0x060000 31 then (.admitted (classLevel cls), s)
  else if charge ≤ b.credit.getD cls 0 then
    (.admitted (classLevel cls),
      ({ s with bwr := { b with credit := b.credit.set cls (b.credit.getD cls 0 - charge) } }).count 7 0 cls charge)
  else if charge ≤ b.pool then
    (.admitted (classLevel cls), ({ s with bwr := { b with pool := b.pool - charge } }).count 7 1 cls charge)
  else if s.cfg.mode.holds then (.held, s)
  else (.admitted .low, s.count 7 2 cls charge)

/-- BWR holds a request: BWR_STS.HELD where neither this window nor the one before held any (R298). -/
def State.noteHeld (s : State) : State :=
  let b := s.bwr
  ({ s with bwr := { b with heldThis := true } }).eventIf (!b.heldThis && !b.heldPrev) 0x060300 0

/-- A request that is held for the first time is counted for its class (R478). -/
def State.countHeld (s : State) (cls : Nat) : State := s.noteHeld.count 7 3 cls 1

/-- The class a request held at its source keeps (R295). -/
def State.keptClass (s : State) (h : Holder) : Option Nat := (s.bwr.kept.find? fun x => x.1 == h).map (·.2)

/-- Nothing is held for a source any more. -/
def State.unkeep (s : State) (h : Holder) : State := { s with bwr := { s.bwr with kept := s.bwr.kept.filter fun x => x.1 != h } }

/-- Admit the request of a source other than a port, or hold it there: it keeps the class it was held with (R295), and is
tried again when its source next goes on (DESIGN CHOICE, entry 79). -/
def State.admitAs (s : State) (h : Holder) (cls charge : Nat) : Option Level × State :=
  let c := (s.keptClass h).getD cls
  let v := s.admission c charge
  match v.1 with
  | .admitted l => (some l, v.2.unkeep h)
  | .held =>
    if (s.keptClass h).isSome then (none, s.noteHeld)
    else
      let t := s.countHeld c
      (none, { t with bwr := { t.bwr with kept := t.bwr.kept ++ [(h, c)] } })

/-! ### Deliverable bandwidth and reserves -/

/-- Data rate of a SGT_CFG.RATE code in MT/s (R232); zero for a reserved code. -/
def rateMT (code : Nat) : Nat :=
  match code with
  | 0 => 4800 | 1 => 5600 | 2 => 6400 | 3 => 7200 | 4 => 8000 | 5 => 8800
  | 8 => 8800 | 9 => 10400 | 10 => 12800
  | _ => 0

/-- The data rate in force in MT/s. -/
def State.dataRate (s : State) : Nat := rateMT (s.fld 0x080000 0 4)

/-- One CK of the channel in ns, host-side on MRDIMM (R232). -/
def State.ckNs (s : State) : Rat := 2000 / (s.dataRate : Rat)

/-- Channels with CHS_CFG.EN at 1. -/
def State.enabledChannels (s : State) : List Nat := (List.range 16).filter fun ch => s.flag (chsPage ch) 31

/-- D in bytes per second for an EFF value (R302). -/
def State.deliverable (s : State) (eff : Nat) : Rat :=
  let dram : Rat := (s.dataRate * 1000000 * 128 * s.enabledChannels.length * eff : Nat) / (16 * 256 : Rat)
  let xts : Rat := (53000000000 * s.activeCores : Nat)
  if dram ≤ xts then dram else xts

/-- The refresh mode: reserved code 3 is treated as FGR (R212). -/
def State.refMode (s : State) : Nat := if s.fld 0x070000 0 2 = 3 then 1 else s.fld 0x070000 0 2

/-- The hot tREFI in ns (R212). -/
def State.refiHot (s : State) : Nat := if s.refMode = 0 then 1950 else 975

/-- Busy time of one refresh in CK, the largest among the enabled channels (R303). -/
def State.refBusyCk (s : State) : Nat :=
  let f (ch : Nat) : Nat := match s.refMode with
    | 0 => s.fld (chsPage ch + 0x114) 0 12
    | 1 => s.fld (chsPage ch + 0x118) 0 12
    | _ => s.fld (chsPage ch + 0x114) 16 12
  (s.enabledChannels.map f).foldl Nat.max 0

/-- Chip selects of one subchannel: those of SGT_POP (R258). -/
def State.chipSelects (s : State) : Nat :=
  if s.sgt.discovered then (field s.sgt.pop 20 2 + 1) * field s.sgt.pop 18 2 else 0

/-- The retraining fraction f (R252). -/
def State.trainFraction (s : State) : Rat :=
  let osc := orOne (s.fld 0x080008 0 8)
  let pause := orOne (s.fld 0x080008 28 4)
  s.chipSelects * ((8 / 10000 : Rat) / osc + 16 * pause / 1000000)

/-- The system reserves in bytes per second at a deliverable figure (R303). -/
def State.reserves (s : State) (d : Rat) (set : BwrSet) : Rat :=
  let ref := if s.dataRate = 0 then 0 else d * (s.refBusyCk * s.ckNs) / s.refiHot
  let snd : Rat := (s.map.act.top : Rat) / (orOne (s.fld 0x0A0000 0 16) * 3600)
  ref + d * s.trainFraction + snd + (set.drain + set.mirin : Nat) * 1000000000

/-- Failed logical ranks, each counted once for its channel (R285, R305). -/
def State.failedRanks (s : State) : Nat :=
  ((List.range 16).map fun ch =>
    ((List.range 4).filter fun r => (agetD s.ecc.rankFail (2 * ch) 0).testBit r
      || (agetD s.ecc.rankFail (2 * ch + 1) 0).testBit r).length).sum

/-- Channels with a sparing copy in progress. -/
def State.copyingChannels (s : State) : Nat := (s.ecc.migrations.map fun g => g.ch).eraseDups.length

/-- PACE of a monitor. -/
def State.paceOf (s : State) (m : Nat) : Nat := (agetD s.tel.pace m {}).pace.toNat

/-- A figure or zero where it is negative. -/
def posPart (r : Rat) : Rat := if r < 0 then 0 else r

/-- The pace loss of the channels of monitor 2 or 3 (R305). -/
def State.channelPaceLoss (s : State) (m : Nat) (d : Rat) : Rat :=
  let en := s.enabledChannels
  let mine := (en.filter fun ch => ch / 8 = m - 2).length
  if s.paceOf m ≤ s.fld 0x010820 0 12 || en.isEmpty || s.dataRate = 0 then 0
  else
    let dec : Rat := (4 / 10 : Rat) * s.paceOf m / 1024
    let slot : Rat := if 8 * s.ckNs ≤ 2 * dec then 2 * dec else 8 * s.ckNs
    posPart (d * mine / en.length - (2 * mine * 64 : Nat) * 1000000000 / slot)

/-- The pace loss of the host ports (R305). -/
def State.portPaceLoss (s : State) (d : Rat) : Rat :=
  if s.paceOf 0 ≤ s.fld 0x010820 0 12 then 0
  else posPart (d - (16 * 64 : Nat) * 1000000000 / ((45 / 100 : Rat) * s.paceOf 0 / 1024))

/-- Vault writes completed in the last millisecond. -/
def State.vaultRecent (s : State) : Nat := (s.bwr.vaultTimes.filter fun t => decide (s.chron < t + 1000000)).length

/-- Run-time deliverable bandwidth and the causes of its loss: RANK, COPY, PACE, DEEP_PORT in bits 0 to 3 (R305). -/
def State.runTime (s : State) (set : BwrSet) : Rat × BitVec 4 :=
  let d := s.deliverable set.eff
  let rank : Rat := d / 16 / (2 ^ s.map.act.rankBits : Nat) * s.failedRanks
  let gbs := Nat.min 16 (orOne (s.fld 0x090004 24 8))
  let copy : Rat := (4 * gbs * 1000000000 * s.copyingChannels : Nat)
  let pace := s.channelPaceLoss 2 d + s.channelPaceLoss 3 d + s.portPaceLoss d
  let rm : Rat := (s.vaultRecent * 4096 * 1000 : Nat)
  let drn : Rat := (set.drain * 1000000000 : Nat)
  let deep := if s.plg.d < s.plg.w then posPart (drn - rm) else 0
  let b (c : Rat) (k : Nat) : BitVec 4 := if 0 < c then BitVec.ofNat 4 (2 ^ k) else 0
  (posPart (d - rank - copy - pace - deep), b rank 0 ||| b copy 1 ||| b pace 2 ||| b deep 3)

/-- W of a set in ns (R297). -/
def BwrSet.window (set : BwrSet) : Nat := (if set.win = 0 then 64 else Nat.min 64 set.win) * 250

/-- H and N_res of a set in lines per window, at the run-time deliverable figure, and the causes (R302–R305). -/
def State.figures (s : State) (set : BwrSet) : Nat × Nat × BitVec 4 :=
  let r := s.runTime set
  let w : Rat := (set.window : Rat) / 1000000000
  ((r.1 * w / 64).floor.toNat, (s.reserves r.1 set * w / 64).ceil.toNat, r.2)

/-- The shadow set (R304). -/
def State.bwrShadow (s : State) : BwrSet where
  win := s.fld 0x060000 16 6
  eff := orOne (s.fld 0x060000 8 8)
  drain := s.fld 0x060004 0 16
  mirin := s.fld 0x060004 16 16
  min := (List.range 16).map fun c => s.fld (0x060040 + 4 * c) 0 20

/-- BWR_COMMIT.GO (R304): the admission check; a set that passes is applied at the next window boundary. -/
def State.bwrCommitGo (s : State) : State :=
  let set := s.bwrShadow
  let f := s.figures set
  let need := f.2.1 + set.min.sum
  let b := { s.bwr with need := need, have_ := f.1 }
  if need ≤ f.1 then { s with bwr := { b with pend := some set } }
  else ({ s with bwr := b }).event 0x060300 2

/-- BWR_CHART_COMMIT.GO (R301): the swap waits for the next window boundary. -/
def State.chartCommitGo (s : State) : State := { s with bwr := { s.bwr with chartPend := true } }

/-- The shadow Chart as its 64 entries (R308). -/
def State.shadowChart (s : State) : List Byte :=
  (List.range 64).map fun k => BitVec.ofNat 8 (s.fld (0x060100 + k / 4 * 4) (k % 4 * 8) 8)

/-! ### Windows and slots -/

/-- The class an enabled Chart entry names. -/
def chartClass (e : Byte) : Option Nat := if e.getLsbD 7 then some (e.toNat % 16) else none

/-- n_c: the enabled slots among some Chart entries that name a class. -/
def slotsOf (chart : List Byte) (c : Nat) : Nat := chart.countP fun e => chartClass e == some c

/-- The instalment of a slot (R297): the class and its lines. -/
def Bwr.instalment (b : Bwr) (k : Nat) : Option (Nat × Nat) :=
  (chartClass (b.chart.getD k 0)).map fun c =>
    let n := slotsOf b.chart c
    let m := b.scaled.getD c 0
    (c, m / n + if slotsOf (b.chart.take k) c < m % n then 1 else 0)

/-- The credit with a slot's instalment given. -/
def Bwr.giveSlot (b : Bwr) (k : Nat) : Bwr :=
  match b.instalment k with
  | some (c, n) => { b with credit := b.credit.set c (b.credit.getD c 0 + n) }
  | none => b

/-- S of R306 for a set at the run-time figures. Where no minimum but that of class 15 is set and not even that fits, the
spec divides by zero; S is 0 (DESIGN CHOICE, entry 79). -/
def scaleOf (set : BwrSet) (h nres : Nat) : Nat :=
  let low := (set.min.take 15).sum
  let a : Int := (h : Int) - nres - set.min.getD 15 0
  if a ≥ low then 1024 else (1024 * a.toNat) / low

/-- The minima as scaled (R306). -/
def scaledMin (set : BwrSet) (sc : Nat) : List Nat :=
  (List.range 16).map fun c => if c = 15 then set.min.getD 15 0 else set.min.getD c 0 * sc / 1024

/-- The window boundary (R297, R301, R304–R306): a pending set and Chart become active, the minima are scaled, all
credit is discarded, the pool is set and slot 0 gives its credit. -/
def State.bwrBoundary (s : State) : State :=
  let b0 := s.bwr
  let b1 := match b0.pend with
    | some set => { b0 with act := set, pend := none }
    | none => b0
  let b2 := if b1.chartPend then { b1 with chart := s.shadowChart, chartPend := false } else b1
  let s1 := { s with bwr := b2 }
  let s2 := (s1.eventIf b0.pend.isSome 0x060300 1).eventIf b0.chartPend 0x060300 5
  let f := s2.figures b2.act
  let sc := scaleOf b2.act f.1 f.2.1
  let m := scaledMin b2.act sc
  let first := decide (sc < 1024) && (b2.scale == 1024 || decide (sc + 64 ≤ b2.lastLogged))
  let restored := sc == 1024 && decide (b2.scale < 1024)
  let info := sc + f.2.2.toNat * 2 ^ 16
  let s3 := s2.eventIf (decide (sc < 1024)) 0x060300 3
  let s4 := if first then s3.logE 0x0601 (srcInt 0x06) 0 info
    else if restored then (s3.logE 0x0602 (srcInt 0x06) 0 sc).event 0x060300 4 else s3
  let credit := (List.range 16).map fun c => if slotsOf b2.chart c = 0 then m.getD c 0 else 0
  let b3 := { b2 with
    hRun := f.1, scale := sc, causes := f.2.2, scaled := m, slot := 0, start := s.chron
    lastLogged := if first then sc else if restored then 1024 else b2.lastLogged
    credit := credit, pool := f.1 - f.2.1 - m.sum
    heldPrev := b2.heldThis, heldThis := false }
  { s4 with bwr := b3.giveSlot 0 }

/-- The next window boundary: the first multiple of W that is later than the last one and not before now (R297). -/
def State.nextBoundary (s : State) : Nat :=
  let w := s.bwr.act.window
  Nat.max ((s.chron + w - 1) / w * w) ((s.bwr.start / w + 1) * w)

/-- The start of the next slot of the window (R297): at slot 48 the unused credit moves to the pool, then the slot
gives its instalment. -/
def State.bwrNextSlot (s : State) : State :=
  let b := s.bwr
  let k := b.slot + 1
  let b1 := if k = 48 then { b with pool := b.pool + b.credit.sum, credit := List.replicate 16 0 } else b
  { s with bwr := ({ b1 with slot := k }).giveSlot k }

/-- BWR_SCALE (R308). -/
def State.bwrScaleWord (s : State) : Word := at_ s.bwr.causes.toNat 16 4 ||| at_ s.bwr.scale 0 11

end Sys2Proof.Machine
end

