-- ==== Sys2Proof/Machine/Cipher.lean ====
section
/-! DEFINITION. The key port, the key slots and the cores of CPH (R339–R347, R356–R358). -/

namespace Sys2Proof.Machine

/-! ### Slots -/

/-- The session slot, TWN_CFG.KSLOT (R342). -/
def State.sessionSlot (s : State) : Nat := s.fld 0x0D0000 16 6

/-- The slots that become bound with CFG_LOCK (R342). -/
def State.boundNames (s : State) : List Nat := [s.xslot, s.fld 0x0F0000 16 6, s.fld 0x0E0000 16 6]

/-- A bound slot (R342). -/
def State.boundSlot (s : State) (k : Nat) : Bool := s.locked && s.boundNames.contains k

/-- The state with a key slot set. -/
def State.setKeySlot (s : State) (k : Nat) (v : KeySlot) : State := s.updCph fun c => { c with slots := aputD c.slots k v {} }

/-- A slot is zeroed (R345, R358): jobs under it are aborted, and a key it held as XTS slot is lost to Tier 0. -/
def State.zeroSlot (s : State) (k : Nat) : State :=
  let old := s.keySlot k
  let under (j : KeyJob) : Bool := j.slot.val == k && !j.aborted
  let n := s.cph.jobs.countP under + s.cph.contexts.countP fun x => under x.job
  let s1 := s.setKeySlot k { spent := old.spent }
  let s2 := s1.updCph fun c => { c with
    jobs := mapIf c.jobs (fun j => j.slot.val == k) fun j => { j with aborted := true }
    contexts := mapIf c.contexts (fun x => x.job.slot.val == k) fun x => { x with job := { x.job with aborted := true } } }
  let s3 := if n = 0 then s2 else (s2.logE 0x0B04 (srcInt 0x0B) 0 (k + n * 2 ^ 16)).event 0x0B0300 6
  if k = s.xslot && old.loaded then ((s3.logE 0x0B05 (srcInt 0x0B) 0 k).event 0x0B0300 8).setCause 4 else s3

/-! ### The key port -/

/-- The answer on the key port's response channel (R344). -/
def State.keyAnswer (s : State) (k : Fin 64) (code : BitVec 3) : State := s.updCph fun c => { c with answer := some (k, code) }

/-- A refusal on the key port (R345). -/
def State.keyRefuse (s : State) (k : Fin 64) (code : BitVec 3) : State :=
  ((s.logE 0x0B02 (srcInt 0x0B) 0 (k.val + code.toNat * 2 ^ 8)).event 0x0B0300 5).keyAnswer k code

/-- K1 and K2 of a key are equal. -/
def equalHalves (key : BitVec 512) : Bool := key.extractLsb' 0 256 == key.extractLsb' 256 256

/-- LOAD256 or LOAD512 (R345). -/
def State.loadKey (s : State) (k : Fin 64) (key : BitVec 512) (wide : Bool) : State :=
  if s.cfg.mode = .save then s.keyRefuse k 5
  else if s.boundSlot k && (s.keySlot k).spent then s.keyRefuse k 1
  else if k.val = s.sessionSlot && s.twn.link ≠ 0 then s.keyRefuse k 2
  else if wide && equalHalves key then s.keyRefuse k 3
  else
    let kept := if wide then key else (key.extractLsb' 0 256).setWidth 512
    ((s.setKeySlot k { key := kept, loaded := true, wide := wide, fresh := true, spent := true }).event 0x0B0300 4).keyAnswer k 0

/-- ZERO on the key port (R345). -/
def State.keyPortZero (s : State) (k : Fin 64) : State := (s.zeroSlot k).keyAnswer k 0

/-! ### Cores -/

/-- A core is given a state. -/
def State.setCore (s : State) (c : Nat) (v : CoreState) : State := s.updCph fun x => { x with cores := x.cores.set c v }

/-- A core fails (R357); a spare that fails outside the pool only leaves the spares. -/
def State.coreFails (s : State) (c : Nat) : State :=
  match s.cph.cores[c]? with
  | some .active =>
    let s1 := s.setCore c .failed
    match (List.range 38).find? fun k => s1.cph.cores[k]? == some .spare with
    | some k =>
      let s2 := s1.setCore k .active
      let s3 := (s2.logE 0x0B06 (srcInt 0x0B) 0 (c + k * 2 ^ 8)).event 0x0B0300 2
      if s3.activeCores < 32 then s3.setCause 2 else s3
    | none =>
      let s2 := (s1.logE 0x0B07 (srcInt 0x0B) 0 (c + s1.activeCores * 2 ^ 16)).event 0x0B0300 3
      if s2.activeCores < 32 then s2.setCause 2 else s2
  | some .spare => s.setCore c .failed
  | _ => s

/-- A core fault (R356): it is counted, the operation runs again on another core, and FAULT_MAX of them within 1 s fail the
core. -/
def State.coreFault (s : State) (c : Nat) : State :=
  if s.cph.cores[c]? != some .active then s
  else
    let times := ((agetD s.cph.coreTimes c []).filter fun t => decide (s.chron ≤ t + 1000000000)) ++ [s.chron]
    let s1 := (s.updCph fun x => { x with faults := satAdd x.faults 1, coreTimes := aput x.coreTimes c times }).event 0x0B0300 1
    if orOne (s.fld 0x0B0004 8 8) ≤ times.length then s1.coreFails c else s1

/-- A known-answer run of a core in service (R356). -/
def State.coreKat (s : State) (c : Nat) (pass : Bool) : State :=
  if s.cph.cores[c]? != some .active then s
  else
    let s1 := s.until_ (s.cph.lastKat + orOne (s.fld 0x0B0004 24 8) * 1000000)
    let s2 := s1.updCph fun x => { x with lastKat := s1.chron }
    if pass then s2 else s2.coreFails c

end Sys2Proof.Machine
end

