-- ==== Sys2Proof/Machine/Refresh.lean ====
section
/-! DEFINITION. RPM: refresh debt, rolling activation counts, the row trackers and targeted refreshes (R212–R225). -/

namespace Sys2Proof.Machine

/-! ### Banks -/

/-- The key of a bank of one subchannel: chip select, chip ID, bank group and bank. -/
def bankKey (l : Loc) : Nat := (l.cs * 4 + l.cid) * 32 + bankNo l

/-- The chip select a bank key lies in. -/
def keyCs (k : Nat) : Nat := k / 128

/-- The bank address of a bank key: the same-bank commands reach it in every bank group (R212). -/
def keyBank (k : Nat) : Nat := k % 4

/-! ### Limits and intervals -/

/-- The limit of R212 on postponing and pulling in. -/
def State.refLimit (s : State) : Nat := if s.refMode = 0 then 4 else 8

/-- POSTPONE in force. -/
def State.postpone (s : State) : Int := (Nat.min (s.fld 0x070000 4 4) s.refLimit : Nat)

/-- PULLIN in force. -/
def State.pullin (s : State) : Int := (Nat.min (s.fld 0x070000 8 4) s.refLimit : Nat)

/-- The thermal state of a channel. -/
def State.therm (s : State) (ch : Nat) : Thermal := agetD s.thermal ch {}

/-- tREFI of a channel in ns (R212, R216). -/
def State.refi (s : State) (ch : Nat) : Nat := if (s.therm ch).hot then s.refiHot else 2 * s.refiHot

/-- RPM_CSEN bit of a chip select of a subchannel. -/
def State.csen (s : State) (c cs : Nat) : Bool := s.flag (0x070100 + c / 2 * 4) (4 * (c % 2) + cs)

/-- Chip selects of a subchannel whose RPM_CSEN bit is set. -/
def State.csList (s : State) (c : Nat) : List Nat := (List.range 4).filter (s.csen c)

/-! ### Debt -/

/-- The debt of a chip select (R213). -/
def RpmSub.debtOf (r : RpmSub) (cs : Nat) : Int := agetD r.debt cs 0

/-- POSTPONE of a chip select: a change governs from its next tick (R227). -/
def State.postAt (s : State) (c cs : Nat) : Int :=
  match aget (s.rpmSub c).limits cs with | some x => x.1 | none => s.postpone

/-- PULLIN of a chip select: a change governs from its next tick (R227). -/
def State.pullAt (s : State) (c cs : Nat) : Int :=
  match aget (s.rpmSub c).limits cs with | some x => x.2 | none => s.pullin

/-- The account with a debt kept in its range (R213). -/
def State.setDebt (s : State) (c cs : Nat) (d : Int) : State :=
  let r := s.rpmSub c
  s.setRpm c { r with debt := aputD r.debt cs (Max.max (-s.pullAt c cs) (Min.min (s.postAt c cs) d)) 0 }

/-- The accounts of a chip select are kept (R221). -/
def State.counts (s : State) (c cs : Nat) : Bool := !(s.rpmSub c).off.contains cs

/-- A chip select is refreshed: its RPM_CSEN bit is set (R212), or was at its last tick, as a bit that is cleared acts from the
next one (R221). -/
def State.refreshed (s : State) (c cs : Nat) : Bool :=
  s.csen c cs || (s.counts c cs && (aget (s.rpmSub c).ticked cs).isSome)

/-- A refresh of a chip select is due (R215): its debt stands at POSTPONE, or a pause was asked and it is not yet pulled
in (R223). -/
def State.refDue (s : State) (c cs : Nat) : Bool :=
  let r := s.rpmSub c
  s.refreshed c cs && (decide (s.postAt c cs ≤ r.debtOf cs) || (r.pauseAsked && decide (-s.pullAt c cs < r.debtOf cs)))

/-- The next tREFI tick of a chip select (R213): the ticks of a subchannel are staggered by tREFI over their number. A change
of tREFI governs from the next tick (R216). -/
def State.nextTick (s : State) (c cs : Nat) : Nat :=
  let t := agetD (s.rpmSub c).refiAt cs (s.refi (c / 2))
  let l := s.csList c
  let off := (l.takeWhile (· != cs)).length * (t / Nat.max 1 l.length)
  let grid (x : Nat) : Nat := (x - off + t - 1) / t * t + off
  Nat.max (grid s.chron) (grid (agetD (s.rpmSub c).ticked cs 0 + 1))

/-- A tREFI tick (R213, R215, R223, R227). -/
def State.refTick (s : State) (c cs : Nat) : State :=
  let r := s.rpmSub c
  let d := r.debtOf cs
  let s1 := (s.setRpm c { r with
    ticked := aput r.ticked cs s.chron, limits := aput r.limits cs (s.postpone, s.pullin)
    refiAt := aput r.refiAt cs (s.refi (c / 2)), off := r.off.filter (· != cs) }).setDebt c cs (d + 1)
  let now := decide (s.postpone ≤ d + 1)
  let cut := now && (s.sub c).pause
  let s2 := s1.eventIf (s1.refDue c cs && !s.refDue c cs) 0x070300 1
  if cut then
    ((s2.setSub c { s2.sub c with pause := false }).logE 0x0703 (srcInt 0x07) 0 (infoCs c 0)).event 0x070300 4
  else s2

/-- A tREFI tick of a chip select whose RPM_CSEN bit is clear: its accounting and its RFM stop (R221). -/
def State.offTick (s : State) (c cs : Nat) : State :=
  let r := s.rpmSub c
  s.setRpm c { r with
    ticked := aput r.ticked cs s.chron, off := insertNat r.off cs, debt := adel r.debt cs, limits := adel r.limits cs
    targeted := r.targeted.filter fun t => t.loc.cs != cs }

/-! ### Activation counts -/

/-- RPM_RAA.MMT. -/
def State.raaMmt (s : State) : Nat := s.fld 0x07000C 16 9

/-- RPM_RAA.IMT. -/
def State.raaImt (s : State) : Nat := s.fld 0x07000C 0 9

/-- RPM_RFM.EN. -/
def State.rfmOn (s : State) : Bool := s.flag 0x070008 31

/-- RAA of a bank (R217). -/
def RpmSub.raaOf (r : RpmSub) (k : Nat) : Nat := agetD r.raa k 0

/-- RAA of the banks that satisfy `p` lowered, not below zero. -/
def RpmSub.lower (r : RpmSub) (p : Nat → Bool) (n : Nat) : RpmSub :=
  { r with raa := (r.raa.map fun x => if p x.1 then (x.1, x.2 - n) else x).filter fun x => x.2 != 0 }

/-- A bank's RAA has reached MMT (R217), whatever RPM_RFM.EN. -/
def State.raaAtMax (s : State) (c k : Nat) : Bool := s.counts c (keyCs k) && decide (s.raaMmt ≤ (s.rpmSub c).raaOf k)

/-- A bank takes no further ACT: its RAA has reached MMT with RFM on (R218); a chip select that RFM has left has none
(R221). -/
def State.raaFull (s : State) (c k : Nat) : Bool := s.rfmOn && s.raaAtMax c k

/-! ### Row trackers -/

/-- The entry with the lowest count of a tracker, the first of several. -/
def lowestTrack (l : List Track) : Option Track :=
  match l with
  | [] => none
  | t :: r => match lowestTrack r with
    | some u => if u.count < t.count then some u else some t
    | none => some t

/-- A tracker after an ACT to a row, and the row's count (R219). -/
def trackAct (l : List Track) (row : Nat) : List Track × Nat :=
  match l.find? fun t => t.row == row with
  | some t => (mapIf l (fun x => x.row == row) fun x => { x with count := x.count + 1 }, t.count + 1)
  | none =>
    if l.length < 16 then (l ++ [⟨row, 1⟩], 1)
    else match lowestTrack l with
      | some m => (l.map fun x => if x.row = m.row then ⟨row, m.count + 1⟩ else x, m.count + 1)
      | none => (l, 1)

/-- A row recorded as repaired (R221). -/
def State.repairedRow (s : State) (l : Loc) : Bool :=
  s.sgt.sppr.any (fun r => rowKey r == rowKey l) || s.ecc.remaps.any fun r => r.row == rowKey l && r.ppr == .done

/-- The victims of a row: those of r ± 1 to r ± BLAST that lie inside the bank (R220). -/
def State.victims (s : State) (row blast : Nat) : List Nat :=
  let low := ((List.range blast).map fun i => blast - i).filterMap fun d => if d ≤ row then some (row - d) else none
  let high := (List.range blast).filterMap fun i =>
    if row + i + 1 < 2 ^ s.map.act.row then some (row + i + 1) else none
  low ++ high

/-- The targeted refresh RPM queues for a row (R220, R221); with TMODE OFF none. -/
def State.newTargeted (s : State) (l : Loc) : Option Targeted :=
  let w := s.reg 0x070010
  let tm := field w 30 2
  let blast := if field w 28 2 ≤ 1 then 1 else 2
  let slack := orOne (field w 16 12)
  if s.repairedRow l then
    some { loc := l, slack := slack, rows := [], rfmLeft := true }
  else match tm with
    | 0 => some { loc := l, slack := slack, rows := s.victims l.row blast, rfmLeft := false }
    | 1 => some { loc := l, slack := slack, rows := [], rfmLeft := true }
    | 2 => some { loc := l, slack := slack, rows := s.victims l.row blast, rfmLeft := true }
    | _ => none

/-- Two locations lie in one row of one bank. -/
def sameRow (a b : Loc) : Bool := bankKey a == bankKey b && a.row == b.row

/-- A queued targeted refresh counts an ACT to its aggressor row and becomes due at its SLACK (R220). -/
def Targeted.countAct (t : Targeted) (l : Loc) : Targeted :=
  if sameRow t.loc l then { t with acts := t.acts + 1, due := t.due || decide (t.slack ≤ t.acts + 1) } else t

/-- Targeted refreshes with the due ones in front, the earliest due first (R222). -/
def dueFirst (old new : List Targeted) : List Targeted :=
  let n := (old.filter (·.due)).length
  (new.take n) ++ ((new.drop n).filter (·.due)) ++ (new.drop n).filter (!·.due)

/-- The accounts of an ACT (R217, R219, R220), where they are kept (R221). -/
def State.noteAct (s : State) (c : Nat) (l : Loc) : State :=
  if !s.counts c l.cs then s
  else
    let r := s.rpmSub c
    let k := bankKey l
    let tr := trackAct (agetD r.track k []) l.row
    let hit := decide (orOne (s.fld 0x070010 0 16) ≤ tr.2)
    let entries := if hit then mapIf tr.1 (fun x => x.row == l.row) fun x => { x with count := 0 } else tr.1
    let counted := dueFirst r.targeted (r.targeted.map fun t => t.countAct l)
    let newDue := (counted.filter (·.due)).length > (r.targeted.filter (·.due)).length
    let queue := if hit then (match s.newTargeted l with | some t => counted ++ [t] | none => counted) else counted
    let s1 := s.setRpm c
      { r with raa := aputD r.raa k (r.raaOf k + 1) 0, track := aput r.track k entries, targeted := queue }
    let s2 := if hit then { s1 with rpmTrig := satAdd s1.rpmTrig 1 } else s1
    s2.eventIf newDue 0x070300 2

/-- An ACT to the aggressor row of a due targeted refresh is not legal (R220), but for one that only awaits an RFMsb while
RPM_RFM.EN at 0 lets none be issued (R218; DESIGN CHOICE, entry 78). -/
def State.aggressor (s : State) (c : Nat) (l : Loc) : Bool :=
  (s.rpmSub c).targeted.any fun t => t.due && sameRow t.loc l && (!t.rows.isEmpty || s.rfmOn)

/-- Every tracker of a channel is cleared (R219). -/
def State.clearTrackers (s : State) (ch : Nat) : State :=
  let z (s : State) (c : Nat) : State := s.setRpm c { s.rpmSub c with track := [] }
  z (z s (2 * ch)) (2 * ch + 1)

/-- The interval of the clears of a channel in ns (R219). -/
def State.clearInterval (s : State) (ch : Nat) : Nat := if (s.therm ch).hot then 16000000 else 32000000

/-! ### Launched refresh commands -/

/-- REFab of a chip select (R213, R217). -/
def State.noteRefAb (s : State) (c cs : Nat) : State :=
  let r := s.rpmSub c
  (s.setRpm c (r.lower (fun k => keyCs k == cs) (s.fld 0x070008 0 9))).setDebt c cs (r.debtOf cs - 1)

/-- REFsb of a chip select to the next bank address of its set (R213, R217). -/
def State.noteRefSb (s : State) (c cs : Nat) : State :=
  let r := s.rpmSub c
  let b := agetD r.setPos cs 0
  let r1 := r.lower (fun k => keyCs k == cs && keyBank k == b) (s.fld 0x070008 0 9)
  let s1 := s.setRpm c { r1 with setPos := aputD r.setPos cs ((b + 1) % 4) 0 }
  if b = 3 then s1.setDebt c cs (r.debtOf cs - 1) else s1

/-- RFMab of a chip select (R217); the block's own refresh management is by RFMsb (R218). -/
def State.noteRfmAb (s : State) (c cs : Nat) : State :=
  let r := (s.rpmSub c).lower (fun k => keyCs k == cs) s.raaImt
  { s.setRpm c r with rpmRfm := satAdd s.rpmRfm 1 }

/-- RFMsb to a bank address of a chip select (R217). -/
def State.noteRfm (s : State) (c cs bank : Nat) : State :=
  let r := (s.rpmSub c).lower (fun k => keyCs k == cs && keyBank k == bank) s.raaImt
  { s.setRpm c r with rpmRfm := satAdd s.rpmRfm 1 }

/-- The first targeted refresh of an aggressor row changed, or dropped where `f` gives none. -/
def updTargetedList (l : List Targeted) (a : Loc) (f : Targeted → Option Targeted) : List Targeted :=
  match l with
  | [] => []
  | t :: r =>
    if sameRow t.loc a then (match f t with | some u => u :: r | none => r) else t :: updTargetedList r a f

/-- A queued targeted refresh moves on. -/
def State.updTargeted (s : State) (c : Nat) (a : Loc) (f : Targeted → Option Targeted) : State :=
  let r := s.rpmSub c
  s.setRpm c { r with targeted := updTargetedList r.targeted a f }

end Sys2Proof.Machine
end

