-- ==== Sys2Proof/Machine/Persist.lean ====
section
/-! DEFINITION. PLG: the mark directory, the Log ring, the dirty budget, the Waypoint, the Anchor and the fences
(R102–R123). -/

namespace Sys2Proof.Machine

/-! ### The Log ring and the budget -/

/-- N, the entries of the Log ring (R106). -/
def State.ringN (s : State) : Nat := 2 ^ s.map.act.logEntries

/-- PLG_BUDGET.LEAVES. -/
def State.budget (s : State) : Nat := s.fld 0x0C0004 0 29

/-- PLG_BUSED: live entries whose drain has not been credited (R110, R111). -/
def Plg.bused (p : Plg) : Nat := p.w - p.d - p.drained.length

/-- Log occupancy W − A (R121). -/
def Plg.occupancy (p : Plg) : Nat := p.w - p.a

/-- The Log index the mark directory names for a leaf (R103). -/
def Plg.markOf (p : Plg) (leaf : Nat) : Option Nat := (p.marks.find? fun m => m.1 == leaf).map fun m => m.2.1

/-- The directory without a leaf. -/
def Plg.unmark (p : Plg) (leaf : Nat) : Plg := { p with marks := p.marks.filter fun m => m.1 != leaf }

/-- The directory with a leaf entered: a full set of 16 ways evicts the way entered least recently (R103). -/
def Plg.enterMark (p : Plg) (leaf idx : Nat) : Plg :=
  let set := if p.marks.length < 16 then [] else
    p.marks.filter fun m => Config.markSet m.1 == Config.markSet leaf
  let marks := match set with
    | [] => p.marks
    | _ => if set.length < 16 then p.marks else
        let old := set.foldl (fun a m => Nat.min a m.2.2) p.markOrder
        p.marks.filter fun m => m.2.2 != old
  let gone := (p.marks.filter fun m => !marks.contains m).map fun m => (m.1, m.2.1)
  { p with marks := marks ++ [(leaf, idx, p.markOrder)], markOrder := p.markOrder + 1, evicted := p.evicted ++ gone }

/-- A leaf was evicted from the directory while its Log entry is live still (R104). -/
def Plg.remarks (p : Plg) (leaf : Nat) : Bool :=
  p.evicted.any fun x => x.1 == leaf && decide (p.d ≤ x.2) && !p.drained.contains x.2

/-- A leaf enters the address array of the dirty-mark queue, which holds 256 (R21). -/
def Plg.noteMark (p : Plg) (leaf : Nat) : Plg := { p with markArr := (p.markArr ++ [leaf]).drop (p.markArr.length + 1 - 256) }

/-- A marking write to a leaf may be accepted: it hits in the directory, or the budget and the ring have room
(R111, R121). -/
def State.budgetOk (s : State) (leaf : Nat) : Bool :=
  (s.plg.markOf leaf).isSome
    || (decide (s.plg.bused < s.budget) && decide (s.plg.occupancy < s.ringN))

/-- A marking write is held for the dirty budget: its status bit (R111). -/
def State.noteBudgetHold (s : State) : State :=
  let p := s.plg
  let full := decide (s.budget ≤ p.bused)
  ({ s with plg := { p with budgetFull := p.budgetFull || full } }).eventIf (full && !p.budgetFull) 0x0C0100 0

/-! ### The Anchor -/

/-- A as R120 derives it: the lowest valid pin at most D, or D; A never moves backwards. -/
def Plg.anchor (p : Plg) : Nat :=
  Nat.max p.a ((p.pins.filter fun x => decide (x.2 ≤ p.d)).foldl (fun a x => Nat.min a x.2) p.d)

/-- The valid-pin bitmap (R121). -/
def Plg.pinMap (p : Plg) : Nat := p.pins.foldl (fun n x => n + 2 ^ x.1) 0

/-- URGENT sixteenths of the budget (R112). -/
def State.urgentAt (s : State) (n : Nat) : Nat := n * s.budget / 16

/-- Drain read entries take class 15 precedence while `urgent` holds (R112, R193). -/
def relevelDrain (urgent : Bool) (q : List REntry) : List REntry :=
  q.map fun e => match e.dest with
    | .drain _ _ => { e with level := if urgent then .high else .normal }
    | _ => e

/-- The level of drain traffic in the write stream of the deep port (R332). -/
def drainPort (save urgent : Bool) : Nat := if save then 1 else if urgent then 2 else 3

/-- Drain WRITEs that wait for the deep port follow the level of drain, and in Save write-behind WRITEs are Save traffic
(R112, R332). -/
def relevelPort (level : Nat) (l : List DpCmd) : List DpCmd :=
  l.map fun c => match c.owner with
    | .drain _ => { c with level := level }
    | .vaultMeta _ => if level = 1 then { c with level := 1 } else c
    | _ => c

/-- PLG after a change of W, D, a pin or the charge: the Anchor, the occupancy events, the hold timer and the urgency
of drain (R112, R120, R121). -/
def State.plgRefresh (s : State) : State :=
  let p := s.plg
  let a := p.anchor
  let n := s.ringN
  let occ := p.w - a
  let press := decide (occ * 8 ≥ 7 * n)
  let u := orOne (s.fld 0x0C0000 0 4)
  let urgent := if p.bused * 16 ≥ u * s.budget then true
    else if p.bused * 16 < (u - 1) * s.budget then false else p.urgent
  let logIt := press && !p.pressure && decide (0 < occ)
  let p1 := { p with
    a := a
    ring := p.ring.filter fun x => decide (a ≤ x.1)
    pressure := if press then decide (0 < occ) || p.pressure else if occ * 4 < 3 * n then false else p.pressure
    holdSince := if occ ≥ n then (match p.holdSince with | some t => some t | none => some s.chron) else none
    urgent := urgent
    budgetFull := p.budgetFull && decide (s.budget ≤ p.bused) }
  let s1 := { s with plg := p1 }
  let s2 := if urgent == p.urgent then s1
    else
      let save := s.cfg.mode == .save
      { s1 with
        subs := s1.subs.map fun x => (x.1, { x.2 with rq := relevelDrain (urgent || save) x.2.rq })
        dti := { s1.dti with wstream := relevelPort (drainPort save urgent) s1.dti.wstream } }
  let s3 := s2.eventIf (decide (n ≤ occ) && p.holdSince.isNone) 0x0C0100 2
  if logIt then (s3.logE 0x0C03 (srcInt 0x0C) 0 p1.pinMap).event 0x0C0100 1 else s3

/-! ### The Waypoint -/

/-- WPT and WPV as R116 defines them, never decreasing. -/
def State.wayRefresh (s : State) : State :=
  let p := s.plg
  let wpt := match s.twn.shipped with
    | [] => p.wpl
    | x :: _ => x - 1
  let live := if p.d < p.w then (match aget p.ring p.d with | some r => r.seq - 1 | none => p.wpl) else p.wpl
  let wpv := match p.wpvHold with
    | some h => Nat.min h live
    | none => live
  { s with plg := { p with wpt := Nat.max p.wpt wpt, wpv := Nat.max p.wpv wpv } }

/-! ### Acceptance of a marking write -/

/-- The label of the descriptor an engine has in progress: its memory requests carry it (R418). -/
def State.engineLabel (s : State) (e : Nat) : BitVec 6 :=
  match (s.engine e).desc with
  | some d => BitVec.ofNat 6 (d.bytes.getD 2 0).toNat
  | none => 0

/-- Requester fields of a Log entry: LABEL, REQ and SRC (R106). -/
def State.logFields (s : State) : Requester → BitVec 6 × Byte × BitVec 3
  | .host p _ l => (l, BitVec.ofNat 8 p, 0)
  | .engine e => (s.engineLabel e, BitVec.ofNat 8 e, 1)
  | .mover e => (s.engineLabel e, 0, 2)
  | .mirror _ => (0, 0, 3)
  | .refill => (0, 0, 4)
  | .agent _ => (0, 0, 0)

/-- The next Waypoint sequence given to a write at acceptance (R115). -/
def State.nextSeq (s : State) : Nat := s.plg.wpl + 1

/-- A Log entry for a leaf, with the SEQ given, is appended, and the leaf enters the directory (R103, R104). -/
def State.appendLog (s : State) (who : Requester) (leaf seq : Nat) : State :=
  let p := s.plg
  let f := s.logFields who
  let entry : LogRec := ⟨seq, s.chron, f.1, f.2.1, f.2.2, leaf, s.reachEpoch (reachOfLeaf leaf)⟩
  let again := p.remarks leaf
  let p1 := { p with
    w := p.w + 1
    ring := p.ring ++ [(p.w, entry)]
    remark := if again then satAdd p.remark 1 else p.remark
    lastDone := if p.d = p.w then s.chron else p.lastDone }
  let s1 := ({ s with plg := p1.enterMark leaf p.w }).count 6 1 0 1
  (if again then s1.count 6 2 0 1 else s1).plgRefresh

/-- Mark a leaf for a write accepted now (R103, R104): attach it to the directory's entry, or append one. Answers the
Log index the write is attached to. -/
def State.mark (s : State) (who : Requester) (leaf : Nat) : State × Nat :=
  let s0 := ({ s with plg := { s.plg with wpl := s.plg.wpl + 1 }.noteMark leaf }).qThrough .plgMark leaf
  let s1 := s0.count 6 0 0 1
  match s1.plg.markOf leaf with
  | some i => (s1, i)
  | none => (s1.appendLog who leaf s1.plg.wpl, s1.plg.w)

/-- A leaf of the dirty-mark queue's address array is marked although no write of it is known to be lost (R21): an entry
where the directory has none for it. It carries the sequence the next write will have, so that WPV is as R116 has it. -/
def State.overMark (s : State) (leaf : Nat) : State :=
  if (s.plg.markOf leaf).isSome then s else s.appendLog (.agent 0x0C) leaf (s.plg.wpl + 1)

/-- Clear every reservation whose granule holds a byte of a line (R95). -/
def State.clearResv (s : State) (line : Nat) : State :=
  let keep (r : Resv) : Bool := decide (r.granule ≠ line * 64 / 2 ^ (6 + r.gran))
  { s with atu := { s.atu with resv := s.atu.resv.filter keep, resvPend := s.atu.resvPend.filter keep } }

/-! ### Fences -/

/-- Whether a recorded write is covered by a fence (R117). No store of an engine follows its PFENCE before that ends
(R86), so one of its writes is earlier in program order while the fence is pending. -/
def PFence.covers (f : PFence) (c : Covered) : Bool :=
  match f.owner, c.who with
  | .engine e, .engine e' => e == e' && (decide (c.no < f.no) || decide (c.ord < f.limit))
  | .host p _, .host p' _ l =>
    (p == p' && decide (c.no < f.no))
      || (match f.stream with | .label k => k == l && decide (c.ord < f.limit) | _ => false)
  | _, _ => false

/-- The covered writes of a fence. -/
def State.coveredOf (s : State) (f : PFence) : List Covered := s.atu.covered.filter f.covers

/-- A write a fence can cover is accepted or forwarded (R117): it is told already to the streams whose PFENCE covered it
and ended before that (R119). -/
def State.noteCovered (s : State) (who : Requester) (no seq : Nat) (fate : Fate) : State :=
  let a := s.atu
  let c : Covered := { who := who, no := no, seq := seq, fate := fate, ord := a.nextCov }
  let told := (a.late.filter fun f => f.covers c).map fun f => f.stream
  { s with atu := { a with covered := a.covered ++ [{ c with told := told }], nextCov := a.nextCov + 1 } }

/-- The entry's write is not performed yet. -/
def SbEntry.unperformed (b : SbEntry) : Bool := b.code.isNone

/-- Every store of the engine has been performed (R86). -/
def Engine.performed (n : Engine) : Bool := n.loads.isEmpty && n.buffer.all fun b => !b.unperformed

/-- Every write a fence covers has been accepted or answered (R118). -/
def State.allTaken (s : State) (f : PFence) : Bool :=
  f.waitOn.isEmpty && (match f.owner with | .engine e => (s.engine e).performed | .host _ _ => true)

/-- A covered write has its forward acknowledgement, or was not forwarded (R118). -/
def Fate.acked : Fate → Bool
  | .forwarded _ => false
  | _ => true

/-- A covered write is at VAULT: here under WPV, or at the twin under its WPV (R115, R118). -/
def State.atVault (s : State) (c : Covered) : Bool :=
  match c.fate with
  | .forwarded _ => false
  | .forwardAcked q _ => decide (q ≤ s.twn.peerWpv)
  | _ => decide (c.seq ≤ s.plg.wpv)

/-- A covered write is at TWIN (R115). -/
def atTwin (c : Covered) : Bool :=
  match c.fate with
  | .atTwin => true
  | .forwardAcked _ missed => !missed
  | _ => false

/-- A covered write will not reach TWIN although its Reach is mirrored (R119). -/
def missedTwin (c : Covered) : Bool :=
  match c.fate with
  | .missed => true
  | .forwardAcked _ missed => missed
  | _ => false

/-- The fence takes its target once its writes are accepted or answered (R118). -/
def State.takeTarget (s : State) (f : PFence) : PFence :=
  match f.target with
  | some _ => f
  | none => if s.allTaken f then { f with target := some ((s.coveredOf f).foldl (fun m c => Nat.max m c.seq) 0) } else f

/-- Whether a fence has reached its level (R118). -/
def State.fenceMet (s : State) (f : PFence) : Bool :=
  match f.target with
  | none => false
  | some t =>
    let cs := s.coveredOf f
    let acked := cs.all fun c => c.fate.acked
    match f.level with
    | 0 => acked
    | 1 => acked && decide (t ≤ s.plg.wpt)
    | _ => decide (t ≤ s.plg.wpv) && cs.all fun c => match c.fate with
        | .forwarded _ | .forwardAcked _ _ => s.atVault c
        | _ => true

/-- The status word of a fence (R119): with a covered write that is not accepted, not every one is at any level. -/
def State.fenceWord (s : State) (f : PFence) (timeout : Bool) : Nat :=
  let cs := s.coveredOf f
  let whole := s.allTaken f
  let fresh := cs.filter fun c => !c.told.contains f.stream
  (if timeout then 128 else 0) + (if fresh.any missedTwin then 64 else 0)
    + (if fresh.any fun c => c.fate == .unmirrored then 32 else 0)
    + (if whole && cs.all s.atVault then 4 else 0) + (if whole && cs.all atTwin then 2 else 0)
    + (if !timeout || (whole && cs.all fun c => c.fate.acked) then 1 else 0)

/-- A later PFENCE of the stream and the owner takes the place of an earlier one. -/
def PFence.replaces (f g : PFence) : Bool :=
  f.stream == g.stream && (match f.owner, g.owner with
    | .host p _, .host q _ => p == q
    | .engine a, .engine b => a == b
    | _, _ => false)

/-- The completed fence has covered its writes in its stream (R119), also those that are not accepted yet. -/
def State.tellFence (s : State) (f : PFence) : State :=
  { s with atu := { s.atu with
      covered := mapIf s.atu.covered (fun c => f.covers c && !c.told.contains f.stream) fun c => { c with told := c.told ++ [f.stream] }
      late := if s.allTaken f then s.atu.late else (s.atu.late.filter fun g => !f.replaces g) ++ [f]
      fences := s.atu.fences.filter fun g => g.id != f.id } }

/-- The fate of the write with a Waypoint sequence. -/
def State.setFate (s : State) (seq : Nat) (fate : Fate) : State :=
  s.updAtu fun a =>
    { a with covered := mapIf a.covered (fun c => c.seq == seq && decide (seq ≠ 0)) fun c => { c with fate := fate } }

/-- The fate of the write forwarded under a FTAG. -/
def State.setFwdFate (s : State) (ftag : BitVec 12) (fate : Fate) : State :=
  s.updAtu fun a =>
    { a with covered := mapIf a.covered (fun c => c.fate == .forwarded ftag) fun c => { c with fate := fate } }

end Sys2Proof.Machine
end

