-- ==== Sys2Proof/Machine/DeepPort.lean ====
section
/-! DEFINITION. DTI's tables: the vault's units, the segment table, the staging slots, the fill queue, the command
streams of the deep port and the bearing hint of a Tier 1 miss (R162, R312–R332). -/

namespace Sys2Proof.Machine

/-! ### Units of the vault (R162) -/

/-- VLT_VBASE. -/
def State.vbase (s : State) : Nat := s.reg64 0x0F0010

/-- First unit of the leaf map. -/
def MapSet.leafMapAt (m : MapSet) : Nat := 67 + m.remapSize * 256

/-- First unit of the Log mirror. -/
def MapSet.logMirrorAt (m : MapSet) : Nat := m.leafMapAt + m.top / 2 ^ 26

/-- First unit of the segment table mirror. -/
def MapSet.segMirrorAt (m : MapSet) : Nat := m.logMirrorAt + 2 ^ m.logEntries / 128

/-- First unit after the segment table mirror. -/
def MapSet.metaEnd (m : MapSet) : Nat := m.segMirrorAt + (m.t1Segs + 127) / 128

/-- First unit of the leaf area. -/
def MapSet.leafAreaAt (m : MapSet) : Nat := (m.metaEnd + 2 ^ 18 - 1) / 2 ^ 18 * 2 ^ 18

/-- The unit of a leaf's leaf-map code. -/
def MapSet.leafMapUnit (m : MapSet) (leaf : Nat) : Nat := m.leafMapAt + leaf / 16384

/-- The unit of a Log index. -/
def MapSet.logUnit (m : MapSet) (idx : Nat) : Nat := m.logMirrorAt + idx % 2 ^ m.logEntries / 128

/-- The unit of a segment's entry. -/
def MapSet.segUnit (m : MapSet) (seg : Nat) : Nat := m.segMirrorAt + seg / 128

/-- The unit of a remap table entry: 32 bytes each. -/
def remapUnit (i : Nat) : Nat := 67 + i / 128

/-- Metadata units that are dirty: changed, or on their way to the vault (R165). -/
def Vlt.dirtyCount (v : Vlt) : Nat := v.dirty.length + (v.writing.filter fun u => !v.dirty.contains u).length

/-- A change to a metadata unit need not wait: fewer than 4096 units are dirty, or this one is (R165). -/
def State.dirtyRoom (s : State) (u : Nat) : Bool :=
  decide (s.vlt.dirtyCount < 4096) || s.vlt.dirty.contains u || s.vlt.writing.contains u

/-- A metadata unit becomes dirty (R165). Where 4096 are, the unit waits until one is written; what waits with it is the
change of the table in the vault alone, where the change itself cannot be put off (DESIGN CHOICE, entry 75). -/
def State.dirtyUnit (s : State) (u : Nat) : State :=
  if s.dirtyRoom u then { s with vlt := { s.vlt with dirty := insertNat s.vlt.dirty u } }
  else { s with vlt := { s.vlt with waits := insertNat s.vlt.waits u } }

/-- The units that waited become dirty as far as there is room (R165). -/
def State.dirtyWaits (s : State) : State :=
  s.vlt.waits.foldl (fun t u =>
    if t.dirtyRoom u then ({ t with vlt := { t.vlt with waits := t.vlt.waits.filter (· != u) } }).dirtyUnit u else t) s

/-- The leaf-map code of a leaf (R165). -/
def State.leafCode (s : State) (leaf : Nat) : Nat := agetD s.vlt.leafMap leaf 0

/-- The state with a leaf's leaf-map code set. -/
def State.setLeafCode (s : State) (leaf c : Nat) : State :=
  if s.leafCode leaf = c then s
  else ({ s with vlt := { s.vlt with leafMap := aputD s.vlt.leafMap leaf c 0 } }).dirtyUnit (s.map.act.leafMapUnit leaf)

/-! ### Segment table -/

/-- A segment table entry (R313): its fields, and whether its CHECK holds. -/
structure SegEntry where
  state : Nat
  reseal : Bool
  slot : Nat
  gen : Word
  stamp : Nat
  ok : Bool
  deriving DecidableEq, Repr

/-- An entry of zero bytes. -/
def zeroEntry : List Byte := List.replicate 32 0

/-- The bytes of an entry with its CHECK. -/
def SegEntry.bytes (e : SegEntry) : List Byte :=
  let w0 := e.state * 2 ^ 30 + (if e.reseal then 2 ^ 29 else 0) + e.slot % 2 ^ 20
  let body := natBytes 4 w0 ++ natBytes 4 e.gen.toNat ++ natBytes 8 e.stamp ++ natBytes 12 0
  body ++ natBytes 4 (crc32c body).toNat

/-- An entry read from its bytes. -/
def readEntry (b : List Byte) : SegEntry :=
  let w0 := bytesNat (b.take 4)
  { state := w0 / 2 ^ 30, reseal := w0.testBit 29, slot := w0 % 2 ^ 20
    gen := BitVec.ofNat 32 (bytesNat ((b.drop 4).take 4)), stamp := bytesNat ((b.drop 8).take 8)
    ok := b == zeroEntry || bytesNat (b.drop 28) == (crc32c (b.take 28)).toNat }

/-- The entry of a segment (R313). -/
def State.seg (s : State) (g : Nat) : SegEntry := readEntry (agetD s.dti.segt g zeroEntry)

/-- The state with a segment's entry written. -/
def State.putSeg (s : State) (g : Nat) (e : SegEntry) : State :=
  { s with dti := { s.dti with segt := aputD s.dti.segt g e.bytes zeroEntry } }

/-- A change of STATE or GEN: the entry's metadata unit becomes dirty (R313). -/
def State.changeSeg (s : State) (g : Nat) (e : SegEntry) : State := (s.putSeg g e).dirtyUnit (s.map.act.segUnit g)

/-- The state of a segment: an entry whose CHECK fails is treated as LOST (R313). -/
def SegEntry.stateOf (e : SegEntry) : Nat := if e.ok then e.state else 2

/-- An access to an entry whose CHECK fails logs SEGT_CORRUPT (R313). -/
def State.noteSeg (s : State) (g : Nat) : State :=
  if (s.seg g).ok then s else (s.logE 0x0E01 (srcInt 0x0E) (segAddr g) g).event 0x0E0300 4

/-! ### Staging slots -/

/-- A slot of the slot table. -/
def State.slot (s : State) (k : Nat) : Option Slot := aget s.dti.slots k

/-- The state with a slot changed. -/
def State.updSlot (s : State) (k : Nat) (f : Slot → Slot) : State :=
  match aget s.dti.slots k with
  | some v => { s with dti := { s.dti with slots := aput s.dti.slots k (f v) } }
  | none => s

/-- Bytes of the Restore map (R174). -/
def MapSet.restoreMap (m : MapSet) : Nat := m.top / 2 ^ 14

/-- Slots the Restore map overlaps while a lazy Restore runs (R174, R315). -/
def State.mapSlots (s : State) : Nat :=
  if s.map.restoring && !s.vlt.eager then (s.map.act.restoreMap + 2 ^ 21 - 1) / 2 ^ 21 else 0

/-- The slots DTI may use (R315): first and past the last. -/
def State.usableSlots (s : State) : Nat × Nat := (s.mapSlots, Nat.min 16384 s.map.act.stageSlots)

/-- DTI_SLOTS.USABLE. -/
def State.usable (s : State) : Nat := s.usableSlots.2 - s.usableSlots.1

/-- The slot of a staged sub-block, where its entry names one and its present bit is set. -/
def State.stagedIn (s : State) (g k : Nat) : Option Nat :=
  let e := s.seg g
  if e.slot = 0 then none
  else match s.slot (e.slot - 1) with
    | some v => if v.seg = g && v.present.contains k then some (e.slot - 1) else none
    | none => none

/-- The staging slot a Tier 0 line lies in (R41). -/
def State.slotOfLine (s : State) (line : Nat) : Option Nat :=
  let base := s.map.act.stageBase * 2 ^ 20 / 64
  if base ≤ line && decide (line < base + s.map.act.stageSize * 2 ^ 20 / 64) && decide (0 < s.map.act.stageSize) then
    some ((line - base) / 2 ^ 15)
  else none

/-- A load's data has been read from a staged line: the reader count falls (R317). -/
def State.readerDone (s : State) (line : Nat) : State :=
  match s.slotOfLine line with
  | some k => s.updSlot k fun v => { v with readers := v.readers - 1 }
  | none => s

/-- Segments the window of a Course names (R323). -/
def Course.window (c : Course) : List Nat := (c.list.drop c.pos).take (c.ahead + 1)

/-- A slot is pinned by a Course (R323). -/
def State.pinned (s : State) (g : Nat) : Bool := s.dti.courses.any fun c => c.window.contains g

/-! ### Waiters and the fill queue -/

/-- Whether a waiting request is recorded on a miss. -/
def Waiting.isOn (w : Waiting) (on : MissOn) : Bool := w.on == some on

/-- Requests recorded on a miss and still waiting: hold slots and Pilot requests (R177, R319), of arrival before `no`. -/
def State.waitersBefore (s : State) (on : MissOn) (no : Nat) : Nat :=
  (s.ports.map fun p => (p.2.held.filter fun h => h.on == on && decide (h.w.no < no)).length).sum
    + (s.atu.waiting.filter fun w => w.isOn on && decide (w.no < no)).length

/-- Requests recorded on a segment (R322). -/
def onSegment (g : Nat) : MissOn → Bool
  | .sub h _ => h == g
  | .leaf _ => false

/-- Fills queued and not started. -/
def Dti.queued (d : Dti) : List Fill := d.fills.filter fun f => f.started.isNone && f.arrived.isNone

/-- Fills in flight. -/
def Dti.inFlight (d : Dti) : List Fill := d.fills.filter fun f => f.started.isSome

/-- The fill of a sub-block. -/
def Dti.fill (d : Dti) (g k : Nat) : Option Fill := d.fills.find? fun f => f.seg == g && f.sub == k && !f.discard

/-- DTI_PCFG.FILL_MAX. -/
def State.fillMax (s : State) : Nat := orOne (s.fld 0x0E0004 20 12)

/-- DTI_PCFG.WR_MAX. -/
def State.wrMax (s : State) : Nat := orOne (s.fld 0x0E0004 4 12)

/-- The mean of some times; zero without any. -/
def meanOf (l : List Nat) : Nat := if l.isEmpty then 0 else l.sum / l.length

/-- The level of a fill's READ in the read stream (R332). -/
def fillLevel (n : Nat) : Nat := if n = 1 then 2 else if n = 2 then 3 else 5

/-- The command is the READ of a fill. -/
def DpCmd.reads (c : DpCmd) (g k : Nat) : Bool :=
  match c.owner with
  | .fill h j _ => h == g && j == k
  | _ => false

/-- A fill raised to level 1 (R320), and its READ where that still waits for the deep port (R332). -/
def State.raiseFill (s : State) (g k : Nat) : State :=
  s.updDti fun d =>
    let fills := mapIf d.fills (fun f => f.seg == g && f.sub == k && !f.discard) fun f => { f with level := 1 }
    let reads := mapIf d.rstream (fun c => c.reads g k) fun c => { c with level := Nat.min c.level (fillLevel 1) }
    { d with fills := fills, rstream := reads }

/-- Queue a fill at a level (R318, R320). -/
def State.queueFill (s : State) (g k level : Nat) (course : Option Nat) : State :=
  { s with dti := { s.dti with fills := s.dti.fills ++ [{ seg := g, sub := k, level := level, course := course }] } }

/-- A demand miss joins or queues the fill of its sub-block (R318); answers whether it found the fill queue full. The
consumer of a Course that reaches a fill of its Course waits on it (R325). -/
def State.joinFill (s : State) (g k : Nat) (consumes : Course → Bool) : Bool × State :=
  if (s.seg g).stateOf = 3 then (false, s)
  else match s.dti.fill g k with
    | some f =>
      let s1 := match f.course with
        | some n =>
          let mine (c : Course) : Bool := c.no == n && consumes c && !c.wait
          let cs := mapIf s.dti.courses mine fun c => { c with wait := true }
          (s.updDti fun d => { d with courses := cs }).eventIf (s.dti.courses.any mine) 0x0E0300 7
        | none => s
      (false, s1.raiseFill g k)
    | none => if s.dti.queued.length ≥ 4096 then (true, s.event 0x0E0300 6) else (false, s.queueFill g k 1 none)

/-- Fills queued ahead of a fill (R319): lower levels, and older ones of its level. -/
def aheadOf (l : List Fill) (g k : Nat) : Nat :=
  match l.find? fun f => f.seg == g && f.sub == k with
  | none => 0
  | some f => (l.filter fun x => decide (x.level < f.level)).length
      + ((l.takeWhile fun x => !(x.seg == g && x.sub == k)).filter fun x => x.level == f.level).length

/-- The low byte of the bearing hint of a Tier 1 miss (R319). -/
def State.fillWait (s : State) (g k : Nat) (full : Bool) : Nat :=
  let mean := meanOf s.dti.times
  if full || (s.seg g).stateOf = 3 then 0xFF
  else match s.dti.fill g k with
    | none => 0xFF
    | some f => match f.started with
      | some t => Nat.min 0xFF ((mean - (s.chron - t)) / 32)
      | none => Nat.min 0xFF ((aheadOf s.dti.queued g k / s.fillMax + 1) * mean / 32)

/-- The bearing hint from a number of waiters and a wait. -/
def hintOf (waiters wait : Nat) : BitVec 16 := BitVec.ofNat 16 (Nat.min 0xFF waiters * 256 + wait)

/-- The bearing hint of a Tier 1 miss that arrived as `no` (R319). -/
def State.fillHint (s : State) (g k no : Nat) (full : Bool) : BitVec 16 :=
  hintOf (s.waitersBefore (.sub g k) no) (s.fillWait g k full)

/-! ### Deep port streams -/

/-- A command joins its stream, oldest first within its level (R332). -/
def State.dpPush (s : State) (c : DpCmd) : State :=
  let d := s.dti
  let k := { c with no := d.nextCmd }
  ({ s with dti := { d with
      nextCmd := d.nextCmd + 1
      rstream := if c.op = 0 then d.rstream ++ [k] else d.rstream
      wstream := if c.op = 0 then d.wstream else d.wstream ++ [k] } }).qIn .dtiCmd c.unit.toNat

/-- The commands of a stream that are in the deep command queue: the 256 that arrived first are, the others wait at their
issuers (R21). -/
def Dti.queueOf (d : Dti) (l : List DpCmd) : List DpCmd :=
  let all := d.wstream ++ d.rstream
  if all.length ≤ 256 then l else l.filter fun c => decide ((all.filter fun x => decide (x.no < c.no)).length < 256)

/-- The first command of the lowest level of a stream. -/
def lowest (l : List DpCmd) : Option DpCmd :=
  match l with
  | [] => none
  | c :: r => match lowest r with
    | some d => if d.level < c.level then some d else some c
    | none => some c

end Sys2Proof.Machine
end

