-- ==== Sys2Proof/Machine/Refill.lean ====
section
/-! DEFINITION. VLT's answer to a leaf that is not PRESENT: its source, the demand queue and the bearing hint
(R174–R178). -/

namespace Sys2Proof.Machine

/-- The twin is in step for a Reach (R175). -/
def State.twinInStep (s : State) (r : Nat) : Bool :=
  s.twn.link == 2 && !s.map.unresolved.contains r
    && (match aget s.map.twinTable r with
      | some e => bitsOf e.toNat 0 2 == 1 || (bitsOf e.toNat 0 2 == 2 && e.getLsbD 7)
      | none => false)

/-- Sources of a refill (R175, R178). -/
inductive RefillSource where
  | zeros | vault | twin | poison
  deriving DecidableEq, Repr

/-- The number of a source in the record of refill times. -/
def RefillSource.no : RefillSource → Nat
  | .zeros => 0 | .vault => 1 | .twin => 2 | .poison => 3

/-- The refill of a leaf, where one is queued or in flight. -/
def State.demandOf (s : State) (leaf : Nat) : Option Demand := s.vlt.demands.find? fun d => d.leaf == leaf

/-- The source of a leaf that is not PRESENT (R175); an ABSENT leaf after an incomplete Save is suspect, whatever the twin
does later (R178). -/
def State.sourceOf (s : State) (leaf : Nat) : Option RefillSource :=
  let step := s.twinInStep (reachOfLeaf leaf)
  let failed := match s.demandOf leaf with | some d => d.fetched | none => false
  match s.leafState leaf with
  | 3 => some .zeros
  | 1 =>
    if s.vlt.chosenRunning then (if s.flag 0x0F0004 31 then some .vault else some .poison)
    else if step && !failed then some .twin
    else some .vault
  | 2 => if step && !failed then some .twin else none
  | _ => none

/-- A leaf's refill ends, with its time among the last 64 of its source (R177). -/
def State.noteRefill (s : State) (leaf src : Nat) : State :=
  let since := match s.demandOf leaf with | some d => d.since | none => s.chron
  let same := s.vlt.refillTimes.filter fun t => t.1 == src
  let rest := s.vlt.refillTimes.filter fun t => t.1 != src
  s.updVlt fun v => { v with
    demands := v.demands.filter fun d => d.leaf != leaf
    refillTimes := rest ++ (same ++ [(src, s.chron - since)]).drop (same.length + 1 - 64) }

/-- Leaves that wait in the demand queue, in order (R175). -/
def Vlt.demandQueue (v : Vlt) : List Demand := v.demands.filter fun d => d.demand && !d.inFlight

/-- A demand miss joins the demand queue (R175); answers whether it found the queue full. -/
def State.joinDemand (s : State) (leaf : Nat) : Bool × State :=
  match s.demandOf leaf with
  | some _ =>
    let s1 := s.updVlt fun v => { v with demands := mapIf v.demands (fun d => d.leaf == leaf) fun d => { d with demand := true } }
    (false, s1.updDti fun d => { d with rstream := mapIf d.rstream (fun c => c.owner == .refill leaf) fun c => { c with level := 1 } })
  | none =>
    if s.vlt.demandQueue.length ≥ 1024 then (true, s)
    else (false, s.updVlt fun v => { v with demands := v.demands ++ [{ leaf := leaf }] })

/-- VLT_RCFG.DEM_MAX. -/
def State.demMax (s : State) : Nat := orOne (s.fld 0x0F0004 16 8)

/-- The bearing hint of a Restore miss that arrived as `no` (R177); without a refill time of the source the mean is a
free value. -/
def State.leafHint (s : State) (leaf no : Nat) (full : Bool) : BitVec 16 × State :=
  let n := s.waitersBefore (.leaf leaf) no
  match s.sourceOf leaf with
  | none => (0x00FF, s)
  | some src =>
    if full then (hintOf n 0xFF, s)
    else
      let p := (s.vlt.demandQueue.takeWhile fun d => d.leaf != leaf).length
      let ahead := if (s.vlt.demandQueue.any fun d => d.leaf == leaf) then p else 0
      let times := (s.vlt.refillTimes.filter fun t => t.1 == src.no).map fun t => t.2
      if times.isEmpty then
        let f := s.free
        (hintOf n (f.1.toNat % 256), f.2)
      else (hintOf n (Nat.min 0xFF ((ahead / s.demMax + 1) * meanOf times / 32)), s)

end Sys2Proof.Machine
end

