-- ==== Sys2Proof/Machine/TwinOut.lean ====
section
/-! DEFINITION. TWN's sending side as the write path meets it: the mirror-out queue, the forward table, the control
frames it forms and the acknowledgement of a forwarded write (R12, R115, R129, R130, R135). -/

namespace Sys2Proof.Machine

/-- The link is UP. -/
def State.linkUp (s : State) : Bool := s.twn.link == 2

/-- The node identity (R135): TWN_CHIPID[55:0] and the chain address. -/
def State.node (s : State) : DWord :=
  BitVec.ofNat 64 ((s.reg64 0x0D0018 % 2 ^ 56) * 256 + s.cfg.chainAddr.toNat)

/-- The data lane of a Reach (R131). -/
def State.laneOf (s : State) (r : Nat) : Nat := if r.testBit s.twn.lsel then 1 else 0

/-- The Reach entry a write-class access completes under (R49): the one it saw at stage 4, where it passed that stage; the
present one otherwise. -/
def State.entryOf (s : State) (j : WJob) : DWord := j.entry.getD (s.reach (reachOfLine j.line))

/-- EPOCH of a Reach entry. -/
def entryEpoch (v : DWord) : Word := v.extractLsb' 32 32

/-- STATE of a Reach entry. -/
def entryState (v : DWord) : Nat := bitsOf v.toNat 0 2

/-- A write is shipped (R12, R49, R115, R143): its Reach was LOCAL and in step as it passed stage 4, the Reach is not
unresolved, and the link is UP. -/
def State.ships (s : State) (j : WJob) : Bool :=
  let v := s.entryOf j
  s.linkUp && entryState v == 1 && v.getLsbD 7 && !s.map.unresolved.contains (reachOfLine j.line)

/-- Writes to a TWIN Reach are forwarded (R128, R143): FWD is 1, the link is UP, and the Reach is not unresolved. -/
def State.forwards (s : State) (r : Nat) : Bool := s.reachFwd r && s.linkUp && !s.map.unresolved.contains r

/-- Room in the mirror-out queue beside that of the leaves being read for it (R21, R150). -/
def State.mirrorRoom (s : State) : Bool := decide (s.twn.out.length + 64 * s.twn.reading.length < 4096)

/-- The header an item's notice covers: its line (R19). -/
def MirrorItem.head : MirrorItem → Nat
  | .line l _ _ _ _ _ _ _ => l
  | .fwd _ l _ _ _ _ _ => l

/-- An item joins the mirror-out queue. -/
def State.mirrorPush (s : State) (m : MirrorItem) : State :=
  (s.updTwn fun t => { t with out := t.out ++ [m] }).qIn .twnOut m.head

/-- A line of a leaf that is read for the twin (R149, R150): the 64th brings the leaf into the mirror-out queue, ahead of the
writes to it that are held. An uncorrectable line goes with POIS. -/
def State.twinLine (s : State) (leaf off no : Nat) (d : Option Line) : State :=
  match s.twn.reading.find? fun r => r.no == no with
  | none => s
  | some r =>
    let r1 := { r with lines := aput r.lines off d }
    if r1.lines.length < 64 then s.updTwn fun t => { t with reading := mapIf t.reading (fun x => x.no == no) fun _ => r1 }
    else
      let s1 := s.updTwn fun t => { t with reading := dropFirst t.reading fun x => x.no == no }
      (List.range 64).foldl (fun t i =>
        let line := leaf * 64 + i
        let x := (aget r1.lines i).join
        t.mirrorPush (.line line (x.getD 0) x.isNone (t.reachEpoch (reachOfLine line)) none r.resync (!r.resync) r.fetch)) s1

/-- A leaf is being read for the twin: marking writes to it are held (R150). -/
def State.leafRead (s : State) (leaf : Nat) : Bool := s.twn.reading.any fun r => r.leaf == leaf

/-- A control frame without a sequence yet: its sequence, ACK, CHECK and tag are given as it is sent (R133). -/
def ctrlFrame (typ flags : BitVec 4) (epoch : Word) (arg0 : DWord) (arg1 : Word) (payload : List Byte) : Frame :=
  { typ := typ, flags := flags, lane := 2, ver := 1, plen := BitVec.ofNat 9 payload.length, seq := 0, ack := 0
    epoch := epoch, arg0 := arg0, arg1 := arg1, check := 0, payload := payload, tag := none }

/-- A control frame waits to be sent. -/
def State.ctrlPush (s : State) (f : Frame) (engine : Option EngineNo := none) : State :=
  s.updTwn fun t => { t with ctrlOut := t.ctrlOut ++ [{ frame := f, engine := engine }] }

/-- The owner answers a forwarded write of a line (R130, R133, R135). -/
def State.pushFwdAck (s : State) (ftag : BitVec 12) (line : Nat) (code : Code) (seq : Nat) (missed : Bool) : State :=
  let arg1 := at_ ftag.toNat 16 12 ||| at_ code.bits.toNat 12 4 ||| bitAt missed 11
  s.ctrlPush (ctrlFrame 6 0 (s.reachEpoch (reachOfLine line)) (if code = .ok then BitVec.ofNat 64 seq else 0) arg1 [])

/-- An ownership message (R135). -/
def State.pushOwn (s : State) (sub : BitVec 4) (epoch : Word) (first count : Nat) (payload : List Byte) : State :=
  s.ctrlPush (ctrlFrame 5 sub epoch (BitVec.ofNat 64 (first % 65536 + count % 65536 * 65536)) 0 payload)

/-- Writes that are dropped from shipping (R115, R116, R130): they miss the twin, and a forwarded write among them is
answered at once. -/
def State.missSeqs (s : State) (seqs : List Nat) : State :=
  let acks := s.twn.fwdHere.filter fun f => seqs.contains f.seq
  let s1 := seqs.foldl (fun t q => t.setFate q .missed) (s.updTwn fun t => { t with
    shipped := t.shipped.filter fun q => !seqs.contains q
    shippedIdx := t.shippedIdx.filter fun x => !seqs.contains x.1
    fwdHere := t.fwdHere.filter fun f => !seqs.contains f.seq })
  (acks.foldl (fun t f => t.pushFwdAck f.ftag f.line .ok f.seq true) s1).wayRefresh

/-- The twin leaves in-step status for a Reach: its shipped writes that are not acknowledged are dropped (R115). -/
def State.missReach (s : State) (r : Nat) : State :=
  s.missSeqs ((s.twn.shippedIdx.filter fun x => x.2.2 == r).map fun x => x.1)

/-- The lowest FTAG not in use. -/
def State.freeFtag (s : State) : Option Nat :=
  (List.range 4096).find? fun k => !(s.twn.forwards.any fun f => f.ftag == BitVec.ofNat 12 k)

/-- A free entry of the forward table (R129). -/
def State.forwardRoom (s : State) : Bool := decide (s.twn.forwards.length < 4096) && s.mirrorRoom

/-- A write is forwarded (R129): it takes a table entry and is queued as FWD_WR. The requester's tag is kept where it
is a host, and the store entry where it is an engine. -/
def State.forward (s : State) (j : WJob) : State :=
  match s.freeFtag with
  | none => s
  | some k =>
    let ftag := BitVec.ofNat 12 k
    let tag := match j.who with | .host _ t _ => t.toNat | _ => j.seq
    let op : BitVec 4 := if j.kind = .full then 2 else 1
    let s1 := s.updTwn fun t => { t with forwards := t.forwards ++ [⟨ftag, j.who, tag, j.line, j.asked⟩] }
    let s2 := s1.mirrorPush (.fwd ftag j.line j.pois op j.mask j.data (s.reachEpoch (reachOfLine j.line)))
    s2.noteCovered j.who j.no 0 (.forwarded ftag)

end Sys2Proof.Machine
end

