-- ==== Sys2Proof/Machine/Accept.lean ====
section
/-! DEFINITION. Responses, the arrival of data at its requester, the merge of a partial write and the acceptance of a
write (R12, R54–R65, R73, R90–R96, R102–R119, R189–R192). -/

namespace Sys2Proof.Machine

/-! ### Responses -/

/-- Whether a host opcode is write class. -/
def HostOp.writes : HostOp → Bool
  | .write | .writeFull | .atom _ | .condSt => true
  | _ => false

/-- RQ_OP of an opcode (R57). -/
def HostOp.bits : HostOp → Nat
  | .read => 0 | .write => 1 | .writeFull => 2 | .atom _ => 3 | .resvLd => 4 | .condSt => 5 | .ofence => 6
  | .pfence => 7 | .stageHint => 8 | .cfgRd => 9 | .cfgWr => 10 | .bad op => op.toNat

/-- A level as a trace entry codes it (R485). -/
def Level.code : Level → Nat
  | .normal => 0 | .high => 1 | .low => 2

/-- A request of a port has been answered: no fence of the port waits for it any longer (R86, R118). -/
def State.fencesSee (s : State) (p : Nat) (tag : BitVec 12) : State :=
  s.updAtu fun a =>
    { a with
      ofences := mapIf a.ofences (fun o => o.port.val == p) fun o => { o with waitOn := o.waitOn.filter (· != tag) }
      fences := a.fences.map fun f => match f.owner with
        | .host q _ => if q.val = p then { f with waitOn := f.waitOn.filter (· != tag) } else f
        | .engine _ => f }

/-- A write of a port has been accepted or forwarded: no PFENCE waits for it any longer (R118). -/
def State.pfencesSee (s : State) (p : Nat) (tag : BitVec 12) : State :=
  s.updAtu fun a =>
    { a with
      fences := a.fences.map fun f => match f.owner with
        | .host q _ => if q.val = p then { f with waitOn := f.waitOn.filter (· != tag) } else f
        | .engine _ => f }

/-- The response to a host request forms (R52, R62): it joins the port's egress queue, an RS_REQ transition announces the
first of that queue (R53), and the response is traced. -/
def State.respond (s : State) (p : Nat) (tag : BitVec 12) (code : Code) (hint : BitVec 16) (data : Line) : State :=
  let port := s.port p
  let ent := aget port.tags tag.toNat
  let tags := match ent with
    | some t => aput port.tags tag.toNat { t with answered := true }
    | none => port.tags
  let s1 := s.setPort p { port with
    tags := tags, egress := port.egress ++ [⟨tag, code, hint, data⟩]
    rsReq := if port.egress.isEmpty then !port.rsReq else port.rsReq }
  let s2 := (s1.qIn (.hpxEgress (Fin.ofNat 16 p)) tag.toNat).count 1 3 p (if code = .defer then 1 else 0)
  let reads : Bool := match ent with
    | some t => decide (code = .ok) && (t.op == .read || t.op == .resvLd)
    | none => false
  let wrote : Bool := match ent with
    | some t => decide (code = .ok) && t.op.writes
    | none => false
  let s3 := (s2.count 1 5 p (if reads then 1 else 0)).count 1 6 p (if wrote then 1 else 0)
  let s4 := match ent with
    | some t => s3.traceReq 0 p (s.hostClass p t.q.label.toNat) t.level.code t.q.addr.toNat (srcHost p) t.op.bits code
        tag.toNat t.arrived
    | none => s3
  s4.fencesSee p tag

/-- An answer without data. -/
def State.respondCode (s : State) (p : Nat) (tag : BitVec 12) (code : Code) : State := s.respond p tag code 0 0

/-- DEFER with a bearing hint (R65). -/
def State.respondDefer (s : State) (p : Nat) (tag : BitVec 12) (hint : BitVec 16) : State := s.respond p tag .defer hint 0

/-! ### The trace of the block's own requesters -/

/-- A Pilot request has received its response (R484, R485): `op` is 0 for a load, 1 a store entry, 2 an atomic, 3 a
device access, 4 a fence. -/
def State.tracePilot (s : State) (e op : Nat) (a : Asked) (code : Code) : State :=
  s.traceReq 1 e (s.engineClass e) a.level.code a.addr (srcEngine e) op code 0 a.since

/-- A Mover request has received its response (R484). R485 gives such an entry no OP: it is a free value. -/
def State.traceMover (s : State) (e : Nat) (a : Asked) (code : Code) : State :=
  if s.traces 2 e s.moverClass then
    let f := s.free
    f.2.traceReq 2 e s.moverClass a.level.code a.addr (srcMover e) f.1.toNat code 0 a.since
  else s

/-- A line that an instance of the Mover, a slot, a job or a service has handed over is answered: the first that fails is
kept (R383). -/
def State.moverAnswer (s : State) (e : EngineNo) (inst line : Nat) (a : Asked) (c : Code) : State :=
  let s1 := s.traceMover e a c
  let later := match aget s1.sua.faults inst with
    | some f => decide (f.1 ≤ line)
    | none => false
  if c = .ok || later then s1 else { s1 with sua := { s1.sua with faults := aput s1.sua.faults inst (line, c) } }

/-! ### Data at its requester -/

/-- What a read brings: a line, or a code that is not OK. -/
inductive Got where
  | line (l : Line)
  | bad (c : Code)
  deriving DecidableEq, Repr

/-- The line of one piece of an engine's load arrives, or the answer to its atomic (R82, R98, R405). -/
def Load.arrive (l : Load) (at_ : Nat) (g : Got) : Load :=
  let l1 := { l with want := l.want.filter (· != at_) }
  match g with
  | .line d => { l1 with got := aput l1.got at_ d }
  | .bad c => { l1 with bad := match l1.bad with | some b => some b | none => some c }

/-- A piece arrives at an engine. -/
def State.loadArrive (s : State) (e seq at_ : Nat) (g : Got) : State :=
  s.updEngine e fun n => { n with loads := mapIf n.loads (fun l => l.seq == seq) fun l => l.arrive at_ g }

/-- The code of an answer. -/
def Got.code : Got → Code
  | .line _ => .ok
  | .bad c => c

/-- The operation a trace entry names for an access (R485); a conditional store is one of the atomics. -/
def LoadKind.traceOp : LoadKind → Nat
  | .atom _ _ _ | .cond _ _ => 2
  | _ => 0

/-- The response to an engine's request for one piece of an access. -/
def State.loadAnswer (s : State) (e seq at_ : Nat) (g : Got) : State :=
  let s1 := s.loadArrive e seq at_ g
  match (s.engine e).loads.find? fun l => l.seq == seq with
  | some l => s1.tracePilot e l.kind.traceOp (agetD l.asked at_ {}) g.code
  | none => s1

/-- The response to a store-buffer entry (R84). -/
def State.storeAnswer (s : State) (e id : Nat) (c : Code) : State :=
  let s1 := s.updEngine e fun n => { n with buffer := mapIf n.buffer (fun b => b.id == id) fun b => { b with code := some c } }
  match (s.engine e).buffer.find? fun b => b.id == id with
  | some b => s1.tracePilot e 1 b.asked c
  | none => s1

/-- The response to a conditional store of an engine (R404). -/
def State.condAnswer (s : State) (e : Nat) (c : Code) : State :=
  let s1 := s.updEngine e fun n => { n with cond := some c }
  match (s.engine e).loads with
  | l :: _ => s1.tracePilot e 2 (agetD l.asked l.addr.toNat {}) c
  | [] => s1

/-- A ring fault (R428): kind 0 descriptor fetch, 1 completion write, 2 MSG. -/
def State.ringFault (s : State) (kind q addr stat : Nat) : State :=
  let s1 := s.logE 0x0302 (srcInt 0x03) addr (q + kind * 256 + stat * 65536)
  match kind with
  | 0 =>
    let v := agetD s1.dre.sq q {}
    (s1.updDre fun d => { d with sq := aput d.sq q { v with fault := true } }).event 0x030100 2
  | 1 =>
    let v := agetD s.dre.cq q {}
    (s1.updDre fun d => { d with cq := aput d.cq q { v with fault := true } }).event 0x030100 3
  | _ => s1

/-- First address of a slot of a submission ring. -/
def State.sqAddr (s : State) (q slot : Nat) : Nat := s.reg64 (0x031000 + q * 0x20) + slot * 64

/-- A descriptor arrives in its ring's fetch queue (R414); one asked for before the ring was last enabled is
discarded. `slot` is the slot and, times 65536, the count of enables. -/
def State.ringArrive (s : State) (q : Fin 64) (slot : Nat) (g : Got) : State :=
  let v := agetD s.dre.sq q {}
  if slot / 65536 ≠ v.gen then s
  else match g with
    | .line d =>
      s.updDre fun r => { r with sq := aput r.sq q { v with fetched := v.fetched ++ [⟨q, slot % 65536, lineBytes d, 0, 0, 0⟩] } }
    | .bad c => s.ringFault 0 q (s.sqAddr q (slot % 65536)) c.bits.toNat

/-! ### Drain reads -/

/-- The poison marker (R275). -/
def poisonMarker : Line := bytesLine (List.replicate 64 0xA5)

/-- The sideband whose bytes are given (R163, R312). -/
def sideband (tag : Nat) (index gen : Nat) (check : Word) : BitVec 256 :=
  BitVec.ofNat 256 (bytesNat ((natBytes 16 tag).reverse ++ natBytes 8 index ++ natBytes 4 gen ++ natBytes 4 check.toNat))

/-- The bytes of a sideband from a byte on. -/
def sbBytes (sb : BitVec 256) (off n : Nat) : List Byte := natBytes n (sb.toNat >>> (8 * off))

/-- TWN_IMAGE. -/
def State.image (s : State) : Nat := s.twn.image.toNat

/-- The additional data of a vault leaf's GMAC (R163, R349). -/
def State.leafAad (s : State) (leaf : Nat) (data : List Byte) : List Nat :=
  (natBytes 8 leaf ++ natBytes 8 s.image ++ data).map (·.toNat)

/-- The level of drain traffic in the write stream (R332). -/
def State.drainLevel (s : State) : Nat := drainPort (s.cfg.mode == .save) s.plg.urgent

/-- The vault write of a drain whose 64 lines have been read (R15, R163, R275): without a key in VLT_CFG.KSLOT it
fails. -/
def State.drainWrite (s : State) (d : Drain) : State :=
  let lines := (List.range 64).map fun i => match aget d.lines i with
    | some (l, pois) => if pois then poisonMarker else l
    | none => poisonMarker
  let data := lines.flatMap lineBytes
  let k := s.keySlot (s.fld 0x0F0000 16 6)
  let upd (f : Drain → Drain) (t : State) : State :=
    t.updPlg fun p => { p with drains := mapIf p.drains (fun x => x.idx == d.idx) f }
  if !k.loaded then upd (fun x => { x with written := true, result := some false }) s
  else
    let tag := leafTag (k1 k.key) (s.leafAad d.leaf data)
    let sb := sideband tag d.leaf (s.vlt.gen.toNat % 2 ^ 32) 0
    let cmd : DpCmd :=
      { op := 1, tgt := false, unit := BitVec.ofNat 48 (s.vbase + s.map.act.leafAreaAt + d.leaf), sb := sb, data := data
        owner := .drain d.idx, level := s.drainLevel }
    ((upd (fun x => { x with written := true }) s).cphJob s.drainClass d.leaf).dpPush cmd

/-- One line of a drain has been read; the last one forms the vault write (R15). -/
def State.drainLine (s : State) (idx off : Nat) (l : Line) (pois : Bool) : State :=
  match s.plg.drains.find? fun d => d.idx == idx && !d.written with
  | none => s
  | some d =>
    let d1 := { d with lines := aput d.lines off (l, pois) }
    let s1 := s.updPlg fun p => { p with drains := mapIf p.drains (fun x => x.idx == idx) fun _ => d1 }
    if d1.lines.length = 64 then s1.drainWrite d1 else s1

/-- A write-class access that meets a condition is handed over and neither stored nor answered: it waits at the enqueue port,
or its merge read is on its way. -/
def State.jobOut (s : State) (p : WJob → Bool) : Bool :=
  let merging (d : ReadDest) : Bool := match d with
    | .merge j => p j
    | _ => false
  (s.atu.parked.any fun a => match a with
    | .wr j _ _ => p j
    | .rd _ _ _ _ _ => false)
  || s.subs.any fun x => (x.2.rq.any fun r => merging r.dest) || x.2.bursts.any fun b => merging b.entry.dest

/-! ### Reservations -/

/-- The reservation identity of a requester (R93). -/
def resvId : Requester → Option ResvId
  | .host p _ l => some (.host p l)
  | .engine e => some (.engine e)
  | _ => none

/-- A number that stands for an identity in the hash of the table (R94). -/
def resvKey : ResvId → Nat
  | .host p l => p.val * 64 + l.toNat
  | .engine e => 1024 + e.val

/-- The identity loses its reservation, and one a read of its own is still to place. -/
def State.dropResv (s : State) (i : ResvId) : State :=
  s.updAtu fun a => { a with resv := a.resv.filter fun r => r.who != i, resvPend := a.resvPend.filter fun r => r.who != i }

/-- The exponent of ATU_RCFG.GRAN. -/
def State.gran (s : State) : Nat := s.fld 0x050000 0 3

/-- The granule of a line. -/
def State.granule (s : State) (line : Nat) : Nat := line / 2 ^ s.gran

/-- The identity holds a reservation on a line's granule (R96). -/
def State.holdsResv (s : State) (i : ResvId) (line : Nat) : Bool :=
  s.atu.resv.any fun r => r.who == i && r.granule == s.granule line

/-- A reserved load of a line by an identity, not placed yet. -/
def State.newResv (s : State) (i : ResvId) (line : Nat) : Resv :=
  ⟨i, s.granule line, s.gran, s.chron, orOne (s.fld 0x050000 16 8) * 1000, s.atu.nextOrder⟩

/-- The read of a reserved load leaves (R93, R95): the identity's earlier reservation is replaced. What would lose the new
one loses it from now on; it takes its place in the table with the data (R96, entry 69). -/
def State.beginResv (s : State) (i : ResvId) (line : Nat) : State :=
  let s1 := s.dropResv i
  s1.updAtu fun a => { a with resvPend := a.resvPend ++ [s1.newResv i line] }

/-- Place a reservation (R93, R94): a full set of 4 evicts its oldest. -/
def State.placeResv (s : State) (i : ResvId) (line : Nat) : State :=
  let s1 := s.dropResv i
  let g := s.granule line
  let a := s1.atu
  let set := if a.resv.length < 4 then []
    else a.resv.filter fun r => Config.resvSet r.granule (resvKey r.who) == Config.resvSet g (resvKey i)
  let new := s1.newResv i line
  let evict := match set with
    | [] => false
    | _ => decide (4 ≤ set.length)
  let old := set.foldl (fun m r => Nat.min m r.order) a.nextOrder
  let kept := if evict then a.resv.filter fun r => r.order != old else a.resv
  let s2 := { s1 with atu := { a with
    resv := kept ++ [new], nextOrder := a.nextOrder + 1
    evictions := if evict then satAdd a.evictions 1 else a.evictions } }
  s2.eventIf evict 0x050010 1

/-- The data of a reserved load is delivered: the reservation is placed, unless it has been lost since (R95). -/
def State.endResv (s : State) (i : ResvId) (line : Nat) : State :=
  if s.atu.resvPend.any fun r => r.who == i && r.granule == s.granule line then s.placeResv i line else s

/-- A reserved load brings no data: it places no reservation (R96). -/
def State.failResv (s : State) (i : ResvId) (line : Nat) : State :=
  s.updAtu fun a => { a with resvPend := a.resvPend.filter fun r => !(r.who == i && r.granule == s.granule line) }

/-! ### Acceptance of a write -/

/-- A marking write (R102): not in the carve region; of the block's own agents only the poison write-back of ECC. -/
def State.marks (s : State) (j : WJob) : Bool :=
  !s.map.act.inCarve (lineAddr j.line)
    && (match j.who with
      | .agent p => p == 0x09 && j.pois
      | _ => true)

/-- A write entry may use any free entry: reserved traffic (R188). -/
def Requester.reserved : Requester → Bool
  | .mirror _ | .refill | .agent _ => true
  | _ => false

/-- Two accesses come from one requester: a port, an engine or the twin. -/
def Requester.sameAs (a b : Requester) : Bool :=
  match a, b with
  | .host p _ _, .host q _ _ => p == q
  | .engine e, .engine f => e == f
  | .mover e, .mover f => e == f
  | .mirror _, .mirror _ => true
  | _, _ => false

/-- Whether the subchannel takes a write of a line (R188, R189). -/
def SubState.takesWrite (c : SubState) (loc : Loc) (line : Nat) (reserved : Bool) (rsvW : Nat) : Bool :=
  (c.wq.any fun e => e.line == line && e.loc == loc && !e.issuing)
    || (decide (c.wq.length < 96) && (reserved || decide ((c.wq.filter fun e => !e.reserved).length < 96 - rsvW)))

/-- CHS_RSV.RSV_W of a subchannel. -/
def State.rsvW (s : State) (c : Nat) : Nat := Nat.min 16 (s.fld (chsPage (c / 2) + 0x010) 8 5)

/-- CHS_RSV.RSV_R of a subchannel. -/
def State.rsvR (s : State) (c : Nat) : Nat := Nat.min 16 (s.fld (chsPage (c / 2) + 0x010) 0 5)

/-- Whether a merged and encrypted write can be accepted now (R13, R111, R150, R188, R12). -/
def State.writeReady (s : State) (j : WJob) (reserved : Bool) : Bool :=
  let loc := s.locOf j.line
  (s.sub loc.sub).takesWrite loc j.line reserved (s.rsvW loc.sub)
    && (!s.marks j || (s.budgetOk (leafOfLine j.line) && !s.leafRead (leafOfLine j.line) && (j.who == .refill || !s.healHeld (leafOfLine j.line))
      && s.dirtyRoom (s.map.act.logUnit s.plg.w)))
    && (!s.ships j || s.mirrorRoom)

/-- A new entry joins the write queue of its location's subchannel. -/
def State.addWrite (s : State) (e : WEntry) : State :=
  let c := s.sub e.loc.sub
  (s.setSub e.loc.sub { c with wq := c.wq ++ [e], nextId := c.nextId + 1 }).qIn (.chsWrite e.loc.sub) e.line

/-- The write enters the write queue of its subchannel (R189). -/
def State.enqueueWrite (s : State) (line : Nat) (d : Line) (pois : Bool) (who : Requester) (level : Level)
    (reserved : Bool) : State :=
  let loc := s.locOf line
  let sub := loc.sub
  let c := s.sub sub
  match newestEntry (c.wq.filter fun e => e.loc == loc && !e.issuing) line with
  | some old =>
    s.setSub sub { c with wq := mapIf c.wq (fun e => e.id == old.id) fun e => { e with data := d, pois := pois } }
  | none => s.addWrite { id := c.nextId, loc := loc, line := line, data := d, pois := pois, who := who, level := level
                         stamp := s.chron, reserved := reserved }

/-- A corrective write restores what was already stored: it clears no reservation (R95, R279). -/
def WJob.corrective (j : WJob) : Bool := (match j.who with | .agent 0x09 => true | _ => false) && !j.pois

/-- Acceptance of a write with its ciphertext (R12): the entry, the mark, the reservations it clears, the copy for the
twin, and its record for the fences. Answers its Waypoint sequence, zero where it is no marking write, and whether it
was shipped. -/
def State.acceptLine (s : State) (j : WJob) (d : Line) (pois : Bool) (level : Level) (reserved : Bool) :
    (Nat × Bool) × State :=
  let leaf := leafOfLine j.line
  let s0 := s.enqueueWrite j.line d pois j.who level reserved
  let s1 := if j.corrective then s0 else s0.clearResv j.line
  if !s.marks j then ((0, false), s1.wayRefresh)
  else
    let m := s1.mark j.who leaf
    let seq := m.1.plg.wpl
    let s2 := if m.1.plg.w = s1.plg.w then m.1 else m.1.dirtyUnit (s.map.act.logUnit s1.plg.w)
    let ship := s.ships j
    let v := s.entryOf j
    let s3 := if ship then
        (s2.mirrorPush (.line j.line (if pois then 0 else d) pois (entryEpoch v) (some seq) false false 0)).updTwn fun t =>
          { t with shipped := t.shipped ++ [seq], shippedIdx := t.shippedIdx ++ [(seq, m.2, reachOfLine j.line)] }
      else s2
    let fate : Fate := if ship then .shipped else if entryState v = 0 then .unmirrored else .missed
    let s4 := match j.who with
      | .host _ _ _ | .engine _ | .mirror _ => s3.noteCovered j.who j.no seq fate
      | _ => s3
    ((seq, ship), s4.wayRefresh)

/-- Release the merge lock of a line (R191). -/
def State.unlock (s : State) (line : Nat) : State := s.updAtu fun a => { a with locks := a.locks.filter (· != line) }

/-- The answer to a write-class access that ends: to its port, its engine, or the forwarder (R65, R84, R130). -/
def State.answerJob (s : State) (j : WJob) (code : Code) (data : Line) : State :=
  match j.ftag with
  | some f => s.pushFwdAck f j.line code 0 false
  | none =>
    match j.who with
    | .host p t _ => s.respond p t code 0 data
    | .engine e => match j.kind with
      | .partialWrite | .full => s.storeAnswer e j.seq code
      | .atom _ => s.loadAnswer e j.seq (lineAddr j.line + j.offset) (if code = .ok then .line data else .bad code)
      | .cond => s.condAnswer e code
    | .mover e => s.moverAnswer e j.seq j.line j.asked code
    | _ => s

/-- A conditional store consumes the identity's reservation (R95). -/
def State.consume (s : State) (j : WJob) : State :=
  match j.kind with
  | .cond => match resvId j.who with
    | some i => s.dropResv i
    | none => s
  | _ => s

/-- A write-class access ends without storing: the lock is released and the answer formed. -/
def State.endJob (s : State) (j : WJob) (code : Code) (data : Line) : State :=
  let s1 := if j.merging then s.unlock j.line else s
  (s1.consume j).answerJob j code data

/-- The level a request is admitted at is recorded for the trace. -/
def State.noteLevel (s : State) (src : Source) (level : Level) : State :=
  let put (e seq a : Nat) : State := s.updEngine e fun n => { n with loads := mapIf n.loads (fun l => l.seq == seq) fun l =>
    { l with asked := mapIf l.asked (fun x => x.1 == a) fun x => (x.1, { x.2 with level := level }) } }
  match src with
  | .host _ q =>
    let port := s.port q.port
    match aget port.tags q.tag.toNat with
    | some e => s.setPort q.port { port with tags := aput port.tags q.tag.toNat { e with level := level } }
    | none => s
  | .load e n a _ | .atom e n _ a _ => put e n a
  | .cond e a _ _ => match (s.engine e).loads with
    | l :: _ => put e l.seq a
    | [] => s
  | .store e id _ _ _ => s.updEngine e fun n => { n with buffer := mapIf n.buffer (fun b => b.id == id) fun b =>
      { b with asked := { b.asked with level := level } } }

/-- A conditional store whose reservation is lost (R96). -/
def State.condFails (s : State) (j : WJob) : Bool :=
  j.kind == .cond && (match resvId j.who with
    | some i => !s.holdsResv i j.line
    | none => true)

/-- Store a merged write that is ready (R12, R96): a conditional store checks and stores in one step. -/
def State.storeJob (s : State) (j : WJob) (d : Line) (pois : Bool) (level : Level) (reserved : Bool) : State :=
  if s.condFails j then s.endJob j .resvFail 0
  else
    let a := s.acceptLine j d pois level reserved
    let s1 := if j.merging then a.2.unlock j.line else a.2
    let s2 := s1.consume j
    let s3 := match j.who with
      | .host p t _ => s2.pfencesSee p t
      | _ => s2
    match j.ftag with
    | some f =>
      if a.1.2 then s3.updTwn fun t => { t with fwdHere := t.fwdHere ++ [⟨f, j.line, a.1.1⟩] }
      else s3.pushFwdAck f j.line .ok a.1.1 true
    | none => s3.answerJob j .ok (match j.kind with | .atom _ => j.old | _ => 0)

/-! ### Merging -/

/-- n bytes of a line from an offset, as a number. -/
def lineNat (l : Line) (off n : Nat) : Nat := bitsOf l.toNat (8 * off) (8 * n)

/-- A line with n bytes from an offset replaced. -/
def putNat (l : Line) (off n v : Nat) : Line :=
  let old := lineNat l off n
  BitVec.ofNat 512 (l.toNat - old * 2 ^ (8 * off) + v % 2 ^ (8 * n) * 2 ^ (8 * off))

/-- Bytes an atomic operates on (R58). -/
def AtomOp.size : AtomOp → Nat
  | .cas16 => 16
  | _ => 8

/-- A far atomic on a line (R58, R91): the old value, and the new line where it writes. -/
def atomApply (op : AtomOp) (l : Line) (off : Nat) (operands : Line) : Nat × Option Line :=
  let n := op.size
  let old := lineNat l off n
  let a := lineNat operands 0 n
  let b := lineNat operands n n
  let put (v : Nat) : Option Line := some (putNat l off n v)
  match op with
  | .cas8 | .cas16 => (old, if old = a then put b else none)
  | .fadd => (old, put (old + a))
  | .swap => (old, put a)
  | .and => (old, put (Nat.land old a))
  | .or => (old, put (Nat.lor old a))

/-- What the merge of an access with the plaintext of its line gives: the new line, or the end of an atomic that
writes nothing (R58, R92). -/
def WJob.merge (j : WJob) (l : Line) : Option Line × Line :=
  match j.kind with
  | .atom op =>
    let r := atomApply op l j.offset j.data
    (r.2, BitVec.ofNat 512 r.1)
  | _ => (some (mergeLine l j.data j.mask), 0)

/-! ### The enqueue port -/

/-- Whether a job needs a merge read (R92, R57): a store that does not cover its line and is not poisoned whole. -/
def WJob.needsMerge (j : WJob) : Bool :=
  match j.kind with
  | .full => false
  | .partialWrite => !(j.mask == BitVec.allOnes 64 || j.mask == 0 || j.pois)
  | .cond => !(j.mask == BitVec.allOnes 64 || j.mask == 0)
  | .atom _ => true

/-- An access to a failed rank or a channel not enabled meets ERR_DEVICE at the enqueue port (R192). -/
def State.rankHit (s : State) (line : Nat) : State := s.event (chsPage ((s.subOf line).val / 2) + 0x200) 3

/-- The merge read's data reaches ATU or the merge of the write path (R90–R92): a poisoned line stores nothing; a failed
CAS writes nothing; else the merged line is encrypted. Answers the job to store, where there is one. -/
def State.mergeData (s : State) (j : WJob) (c : Line) (pois : Bool) : Option WJob × State :=
  if pois then (none, s.endJob j .poison 0)
  else match s.plain j.line c with
    | none => (none, s.endJob j .errDevice 0)
    | some l =>
      match j.merge l with
      | (none, old) => (none, s.endJob j .ok old)
      | (some n, old) =>
        match s.cipher j.line n with
        | some d => (some { j with final := some (d, false), old := old }, s)
        | none => (none, s.endJob j .errDevice 0)

/-- An access waits at the enqueue port, in arrival order; one that waits for the dirty budget is noted (R111). -/
def State.park (s : State) (a : Access) : State :=
  let s1 := match a with
    | .wr j _ _ => if s.marks j && !s.budgetOk (leafOfLine j.line) then s.noteBudgetHold else s
    | .rd _ _ _ _ _ => s
  s1.updAtu fun t => { t with parked := t.parked ++ [a] }

end Sys2Proof.Machine
end

