-- ==== Sys2Proof/Machine/VaultUnits.lean ====
section
/-! DEFINITION. What the units of the vault hold, and how it is read back: the superblock, the PLG record, the Reach table and
the metadata that is written behind (R162–R165, R172, R271, R284). The spec gives no byte positions inside the PLG record and
the remap mirror: the layouts are the model's (DESIGN CHOICE, entry 33). -/

namespace Sys2Proof.Machine

/-- A little-endian number of n bytes at an offset. -/
def numAt (b : List Byte) (off n : Nat) : Nat := bytesNat ((b.drop off).take n)

/-- Bytes padded with zeros to a unit. -/
def padUnit (b : List Byte) : List Byte := b ++ List.replicate (4096 - b.length) 0

/-! ### Superblock (R164) -/

/-- VLT takes the slot that does not hold the newer superblock (R164). -/
def State.nextSlot (s : State) : Bool := if s.vlt.sbState = 0 then false else !s.vlt.slot

/-- The bytes of a superblock (R164), its CHECK over the first 76. -/
def State.superBytes (s : State) (state failed saveUs : Nat) : List Byte :=
  let m := s.map.act
  let body := natBytes 4 0x4C4D5632 ++ natBytes 2 1 ++ natBytes 2 state ++ natBytes 8 (s.vlt.gen + 1).toNat
    ++ natBytes 8 s.twn.image.toNat ++ natBytes 8 s.node.toNat ++ natBytes 8 m.top ++ natBytes 8 s.chron
    ++ natBytes 4 failed ++ natBytes 4 saveUs ++ natBytes 4 m.t1Segs ++ natBytes 2 m.remapSize ++ natBytes 1 m.logEntries
    ++ List.replicate 13 0
  body ++ natBytes 4 (crc32c body).toNat

/-- The fields of a superblock (R164). -/
structure Super where
  hasMagic : Bool
  valid : Bool
  state : Nat
  gen : Nat
  image : Nat
  node : Nat
  top : Nat
  saveUs : Nat
  segs : Nat
  remapMib : Nat
  entries : Nat
  deriving DecidableEq, Repr

/-- A superblock read from its unit (R164, R172). -/
def readSuper (b : List Byte) : Super :=
  let n (off k : Nat) : Nat := numAt b off k
  let mag := n 0 4 == 0x4C4D5632
  { hasMagic := mag, valid := mag && n 4 2 == 1 && n 76 4 == (crc32c (b.take 76)).toNat, state := n 6 2, gen := n 8 8
    image := n 16 8, node := n 24 8, top := n 32 8, saveUs := n 52 4, segs := n 56 4, remapMib := n 60 2, entries := n 62 1 }

/-- The superblock's fields match the committed configuration and the node (R172). -/
def State.superFits (s : State) (b : Super) : Bool :=
  b.node == s.node.toNat && b.top == s.map.act.top && b.segs == s.map.act.t1Segs && b.remapMib == s.map.act.remapSize
    && b.entries == s.map.act.logEntries

/-! ### PLG record and Reach table (R162) -/

/-- The PLG record: eight bytes each for W, D, A, the four pins with the valid bit on top, WPL, WPT, WPV, TWN_IMAGE, the
peer image and STALE. -/
def State.plgBytes (s : State) : List Byte :=
  let p := s.plg
  let pin (k : Nat) : Nat := match aget p.pins k with | some v => v % 2 ^ 63 + 2 ^ 63 | none => 0
  ([p.w, p.d, p.a, pin 0, pin 1, pin 2, pin 3, p.wpl, p.wpt, p.wpv, s.twn.image.toNat, s.twn.peerImage.toNat,
    if s.twn.stale then 1 else 0]).flatMap (natBytes 8)

/-- Field k of a PLG record. -/
def plgField (b : List Byte) (k : Nat) : Nat := numAt b (8 * k) 8

/-- The pins of a PLG record. -/
def plgPins (b : List Byte) : List (Nat × Nat) :=
  (List.range 4).filterMap fun k =>
    let v := plgField b (3 + k)
    if 2 ^ 63 ≤ v then some (k, v - 2 ^ 63) else none

/-- One unit of the Reach table: 512 entries (R47). -/
def State.reachBytes (s : State) (u : Nat) : List Byte :=
  (natsFrom ((u - 3) * 512) 512).flatMap fun r => natBytes 8 (s.reach r).toNat

/-- The Reach entries of a unit, every INSTEP read as 0 (R172). -/
def reachOfUnit (u : Nat) (b : List Byte) : List (Nat × DWord) :=
  (List.range 512).filterMap fun k =>
    let v := BitVec.ofNat 64 (numAt b (8 * k) 8) &&& ~~~0x80#64
    if v = 0 then none else some ((u - 3) * 512 + k, v)

/-! ### Remap mirror (R271, R282–R284) -/

/-- Units of the mirror for the pool slots; the marks follow them, then the bindings and the migrations. -/
def poolUnits : Nat := 8
def marksUnit : Nat := 67 + poolUnits
def spareUnit : Nat := 68 + poolUnits

/-- The 32 bytes of a pool slot: the row's key, the slot and its PPR state; a retired slot has state 3. -/
def remapBytes (r : Remap) : List Byte :=
  natBytes 2 r.row.sub ++ natBytes 2 r.row.cs ++ natBytes 2 r.row.rank ++ natBytes 2 r.row.cid ++ natBytes 2 r.row.bg
    ++ natBytes 2 r.row.bank ++ natBytes 4 r.row.row ++ natBytes 4 (r.slot + 1) ++ natBytes 4 r.row.col
    ++ natBytes 8 (match r.ppr with | .none => 0 | .pending => 1 | .done => 2)

/-- The 32 bytes of a retired slot. -/
def retiredBytes (k : Nat) : List Byte := natBytes 16 0 ++ natBytes 4 (k + 1) ++ natBytes 4 0 ++ natBytes 8 3

/-- The remap entry of 32 bytes, where they hold one. -/
def readRemap (b : List Byte) : Option Remap :=
  let n (off k : Nat) : Nat := numAt b off k
  if n 16 4 = 0 || n 24 8 == 3 then none
  else some ⟨⟨Fin.ofNat 32 (n 0 2), n 2 2, n 4 2, n 6 2, n 8 2, n 10 2, n 12 4, n 20 4⟩, n 16 4 - 1,
    if n 24 8 = 0 then .none else if n 24 8 = 1 then .pending else .done⟩

/-- The retired slot of 32 bytes, where they hold one. -/
def readRetired (b : List Byte) : Option Nat :=
  if numAt b 16 4 != 0 && numAt b 24 8 == 3 then some (numAt b 16 4 - 1) else none

/-- The 16 bytes of a mark: its key and position, one on top of each so that no mark is zero. -/
def markBytes (m : Nat × Nat) : List Byte := natBytes 8 (m.1 + 1) ++ natBytes 8 m.2

/-- The mark of 16 bytes. -/
def readMark (b : List Byte) : Option (Nat × Nat) :=
  if numAt b 0 8 = 0 then none else some (numAt b 0 8 - 1, numAt b 8 8)

/-- The 32 bytes of a binding: kind 1. -/
def bindingBytes (b : Binding) : List Byte :=
  natBytes 1 1 ++ natBytes 1 b.ch ++ natBytes 1 b.rank ++ natBytes 1 b.spare ++ natBytes 4 b.mask.toNat ++ natBytes 24 0

/-- The 32 bytes of a migration: kind 2, with its pointer. -/
def migrationBytes (g : Migration) : List Byte :=
  natBytes 1 2 ++ natBytes 1 g.ch ++ natBytes 1 g.rank ++ natBytes 1 g.spare
    ++ natBytes 2 (if g.rankKind then 1 else 0) ++ natBytes 2 (if g.byCmd then 1 else 0)
    ++ natBytes 8 g.bank ++ natBytes 8 g.pos ++ natBytes 8 g.total

/-- The binding of 32 bytes. -/
def readBinding (b : List Byte) : Option Binding :=
  if numAt b 0 1 = 1 then some ⟨Fin.ofNat 16 (numAt b 1 1), numAt b 2 1, numAt b 3 1, BitVec.ofNat 32 (numAt b 4 4)⟩ else none

/-- The migration of 32 bytes. -/
def readMigration (b : List Byte) : Option Migration :=
  if numAt b 0 1 = 2 then
    some ⟨Fin.ofNat 16 (numAt b 1 1), numAt b 4 2 == 1, numAt b 2 1, numAt b 8 8, numAt b 3 1, numAt b 16 8, numAt b 24 8,
      numAt b 6 2 == 1⟩
  else none

/-- The 32 bytes of a row repaired by sPPR (R283): kind 3, with its key. -/
def spprBytes (l : Loc) : List Byte :=
  natBytes 1 3 ++ natBytes 1 l.sub ++ natBytes 1 l.cs ++ natBytes 1 l.cid ++ natBytes 2 l.bg ++ natBytes 2 l.bank ++ natBytes 8 l.row
    ++ natBytes 16 0

/-- The row of 32 bytes that was repaired by sPPR. -/
def readSppr (b : List Byte) : Option Loc :=
  if numAt b 0 1 = 3 then
    some ⟨Fin.ofNat 32 (numAt b 1 1), numAt b 2 1, 0, numAt b 3 1, numAt b 4 2, numAt b 6 2, numAt b 8 8, 0⟩
  else none

/-- One unit of the remap mirror. -/
def State.mirrorBytes (s : State) (u : Nat) : List Byte :=
  if u < marksUnit then
    (natsFrom ((u - 67) * 128) 128).flatMap fun i => match s.ecc.remaps.find? fun r => r.slot == i with
      | some r => remapBytes r
      | none => if s.ecc.retired.contains i then retiredBytes i else List.replicate 32 0
  else if u = marksUnit then padUnit (s.ecc.marks.flatMap markBytes)
  else if u = spareUnit then padUnit (s.ecc.bindings.flatMap bindingBytes ++ s.ecc.migrations.flatMap migrationBytes
    ++ s.sgt.sppr.flatMap spprBytes)
  else List.replicate 4096 0

/-- The pieces of n bytes of a unit. -/
def pieceBytes (n : Nat) (b : List Byte) : List (List Byte) := (List.range (4096 / n)).map fun k => (b.drop (n * k)).take n

/-! ### Leaf map, Log and segment mirrors (R106, R165, R313) -/

/-- A Log slot's 32 bytes (R106). -/
def logBytes (e : LogRec) : List Byte :=
  let body := natBytes 8 e.seq ++ natBytes 8 e.stamp
    ++ natBytes 8 (e.leaf % 2 ^ 34 + e.src.toNat * 2 ^ 34 + e.req.toNat * 2 ^ 40 + e.label.toNat * 2 ^ 48) ++ natBytes 4 e.epoch.toNat
  body ++ natBytes 4 (crc32c body).toNat

/-- A Log slot's entry read from its bytes (R106). -/
def readLog (b : List Byte) : LogRec :=
  let n (off k : Nat) : Nat := numAt b off k
  let w := n 16 8
  ⟨n 0 8, n 8 8, BitVec.ofNat 6 (w / 2 ^ 48), BitVec.ofNat 8 (w / 2 ^ 40), BitVec.ofNat 3 (w / 2 ^ 34), w % 2 ^ 34, BitVec.ofNat 32 (n 24 4)⟩

/-- The leaf-map codes of a unit that are not ZERO (R165). -/
def codesOfUnit (first : Nat) (b : List Byte) : List (Nat × Nat) :=
  (b.zipIdx).flatMap fun x => (List.range 4).filterMap fun k =>
    let c := x.1.toNat / 4 ^ k % 4
    if c = 0 then none else some (first + 4 * x.2 + k, c)

/-- A segment's entry as Restore takes it (R313): no slot; SEALING becomes LOST or VOID. -/
def restoreSeg (b : List Byte) : List Byte :=
  if b == zeroEntry then b
  else
    let e := readEntry b
    if !e.ok then b
    else SegEntry.bytes { e with slot := 0, state := if e.state = 3 then (if e.reseal then 2 else 0) else e.state
                                 reseal := if e.state = 3 then false else e.reseal }

/-- The 4096 bytes of a metadata unit (R162, R165). -/
def State.unitBytes (s : State) (u : Nat) : List Byte :=
  let m := s.map.act
  if u = 2 then padUnit s.plgBytes
  else if u < 67 then s.reachBytes u
  else if u < m.leafMapAt then s.mirrorBytes u
  else if u < m.logMirrorAt then
    (List.range 4096).map fun i =>
      let l := (u - m.leafMapAt) * 16384 + 4 * i
      BitVec.ofNat 8 (s.leafCode l + s.leafCode (l + 1) * 4 + s.leafCode (l + 2) * 16 + s.leafCode (l + 3) * 64)
  else if u < m.segMirrorAt then
    (natsFrom ((u - m.logMirrorAt) * 128) 128).flatMap fun i =>
      match s.plg.ring.find? fun x => x.1 % s.ringN == i with
      | some x => logBytes x.2
      | none => List.replicate 32 0
  else
    (natsFrom ((u - m.segMirrorAt) * 128) 128).flatMap fun g =>
      let e := s.seg g
      if agetD s.dti.segt g zeroEntry == zeroEntry then zeroEntry else SegEntry.bytes { e with slot := 0 }

/-! ### Sidebands of units that are no leaf units (R163) -/

/-- GEN of a unit's sideband: the superblock in use, or in an INIT the one its RUNNING superblock will carry (R163, R172). -/
def State.sideGen (s : State) : Nat :=
  let g := match s.vlt.job with
    | some j => if j.step == VltStep.initUnits then s.vlt.gen + 1 else s.vlt.gen
    | none => s.vlt.gen
  g.toNat % 2 ^ 32

/-- The sideband of such a unit. -/
def State.unitSideband (s : State) (u : Nat) (data : List Byte) : BitVec 256 :=
  sideband 0 (u + 2 ^ 63) s.sideGen (crc32c (data ++ natBytes 8 (u + 2 ^ 63) ++ natBytes 4 s.sideGen))

/-- A metadata unit passes its check (R172): CHECK, its own INDEX, and a GEN not later than the chosen superblock's. -/
def State.unitOk (s : State) (u : Nat) (data : List Byte) (sb : BitVec 256) : Bool :=
  let g : Word := s.vlt.gen.setWidth 32
  let h : Word := BitVec.ofNat 32 (bytesNat (sbBytes sb 24 4))
  sbBytes sb 28 4 == natBytes 4 (crc32c (data ++ sbBytes sb 16 12)).toNat
    && sbBytes sb 16 8 == natBytes 8 (u + 2 ^ 63) && (h == g || epochEarlier h g)

end Sys2Proof.Machine
end

