-- ==== Sys2Proof/Machine/Spare.lean ====
section
/-! DEFINITION. Spare capacity: device marks, the remap pool, bank and rank sparing, failed ranks (R270, R271,
R281–R285). -/

namespace Sys2Proof.Machine

/-! ### Reports and marks -/

/-- ECC_CFG.AUTO. -/
def State.autoSpare (s : State) : Bool := s.flag 0x090000 1

/-- A step of the spare order is only reported (R281). -/
def State.reportSpare (s : State) (step addr : Nat) (l : Loc) : State :=
  (s.logE 0x090F (srcInt 0x09) addr (infoLoc l + step * 2 ^ 48)).event 0x090300 13

/-- The remap mirror is dirty: marks, bindings and the migration pointer persist in it (R165, R271). -/
def State.dirtyMirror (s : State) : State := if s.map.act.remapSize = 0 then s else (s.dirtyUnit marksUnit).dirtyUnit spareUnit

/-- A device is marked (R270). -/
def State.markDevice (s : State) (c cs pos : Nat) : State :=
  let s1 := s.updEcc fun e => { e with marks := aput e.marks (markKey c cs) pos }
  ((s1.dirtyMirror).logE 0x0902 (srcInt 0x09) 0 (pos + infoCs c cs)).event 0x090300 2

/-- Whether MARK_DEV or SGT's report may mark a device (R270): an x4 population, an unmarked chip select, a symbol
position. -/
def State.canMark (s : State) (c cs pos : Nat) : Bool :=
  !s.map.act.width8 && (aget s.ecc.marks (markKey c cs)).isNone && decide (pos ≤ 9)

/-! ### Chip selects -/

/-- The logical rank a chip select of a channel serves (R40). -/
def State.rankOfCs (s : State) (ch cs : Nat) : Option Nat :=
  (List.range (2 ^ s.map.act.rankBits)).find? fun r => csOf (s.map.act.csmap.getD ch 0x3210) r == cs

/-- A chip select of a channel is free as a spare (R284): present, passed, serving no rank, not retired. -/
def State.freeSpare (s : State) (ch cs : Nat) : Bool :=
  decide (cs < s.chipSelects) && (s.rankOfCs ch cs).isNone
    && !s.ecc.failing.contains (ch, cs)
    && !(s.ecc.bindings.any fun b => b.ch.val == ch && b.spare == cs)
    && !(s.ecc.migrations.any fun g => g.ch.val == ch && g.spare == cs)
    && agetD s.sgt.rsts (8 * ch + cs) 0 == 0 && agetD s.sgt.rsts (8 * ch + 4 + cs) 0 == 0

/-- The lowest free spare of a channel. -/
def State.spareFor (s : State) (ch : Nat) : Option Nat := (List.range 4).find? (s.freeSpare ch)

/-- The binding of a rank of a channel. -/
def State.bindingOf (s : State) (ch rank : Nat) : Option Binding :=
  s.ecc.bindings.find? fun b => b.ch.val == ch && b.rank == rank

/-! ### Row remapping -/

/-- Pool slots in use, on their way to be, or retired. -/
def State.slotTaken (s : State) (k : Nat) : Bool :=
  s.ecc.retired.contains k || (s.ecc.remaps.any fun r => r.slot == k) || s.ecc.moves.any fun m => m.slot == k

/-- The lowest free pool slot (R282). -/
def State.freePool (s : State) : Option Nat := (List.range s.map.act.poolSlots).find? fun k => !s.slotTaken k

/-- The logical ranks of which a chip select of a channel serves something (R40, R284). -/
def State.ranksAt (s : State) (ch cs : Nat) : List Nat :=
  (s.rankOfCs ch cs).toList
    ++ (s.ecc.bindings.filter fun b => b.ch.val == ch && b.spare == cs).map (fun b => b.rank)
    ++ (s.ecc.migrations.filter fun g => g.ch.val == ch && g.spare == cs).map fun g => g.rank

/-- The Tier 0 lines that are stored in a row, given by its key, with no remapping (R282): none where its chip select serves
no rank there. -/
def State.rowTier (s : State) (row : Loc) : List Nat :=
  ((s.ranksAt (row.sub.val / 2) row.cs).dedup.flatMap fun r =>
    (List.range s.map.act.rowLines).map fun i => s.map.act.lineAt { row with rank := r, col := i }).filter fun line =>
      rowKey (s.homeOf line) == row

/-- Remap-table entry of a row in place of the one it had. -/
def putRemap (l : List Remap) (r : Remap) : List Remap := (l.filter fun x => x.row != r.row) ++ [r]

/-- The number of a bank in the count of remapped rows. -/
def bankCountKey (l : Loc) : Nat := ((l.sub.val * 4 + l.cs) * 4 + l.cid) * 32 + bankNo l

/-- sPPR in service repairs a row once (R283); a second repair of the row is refused. -/
def State.spprRow (s : State) (row : Loc) : Bool × State :=
  if s.sgt.sppr.contains row then (false, s) else (true, (s.updSgt fun g => { g with sppr := g.sppr ++ [row] }).dirtyMirror)

/-- What the request to remap a row gave: its move has begun, one is under way already, or no slot is free, and whether its
bank is then to be counted because sPPR was refused. -/
inductive Remapped where
  | begun
  | under
  | full (counted : Bool)
  deriving DecidableEq, Repr

/-- Remap a row, given by its key (R282): its move to the lowest free slot begins, also where it is served from a slot
already. -/
def State.remapRow (s : State) (row : Loc) (addr : Nat) (byCmd : Bool) : Remapped × State :=
  if s.ecc.moves.any fun m => m.row == row then (.under, s)
  else match s.freePool with
  | none =>
    let s1 := (s.logE 0x0907 (srcInt 0x09) addr (infoLoc row)).event 0x090300 4
    let p := s1.spprRow row
    (.full (!p.1), p.2)
  | some k =>
    let m : RowMove := { row := row, slot := k, addr := addr, byCmd := byCmd, todo := s.rowTier row }
    (.begun, s.updEcc fun e => { e with moves := e.moves ++ [m] })

/-! ### Bank and rank sparing -/

/-- Lines of one subchannel that a migration copies. -/
def MapSet.copyTotal (m : MapSet) (rankKind : Bool) : Nat :=
  2 ^ m.cidBits * (if rankKind then 32 else 1) * 2 ^ m.row * m.rowLines

/-- An entry of a failed rank in the write queue is dropped and logged (R285). -/
def State.loseWrite (s : State) (e : WEntry) : State :=
  s.logE 0x090B (srcOf e.who) (lineAddr e.line) (infoLoc e.loc)

/-- SD_RES of the Sounding probe unit (R382, R385): the outcome, BUSY cleared. -/
def State.probeResult (s : State) (v : Nat) : State :=
  (s.setUnitReg 24 0x08 (BitVec.ofNat 64 v)).updSua fun u => { u with busy := u.busy.filter (· != 24) }

/-- What the read of a line that is copied brought. -/
def State.copyGot (s : State) (line : Nat) (d : Line) (pois : Bool) : State :=
  s.updEcc fun e => { e with copies := mapIf e.copies (fun c => c.line == line) fun c => { c with got := some (d, pois) } }

/-- A read that ends ERR_DEVICE: its answer, by where its data was to go (R192, R275, R285). -/
def State.failRead (s : State) (dest : ReadDest) (line : Nat) (c : Code) : State :=
  match dest with
  | .host p t l r =>
    let s1 := if r then s.failResv (.host p l) line else s
    (s1.readerDone line).respondCode p t c
  | .merge j => s.endJob j c 0
  | .drain i off => s.drainLine i off poisonMarker true
  | .pilot e n addr r =>
    let s1 := if r then s.failResv (.engine e) line else s
    (s1.readerDone line).loadAnswer e n addr (.bad c)
  | .ring q k => s.ringArrive q k (.bad c)
  | .toTwin leaf off no => s.twinLine leaf off no none
  | .sounding p => if p then s.probeResult 4 else s
  | .soundSpare => s
  | .copy => s.copyGot line 0 true

/-- The queued entries of a failed rank: reads are answered ERR_DEVICE, writes dropped, and a Sounding read that is offered
is given up (R285). -/
def State.dropRank (s : State) (c rank : Nat) : State :=
  let q := s.sub c
  let mine (l : Loc) : Bool := l.rank == rank
  let offered := (q.offer.filter fun e => mine e.loc).toList
  let reads := q.rq.filter fun e => mine e.loc
  let writes := q.wq.filter fun e => mine e.loc
  let q1 := { q with
    rq := q.rq.filter fun e => !mine e.loc
    wq := q.wq.filter fun e => !mine e.loc
    offer := q.offer.filter fun e => !mine e.loc
    poisonLeft := q.poisonLeft.filter fun i => !(writes.any fun e => e.id == i) }
  let s1 := s.setSub c q1
  writes.foldl (fun t e => t.loseWrite e) ((reads ++ offered).foldl (fun t e => t.failRead e.dest e.line .errDevice) s1)

/-- A rank fails with no spare (R285). -/
def State.failRank (s : State) (ch rank : Nat) : State :=
  let cs := csOf (s.map.act.csmap.getD ch 0x3210) rank
  let set (l : List (Nat × Nat)) (c : Nat) : List (Nat × Nat) := aput l c (Nat.lor (agetD l c 0) (2 ^ rank))
  let s1 := s.updEcc fun e => { e with rankFail := set (set e.rankFail (2 * ch)) (2 * ch + 1) }
  let untarget (t : State) (c : Nat) : State :=
    let r := t.rpmSub c
    t.setRpm c { r with targeted := r.targeted.filter fun x => x.loc.cs != cs }
  let s2 := untarget (untarget ((s1.dropRank (2 * ch) rank).dropRank (2 * ch + 1) rank) (2 * ch)) (2 * ch + 1)
  let s3 := s2.updSgt fun g => { g with resights := g.resights.filter fun r => !(r.sub.val / 2 == ch && r.cs == cs) }
  let info := cs * 2 ^ 26 + ch * 2 ^ 32 + rank * 2 ^ 40
  ((s3.logE 0x090C (srcInt 0x09) 0 info).event 0x090300 8).setCause 0

/-- First copied position of a rank whose banks are partly spared: that of the first bank not served by the spare
(R284). -/
def State.rankStart (s : State) (ch rank : Nat) : Nat :=
  let m := s.map.act
  match s.bindingOf ch rank with
  | some b =>
    let k := ((List.range 32).find? fun i => !bit b.mask i).getD 0
    k * 2 ^ m.row * m.rowLines
  | none => 0

/-- Rank sparing (R284): its bound spare, else a free one; none free fails the rank (R285). Answers the result of
ECC_CMD_RES: 0 started, 2 no spare. -/
def State.spareRank (s : State) (ch rank : Nat) (byCmd : Bool) : Nat × State :=
  let m := s.map.act
  if s.ecc.migrations.any (fun g => g.ch.val == ch && g.rank == rank && g.rankKind) then (1, s)
  else
    let spare := match s.bindingOf ch rank with
      | some b => some b.spare
      | none => match s.ecc.migrations.find? fun g => g.ch.val == ch && g.rank == rank with
        | some g => some g.spare
        | none => s.spareFor ch
    match spare with
    | none => (2, s.failRank ch rank)
    | some k =>
      let g : Migration :=
        { ch := Fin.ofNat 16 ch, rankKind := true, rank := rank, bank := 0, spare := k, pos := s.rankStart ch rank
          total := m.copyTotal true, byCmd := byCmd }
      (0, (s.updEcc fun e => { e with migrations := e.migrations ++ [g] }).dirtyMirror)

/-- Banks of a rank that are spared or being spared. -/
def State.sparedBanks (s : State) (ch rank : Nat) : Nat :=
  let b := match s.bindingOf ch rank with
    | some b => ((List.range 32).filter fun i => bit b.mask i).length
    | none => 0
  b + (s.ecc.migrations.filter fun g => g.ch.val == ch && g.rank == rank && !g.rankKind).length

/-- Bank sparing (R281, R284): a bank beyond BANK_MAX makes the rank failing. -/
def State.spareBank (s : State) (ch rank bank : Nat) (byCmd : Bool) : Nat × State :=
  if s.fld 0x090004 0 6 < s.sparedBanks ch rank + 1 then
    (if byCmd || s.autoSpare then s.spareRank ch rank byCmd
     else (0, s.reportSpare 5 0 { sub := Fin.ofNat 32 (2 * ch), cs := csOf (s.map.act.csmap.getD ch 0x3210) rank,
                                  rank := rank, cid := 0, bg := 0, bank := 0, row := 0, col := 0 }))
  else
    let spare := match s.bindingOf ch rank with
      | some b => some b.spare
      | none => match s.ecc.migrations.find? fun g => g.ch.val == ch && g.rank == rank with
        | some g => some g.spare
        | none => s.spareFor ch
    match spare with
    | none => (2, s)
    | some k =>
      let g : Migration :=
        { ch := Fin.ofNat 16 ch, rankKind := false, rank := rank, bank := bank, spare := k, pos := 0
          total := s.map.act.copyTotal false, byCmd := byCmd }
      (0, (s.updEcc fun e => { e with migrations := e.migrations ++ [g] }).dirtyMirror)

/-- A bank already spared or being spared. -/
def State.bankTaken (s : State) (ch rank bank : Nat) : Bool :=
  (match s.bindingOf ch rank with | some b => bit b.mask bank | none => false)
    || s.ecc.migrations.any fun g => g.ch.val == ch && g.rank == rank && (g.rankKind || g.bank == bank)

/-- A row counts toward its bank; a failing bank is spared or reported (R281). -/
def State.countBank (s : State) (row : Loc) : State :=
  let k := bankCountKey row
  let n := agetD s.ecc.bankRows k 0 + 1
  let s1 := s.updEcc fun e => { e with bankRows := aput e.bankRows k n }
  let ch := row.sub.val / 2
  match s.rankOfCs ch row.cs with
  | none => s1
  | some r =>
    if n < orOne (s.fld 0x090004 16 8) || s.bankTaken ch r (bankNo row) then s1
    else if s.autoSpare then (s1.spareBank ch r (bankNo row) false).2
    else s1.reportSpare 4 0 { row with rank := r, row := 0 }

/-- A failing row is remapped (R282): the result of ECC_CMD_RES, and whether its move has begun. -/
def State.retireRow (s : State) (row : Loc) (addr : Nat) (byCmd : Bool) : (Nat × Bool) × State :=
  match s.remapRow row addr byCmd with
  | (.begun, t) => ((0, true), t)
  | (.under, t) => ((1, false), t)
  | (.full counted, t) => ((if counted then 3 else 0, false), if counted then t.countBank row else t)

/-- A row has moved (R282, R283): its table entry and the directory name the slot, the slot that served it is retired, and
its first move counts toward its bank; a row that moves back leaves the table. -/
def State.rowMoved (s : State) (m : RowMove) : State :=
  let old := s.ecc.remaps.find? fun r => r.row == m.row
  let s1 := s.updEcc fun e => { e with
    moves := e.moves.filter fun x => x != m
    cmdBusy := e.cmdBusy && !m.byCmd, cmdRes := if m.byCmd then 0 else e.cmdRes
    remaps := if m.back then e.remaps.filter fun r => r.row != m.row else putRemap e.remaps ⟨m.row, m.slot, .pending⟩
    retired := match old with | some r => if m.back then e.retired else insertNat e.retired r.slot | none => e.retired }
  let s2 := match old with | some r => s1.dirtyUnit (remapUnit r.slot) | none => s1
  if m.back then s2
  else
    let s3 := ((s2.dirtyUnit (remapUnit m.slot)).logE 0x0906 (srcInt 0x09) m.addr (infoLoc m.row)).event 0x090300 3
    if old.isNone then s3.countBank m.row else s3

/-- Step 2 of the spare order: a failing row is remapped, or reported with AUTO at 0 (R281). -/
def State.rowFails (s : State) (row : Loc) (addr : Nat) : State :=
  if s.autoSpare then (s.retireRow row addr false).2 else s.reportSpare 2 addr row

/-- Step 5 of the spare order: a failing rank (R281). -/
def State.rankFails (s : State) (ch rank addr : Nat) (l : Loc) : State :=
  if s.ecc.migrations.any (fun g => g.ch.val == ch && g.rank == rank && g.rankKind)
      || (agetD s.ecc.rankFail (2 * ch) 0).testBit rank then s
  else if s.autoSpare then (s.spareRank ch rank false).2 else s.reportSpare 5 addr l

/-! ### Copying -/

/-- A bank of a rank is already served by the spare, or is moved by a bank migration of its own. -/
def State.skipsBank (s : State) (g : Migration) (bank : Nat) : Bool :=
  g.rankKind && (match s.bindingOf g.ch g.rank with | some b => bit b.mask bank | none => false)

/-- Rows of a chip select that the spare has taken over leave the directory, and their slots are free: it is keyed on the
chip select (R282), which serves those rows no longer. A row that was moving to the pool stays where it is. -/
def State.unpool (s : State) (ch : Nat) (p : Loc → Bool) : State :=
  let mine (l : Loc) : Bool := l.sub.val / 2 == ch && p l
  let rows := s.ecc.remaps.filter fun r => mine r.row
  let cut := s.ecc.moves.filter fun m => mine m.row
  let cmd := cut.any fun m => m.byCmd
  let s1 := s.updEcc fun e => { e with
    remaps := e.remaps.filter fun r => !mine r.row, moves := e.moves.filter fun m => !mine m.row
    cmdBusy := e.cmdBusy && !cmd, cmdRes := if cmd then 3 else e.cmdRes }
  rows.foldl (fun t r => t.dirtyUnit (remapUnit r.slot)) s1

/-- The migration ends (R284): the bank's bit or the chip-select map is written and the sparing is logged. -/
def State.copyDone (s : State) (g : Migration) : State :=
  let m := s.map.act
  let ch := g.ch.val
  let old := csOf (m.csmap.getD ch 0x3210) g.rank
  let drop (s : State) : State := s.updEcc fun e =>
    { e with migrations := e.migrations.filter fun x => x != g, cmdBusy := e.cmdBusy && !g.byCmd
             cmdRes := if g.byCmd then 0 else e.cmdRes }
  let loc : Loc := { sub := Fin.ofNat 32 (2 * ch), cs := old, rank := g.rank, cid := 0, bg := g.bank / 4, bank := g.bank % 4
                     row := 0, col := 0 }
  let calm (t : State) (c : Nat) (p : Nat → Bool) : State :=
    let r := t.rpmSub c
    t.setRpm c { r with
      raa := r.raa.filter fun x => !p x.1
      track := r.track.filter fun x => !p x.1
      targeted := r.targeted.filter fun x => !p (bankKey x.loc) }
  if g.rankKind then
    let w := m.csmap.getD ch 0x3210
    let w2 := (w &&& ~~~(at_ 0xF (4 * g.rank) 4)) ||| at_ g.spare (4 * g.rank) 4
    let s1 := (drop (s.unpool ch fun l => l.cs == old)).updMap fun p => { p with act := { p.act with csmap := p.act.csmap.set ch w2 } }
    let s2 := s1.setReg (0x040100 + 4 * ch) w2
    let s3 := s2.updEcc fun e => { e with
      bindings := e.bindings.filter fun b => !(b.ch.val == ch && b.rank == g.rank)
      failing := e.failing ++ [(ch, old)] }
    ((s3.dirtyMirror).logE 0x090A (srcInt 0x09) 0 (infoLoc { loc with bg := 0, bank := 0 } + g.spare * 2 ^ 44)).event 0x090300 7
  else
    let bindings := match s.bindingOf ch g.rank with
      | some b => mapIf s.ecc.bindings (fun x => x == b) fun x => { x with mask := x.mask ||| bitAt true g.bank }
      | none => s.ecc.bindings ++ [⟨g.ch, g.rank, g.spare, bitAt true g.bank⟩]
    let s1 := (drop (s.unpool ch fun l => l.cs == old && bankNo l == g.bank)).updEcc fun e => { e with bindings := bindings }
    let retired (k : Nat) : Bool := keyCs k == old && k % 32 == g.bank
    let s2 := calm (calm s1 (2 * ch) retired) (2 * ch + 1) retired
    ((s2.dirtyMirror).logE 0x0909 (srcInt 0x09) 0 (infoLoc loc + g.spare * 2 ^ 44)).event 0x090300 6

/-- The lines at a migration's pointer, one in each subchannel, with their places on the spare; none in a bank that the
spare serves already. -/
def State.copyLines (s : State) (g : Migration) : List (Nat × Loc) :=
  let m := s.map.act
  let cs := csOf (m.csmap.getD g.ch.val 0x3210) g.rank
  ([0, 1].map fun sub => m.copyLoc g sub cs g.pos).filterMap fun l =>
    if s.skipsBank g (bankNo l) then none else some (m.lineAt l, { l with cs := g.spare })

/-- The migration pointer moves on (R284). -/
def State.pointerOn (s : State) (g : Migration) : State :=
  let g1 := { g with pos := g.pos + 1 }
  let s1 := (s.updEcc fun e => { e with migrations := mapIf e.migrations (fun x => x == g) fun _ => g1 }).dirtyMirror
  if g1.total ≤ g1.pos then s1.copyDone g1 else s1

end Sys2Proof.Machine
end

