-- ==== Sys2Proof/Machine/Timing.lean ====
section
/-! DEFINITION. The timing rules of DDR5 as the block enforces them, in CK between first CA cycles, and the open rows
(R198–R202). -/

namespace Sys2Proof.Machine

/-! ### Commands -/

/-- ACT. -/
def DOp.isAct : DOp → Bool | .act => true | _ => false

/-- RD or RDA. -/
def DOp.isRd : DOp → Bool | .rd | .rda => true | _ => false

/-- WR or WRA. -/
def DOp.isWr : DOp → Bool | .wr | .wra => true | _ => false

/-- A column command. -/
def DOp.isCol (o : DOp) : Bool := o.isRd || o.isWr

/-- A precharge command. -/
def DOp.isPre : DOp → Bool | .prePb | .preSb | .preAb => true | _ => false

/-- CA cycles of a command (R198). -/
def DOp.cycles (o : DOp) : Nat :=
  match o with
  | .act | .rd | .rda | .wr | .wra | .mrw | .mrr => 2
  | _ => 1

/-- Whether a command at a location reaches a bank: same-bank commands reach their bank address in every bank group,
all-bank commands every bank of the chip select (R198, R212). -/
def DOp.reaches (o : DOp) (l : Loc) (k : Nat) : Bool :=
  match o with
  | .preAb | .refAb | .rfmAb => keyCs k == l.cs
  | .preSb | .refSb | .rfmSb => keyCs k == l.cs && keyBank k == l.bank
  | .act | .rd | .rda | .wr | .wra | .prePb => k == bankKey l
  | _ => false

/-! ### Timing fields -/

/-- The timing fields of a channel (R201). -/
structure Tim where
  cl : Nat
  cwl : Nat
  trcd : Nat
  trp : Nat
  tras : Nat
  trc : Nat
  trtp : Nat
  twr : Nat
  trrdS : Nat
  trrdL : Nat
  tfaw : Nat
  tppd : Nat
  tccdS : Nat
  tccdL : Nat
  tccdLWr : Nat
  tccdDlr : Nat
  twtrS : Nat
  twtrL : Nat
  trrdDlr : Nat
  tfawDlr : Nat
  trfc : Nat
  trfc1 : Nat
  trfcsb : Nat
  trefsbrd : Nat
  rtr : Nat
  wtw : Nat
  rtw : Nat
  tmrw : Nat
  tmrd : Nat
  deriving DecidableEq, Repr

/-- The timing fields of the channel of a subchannel; TRFC2 governs REFab in FGR (R201, R212). -/
def State.tim (s : State) (c : Nat) : Tim :=
  let f (n lo w : Nat) : Nat := s.fld (chsPage (c / 2) + 0x100 + 4 * n) lo w
  { cl := f 0 0 8, cwl := f 0 8 8, trcd := f 0 16 8, trp := f 0 24 8
    tras := f 1 0 8, trc := f 1 8 8, trtp := f 1 16 8, twr := f 1 24 8
    trrdS := f 2 0 8, trrdL := f 2 8 8, tfaw := f 2 16 8, tppd := f 2 24 8
    tccdS := f 3 0 8, tccdL := f 3 8 8, tccdLWr := f 3 16 8, tccdDlr := f 3 24 8
    twtrS := f 4 0 8, twtrL := f 4 8 8, trrdDlr := f 4 16 8, tfawDlr := f 4 24 8
    trfc := if s.refMode = 0 then f 5 0 12 else f 6 0 12
    trfc1 := f 5 0 12, trfcsb := f 5 16 12, trefsbrd := f 6 24 8
    rtr := f 7 0 4, wtw := f 7 4 4, rtw := f 7 8 4, tmrw := f 7 16 8, tmrd := f 7 24 8 }

/-! ### Gaps -/

/-- Minimum gaps from a refresh or refresh-management command to a later one (R201). -/
def Tim.afterRef (t : Tim) (a : DOp) (la : Loc) (b : DOp) (lb : Loc) : List (Nat × HoldReason) :=
  match a with
  | .refAb => if la.cs = lb.cs then [(t.trfc, .refresh)] else []
  | .rfmAb => if la.cs = lb.cs then [(t.trfc1, .refresh)] else []
  | .refSb | .rfmSb =>
    if la.cs ≠ lb.cs then []
    else if la.bank = lb.bank || b == .preAb || b == .refAb then [(t.trfcsb, .refresh)]
    else if b.isAct && a == .refSb then [(t.trefsbrd, .refresh)] else []
  | .mrw => if b = .mrw then [(t.tmrw, .timing)] else [(t.tmrd, .timing)]
  | _ => []

/-- Gap to a command that needs the bank precharged (R201); what RDA and WRA precharge is with `Tim.ready`. -/
def Tim.toIdle (t : Tim) (a : DOp) (la : Loc) (b : DOp) (lb : Loc) : List (Nat × HoldReason) :=
  let closes : Bool := if b.isAct then a.reaches la (bankKey lb) else match a with
    | .prePb => b.reaches lb (bankKey la)
    | .preSb => la.cs == lb.cs && (b == .refAb || b == .rfmAb || la.bank == lb.bank)
    | _ => la.cs == lb.cs
  if a.isPre then (if closes then [(t.trp, .timing)] else [])
  else if b.reaches lb (bankKey la) then
    (match a with
      | .act => [(Nat.max t.trc (t.tras + t.trp), .timing)]
      | _ => [])
  else []

/-- Gap between two ACT (R201). -/
def Tim.actAct (t : Tim) (la lb : Loc) : List (Nat × HoldReason) :=
  if la.cs ≠ lb.cs then []
  else if la.cid ≠ lb.cid then [(t.trrdDlr, .timing)]
  else if la.bg = lb.bg then [(t.trrdL, .timing)]
  else [(t.trrdS, .timing)]

/-- Gap to RD or RDA (R201, R202). -/
def Tim.toRd (t : Tim) (a : DOp) (la lb : Loc) : List (Nat × HoldReason) :=
  if a.isAct then (if bankKey la = bankKey lb then [(t.trcd, .timing)] else [])
  else if a.isRd then
    (if la.cs ≠ lb.cs then [(8 + t.rtr, .turn)]
     else if la.cid ≠ lb.cid then [(t.tccdDlr, .timing)]
     else if la.bg = lb.bg then [(t.tccdL, .timing)] else [(t.tccdS, .timing)])
  else if a.isWr then
    (if la.cs ≠ lb.cs then [((t.cwl + 8 + 2) - t.cl + t.rtr, .turn)]
     else if la.bg = lb.bg then [(t.cwl + 8 + t.twtrL, .turn)] else [(t.cwl + 8 + t.twtrS, .turn)])
  else []

/-- Gap to WR or WRA (R201, R202). Which sequence of two writes TCCD_L governs is not said: both it and TCCD_L_WR are kept
(DESIGN CHOICE, entry 76). -/
def Tim.toWr (t : Tim) (a : DOp) (la lb : Loc) : List (Nat × HoldReason) :=
  if a.isAct then (if bankKey la = bankKey lb then [(t.trcd, .timing)] else [])
  else if a.isRd then [(t.cl + 8 + 2 + t.rtw - t.cwl, .turn)]
  else if a.isWr then
    (if la.cs ≠ lb.cs then [(8 + t.wtw, .turn)]
     else if la.cid ≠ lb.cid then [(t.tccdDlr, .timing)]
     else if la.bg = lb.bg then [(t.tccdLWr, .timing), (t.tccdL, .timing)] else [(t.tccdS, .timing)])
  else []

/-- Gap to a precharge (R201, R202). -/
def Tim.toPre (t : Tim) (a : DOp) (la : Loc) (b : DOp) (lb : Loc) : List (Nat × HoldReason) :=
  let hit := b.reaches lb (bankKey la)
  if a.isPre then (if la.cs = lb.cs then [(t.tppd, .timing)] else [])
  else if !hit then []
  else match a with
    | .act => [(t.tras, .timing)]
    | .rd | .rda => [(t.trtp, .timing)]
    | .wr | .wra => [(t.cwl + 8 + t.twr, .turn)]
    | _ => []

/-- Minimum gaps in CK from a command to a later one, the CA rule apart (R201, R202). -/
def Tim.gaps (t : Tim) (a : DOp) (la : Loc) (b : DOp) (lb : Loc) : List (Nat × HoldReason) :=
  t.afterRef a la b lb ++
  (if b.isAct then t.toIdle a la b lb ++ (if a.isAct then t.actAct la lb else [])
   else if b.isRd then t.toRd a la lb
   else if b.isWr then t.toWr a la lb
   else if b.isPre then t.toPre a la b lb
   else t.toIdle a la b lb)

/-- The later of two times with their reasons. -/
def laterOf (x y : Nat × HoldReason) : Nat × HoldReason := if x.1 < y.1 then y else x

/-- The four-activate windows: an ACT waits for the fourth last one of its rank, and of its stack (R201). -/
def Tim.faw (t : Tim) (hist : List Launched) (lb : Loc) : Nat × HoldReason :=
  let acts := hist.reverse.filter fun a => a.op.isAct && a.loc.cs == lb.cs
  let one := match (acts.filter fun a => a.loc.cid == lb.cid)[3]? with | some a => a.slot + t.tfaw | none => 0
  let all := match acts[3]? with | some a => a.slot + t.tfawDlr | none => 0
  (Nat.max one all, .timing)

/-- The precharge of RDA or WRA in a bank (R202). -/
structure Closing where
  slot : Nat
  loc : Loc
  /-- made by RDA or WRA -/
  own : Bool
  deriving DecidableEq, Repr

/-- Precharges in slot order, with one more. -/
def putClosing (l : List Closing) (p : Closing) : List Closing :=
  match l with
  | [] => [p]
  | x :: r => if p.slot < x.slot then p :: x :: r else x :: putClosing r p

/-- The precharges that launched commands make, after one more command: an RDA or WRA precharges at the earliest slot after
it that TRTP or TWR, TRAS and TPPD allow (R202). `done` holds the commands before it. -/
def Tim.closes (t : Tim) (done : List Launched) (l : List Closing) (a : Launched) : List Closing :=
  if a.op.isPre then putClosing l ⟨a.slot, a.loc, false⟩
  else if a.op = .rda || a.op = .wra then
    let n := a.slot + (if a.op = .rda then t.trtp else t.cwl + 8 + t.twr)
    let n1 := match done.reverse.find? fun x => x.op.isAct && bankKey x.loc == bankKey a.loc with
      | some x => Nat.max n (x.slot + t.tras)
      | none => n
    let n2 := l.foldl (fun k p => if p.loc.cs = a.loc.cs && decide (k < p.slot + t.tppd) && decide (p.slot < k + t.tppd)
      then p.slot + t.tppd else k) n1
    putClosing l ⟨n2, a.loc, true⟩
  else l

/-- The precharges of some launched commands, in slot order. -/
def Tim.closings (t : Tim) (hist : List Launched) : List Closing :=
  (hist.foldl (fun (x : List Launched × List Closing) a => (x.1 ++ [a], t.closes x.1 x.2 a)) ([], [])).2

/-- A slot is free for a precharge of a chip select: no RDA or WRA precharges within TPPD of it (R201, R202). -/
def Tim.clearOf (t : Tim) (l : List Closing) (op : DOp) (x : Loc) (slot : Nat) : Bool :=
  !op.isPre || !(l.any fun p => p.own && p.loc.cs == x.cs && decide (slot < p.slot + t.tppd) && decide (p.slot < slot + t.tppd))

/-- The first slot from one on that is free for a precharge. -/
def Tim.firstClear (t : Tim) (l : List Closing) (op : DOp) (x : Loc) (slot : Nat) : Nat :=
  l.foldl (fun k p => if t.clearOf [p] op x k then k else p.slot + t.tppd) slot

/-- The first slot at which every rule but the CA rule and TPPD after an RDA or WRA holds for a command after some launched
ones (R201, R202), and the rule that sets it. -/
def Tim.ready (t : Tim) (hist : List Launched) (op : DOp) (l : Loc) : Nat × HoldReason :=
  let base : Nat × HoldReason := if op.isAct then t.faw hist l else (0, .timing)
  let idles : Bool := !op.isCol && !op.isPre
  let first := (t.closings hist).foldl (fun r p =>
    if idles && p.own && op.reaches l (bankKey p.loc) then laterOf r (p.slot + t.trp, .timing) else r) base
  hist.foldl (fun r a => (t.gaps a.op a.loc op l).foldl (fun r g => laterOf r (a.slot + g.1, g.2)) r) first

/-- A command breaks no rule at a slot (R201, R202), the CA rule apart. -/
def Tim.allows (t : Tim) (hist : List Launched) (op : DOp) (l : Loc) (slot : Nat) : Bool :=
  decide ((t.ready hist op l).1 ≤ slot) && t.clearOf (t.closings hist) op l slot

/-- The first CA slot free after some launched commands (R202). -/
def caFree (hist : List Launched) : Nat := hist.foldl (fun m a => Nat.max m (a.slot + a.op.cycles)) 0

/-- A command on the pins: a column command with the column address of its line (R39). -/
def launched (slot : Nat) (op : DOp) (l : Loc) : Launched :=
  { slot := slot, op := op, loc := l, ca := if op.isCol then l.col * 16 else 0 }

/-! ### Open rows -/

/-- A bank of a subchannel. -/
def SubState.bank (c : SubState) (k : Nat) : Bank := (c.banks.find? fun b => b.key == k).getD { key := k }

/-- The banks with one set, keys rising. -/
def putBank (l : List Bank) (b : Bank) : List Bank :=
  match l with
  | [] => [b]
  | x :: r => if b.key < x.key then b :: x :: r else if b.key = x.key then b :: r else x :: putBank r b

/-- The subchannel with a bank changed. -/
def SubState.updBank (c : SubState) (k : Nat) (f : Bank → Bank) : SubState := { c with banks := putBank c.banks (f (c.bank k)) }

/-- Banks with an open row that a command reaches. -/
def SubState.openIn (c : SubState) (op : DOp) (l : Loc) : Bool := c.banks.any fun b => b.openRow.isSome && op.reaches l b.key

/-- A location that stands for a chip select or a bank address of it. -/
def csLoc (c cs bank : Nat) : Loc :=
  { sub := Fin.ofNat 32 c, cs := cs, rank := 0, cid := 0, bg := 0, bank := bank, row := 0, col := 0 }

/-- A command SGT or Save sends to a chip select, beside those of the scheduler (R198): MRW, MRR, MPC, SRE and SRX, and the
PREab ahead of an SRE. -/
def State.sends (s : State) (c : Nat) (op : DOp) (cs : Nat) : State :=
  let q := s.sub c
  s.setSub c { q with lastClass := 2, hist := (q.hist ++ [launched q.slot op (csLoc c cs 0)]).filter fun y => decide (q.slot < y.slot + 5000) }

/-- A command SGT sends to every chip select in use of a subchannel. -/
def State.sendsAll (s : State) (c : Nat) (op : DOp) : State := (s.csList c).foldl (fun t cs => t.sends c op cs) s

/-- Every open row of a subchannel is closed by PREab (R197). -/
def State.closeRows (s : State) (c : Nat) : State :=
  let s1 := ((s.csList c).filter fun cs => (s.sub c).openIn .preAb (csLoc c cs 0)).foldl (fun t cs => t.sends c .preAb cs) s
  let q := s1.sub c
  s1.setSub c { q with banks := q.banks.map fun b => { b with openRow := none, lastClosed := none, auto := false, conflict := false } }

/-- Every rank of a subchannel is placed in self-refresh, its rows closed, or leaves it (R171, R198, R251). -/
def State.selfRefresh (s : State) (c : Nat) (on : Bool) : State :=
  let s1 := (s.csList c).foldl (fun t cs => if on then (t.sends c .preAb cs).sends c .sre cs else t.sends c .srx cs) s
  let q := s1.sub c
  s1.setSub c { q with selfRef := on, banks := if on then [] else q.banks }

/-- Save places every rank of the block in self-refresh (R171). -/
def State.selfRefreshAll (s : State) : State := (List.range 32).foldl (fun t c => t.selfRefresh c true) s

/-- The launched commands with those handed over and not yet launched at the slots they will take (R199, R200). -/
def Tim.predict (t : Tim) (hist : List Launched) (items : List (Nat × Item)) : List Launched :=
  match items with
  | [] => hist
  | (at_, .cmd op l _ _) :: r =>
    let slot := t.firstClear (t.closings hist) op l (Nat.max (Nat.max (at_ + 2) (caFree hist)) (t.ready hist op l).1)
    t.predict (hist ++ [launched slot op l]) r
  | (_, .hold _) :: r => t.predict hist r

/-- The score after an ACT (R197): up when the row is the one page_close last closed, down after a row conflict. -/
def Bank.scoreAct (b : Bank) (row : Nat) : Nat :=
  if b.lastClosed = some row then Nat.min 3 (b.score + 1) else if b.conflict then b.score - 1 else b.score

/-- The open rows after a command is handed to the edge (R197, R200). DEDUCED (log 56): at score 0 the precharge of RDA and
WRA is the close of page_close at idle time none. -/
def SubState.track (c : SubState) (op : DOp) (l : Loc) (why : Why) (slot : Nat) : SubState :=
  let k := bankKey l
  match op with
  | .act =>
    c.updBank k fun b => { b with
      openRow := some l.row, score := b.scoreAct l.row, lastClosed := none, conflict := false, lastCol := slot
      reopen := b.lastClosed == some l.row && !b.auto, auto := false }
  | .rd | .wr => c.updBank k fun b => { b with lastCol := slot }
  | .rda | .wra => c.updBank k fun b => { b with
      lastCol := slot, openRow := none, auto := b.score == 0
      lastClosed := if b.score = 0 then b.openRow else b.lastClosed }
  | .prePb | .preSb | .preAb =>
    let close (b : Bank) : Bank :=
      if op.reaches l b.key && b.openRow.isSome then
        { b with
          openRow := none
          lastClosed := if why == .pageClose then b.openRow else b.lastClosed
          auto := false
          conflict := why == .conflict }
      else b
    { c with banks := c.banks.map close }
  | _ => c

end Sys2Proof.Machine
end

