-- ==== Sys2Proof/Machine/Ecc.lean ====
section
/-! DEFINITION. ECC on a returning read: the outcome of the line code, its counters, marks and failing rows, the poison
write-back and the corrective write, and the delivery of the line (R246, R265–R281, R340). -/

namespace Sys2Proof.Machine

/-! ### Delivery -/

/-- A merge read's line reaches the merge of its access; the merged write is accepted or waits for room (R13, R90). -/
def State.finishMerge (s : State) (j : WJob) (c : Line) (pois : Bool) (level : Level) (reserved : Bool) : State :=
  match s.mergeData j c pois with
  | (none, t) => t
  | (some k, t) =>
    match k.final with
    | some (d, p) => if t.writeReady k reserved then t.storeJob k d p level reserved else t.park (.wr k level reserved)
    | none => t

/-- A line reaches the consumer of its read: ciphertext, decrypted on its way where it is not poisoned (R11, R65,
R274, R404). -/
def State.deliver (s : State) (dest : ReadDest) (line : Nat) (c : Line) (pois : Bool) (level : Level) (reserved : Bool) :
    State :=
  match dest with
  | .merge j => s.finishMerge j c pois level reserved
  | .drain i off => s.drainLine i off c pois
  | .sounding _ | .soundSpare => s
  | .copy => s.copyGot line c pois
  | .toTwin leaf off no => s.twinLine leaf off no (if pois then none else some c)
  | .host p t l r =>
    if pois then s.failRead dest line .poison
    else match s.plain line c with
      | some d => ((if r then s.endResv (.host p l) line else s).readerDone line).respond p t .ok 0 d
      | none => s.failRead dest line .errDevice
  | .pilot e n addr r =>
    if pois then s.failRead dest line .poison
    else match s.plain line c with
      | some d => ((if r then s.endResv (.engine e) line else s).readerDone line).loadAnswer e n addr (.line d)
      | none => s.failRead dest line .errDevice
  | .ring q k =>
    if pois then s.ringArrive q k (.bad .poison)
    else match s.plain line c with
      | some d => s.ringArrive q k (.line d)
      | none => s.ringArrive q k (.bad .errDevice)

/-! ### Writes of ECC -/

/-- The stored line a write of ECC found, with its poison: it is skipped once either has changed (R279, R287). -/
def State.unchanged (s : State) (line : Nat) (raw : Line) (pois : Bool) : Bool :=
  (s.writeEntry line).isNone && s.dramRead (s.locOf line) == (raw, pois)

/-- A write of ECC to a line: a corrective write of ciphertext or a poison write-back (R273, R279). `old` keeps the line
it replaces and `mask` bit 0 whether that line was stored as poisoned. -/
def eccJob (line : Nat) (d : Line) (pois : Bool) (raw : Line) (was : Bool) : WJob :=
  { who := .agent 0x09, line := line, kind := .full, mask := if was then 1 else 0, data := d, pois := pois
    final := some (d, pois), old := raw }

/-- A write of ECC is performed under the merge lock of its line, waits for it and for a move of its row, or is skipped
(R273, R279, R282). -/
def State.eccWrite (s : State) (j : WJob) : State :=
  match j.final with
  | none => s
  | some (d, p) =>
    if !s.unchanged j.line j.old (j.mask.getLsbD 0) then s
    else if s.atu.locks.contains j.line || s.rowHeld j.line || !s.writeReady j true then s.park (.wr j .normal true)
    else s.storeJob j d p .normal true

/-! ### Accounting -/

/-- Pool slot a Tier 0 line lies in (R282). -/
def State.poolSlotOf (s : State) (line : Nat) : Option Nat :=
  let m := s.map.act
  let first := m.poolLine 0 0
  if first ≤ line && decide (line < first + m.poolSlots * 128) && decide (0 < m.remapSize) then some ((line - first) / 128)
  else none

/-- The row a fault of a line makes failing (R282): the row its pool slot serves, where it lies in the pool. -/
def State.failingRow (s : State) (line : Nat) : Option Loc :=
  match s.poolSlotOf line with
  | some k => (s.ecc.remaps.find? fun r => r.slot == k).map fun r => r.row
  | none => some (rowKey (s.homeOf line))

/-- A failing row found on a line (R281). -/
def State.lineRowFails (s : State) (line : Nat) : State :=
  match s.failingRow line with
  | some r => s.rowFails r (lineAddr line)
  | none => s

/-- Key of a position counter (R270). -/
def posKey (l : Loc) (pos : Nat) : Nat := 40 * l.sub.val + 10 * l.cs + pos

/-- A position counter takes a correction; at MARK_THR the device is marked, or the rank of a marked chip select is
failing (R270), which with AUTO at 0 is reported once (R281). -/
def State.countPos (s : State) (l : Loc) (line pos : Nat) : State :=
  if s.map.act.width8 || s.markOf l == some pos then s
  else
    let k := posKey l pos
    let n := agetD s.ecc.posCount k 0 + 1
    let s1 := s.updEcc fun e => { e with posCount := aput e.posCount k n }
    let thr := orOne (s.fld 0x090000 16 8)
    if n < thr then s1
    else if (s.markOf l).isNone then s1.markDevice l.sub l.cs pos
    else if !s.autoSpare && n != thr then s1
    else s1.rankFails (l.sub.val / 2) l.rank (lineAddr line) { l with row := 0, col := 0 }

/-- A corrected line counts for its row; at ROW_CE the row is failing (R281). -/
def State.countRow (s : State) (l : Loc) (line : Nat) : State :=
  let k := rowKey l
  let n := ((s.ecc.rowCe.find? fun x => x.1 == k).map fun x => x.2).getD 0 + 1
  let s1 := s.updEcc fun e => { e with rowCe := (e.rowCe.filter fun x => x.1 != k) ++ [(k, n)] }
  if n = orOne (s.fld 0x090000 8 8) then s1.lineRowFails line else s1

/-- The accounts of a corrected line (R269, R270, R281). -/
def State.noteCe (s : State) (l : Loc) (line : Nat) (pos : List Nat) : State :=
  let s1 := (s.updEcc fun e => { e with ceCnt := satAdd e.ceCnt 1 }).event 0x090300 0
  let s2 := s1.count 5 0 l.sub 1
  let s3 := pos.foldl (fun t p => t.countPos l line p) s2
  if pos.all fun p => s.markOf l == some p then s3 else s3.countRow l line

/-- The accounts of an uncorrectable line and its poison write-back (R273, R281). -/
def State.noteUe (s : State) (l : Loc) (line : Nat) (raw : Line) (pois : Bool) (src : BitVec 16) : State :=
  let s1 := (s.updEcc fun e => { e with ueCnt := satAdd e.ueCnt 1 }).event 0x090300 1
  let s2 := (s1.count 5 1 l.sub 1).logE 0x0901 src (lineAddr line) (infoLoc l)
  (s2.eccWrite (eccJob line 0 true raw pois)).lineRowFails line

/-! ### The decode of one read -/

/-- ECC's outcome for a read of a stored line: the ciphertext it delivers, none where the line is poisoned, and the code
of SD_RES (R268–R281). `wb` allows the corrective write. -/
def State.eccRead (s : State) (l : Loc) (line : Nat) (raw : Line) (pois : Bool) (err : BitVec 640) (src : BitVec 16)
    (wb : Bool) : (Option Line × Nat) × State :=
  match decodeLine s.map.act.width8 raw pois err (s.markOf l) with
  | .clean d => ((some d, 0), s)
  | .corrected d pos =>
    let s1 := s.noteCe l line pos
    ((some d, 1), if wb then s1.eccWrite (eccJob line d false raw pois) else s1)
  | .poisoned => ((none, 3), s.count 5 2 l.sub 1)
  | .bad => ((none, 2), s.noteUe l line raw pois src)

/-- Whether a corrected read is written back (R279): a Sounding read always, a merge read never, any other under
DEMAND_WB. -/
def State.writesBack (s : State) : ReadDest → Bool
  | .sounding _ => true
  | .merge _ => false
  | _ => s.flag 0x090000 0

/-- The outcome of a Sounding read of a spare that serves no Tier 0 line (R278): it is counted and logged. -/
def State.soundSpare (s : State) (l : Loc) (raw : Line) (pois : Bool) (err : BitVec 640) : State :=
  match decodeLine s.map.act.width8 raw pois err (s.markOf l) with
  | .clean _ => s
  | .corrected _ _ => ((s.updEcc fun e => { e with ceCnt := satAdd e.ceCnt 1 }).event 0x090300 0).count 5 0 l.sub 1
  | .poisoned => s.count 5 2 l.sub 1
  | .bad =>
    (((s.updEcc fun e => { e with ueCnt := satAdd e.ueCnt 1 }).event 0x090300 1).count 5 1 l.sub 1).logE 0x0901 (srcInt 0x0A) 0
      (infoLoc l)

/-- Probes that are queued, offered or being read are given up: their reads go on as the walk's. -/
def State.dropProbe (s : State) : State :=
  let calm (e : REntry) : REntry := if e.dest = .sounding true then { e with dest := .sounding false } else e
  let one (q : SubState) : SubState := { q with
    offer := q.offer.filter fun e => e.dest != .sounding true
    rq := q.rq.map calm, bursts := q.bursts.map fun b => { b with entry := calm b.entry } }
  { s with subs := s.subs.map (fun x => (x.1, one x.2)), ecc := { s.ecc with probe := none } }

/-- What is being copied stops on PF_WARN (R287): the locks of migration pointers are released, the pointers stand, and a row
that was moving stays where it is. -/
def State.stopCopies (s : State) : State :=
  let held := s.ecc.copying.flatMap fun x => x.2
  let cmd := s.ecc.moves.any fun m => m.byCmd
  (s.updEcc fun e => { e with
    copies := [], copying := [], moves := [], cmdBusy := e.cmdBusy && !cmd, cmdRes := if cmd then 3 else e.cmdRes }).updAtu fun a =>
      { a with locks := a.locks.filter fun l => !held.contains l }

/-- No Sounding read is offered any more (R167). -/
def State.dropOffers (s : State) : State := { s with subs := s.subs.map fun x => (x.1, { x.2 with offer := none }) }

/-! ### Read tracking and the tweak units -/

/-- A PHY result register. -/
def State.phyReg (s : State) (off : Nat) : Word := agetD s.sgt.phy off 0

/-- A delay kept within a limit of its trained value (R246). -/
def clampDelay (trained lim v : Nat) : Nat := Nat.max (trained - lim) (Nat.min (trained + lim) v)

/-- A re-sight request (R248): it joins one of its rank that is queued or running. -/
def State.askResight (s : State) (sub : Sub) (cs : Nat) (rd wr due : Bool) (e : Option EngineNo) : State :=
  let mine (r : Resight) : Bool := r.sub == sub && r.cs == cs
  let s1 := if s.sgt.resights.any mine then
      s.updSgt fun g => { g with resights := mapIf g.resights mine fun r =>
        { r with rdTrack := r.rdTrack || rd, wrTrack := r.wrTrack || wr, due := r.due || due
                 engine := match r.engine with | some x => some x | none => e } }
    else s.updSgt fun g => { g with resights := g.resights ++
        [{ sub := sub, cs := cs, rdTrack := rd, wrTrack := wr, due := due, since := s.chron, engine := e, defer := orOne (s.fld 0x080008 16 8) }] }
  s1.eventIf due 0x080100 1

/-- A delay that follows another by no more than a number of steps. -/
def followDelay (old step v : Nat) : Nat := Nat.max (old - step) (Nat.min (old + step) v)

/-- DQS tracking on a read burst (R246): RXEN and RDC follow by at most 1/64 UI per µs since the last burst of the DQS, within
the limit of their trained values; one that reaches it asks for RD_TRACK. -/
def State.trackDqs (s : State) (l : Loc) (moved : List (Fin 10 × BitVec 10 × BitVec 10)) : State :=
  let page := 0x200000 + l.sub.val / 2 * 0x10000
  if !s.flag page 31 then s
  else
    let lim := s.fld 0x08000C 16 8
    let one (t : State) (m : Fin 10 × BitVec 10 × BitVec 10) : State :=
      let off := page + 0x400 + l.sub.val % 2 * 0x200 + l.cs * 0x80 + m.1.val * 4
      let base := agetD t.sgt.trained off 0
      let old := t.phyReg off
      let step := (t.chron - agetD t.sgt.trackedAt off 0) / 1000
      let rx := clampDelay (field base 10 10) lim (followDelay (field old 10 10) step m.2.1.toNat)
      let rc := clampDelay (field base 0 10) lim (followDelay (field old 0 10) step m.2.2.toNat)
      let at_lim (v b : Nat) : Bool := decide (b + lim ≤ v) || decide (v + lim ≤ b)
      let hit := at_lim rx (field base 10 10) || at_lim rc (field base 0 10)
      let w := (t.phyReg off &&& 0xFFF00000#32) ||| at_ rx 10 10 ||| at_ rc 0 10
      let t1 := t.updSgt fun g => { g with
        phy := aput g.phy off w, trackedAt := if w = old then g.trackedAt else aput g.trackedAt off t.chron }
      if hit then (t1.event (page + 0xF00) 3).askResight l.sub l.cs true false false none else t1
    moved.foldl one s

/-- A mismatch of a tweak unit (R340): the line is computed again; a second one within 1 s fails the unit. -/
def State.tweakMiss (s : State) (c : Sub) : State :=
  let last := aget s.cph.tweak c.val
  let s1 := s.updCph fun k => { k with tweak := aput k.tweak c.val s.chron }
  match last with
  | some t => if s.chron ≤ t + 1000000000 then ((s1.logE 0x0B01 (srcInt 0x0B) 0 c.val).event 0x0B0300 9).setCause 3 else s1
  | none => s1

/-! ### READ_DATA_RETURN -/

/-- A burst whose read is to be launched again is still awaited (R238). -/
def SubState.awaitsReplay (q : SubState) (b : Burst) : Bool :=
  q.replayPend.any fun x => x.op.isRd && x.loc == b.entry.loc

/-- READ_DATA_RETURN: the oldest burst of a subchannel returns (R199, R204, R268). -/
def State.dataReturn (s : State) (c : Sub) (r : ReadReturn) : State :=
  let q := s.sub c
  match q.bursts.find? fun b => !q.awaitsReplay b with
  | none => s
  | some b =>
    let s0 := s.setSub c { q with bursts := dropFirst q.bursts fun x => x == b }
    let ch : Fin 16 := Fin.ofNat 16 (c.val / 2)
    let s1 := ((s0.qThrough (.eccReturn ch) b.entry.line).trackDqs b.entry.loc r.moved).count 2
      (if b.discard then 1 else 2) c.val b.slots
    if b.discard then s1
    else
      let s1f := match r.coreFault with
        | some k => s1.coreFault k.val
        | none => s1
      let s2 := if r.tweakMiss then s1f.tweakMiss c else s1f
      let e := b.entry
      if e.dest = .soundSpare then s2.soundSpare e.loc b.line b.pois r.err
      else
        let x := s2.eccRead e.loc e.line b.line b.pois r.err (srcOf e.who) (s2.writesBack e.dest)
        match e.dest with
        | .sounding p => if p then x.2.probeResult x.1.2 else x.2
        | _ => x.2.deliver e.dest e.line (x.1.1.getD 0) x.1.1.isNone e.level e.reserved

end Sys2Proof.Machine
end

