-- ==== Sys2Proof/Machine/Sched.lean ====
section
/-! DEFINITION. The decision of a channel scheduler: what it may choose, in which order, and what handing an item to
the command edge changes (R187–R200, R206, R214–R222, R238, R276, R280). -/

namespace Sys2Proof.Machine

/-! ### Candidates -/

/-- One queue entry as the selection sees it. -/
structure Cand where
  id : Nat
  loc : Loc
  write : Bool
  level : Level
  stamp : Nat
  /-- handed to the edge, or a write behind an earlier read of its line (R190) -/
  shut : Bool
  /-- a due Sounding read or a command that copies (R280) -/
  sounding : Bool
  deriving DecidableEq, Repr

/-- A read entry as a candidate. -/
def REntry.cand (e : REntry) : Cand :=
  { id := e.id, loc := e.loc, write := false, level := e.level, stamp := e.stamp, shut := e.issuing
    sounding := match e.dest with | .sounding _ | .soundSpare | .copy => true | _ => false }

/-- A write entry as a candidate: it is blocked while an earlier read of its line is queued (R190). -/
def SubState.wcand (c : SubState) (e : WEntry) : Cand :=
  let blocked := c.rq.any fun r => r.line == e.line && decide (r.id < e.id)
  { id := e.id, loc := e.loc, write := true, level := e.level, stamp := e.stamp, shut := e.issuing || blocked
    sounding := e.copy }

/-- The entries of the current mode's queue. -/
def SubState.cands (c : SubState) (m : RW) : List Cand :=
  match m with
  | .rd => c.rq.map (·.cand)
  | .wr => c.wq.map c.wcand

/-- Every entry of both queues. -/
def SubState.all (c : SubState) : List Cand := c.cands .rd ++ c.cands .wr

/-- CHS_AGE.CAP in ns. -/
def State.ageCap (s : State) (c : Nat) : Nat := Nat.max 100 (s.fld (chsPage (c / 2) + 0x00C) 0 16)

/-- An entry at or beyond CHS_AGE.CAP. -/
def State.aged (s : State) (c : Nat) (stamp : Nat) : Bool := decide (s.ageCap c ≤ s.chron - stamp)

/-- A level as a number that rises with its precedence (R193). -/
def Level.rank : Level → Nat
  | .low => 0 | .normal => 1 | .high => 2

/-- aged_or_high of R195. -/
def State.agedOrHigh (s : State) (c : Nat) (l : List Cand) : Bool := l.any fun e => s.aged c e.stamp || e.level == .high

/-! ### The mode -/

/-- CHS_WM.HI, LO and WMIN, CHS_AGE.IDLE_WAIT. -/
def State.wm (s : State) (c : Nat) (lo n : Nat) : Nat := s.fld (chsPage (c / 2) + 0x004) lo n

/-- pick_mode of R195: the mode, and whether an aged or HIGH entry forced the change. -/
def State.pickMode (s : State) (c : Nat) : RW × Bool :=
  let q := s.sub c
  let rds := q.cands .rd
  let wrs := q.cands .wr
  match q.mode with
  | .rd =>
    if decide (s.wm c 16 7 ≤ wrs.length) || s.agedOrHigh c wrs then (.wr, decide (wrs.length < s.wm c 16 7))
    else if rds.isEmpty && !wrs.isEmpty && decide (s.fld (chsPage (c / 2) + 0x00C) 16 8 ≤ q.idle) then (.wr, false)
    else (.rd, false)
  | .wr =>
    if wrs.isEmpty then (.rd, false)
    else if q.batch < s.wm c 0 6 then (.wr, false)
    else if s.agedOrHigh c rds then (.rd, true)
    else if decide (wrs.length ≤ s.wm c 8 7) && !rds.isEmpty then (.rd, false)
    else (.wr, false)

/-! ### Legality -/

/-- The slot at which a command decided now would launch at the earliest: two slots on, after those handed over. -/
def SubState.soonest (c : SubState) (hist : List Launched) : Nat := Nat.max (c.slot + 2) (caFree hist)

/-- Why a command is not legal now, none where it is (R200–R202, R218, R220). -/
def State.blocked (s : State) (c : Nat) (op : DOp) (l : Loc) : Option HoldReason :=
  let q := s.sub c
  let t := s.tim c
  let hist := t.predict q.hist q.slotReg
  let r := t.ready hist op l
  if op.isAct && (s.raaFull c (bankKey l) || s.aggressor c l) then some .refresh
  else if q.soonest hist < r.1 then some r.2
  else if !t.allows hist op l (q.soonest hist) then some .timing
  else none

/-- A command is legal now. -/
def State.legal (s : State) (c : Nat) (op : DOp) (l : Loc) : Bool := (s.blocked c op l).isNone

/-- CHS_CFG.PAGE: 3 is treated as ADAPTIVE (R197). -/
def State.pagePolicy (s : State) (c : Nat) : Nat := Nat.min 2 (s.fld (chsPage (c / 2)) 28 2)

/-- A column command closes its row at once (R197): under CLOSED, and under ADAPTIVE at score 0, where no other entry
hits the row. -/
def State.autoPre (s : State) (c : Nat) (id : Nat) (l : Loc) : Bool :=
  let q := s.sub c
  let closing : Bool := match s.pagePolicy c with
    | 0 => false
    | 1 => true
    | _ => (q.bank (bankKey l)).score == 0
  closing && !(q.all.any fun e => e.id != id && sameRow e.loc l)

/-- next_cmd of R194. A Sounding read or a copy leaves its row open for the next line of it (DEDUCED from R278, entry 77). -/
def State.nextCmd (s : State) (c : Nat) (e : Cand) : DOp :=
  match ((s.sub c).bank (bankKey e.loc)).openRow with
  | none => .act
  | some r =>
    if r = e.loc.row then
      let closes := s.autoPre c e.id e.loc && !(e.sounding && decide (e.loc.col + 1 < s.map.act.rowLines))
      (if e.write then (if closes then .wra else .wr) else if closes then .rda else .rd)
    else .prePb

/-- row_wanted of R194: an entry of the queue hits the open row and the conflicting entry is not aged. -/
def State.rowWanted (s : State) (c : Nat) (e : Cand) (l : List Cand) : Bool :=
  !s.aged c e.stamp && l.any fun x =>
    bankKey x.loc == bankKey e.loc && ((s.sub c).bank (bankKey e.loc)).openRow == some x.loc.row

/-- yields_to_background of R280: a demand ACT or PRE for a bank in which a due Sounding read or a command that copies waits
for a different row state. The copies of row remapping count with those of sparing (DESIGN CHOICE, entry 77). -/
def State.yields (s : State) (c : Nat) (e : Cand) (op : DOp) : Bool :=
  let q := s.sub c
  let snd := q.all.filter fun r => r.sounding && !r.shut && bankKey r.loc == bankKey e.loc
  !e.sounding && (op.isAct || op.isPre) && snd.any fun r =>
    if op.isAct then r.loc.row != e.loc.row else (q.bank (bankKey e.loc)).openRow == some r.loc.row

/-- The selection key (R194): an aged entry is ranked by its age alone. -/
def State.selKey (s : State) (c : Nat) (e : Cand) (op : DOp) : List Nat :=
  let age := s.chron - e.stamp
  if s.aged c e.stamp then [1, age] else [0, e.level.rank, if op.isCol then 1 else 0, age]

/-- One key is larger than another, compared field by field. -/
def keyGt : List Nat → List Nat → Bool
  | x :: xs, y :: ys => if x = y then keyGt xs ys else decide (y < x)
  | _, _ => false

/-- The entry of the highest key, the first among equals. -/
def bestOf (l : List (List Nat × Cand × DOp)) : Option (List Nat × Cand × DOp) :=
  l.foldl (fun b x => match b with | none => some x | some y => if keyGt x.1 y.1 then some x else some y) none

/-- The selection of R194 among some entries. -/
def State.select (s : State) (c : Nat) (l : List Cand) : Option (Cand × DOp) :=
  let ok := (l.filter fun e => !e.shut).filterMap fun e =>
    let op := s.nextCmd c e
    if s.legal c op e.loc && !(op == .prePb && s.rowWanted c e l) && !s.yields c e op then
      some (s.selKey c e op, e, op)
    else none
  (bestOf ok).map fun x => x.2

/-- blocked_reason of R204: the reason of the entry that ranks highest among those that wait for the scheduler; with no such
entry in the current mode's queue, of the other queue. An entry kept back by row_wanted, by R280 or by R190 waits for no rule
of R201 or R202: its reason is TIMING (DESIGN CHOICE, entry 76). -/
def State.blockedReason (s : State) (c : Nat) (l : List Cand) : HoldReason :=
  let open_ := l.filter fun e => !e.shut
  let pool := if open_.isEmpty then (s.sub c).all.filter fun e => !e.shut else open_
  match bestOf (pool.map fun e => let op := s.nextCmd c e; (s.selKey c e op, e, op)) with
  | some (_, e, op) => (s.blocked c op e.loc).getD .timing
  | none => .empty

/-! ### Refresh hooks -/

/-- What a hook answers: nothing is owed, a command, or a command that is owed and not legal yet. -/
inductive Hook where
  | none
  | cmd (op : DOp) (loc : Loc) (entry : Option Nat) (why : Why)
  | wait
  deriving DecidableEq, Repr

/-- A command of a hook, where it is legal. -/
def State.hook (s : State) (c : Nat) (op : DOp) (l : Loc) (why : Why) : Hook :=
  if s.legal c op l then .cmd op l Option.none why else .wait

/-- A refresh or refresh-management command of a chip select is handed over and not launched. -/
def SubState.refPending (q : SubState) (cs : Nat) : Bool :=
  q.slotReg.any fun x => match x.2 with
    | .cmd .refAb l _ _ | .cmd .refSb l _ _ | .cmd .rfmSb l _ _ => l.cs == cs
    | _ => false

/-- The refresh of a chip select (R215): PREab for any open bank of it, then REFab or the next REFsb of the set. -/
def State.refCmd (s : State) (c cs : Nat) : Hook :=
  let q := s.sub c
  let all := csLoc c cs 0
  if q.refPending cs then .wait
  else if q.openIn .preAb all then s.hook c .preAb all .refresh
  else if s.refMode = 2 then s.hook c .refSb (csLoc c cs (agetD (s.rpmSub c).setPos cs 0)) .refresh
  else s.hook c .refAb all .refresh

/-- RFMsb to a bank address of a chip select, its banks precharged first. -/
def State.rfmCmd (s : State) (c cs bank : Nat) (why : Why) : Hook :=
  let q := s.sub c
  let l := csLoc c cs bank
  if q.refPending cs then .wait
  else if q.openIn .preSb l then s.hook c .preSb l why
  else s.hook c .rfmSb l why

/-- The next command of a targeted refresh (R220): each victim ACT and PRE, then RFMsb. -/
def State.targetedCmd (s : State) (c : Nat) (t : Targeted) : Hook :=
  let q := s.sub c
  let k := bankKey t.loc
  match t.rows with
  | r :: _ =>
    let l := { t.loc with row := r }
    if t.opened then s.hook c .prePb l (.targeted false)
    else if (q.bank k).openRow.isSome then s.hook c .prePb l (.targeted true)
    else s.hook c .act l (.targeted true)
  | [] => if s.rfmOn then s.rfmCmd c t.loc.cs t.loc.bank (.targeted false) else .none

/-- The first hook of a list that owes something. -/
def firstHook (l : List Hook) : Hook :=
  match l with
  | [] => .none
  | .none :: r => firstHook r
  | h :: _ => h

/-- The first hook of a list that has a command now. -/
def firstReady (l : List Hook) : Hook :=
  match l with
  | [] => .none
  | .cmd o x i w :: _ => .cmd o x i w
  | _ :: r => firstReady r

/-- Bank addresses in the order of the refresh set of a chip select (R218). -/
def State.setOrder (s : State) (c cs : Nat) : List Nat :=
  let p := if s.refMode = 2 then agetD (s.rpmSub c).setPos cs 0 else 0
  (List.range 4).map fun i => (p + i) % 4

/-- Bank addresses of a chip select that a queued entry wants and that take no further ACT (R218): it is ahead of its column
command. In the order of the refresh set. -/
def State.rfmWanted (s : State) (c cs : Nat) : List Nat :=
  let wants (e : Cand) : Bool := !e.shut && e.loc.cs == cs && s.raaFull c (bankKey e.loc) && !(s.nextCmd c e).isCol
  (s.setOrder c cs).filter fun b => (s.sub c).all.any fun e => wants e && e.loc.bank == b

/-- A command of rpm_due is owed to a chip select (R196, R222). -/
def State.rpmOwes (s : State) (c cs : Nat) : Bool :=
  s.refDue c cs || !(s.rfmWanted c cs).isEmpty
    || (s.refreshed c cs && (s.rpmSub c).targeted.any fun t => t.due && t.loc.cs == cs && s.targetedCmd c t != .none)

/-- rpm_due (R215, R218, R220, R222): a due refresh, the lowest chip select first; a due RFM; a due targeted refresh. -/
def State.rpmDue (s : State) (c : Nat) : Hook :=
  let r := s.rpmSub c
  let refs := ((List.range 4).filter (s.refDue c)).map (s.refCmd c)
  let rfms := (List.range 4).flatMap fun cs => (s.rfmWanted c cs).map fun b => s.rfmCmd c cs b .rfm
  let tars := (r.targeted.filter fun t => t.due && s.refreshed c t.loc.cs).map (s.targetedCmd c)
  firstHook (refs ++ rfms ++ tars)

/-- The next command of the Sounding read that background_cmd offers (R222, R278, R280): it closes no row that a queued entry
hits, and one that a write entry answers needs none. -/
def State.soundHook (s : State) (c : Nat) : Hook :=
  let q := s.sub c
  match q.offer with
  | none => .none
  | some e =>
    if e.dest != .soundSpare && (s.writeEntry e.line).isSome then .none
    else match (q.bank (bankKey e.loc)).openRow with
      | none => s.hook c .act e.loc .demand
      | some r =>
        if r = e.loc.row then
          (if decide (q.rq.length < 64) && s.legal c .rd e.loc then .cmd .rd e.loc (some e.id) .demand else .wait)
        else if q.all.any fun x => bankKey x.loc == bankKey e.loc && x.loc.row == r then .wait
        else s.hook c .prePb e.loc .conflict

/-- background_cmd (R214, R218, R220, R222): pulled-in refreshes, RFM at IMT, queued targeted refreshes, Sounding. IMT of 0
offers RFM to every bank, as R218 has it. -/
def State.background (s : State) (c : Nat) : Hook :=
  let q := s.sub c
  let r := s.rpmSub c
  let idle (cs : Nat) : Bool := !(q.all.any fun e => e.loc.cs == cs)
  let refs := ((List.range 4).filter fun cs => s.refreshed c cs && idle cs && decide (-s.pullAt c cs < r.debtOf cs)).map (s.refCmd c)
  let hot (cs b : Nat) : Bool :=
    s.raaImt == 0 || r.raa.any fun x => keyCs x.1 == cs && keyBank x.1 == b && decide (s.raaImt ≤ x.2)
  let rfms := if s.rfmOn then
      ((List.range 4).filter fun cs => s.refreshed c cs && s.counts c cs).flatMap fun cs =>
        ((s.setOrder c cs).filter (hot cs)).map fun b => s.rfmCmd c cs b .rfm
    else []
  let tars := (r.targeted.filter fun t => s.refreshed c t.loc.cs).map (s.targetedCmd c)
  firstReady (refs ++ rfms ++ tars ++ [s.soundHook c])

/-- Idle time of a score in CK (R197). -/
def State.idleTime (s : State) (c score : Nat) : Option Nat :=
  match score with
  | 0 => some 0
  | 1 => some (orOne (s.fld (chsPage (c / 2) + 0x008) 0 12))
  | 2 => some (orOne (s.fld (chsPage (c / 2) + 0x008) 16 12))
  | _ => none

/-- A location in a bank given by its key. -/
def keyLoc (c k row : Nat) : Loc :=
  { sub := Fin.ofNat 32 c, cs := k / 128, rank := 0, cid := k / 32 % 4, bg := k / 4 % 8, bank := k % 4, row := row, col := 0 }

/-- page_close (R197): under ADAPTIVE, PRE for a bank idle for its score's time whose row no entry hits. -/
def State.pageClose (s : State) (c : Nat) : Option Loc :=
  let q := s.sub c
  if s.pagePolicy c ≠ 2 then none
  else
    let cand := q.banks.filterMap fun b => match b.openRow, s.idleTime c b.score with
      | some r, some t => if b.lastCol + t ≤ q.slot then some (keyLoc c b.key r) else none
      | _, _ => none
    cand.find? fun l => !(q.all.any fun e => sameRow e.loc l) && s.legal c .prePb l

/-! ### The decision -/

/-- The command that brings back the first of the commands lost to a CA parity error (R238). -/
def State.replayCmd (s : State) (c : Nat) : Hook :=
  let q := s.sub c
  match q.parityPre, q.replayPend with
  | cs :: _, _ => s.hook c .preAb (csLoc c cs 0) .replay
  | [], x :: _ =>
    match (q.bank (bankKey x.loc)).openRow with
    | none => s.hook c .act x.loc .replay
    | some r => if r = x.loc.row then s.hook c x.op x.loc .replay else s.hook c .prePb x.loc .replay
  | [], [] => .none

/-- An item of a hook; a command that is owed and not legal holds the subchannel (R215). -/
def Hook.item (h : Hook) (r : HoldReason) : Option Item :=
  match h with
  | .none => Option.none
  | .cmd op l i w => some (.cmd op l i w)
  | .wait => some (.hold r)

/-- The channel's command bus is in a Sighting outage (R251). -/
def State.inOutage (s : State) (c : Nat) : Bool := s.sgt.outages.contains (c / 2)

/-- One decision (R194): the item, and the mode it leaves with whether an aged or HIGH entry forced it. -/
def State.decision (s : State) (c : Nat) : Item × RW × Bool :=
  let q := s.sub c
  let keep (i : Item) : Item × RW × Bool := (i, q.mode, false)
  let waiting : HoldReason := if q.all.isEmpty then .empty else .refresh
  if q.pause || s.inOutage c then keep (.hold .pause)
  else if !q.parityPre.isEmpty || !q.replayPend.isEmpty then keep (((s.replayCmd c).item .pause).getD (.hold .pause))
  else match (s.rpmDue c).item waiting with
    | some i => keep i
    | none =>
      if !q.poisonLeft.isEmpty then
        match s.select c ((q.cands .wr).filter fun e => q.poisonLeft.contains e.id) with
        | some (e, op) => keep (.cmd op e.loc (some e.id) (if op.isPre then .conflict else .demand))
        | none => keep (.hold .pause)
      else
        let m := s.pickMode c
        let l := q.cands m.1
        match s.select c l with
        | some (e, op) => (.cmd op e.loc (some e.id) (if op.isPre then .conflict else .demand), m)
        | none =>
          match (s.background c).item .empty with
          | some (.cmd op x id w) => (.cmd op x id w, m)
          | _ => match s.pageClose c with
            | some x => (.cmd .prePb x none .pageClose, m)
            | none => (.hold (if q.all.isEmpty then .empty else s.blockedReason c l), m)

/-- An item joins the slot register (R199, R206): it takes the place of a hold item. -/
def pushItem (l : List (Nat × Item)) (slot : Nat) (i : Item) : List (Nat × Item) :=
  match l with
  | [] => [(slot, i)]
  | [(_, .hold _)] => [(slot, i)]
  | x :: r => x :: pushItem r slot i

/-- The slot register takes a further item: fewer than two commands stand in it. -/
def SubState.slotRoom (q : SubState) : Bool :=
  decide ((q.slotReg.filter fun x => match x.2 with | .cmd _ _ _ _ => true | .hold _ => false).length < 2)

/-- Progress of a targeted refresh when one of its commands is handed over (R220). -/
def State.targetedStep (s : State) (c : Nat) (op : DOp) (l : Loc) (first : Bool) : State :=
  let same (t : Targeted) : Bool :=
    if op == .rfmSb || op == .preSb then t.rows.isEmpty && t.loc.cs == l.cs && t.loc.bank == l.bank
    else bankKey t.loc == bankKey l && t.rows.head? == some l.row
  match (s.rpmSub c).targeted.find? same with
  | none => s
  | some t =>
    match op, first with
    | .act, _ => s.updTargeted c t.loc fun t => some { t with opened := true }
    | .prePb, false =>
      s.updTargeted c t.loc fun t =>
        let rest := t.rows.drop 1
        if rest.isEmpty && !t.rfmLeft then none else some { t with opened := false, rows := rest }
    | .rfmSb, _ => s.updTargeted c t.loc fun _ => none
    | _, _ => s

/-- The Sounding read that background_cmd offers enters the read queue as its RD is handed over (R222, R280). -/
def State.takeOffer (s : State) (c : Nat) (id : Option Nat) : State :=
  let q := s.sub c
  match q.offer with
  | some e =>
    if id = some e.id then (s.setSub c { q with offer := none, rq := q.rq ++ [e] }).qIn (.chsRead (Fin.ofNat 32 c)) e.line else s
  | none => s

/-- An item is handed to the command edge (R194, R199): its entry is issuing, the open rows follow. -/
def State.handOver (s : State) (c : Nat) (i : Item) : State :=
  let q := s.sub c
  let reg := pushItem q.slotReg q.slot i
  match i with
  | .hold _ => s.setSub c { q with slotReg := reg }
  | .cmd op l id why =>
    let s0 := s.takeOffer c id
    let q1 := { s0.sub c with slotReg := reg }
    let q2 := if op.isCol then (match id with
        | some n => { q1 with
            rq := mapIf q1.rq (fun e => e.id == n) fun e => { e with issuing := true }
            wq := mapIf q1.wq (fun e => e.id == n) fun e => { e with issuing := true } }
        | none => q1) else q1
    let q3 := q2.track op l why q.slot
    let q4 : SubState := match why with
      | .replay => if op == .preAb then { q3 with parityPre := q3.parityPre.drop 1 }
          else if op.isCol then { q3 with replayPend := q3.replayPend.drop 1 } else q3
      | _ => q3
    let s1 := s0.setSub c q4
    match why with
    | .targeted first => s1.targetedStep c op l first
    | _ => s1

/-- CHS_DECIDE: one decision, its mode change (R195) and the item handed over (R199). -/
def State.chsDecide (s : State) (c : Nat) : State :=
  let q := s.sub c
  if !q.slotRoom then s
  else
    let d := s.decision c
    let change := d.2.1 != q.mode
    let s1 := s.setSub c { q with mode := d.2.1, batch := if change && d.2.1 == .wr then 0 else q.batch }
    let s2 := (s1.count 2 11 c (if change then 1 else 0)).eventIf (change && d.2.2) (chsPage (c / 2) + 0x200) 4
    s2.handOver c d.1

end Sys2Proof.Machine
end

