-- ==== Sys2Proof/Machine/Enqueue.lean ====
section
/-! DEFINITION. The enqueue port of a subchannel: reads that are forwarded, bypass the queue or enter it, write-class
accesses with their merge reads and merge locks, and what waits there (R187–R192, R196). -/

namespace Sys2Proof.Machine

/-! ### Reads -/

/-- The line an access is for. -/
def Access.line : Access → Nat
  | .rd _ l _ _ _ => l
  | .wr j _ _ => j.line

/-- Room for a read entry (R187, R188). -/
def State.readRoom (s : State) (c : Nat) (reserved : Bool) : Bool :=
  let q := (s.sub c).rq
  decide (q.length < 64) && (reserved || decide ((q.filter fun e => !e.reserved).length < 64 - s.rsvR c))

/-- A read takes the bypass (R196): it goes to the edge whether or not the slot register is full, and then stands there behind
the items that it holds. -/
def State.bypasses (s : State) (c : Nat) (l : Loc) (line : Nat) (level : Level) : Bool :=
  let q := s.sub c
  let k := bankKey l
  s.flag (chsPage (c / 2)) 30 && q.mode == .rd && !q.pause && !s.inOutage c && q.poisonLeft.isEmpty
    && q.parityPre.isEmpty && q.replayPend.isEmpty
    && !s.rpmOwes c l.cs && (s.writeEntry line).isNone
    && !(q.rq.any fun e => bankKey e.loc == k) && !s.agedOrHigh c (q.cands .rd)
    && !s.atu.locks.contains line && (q.bank k).openRow == some l.row && level != .low

/-- The read of a reserved load is enqueued (R93). -/
def State.noteReserved (s : State) (dest : ReadDest) (line : Nat) : State :=
  match dest with
  | .host p _ l true => s.beginResv (.host p l) line
  | .pilot e _ _ true => s.beginResv (.engine e) line
  | _ => s

/-- The read enters the read queue, or goes to the edge by the bypass (R187, R196). -/
def State.enterRead (s : State) (dest : ReadDest) (line : Nat) (who : Requester) (level : Level) (reserved : Bool) : State :=
  let l := s.locOf line
  let c := l.sub
  let q := s.sub c
  let by_ := s.bypasses c l line level
  let ent : REntry :=
    { id := q.nextId, loc := l, line := line, dest := dest, who := who, level := level, stamp := s.chron
      issuing := by_, reserved := reserved }
  let s1 := (s.setSub c { q with rq := q.rq ++ [ent], nextId := q.nextId + 1 }).qIn (.chsRead c) line
  if by_ then (s1.handOver c (.cmd .rd l (some ent.id) .demand)).count 2 10 c 1 else s1

/-- A write-class access to a line by a requester is not accepted yet (R63, R82): it waits at the enqueue port, or its
merge read is under way. -/
def State.writeBefore (s : State) (who : Requester) (line : Nat) : Bool :=
  let mine (j : WJob) : Bool := j.line == line && j.who.sameAs who
  s.atu.parked.any (fun a => match a with | .wr j _ _ => mine j | _ => false)
    || (let q := s.sub (s.subOf line).val
        let merge (e : REntry) : Bool := match e.dest with | .merge j => mine j | _ => false
        q.rq.any merge || q.bursts.any fun b => !b.discard && merge b.entry)

/-- Try a read at the enqueue port (R63, R189–R192, R196, R282); none where it has to wait. A merge lock holds no read of
another requester. -/
def State.tryRead (s : State) (dest : ReadDest) (line : Nat) (who : Requester) (level : Level) (reserved : Bool) :
    Option State :=
  if s.deadLine line then some ((s.rankHit line).failRead dest line .errDevice)
  else if s.writeBefore who line || s.rowHeld line then none
  else match s.writeEntry line with
    | some e => some (((s.noteReserved dest line).count 2 9 (s.subOf line) 1).deliver dest line e.data e.pois level reserved)
    | none =>
      if s.readRoom (s.subOf line) reserved then some ((s.noteReserved dest line).enterRead dest line who level reserved)
      else none

/-! ### Write-class accesses -/

/-- Try a merge read (R191): the line is locked as it is enqueued; a queued write supplies it at once. -/
def State.tryMerge (s : State) (j : WJob) (level : Level) (reserved : Bool) : Option State :=
  let k := { j with merging := true }
  let lock (t : State) : State := t.updAtu fun a => { a with locks := a.locks ++ [j.line] }
  match s.writeEntry j.line with
  | some e => some (((lock s).count 2 9 (s.subOf j.line) 1).finishMerge k e.data e.pois level reserved)
  | none =>
    if s.readRoom (s.subOf j.line) reserved then
      some ((lock s).enterRead (.merge k) j.line j.who level reserved)
    else none

/-- The ciphertext of a write that covers its line (R11, R57). -/
def State.wholeLine (s : State) (j : WJob) : Option (Line × Bool) :=
  if j.pois then some (0, true) else (s.cipher j.line j.data).map fun d => (d, false)

/-- Try a write that needs no merge: it is encrypted and accepted, or waits for room (R12, R13). One that stores no byte
ends here: a conditional store with an all-zero mask is checked and reads nothing, so that a poisoned line does not answer
it POISON (R96, DESIGN CHOICE, entry 68); a WRITE is answered OK (R57). -/
def State.tryStore (s : State) (j : WJob) (level : Level) (reserved : Bool) : Option State :=
  if j.mask == 0 && j.kind == .cond then some (s.endJob j (if s.condFails j then .resvFail else .ok) 0)
  else if j.mask == 0 && j.kind == .partialWrite && !j.pois then some (s.endJob j .ok 0)
  else if s.condFails j then some (s.endJob j .resvFail 0)
  else
    let d := match j.final with | some d => some d | none => s.wholeLine j
    match d with
    | none => some (s.endJob j .errDevice 0)
    | some (x, p) => if s.writeReady j reserved then some (s.storeJob j x p level reserved) else none

/-- Try a write-class access at the enqueue port; none where it has to wait (R90–R92, R189–R192, R282). -/
def State.tryWrite (s : State) (j : WJob) (level : Level) (reserved : Bool) : Option State :=
  match j.who, j.final with
  | .agent 0x09, some (d, p) =>
    if !s.unchanged j.line j.old (j.mask.getLsbD 0) then some s
    else if s.atu.locks.contains j.line || s.rowHeld j.line || !s.writeReady j true then none
    else some (s.storeJob j d p .normal true)
  | _, _ =>
    match j.merging, j.final with
    | true, some (d, p) => if s.writeReady j reserved then some (s.storeJob j d p level reserved) else none
    | _, _ =>
      if s.deadLine j.line then some ((s.rankHit j.line).endJob j .errDevice 0)
      else if s.atu.locks.contains j.line || s.rowHeld j.line then none
      else if j.needsMerge then s.tryMerge j level reserved
      else s.tryStore j level reserved

/-- Try an access at the enqueue port. -/
def State.tryAccess (s : State) (a : Access) : Option State :=
  match a with
  | .rd dest line who level reserved => s.tryRead dest line who level reserved
  | .wr j level reserved => s.tryWrite j level reserved

/-- An access that holds its line's merge lock goes ahead of those that wait for it. -/
def Access.holdsLock : Access → Bool
  | .wr j _ _ => j.merging
  | _ => false

/-- A write-class access. -/
def Access.writes : Access → Bool
  | .wr _ _ _ => true
  | .rd _ _ _ _ _ => false

/-- An access arrives at the enqueue port: a write-class access behind the accesses to its line that wait there, a read
behind the reads, in arrival order (R191). -/
def State.access (s : State) (a : Access) : State :=
  if !a.holdsLock && s.atu.parked.any fun p => p.line == a.line && (a.writes || !p.writes) then s.park a
  else match s.tryAccess a with
    | some t => t
    | none => s.park a

/-- The accesses that wait at the enqueue port are tried again in arrival order. -/
def State.retryParked (s : State) : State :=
  s.atu.parked.foldl (fun t a => t.access a) (s.updAtu fun a => { a with parked := [] })

end Sys2Proof.Machine
end

