-- ==== Sys2Proof/Machine/Paths.lean ====
section
/-! DEFINITION. Requests before admission: the field checks, MAP's judgement of an address, misses and hold slots,
forwarding, the dirty budget and class, and the requests that wait in arrival order (R34, R35, R42–R49, R55–R67, R77–R86,
R111, R128, R129, R174–R177, R298–R300, R314–R325). -/

namespace Sys2Proof.Machine

/-! ### What a request is -/

/-- How a request touches memory. -/
inductive Touch where
  | rd (resv : Bool)
  | wr
  | atom
  | cond
  deriving DecidableEq, Repr

/-- The touch of a source; a STAGE_HINT is treated apart. -/
def Source.touch : Source → Touch
  | .host op _ => match op with
    | .write | .writeFull => .wr
    | .atom _ => .atom
    | .condSt => .cond
    | .resvLd => .rd true
    | _ => .rd false
  | .load _ _ _ r => .rd r
  | .store _ _ _ _ _ => .wr
  | .atom _ _ _ _ _ => .atom
  | .cond _ _ _ _ => .cond

/-- The address of a request. -/
def Source.addr : Source → Nat
  | .host _ q => q.addr.toNat
  | .load _ _ a _ => a
  | .store _ _ l _ _ => l * 64
  | .atom _ _ _ a _ => a
  | .cond _ a _ _ => a

/-- The line of the address space a request touches. -/
def Source.line (src : Source) : Nat := src.addr / 64

/-- The host port of a request. -/
def Source.port : Source → Option Nat
  | .host _ q => some q.port.val
  | _ => none

/-- The engine of a request. -/
def Source.engine : Source → Option Nat
  | .host _ _ => none
  | .load e _ _ _ | .store e _ _ _ _ | .atom e _ _ _ _ | .cond e _ _ _ => some e.val

/-- Two requests come from one requester. -/
def Source.same (a b : Source) : Bool := a.port == b.port && a.engine == b.engine

/-- SOURCE of a request in the error log (R480). -/
def Source.src : Source → BitVec 16
  | .host _ q => srcHost q.port
  | .load e _ _ _ | .store e _ _ _ _ | .atom e _ _ _ _ | .cond e _ _ _ => srcEngine e

/-- INFO of MAP's entries (R517). -/
def Source.info : Source → Nat
  | .host op _ => op.bits
  | _ => 0

/-- The requester past MAP. -/
def Source.who : Source → Requester
  | .host _ q => .host q.port q.tag q.label
  | .load e _ _ _ | .store e _ _ _ _ | .atom e _ _ _ _ | .cond e _ _ _ => .engine e

/-- A write class touch (R42, R65). -/
def Touch.writes : Touch → Bool
  | .rd _ => false
  | _ => true

/-- The charge of a request (R296). -/
def Source.charge : Source → Nat
  | .host op q => match op with
    | .write | .condSt => writeCharge false q.mask
    | .writeFull => 1
    | .atom _ => 2
    | _ => 1
  | .load _ _ _ _ => 1
  | .store _ _ _ m _ => writeCharge false m
  | .atom _ _ _ _ _ => 2
  | .cond _ _ m _ => writeCharge false m

/-- The class of a request (R295, R310). -/
def State.classOf (s : State) : Source → Nat
  | .host _ q => s.hostClass q.port q.label.toNat
  | .load e _ _ _ | .store e _ _ _ _ | .atom e _ _ _ _ | .cond e _ _ _ => s.engineClass e

/-- The write-class access of a request to a Tier 0 line. -/
def Waiting.job (w : Waiting) (line : Nat) : WJob :=
  match w.src with
  | .host op q =>
    let kind : WKind := match op with
      | .writeFull => .full | .atom a => .atom a | .condSt => .cond | _ => .partialWrite
    { who := w.src.who, line := line, offset := q.addr.toNat % 64, kind := kind, mask := q.mask, data := q.data
      pois := (op == .write || op == .writeFull) && q.attr.getLsbD 7, no := w.no, entry := w.entry }
  | .load _ _ _ _ => { who := w.src.who, line := line, kind := .partialWrite, mask := 0, data := 0, no := w.no }
  | .store _ id _ m d =>
    { who := w.src.who, line := line, kind := if m = BitVec.allOnes 64 then .full else .partialWrite, mask := m, data := d
      seq := id, no := w.no, entry := w.entry }
  | .atom _ n op a d =>
    { who := w.src.who, line := line, offset := a % 64, kind := .atom op, mask := 0, data := d, seq := n, no := w.no
      entry := w.entry }
  | .cond _ _ m d => { who := w.src.who, line := line, kind := .cond, mask := m, data := d, no := w.no, entry := w.entry }

/-- Where the data of a read goes. -/
def Source.dest : Source → ReadDest
  | .host op q => .host q.port q.tag q.label (op == .resvLd)
  | .load e n a r => .pilot e n a r
  | .store e id _ _ _ => .pilot e id 0 false
  | .atom e n _ a _ => .pilot e n a false
  | .cond e a _ _ => .pilot e 0 a false

/-! ### Answers before admission -/

/-- A request leaves the ingress queue of its port (R18, R55). -/
def State.leave (s : State) (src : Source) : State :=
  match src with
  | .host _ q => s.qOut (.hpxIngress q.port)
  | _ => s

/-- A request ends before admission, with a code and, where a read is OK, zeros (R65, R82, R84, R314). -/
def State.answerSource (s : State) (src : Source) (code : Code) (hint : BitVec 16) : State :=
  match src with
  | .host _ q => s.respond q.port q.tag code hint 0
  | .load e n a _ => s.loadAnswer e n a (if code = .ok then .line 0 else .bad code)
  | .store e id _ _ _ => s.storeAnswer e id code
  | .atom e n _ a _ => s.loadAnswer e n a (.bad code)
  | .cond e _ _ _ => s.condAnswer e code

/-! ### MAP -/

/-- An unmapped address (R34, R35). -/
def State.noteUnmapped (s : State) (src : BitVec 16) (addr info : Nat) : State := (s.logE 0x0401 src addr info).event 0x040048 0

/-- A write-class access to Tier 1 (R42). -/
def State.noteT1Write (s : State) (src : BitVec 16) (addr info : Nat) : State := (s.logE 0x0402 src addr info).event 0x040048 2

/-- A refused access to the carve region or the redo area (R45). -/
def State.noteCarve (s : State) (src : BitVec 16) (addr info : Nat) : State := (s.logE 0x0403 src addr info).event 0x040048 1

/-- MAP's refusal of a Tier 0 write by a requester: ERR_FENCED, then ERR_OWNER (R65, R128, R143). -/
def State.ownerCode (s : State) (src : Source) (line : Nat) : Option Code :=
  let r := reachOfLine line
  let fenced : Bool := match src with
    | .host _ q => src.touch.writes && s.flag (0x020000 + q.port * 0x10) 30
        && epochEarlier (s.reg (0x020004 + q.port * 0x10)) (s.reachEpoch r)
    | _ => false
  if fenced then some .errFenced
  else if s.reachState r = 2 then
    match src.touch with
    | .rd false => none
    | .wr => if s.forwards r then none else some .errOwner
    | _ => some .errOwner
  else none

/-- A Reach whose local copy is not current (R128). -/
def State.notCurrent (s : State) (line : Nat) : Bool :=
  let r := reachOfLine line
  s.reachState r == 2 && !s.reachInStep r && !s.twn.staleRd

/-- Every Tier 0 access waits in an eager Restore (R174). -/
def State.eagerHold (s : State) : Bool := s.vlt.eager && s.map.restoring

/-- The table is not yet readable: a new vault's segment table is being filled with zeros (R172). -/
def State.tableVoid (s : State) : Bool := !s.flag 0x0E0000 31 || s.vlt.zeroFill

/-! ### Courses -/

/-- A load by a Course's consumer (R324). -/
def Course.isConsumer (c : Course) (src : Source) : Bool :=
  match src with
  | .host _ q => c.byPort && c.port == q.port.val && c.who == q.label.toNat
  | .load e _ _ _ => !c.byPort && c.who == e.val
  | _ => false

/-- The position of a Course after its consumer's load of a segment (R324): the lowest entry of the window ahead. -/
def Course.load (c : Course) (g : Nat) : Course :=
  match ((List.range c.ahead).map (· + 1)).find? fun i => (c.list[c.pos + i]?) == some g with
  | some i => { c with pos := c.pos + i }
  | none => c

/-- A load of a Tier 1 segment moves the Courses it consumes (R324). -/
def State.courseLoad (s : State) (src : Source) (g : Nat) : State :=
  s.updDti fun d => { d with courses := mapIf d.courses (fun c => c.isConsumer src) fun c => c.load g }

/-! ### The judgement of a memory request -/

/-- What MAP makes of a request (R22 stage 4). -/
inductive Look where
  /-- it ends with a code and a hint -/
  | end_ (c : Code) (hint : BitVec 16)
  /-- DEFER without a miss: a host is answered, a Pilot waits -/
  | defer
  /-- a miss: a host is held or answered DEFER, a Pilot waits -/
  | miss (on : MissOn) (hint : BitVec 16) (full : Bool)
  /-- the write is forwarded to the twin -/
  | forward (line : Nat)
  /-- it goes on to BWR with its Tier 0 line -/
  | serve (line : Nat)
  deriving DecidableEq, Repr

/-- A write of no byte (R57). With POIS at 1 it poisons its line whatever the mask, as R57's last sentence has it (DESIGN
CHOICE, entry 68). -/
def Source.empty : Source → Bool
  | .host .write q => q.mask == 0 && !q.attr.getLsbD 7
  | _ => false

/-- MAP's judgement of a mapped Tier 0 line, by the order of R65 (R57, R128, R174–R177, R277): a write to a TWIN Reach that
is not in step is forwarded whatever its leaf's Restore state (R176); a write of no byte passes the same rows and then ends
OK, at the owner of its line or here, without reading it (DEDUCED, entry 68). -/
def State.judge0 (s : State) (w : Waiting) (line : Nat) : Look × State :=
  let leaf := leafOfLine line
  let r := reachOfLine line
  let away := s.reachState r == 2 && w.src.touch == .wr
  let out : Look := if w.src.empty then .end_ .ok 0 else .forward line
  match s.ownerCode w.src line with
  | some c => (.end_ c 0, s)
  | none =>
    if !w.src.touch.writes && s.notCurrent line then (.defer, s)
    else if away && !s.reachInStep r then (out, s)
    else if s.eagerHold || s.healing line then (.defer, s)
    else if s.leafState leaf ≠ 0 then
      let j := s.joinDemand leaf
      let h := j.2.leafHint leaf w.no j.1
      (.miss (.leaf leaf) h.1 j.1, h.2)
    else if away then (out, s)
    else if w.src.empty then (if s.deadLine line then (.end_ .errDevice 0, s.rankHit line) else (.end_ .ok 0, s))
    else (.serve line, s)

/-- MAP's judgement of a mapped Tier 1 line (R41, R314, R317–R319). -/
def State.judge1 (s : State) (w : Waiting) (g k line : Nat) : Look × State :=
  if s.tableVoid then (.end_ .ok 0, s.count 9 1 0 1)
  else
    let s1 := s.noteSeg g
    let s2 := if w.on.isNone then s1.courseLoad w.src g else s1
    match (s.seg g).stateOf with
    | 0 => (.end_ .ok 0, s2.count 9 1 0 1)
    | 2 => (.end_ .poison 0, s2)
    | _ =>
      match s2.stagedIn g k with
      | some slot =>
        (.serve (s.map.act.stageLine slot k line),
          s2.updSlot slot fun v => { v with ref := true, readers := v.readers + 1 })
      | none =>
        let j := s2.joinFill g k fun c => c.isConsumer w.src
        (.miss (.sub g k) (j.2.fillHint g k w.no j.1) j.1, j.2)

/-- MAP's judgement of a memory request (R34–R45, R65). -/
def State.judge (s : State) (w : Waiting) : Look × State :=
  let a := w.src.addr
  match w.cleared with
  | some line => (.serve line, s)
  | none =>
    match s.region a with
    | .unmapped | .window _ => (.end_ .errAccess 0, s.noteUnmapped w.src.src a w.src.info)
    | .t1 g k l =>
      if w.src.touch = .rd false then s.judge1 w g k l
      else (.end_ .errAccess 0, s.noteT1Write w.src.src a w.src.info)
    | .t0 pa =>
      if s.map.act.inCarve pa || (w.src.port.isSome && s.map.act.inRedo pa) then
        (.end_ .errAccess 0, s.noteCarve w.src.src a w.src.info)
      else s.judge0 w (pa / 64)

/-! ### Hold slots -/

/-- Whether a port may hold a miss (R66, R67). -/
def State.mayHold (s : State) (p : Nat) : Bool :=
  let n := Nat.min 32 (s.fld (0x020000 + p * 0x10) 8 6)
  s.flag (0x020000 + p * 0x10) 29 && decide ((s.port p).held.length < n)

/-- HOLD_TMO of a port in ns. -/
def State.holdTmo (s : State) (p : Nat) : Nat := orOne (s.fld (0x020000 + p * 0x10) 16 8) * 1000

/-- A DEFER of a Tier 1 miss is counted (R478). -/
def State.countDefer (s : State) (on : MissOn) : State :=
  match on with
  | .sub _ _ => s.count 9 2 0 1
  | .leaf _ => s

/-- The requests in hold slots whose leaf is present, or whose sub-block is staged or can be answered otherwise, go back
among the requests that wait (R66). -/
def State.resolved (s : State) (on : MissOn) : Bool :=
  match on with
  | .leaf l => s.leafState l == 0
  | .sub g k => (s.stagedIn g k).isSome || (s.seg g).stateOf == 2 || (s.seg g).stateOf == 0 || s.tableVoid

/-- Insert a request in arrival order. -/
def insertWaiting (w : Waiting) : List Waiting → List Waiting
  | [] => [w]
  | x :: r => if w.no < x.no then w :: x :: r else x :: insertWaiting w r

/-- The held requests whose miss is resolved go on. One that its class then holds waits in its port's ingress queue again,
which can so hold more than 64 for a time (DESIGN CHOICE, entry 70). -/
def State.releaseHeld (s : State) : State :=
  let out := s.ports.flatMap fun p => p.2.held.filter fun h => s.resolved h.on
  if out.isEmpty then s
  else
    let ports := s.ports.map fun p => (p.1, { p.2 with held := p.2.held.filter fun h => !s.resolved h.on })
    { s with ports := ports, atu := { s.atu with waiting := out.foldl (fun l h => insertWaiting h.w l) s.atu.waiting } }

/-! ### STAGE_HINT -/

/-- Hints that waited for room join the fill queue (R318). -/
def State.takeHints (s : State) : State :=
  s.dti.hints.foldl (fun t h =>
    if (t.seg h.1).stateOf ≠ 1 || (t.stagedIn h.1 h.2).isSome || (t.dti.fill h.1 h.2).isSome then t
    else if t.dti.queued.length ≥ 4096 then t.updDti fun d => { d with hints := d.hints ++ [h] }
    else t.queueFill h.1 h.2 3 none) (s.updDti fun d => { d with hints := [] })

/-- A hint for a sub-block and the COUNT that follow it in its segment (R60, R320). -/
def State.hint (s : State) (g k count : Nat) : State :=
  if s.tableVoid then s
  else
    let subs := natsFrom k (Nat.min (count + 1) (512 - k))
    ((s.noteSeg g).updDti fun d => { d with hints := d.hints ++ subs.map fun j => (g, j) }).takeHints

/-- A STAGE_HINT (R60). -/
def State.doHint (s : State) (q : HostReq) : State :=
  let a := q.addr.toNat
  let src : Source := .host .stageHint q
  let bad (t : State) : State := t.respondCode q.port q.tag .errAccess
  match s.region a with
  | .unmapped | .window _ => bad (s.noteUnmapped src.src a 8)
  | .t0 pa =>
    if s.map.act.inCarve pa || s.map.act.inRedo pa then bad (s.noteCarve src.src a 8) else bad s
  | .t1 g k _ => (s.hint g k q.attr.toNat).respondCode q.port q.tag .ok

/-! ### One request -/

/-- The write-class accesses that mark meet the dirty budget with their class (R111, R296). -/
def State.budgetHeld (s : State) (w : Waiting) (line : Nat) : Bool :=
  w.src.touch.writes && !s.map.act.inCarve (lineAddr line) && !s.budgetOk (leafOfLine line)

/-- A request past admission (R80, R90–R93, R187). -/
def State.enter (s : State) (w : Waiting) (line : Nat) (level : Level) : State :=
  let s1 := (s.noteLevel w.src level).leave w.src
  match w.src.touch with
  | .rd _ => s1.access (.rd w.src.dest line w.src.who level false)
  | _ => s1.access (.wr (w.job line) level false)

/-- A request that has passed MAP meets the budget and its class (R13, R111, R298); answers the request where it is
held. -/
def State.admitOne (s : State) (w : Waiting) (line : Nat) : Option Waiting × State :=
  let k := { w with cleared := some line, entry := some (w.entry.getD (s.reach (reachOfLine line))) }
  if s.budgetHeld w line || (w.src.touch.writes && s.healHeld (leafOfLine line)) then
    (some k, if s.budgetHeld w line then s.noteBudgetHold else s)
  else
    let cls := w.cls.getD (s.classOf w.src)
    let v := s.admission cls w.src.charge
    match v.1 with
    | .admitted l => (none, v.2.enter k line l)
    | .held =>
      let first := w.cls.isNone
      let s1 := if first then v.2.countHeld cls else v.2.noteHeld
      let s2 := if first then (match w.src.port with | some p => s1.count 1 4 p 1 | none => s1) else s1
      (some { k with cls := some cls }, s2)

/-- A request that misses: a host read is held or answered, a Pilot waits at its memory port (R66, R176, R318). -/
def State.missOne (s : State) (w : Waiting) (on : MissOn) (hint : BitVec 16) (full : Bool) : Option Waiting × State :=
  match w.src with
  | .host _ q =>
    if !w.src.touch.writes && !full && s.mayHold q.port then
      let h : Held := ⟨{ w with on := some on }, q.tag, on, w.arrived, s.holdTmo q.port⟩
      let p := s.port q.port
      (none, (s.setPort q.port { p with held := p.held ++ [h] }).leave w.src)
    else (none, ((s.countDefer on).leave w.src).respondDefer q.port q.tag hint)
  | _ => if full then (some { w with deferred := true }, s) else (some { w with on := some on }, s)

/-- One look at a request that nothing holds back; answers it where it goes on waiting. -/
def State.lookOne (s : State) (w : Waiting) : Option Waiting × State :=
  let j := s.judge w
  match j.1 with
  | .end_ c h => (none, (j.2.leave w.src).answerSource w.src c h)
  | .defer =>
    match w.src with
    | .host _ q => (none, (j.2.leave w.src).respondDefer q.port q.tag 0x00FF)
    | _ => (some { w with deferred := true }, j.2)
  | .miss on h f => j.2.missOne w on h f
  | .forward line =>
    if j.2.forwardRoom then (none, (j.2.leave w.src).forward (w.job line)) else (some w, j.2)
  | .serve line => j.2.admitOne w line

/-! ### Requests that wait -/

/-- Register accesses of the host (R79). -/
def Source.isCfg : Source → Bool
  | .host .cfgRd _ | .host .cfgWr _ => true
  | _ => false

/-- A request to a line of the requester that is forwarded and not yet acknowledged (R129). -/
def State.forwarding (s : State) (src : Source) : Bool :=
  s.twn.forwards.any fun f => f.line == src.line && (match f.who, src with
    | .host p _ _, .host _ q => p == q.port
    | .engine e, _ => src.engine == some e.val
    | _, _ => false)

/-- An earlier request of the port is still to be performed before an OFENCE (R86). -/
def State.fencedOff (s : State) (w : Waiting) : Bool :=
  match w.src.port with
  | some p => s.atu.ofences.any fun o => o.port.val == p && decide (o.no < w.no)
  | none => false

/-- A request of the port to the line is in a hold slot since before (R63). -/
def State.heldBefore (s : State) (w : Waiting) : Bool :=
  match w.src.port with
  | some p => (s.port p).held.any fun h => h.w.src.line == w.src.line && decide (h.w.no < w.no)
  | none => false

/-- What stands in a request's way among the earlier ones (R55, R63, R79, R300). -/
def State.behind (s : State) (w : Waiting) (earlier : List Waiting) : Bool :=
  earlier.any fun e =>
    (e.src.same w.src && !e.src.isCfg && !w.src.isCfg && e.src.line == w.src.line)
      || (e.src.same w.src && e.src.isCfg && w.src.isCfg)
      || (e.cls.isSome && e.cls == some (w.cls.getD (s.classOf w.src)) && !(e.src.same w.src && w.src.port.isSome) && !w.src.isCfg)

/-- A request has to go on waiting without a look. -/
def State.stuck (s : State) (w : Waiting) : Bool :=
  w.deferred || s.fencedOff w || (!w.src.isCfg && (s.heldBefore w || s.forwarding w.src))
    || s.behind w s.atu.waiting

/-- One request of the pass; `cfg` performs a register access of a port. -/
def State.passOne (cfg : State → HostOp → HostReq → State) (s : State) (w : Waiting) : State :=
  let keep (t : State) (x : Waiting) : State := t.updAtu fun a => { a with waiting := a.waiting ++ [x] }
  if s.stuck w then keep s w
  else match w.src with
    | .host .cfgRd q => cfg (s.leave w.src) .cfgRd q
    | .host .cfgWr q => cfg (s.leave w.src) .cfgWr q
    | .host .stageHint q => (s.leave w.src).doHint q
    | _ => match s.lookOne w with
      | (some x, t) => keep t x
      | (none, t) => t

/-- The pass over the requests that wait, in arrival order; those `p` does not select keep their place. -/
def State.pass (cfg : State → HostOp → HostReq → State) (p : Waiting → Bool) (s : State) : State :=
  s.atu.waiting.foldl (fun t w =>
    if p w then t.passOne cfg w else t.updAtu fun a => { a with waiting := a.waiting ++ [w] })
    (s.updAtu fun a => { a with waiting := [] })

/-! ### Arrival -/

/-- The fields of a request are as R57 allows (R65 row 2). An OFENCE or PFENCE whose RQ_ADDR is not zero fails as one whose
address is not aligned as R57 requires (DEDUCED, entry 70). -/
def fieldsOk (op : HostOp) (q : HostReq) : Bool :=
  let a := q.addr.toNat
  let at_ := q.attr.toNat
  match op with
  | .read | .resvLd | .condSt => at_ == 0 && a % 64 == 0
  | .write | .writeFull => at_ % 128 == 0 && a % 64 == 0
  | .atom o => at_ / 8 == 0 && a % o.size == 0
  | .ofence => at_ == 0 && a == 0
  | .pfence => at_ / 8 == 0 && at_ % 4 != 3 && a == 0
  | .stageHint => a % 4096 == 0
  | .cfgRd | .cfgWr => at_ / 8 == 0 && at_ % 8 ≤ 4
  | .bad _ => false

/-- RQ_OP itself is reserved (R57). -/
def HostOp.reserved : HostOp → Bool
  | .bad op => decide (0xB ≤ op.toNat)
  | _ => false

/-- INFO of HPX's entries: RQ_TAG and RQ_OP, and zero in every other bit (R517). The port number that R72 speaks of is in
SOURCE (R480, DEDUCED, entry 70). -/
def hpxInfo (q : HostReq) (op : Nat) : Nat := q.tag.toNat + op * 2 ^ 16

/-- A request with a bad opcode or field (R65): logged, answered ERR_ACCESS. -/
def State.badField (s : State) (q : HostReq) (op : Nat) (opcode : Bool) : State :=
  let s1 := if opcode then (s.logE 0x0202 (srcHost q.port) q.addr.toNat (hpxInfo q op)).event 0x020200 1
    else (s.logE 0x0203 (srcHost q.port) q.addr.toNat (hpxInfo q op)).event 0x020200 2
  s1.respondCode q.port q.tag .errAccess

/-- An opcode is served in the mode (R439): register accesses in every mode but Save. A reserved opcode stands in no row of
R439, so Save alone (R167) answers it ERR_MODE. -/
def Mode.servesOp (m : Mode) (op : HostOp) : Bool :=
  match op with
  | .cfgRd | .cfgWr => m != .save
  | _ => if op.reserved then m != .save else m.serves

/-- Tags of a port with no answer yet. -/
def Port.unanswered (p : Port) : List (BitVec 12) :=
  (p.tags.filter fun t => !t.2.answered).map fun t => BitVec.ofNat 12 t.1

/-- Tags of a port's write-class requests and fences with no answer yet, apart from a tag. -/
def Port.unansweredWrites (p : Port) : List (BitVec 12) :=
  (p.tags.filter fun t => !t.2.answered && (t.2.op.writes || t.2.op == .ofence)).map fun t => BitVec.ofNat 12 t.1

/-- Tags of the writes of other ports a fence by label waits for are not recorded by tag: it covers what is accepted
(R59). A PFENCE is recorded (R117, R118). -/
def State.addFence (s : State) (q : HostReq) (no : Nat) (waitOn : List (BitVec 12)) : State :=
  let f : PFence :=
    { id := s.atu.nextFence, owner := .host q.port q.tag
      stream := if q.attr.getLsbD 2 then .label q.label else .port q.port
      level := q.attr.toNat % 4, arrived := s.chron, tmo := orOne (s.fld 0x0C0010 0 16) * 1000000, no := no
      limit := s.atu.nextCov, waitOn := waitOn, target := none }
  s.updAtu fun a => { a with fences := a.fences ++ [f], nextFence := a.nextFence + 1 }

/-- RQ_ACK of a request (R55, R62, R65): tag, mode and fields, then it joins the requests that wait. -/
def State.accept (s : State) (op : HostOp) (q : HostReq) : State :=
  let p := s.port q.port
  let s0 := s.count 1 0 q.port 1
  match aget p.tags q.tag.toNat with
  | some _ => (s0.logE 0x0201 (srcHost q.port) q.addr.toNat (hpxInfo q op.bits)).event 0x020200 3
  | none =>
    let no := s.atu.nextNo
    let ent : TagEntry := { op := op, q := q, arrived := s.chron, no := no }
    let s1 := (s0.setPort q.port { p with tags := aput p.tags q.tag.toNat ent }).updAtu fun a => { a with nextNo := no + 1 }
    if !s.cfg.mode.servesOp op then s1.respondCode q.port q.tag .errMode
    else if !fieldsOk op q then s1.badField q op.bits op.reserved
    else match op with
      | .ofence => s1.updAtu fun a => { a with ofences := a.ofences ++ [⟨q.port, q.tag, no, p.unanswered⟩] }
      | .pfence => s1.addFence q no p.unansweredWrites
      | _ =>
        let w : Waiting := { no := no, src := .host op q, arrived := s.chron }
        (s1.updAtu fun a => { a with waiting := a.waiting ++ [w] }).qIn (.hpxIngress q.port) q.addr.toNat

/-- Requests in the ingress queue of a port (R21, R55). -/
def State.ingress (s : State) (p : Nat) : Nat := (s.atu.waiting.filter fun w => w.src.port == some p).length

/-- The port acknowledges requests (R55, R56). A handshake withheld for a full ingress queue when EN is cleared is not in
progress: it completes once EN is set again (DESIGN CHOICE, entry 70). -/
def State.acks (s : State) (p : Nat) : Bool := s.flag (0x020000 + p * 0x10) 31 && decide (s.ingress p < 64)

/-- An RQ_REQ transition with a request (R52, R53, R55): RQ_ACK follows at once, or once the port acknowledges. A request
that comes while one is withheld follows it on the wires. -/
def State.hostArrive (s : State) (op : HostOp) (q : HostReq) : State :=
  let p := s.port q.port
  if !p.unacked.isEmpty then s.setPort q.port { p with unacked := p.unacked ++ [(op, q)] }
  else if s.acks q.port then (s.setPort q.port { p with rqReq := !p.rqReq, rqAck := !p.rqAck }).accept op q
  else s.setPort q.port { p with rqReq := !p.rqReq, unacked := [(op, q)] }

/-- Withheld requests of a port are acknowledged while it acknowledges (R55). -/
def State.ackPort (s : State) (n : Nat) : State :=
  (s.port n).unacked.foldl (fun t x =>
    let p := t.port n
    if t.acks n && p.unacked.head? == some x then
      let more := decide (1 < p.unacked.length)
      (t.setPort n { p with unacked := p.unacked.drop 1, rqAck := !p.rqAck, rqReq := p.rqReq != more }).accept x.1 x.2
    else t) s

/-- Withheld requests of every port. -/
def State.ackAll (s : State) : State :=
  (s.ports.filter fun p => !p.2.unacked.isEmpty).foldl (fun t p => t.ackPort p.1) s

/-! ### Fences that complete -/

/-- An OFENCE whose requests are performed or answered completes (R86). -/
def State.endOfences (s : State) : State :=
  let met := s.atu.ofences.filter fun o => o.waitOn.isEmpty
  met.foldl (fun t o =>
    (t.updAtu fun a => { a with ofences := a.ofences.filter fun x => !(x.port == o.port && x.tag == o.tag) }).respondCode
      o.port o.tag .ok) s

/-- RS_DATA of a host PFENCE (R119). -/
def fenceData (word target : Nat) : Line := BitVec.ofNat 512 (word + target * 2 ^ 64)

/-- A PFENCE ends: its result goes to its port or its engine (R118, R119). -/
def State.endFence (s : State) (f : PFence) (timeout : Bool) : State :=
  let w := s.fenceWord f timeout
  let s1 := s.tellFence f
  match f.owner with
  | .host p t => s1.respond p t .ok 0 (fenceData w (f.target.getD 0))
  | .engine e => s1.updEngine e fun n => match n.wait, n.svc with
      | .fence _ _ _ _ _, _ | _, some _ => { n with fenceRes := some (BitVec.ofNat 64 w) }
      | _, none => n

/-- PFENCEs that have their target and reached their level complete (R118); none in a Save without a vault (R166). -/
def State.endFences (s : State) : State :=
  if s.bareSave then s
  else
    let s1 := s.updAtu fun a => { a with fences := a.fences.map s.takeTarget }
    s1.atu.fences.foldl (fun t f => if t.fenceMet f then t.endFence f false else t) s1

end Sys2Proof.Machine
end

