-- ==== Sys2Proof/Machine/PilotMem.lean ====
section
/-! DEFINITION. The memory side of a Pilot engine: local memory, exceptions, the store buffer, loads, atomics and
conditional stores at the memory port, and fences (R80–R88, R396, R397, R403–R405, R409, R410). -/

namespace Sys2Proof.Machine

/-- Base of the PEA page of an engine number (R388). -/
def peaPage (e : Nat) : Nat := 0x300000 + e * 0x2000

/-! ### Registers -/

/-- General register r (R394). -/
def Engine.reg (n : Engine) (r : BitVec 5) : DWord := n.g.getD r.toNat 0

/-- The engine with a general register written. -/
def Engine.setG (n : Engine) (r : BitVec 5) (v : DWord) : Engine := { n with g := n.g.set r.toNat v }

/-- Sweep register r. -/
def Engine.vec (n : Engine) (r : BitVec 4) : Line := n.v.getD r.toNat 0

/-- The engine with a Sweep register written. -/
def Engine.setV (n : Engine) (r : BitVec 4) (v : Line) : Engine := { n with v := n.v.set r.toNat v }

/-- Sweep mask r. -/
def Engine.mask (n : Engine) (r : BitVec 3) : DWord := n.m.getD r.toNat 0

/-- The engine with a Sweep mask written. -/
def Engine.setM (n : Engine) (r : BitVec 3) (v : DWord) : Engine := { n with m := n.m.set r.toNat v }

/-- The engine past the instruction at its pc. -/
def Engine.next (n : Engine) : Engine := { n with pc := n.pc + 4 }

/-! ### Stopping -/

/-- A wait that a stop abandons without effect (R410). -/
def PWait.abandoned : PWait → Bool
  | .fence _ _ _ _ _ | .descriptor | .message => true
  | _ => false

/-- An engine leaves RUNNING: no new instruction issues (R368), a wait that can be abandoned is (R410). -/
def Engine.leaveRunning (n : Engine) : Engine :=
  { n with
    state := .stopping
    wait := if n.wait.abandoned then .none else n.wait
    fenceRes := none }

/-- A running engine begins to stop; its PFENCE is abandoned (R368, R410). -/
def State.stopEngine (s : State) (e : Nat) : State :=
  if (s.engine e).state != .running then s
  else
    (s.updEngine e Engine.leaveRunning).updAtu fun a =>
      { a with fences := a.fences.filter fun f => match f.owner with | .engine x => x.val != e | _ => true }

/-- An exception (R409): the engine stops at the faulting instruction, its cause and address in PEA_EXC; for a cause that
carries an address, PILOT_EXC is logged. -/
def State.raiseExc (s : State) (e : Nat) (cause : BitVec 8) (pc : BitVec 16) (log : Option (Nat × Nat)) : State :=
  let s1 := (s.stopEngine e).updEngine e fun n =>
    { n with
      state := .stopping
      pendExc := some cause
      pc := pc
      exc := at_ cause.toNat 24 8 ||| at_ pc.toNat 0 16 }
  match log with
  | some (addr, code) => s1.logE 0x3004 (srcEngine e) addr (e + cause.toNat * 2 ^ 8 + code * 2 ^ 16)
  | none => s1

/-- MEM_FAULT or POISON for the answer to an access (R405). -/
def State.memFault (s : State) (e : Nat) (code : Code) (pc : BitVec 16) (addr : Nat) : State :=
  if code = .poison then s.raiseExc e 0x20 pc (some (addr, 0)) else s.raiseExc e 0x21 pc (some (addr, code.bits.toNat))

/-! ### The store buffer -/

/-- Bytes of the largest naturally aligned piece that begins an access of n bytes at an address (R98). -/
def pieceSize (addr n : Nat) : Nat :=
  [2, 4, 8, 16, 32, 64].foldl (fun m k => if addr % k == 0 && decide (k ≤ n) then k else m) 1

/-- The pieces of an access, at most as many as the first number says. -/
def piecesFrom : Nat → Nat → Nat → List (Nat × Nat)
  | 0, _, _ => []
  | f + 1, a, n =>
    if n = 0 then [] else (a, pieceSize a n) :: piecesFrom f ((a + pieceSize a n) % 2 ^ 64) (n - pieceSize a n)

/-- The naturally aligned pieces of an access of n bytes (R98): the address of each and its bytes. One of 64 bytes has no
more than 11. -/
def pieces (addr n : Nat) : List (Nat × Nat) := piecesFrom 16 addr n

/-- The byte mask of k bytes from an offset. -/
def byteMask (off k : Nat) : BitVec 64 := BitVec.ofNat 64 ((2 ^ k - 1) <<< off)

/-- The entry takes no more stores: it begins to issue (R80). -/
def SbEntry.close (b : SbEntry) : SbEntry := { b with closed := true }

/-- A store may merge into the entry (R80). -/
def SbEntry.merges (b : SbEntry) (line : Nat) : Bool := b.line == line && !b.issued && !b.closed

/-- The entry has to issue (R80). -/
def SbEntry.due (b : SbEntry) : Bool := !b.issued && (b.closed || b.mask == BitVec.allOnes 64)

/-- The oldest entry that has not begun to issue begins to. -/
def closeOldest : List SbEntry → List SbEntry
  | [] => []
  | b :: r => if b.issued || b.closed then b :: closeOldest r else b.close :: r

/-- One line of a store enters the buffer (R80): it merges, or opens an entry; with 12 or more entries the oldest
issues. -/
def Engine.putStore (n : Engine) (now line : Nat) (mask : BitVec 64) (data : Line) : Engine :=
  if n.buffer.any fun b => b.merges line then
    { n with buffer := mapIf n.buffer (fun b => b.merges line) fun b =>
        { b with mask := b.mask ||| mask, data := mergeLine b.data data mask } }
  else
    let b : SbEntry := { id := n.nextSb, line := line, mask := mask, data := data, opened := now }
    let all := n.buffer ++ [b]
    { n with buffer := if 12 ≤ all.length then closeOldest all else all, nextSb := n.nextSb + 1 }

/-- Whether the buffer takes a store (R80). -/
def Engine.storeRoom (n : Engine) (addr len : Nat) : Bool :=
  let open_ := ((pieces addr len).map fun p => p.1 / 64).eraseDups.filter fun line => !(n.buffer.any fun b => b.merges line)
  decide (n.buffer.length + open_.length ≤ 16)

/-- A posted store of len bytes (R84, R405). -/
def Engine.store (n : Engine) (now addr len v : Nat) : Engine :=
  let r := (pieces addr len).foldl (fun (t : Engine × Nat) p =>
    (t.1.putStore now (p.1 / 64) (byteMask (p.1 % 64) p.2)
      (BitVec.ofNat 512 ((t.2 % 2 ^ (8 * p.2)) <<< (8 * (p.1 % 64)))), t.2 >>> (8 * p.2))) (n, v)
  r.1

/-- A request of the block's own arrives among those that wait. -/
def State.submit (s : State) (src : Source) : State :=
  let w : Waiting := { no := s.atu.nextNo, src := src, arrived := s.chron }
  s.updAtu fun a => { a with waiting := a.waiting ++ [w], nextNo := a.nextNo + 1 }

/-- Entries issue oldest first, up to the last that has to (R80, R81). -/
def State.pumpBuffer (s : State) (e : EngineNo) : State :=
  let buf := (s.engine e).buffer
  let upto := (List.range buf.length).foldl (fun m i => match buf[i]? with
    | some b => if b.due then i + 1 else m
    | none => m) 0
  let go := (buf.take upto).filter fun b => !b.issued
  if go.isEmpty then s
  else
    let s1 := s.updEngine e fun n =>
      { n with buffer := (n.buffer.take upto).map (fun b => if b.issued then b else
          { b with issued := true, asked := { addr := b.line * 64, since := s.chron } }) ++ n.buffer.drop upto }
    go.foldl (fun t b => t.submit (.store e b.id b.line b.mask b.data)) s1

/-- An entry open for 256 ns begins to issue (R80). -/
def State.ageIssue (s : State) (e : Nat) : State :=
  match (s.engine e).buffer.find? fun b => !b.issued && !b.closed with
  | none => s
  | some b =>
    let s1 := s.until_ (b.opened + 256)
    s1.updEngine e fun n => { n with buffer := mapIf n.buffer (fun x => decide (x.opened + 256 ≤ s1.chron)) SbEntry.close }

/-- A store is dropped (R84, R87): logged DEAD_STORE with its line and code, and recorded. -/
def State.deadStore (s : State) (e line : Nat) (c : Code) : State :=
  (s.updEngine e fun n =>
    { n with
      failCode := if n.fails = 0 then c else n.failCode
      failLine := if n.fails = 0 then BitVec.ofNat 64 line else n.failLine
      fails := Nat.min (n.fails + 1) 1023 }).logE 0x3001 (srcEngine e) (lineAddr line) (e + c.bits.toNat * 2 ^ 16)

/-- The response to the oldest answered store (R84, R87): one that is not OK is dropped. -/
def State.storeResponse (s : State) (e : Nat) : State :=
  match (s.engine e).buffer.find? fun b => b.code.isSome with
  | none => s
  | some b =>
    let s1 := s.updEngine e fun n => { n with buffer := n.buffer.filter fun x => x.id != b.id }
    let c := b.code.getD .ok
    if c = .ok then s1 else s1.deadStore e b.line c

/-! ### Accesses that wait for data -/

/-- Bytes of an access in flight. -/
def LoadKind.size : LoadKind → Nat
  | .gpr _ n _ => n
  | .pair _ => 16
  | .vec _ => 64
  | .resv _ | .cond _ _ => 8
  | .atom op _ _ => op.size

/-- An access leaves for the memory port: the engine waits for its data, its pc past the instruction (R405). -/
def Engine.startLoad (n : Engine) (kind : LoadKind) (addr : Nat) : Engine :=
  let l : Load := { seq := n.nextLoad, kind := kind, addr := BitVec.ofNat 64 addr
                    want := (pieces addr kind.size).map (·.1), pc := n.pc }
  let buf := match kind with
    | .atom _ _ _ | .cond _ _ => mapIf n.buffer (fun b => b.line == addr / 64) SbEntry.close
    | _ => n.buffer
  { n with loads := n.loads ++ [l], nextLoad := n.nextLoad + 1, buffer := buf, pc := n.pc + 4
           wait := match kind with | .cond _ _ => .cond | _ => .load }

/-- What the store buffer makes of one line of an access (R82, R404): none, it waits; a line, its bytes come from an
entry; or it goes to memory. -/
def Engine.lookBuffer (n : Engine) (plain : Bool) (line : Nat) (mask : BitVec 64) : Option (Option Line) :=
  let es := n.buffer.filter fun b => b.line == line && b.unperformed
  if es.isEmpty then some none
  else match (es.reverse.find? fun b => (b.mask &&& mask) != 0) with
    | some b => if plain && (b.mask &&& mask) == mask then some (some b.data) else none
    | none => none

/-- The request an access makes for one of its pieces (R98). -/
def Load.request (l : Load) (e : EngineNo) (piece : Nat) : Source :=
  match l.kind with
  | .atom op _ d => .atom e l.seq op l.addr.toNat d
  | .cond _ d =>
    let off := l.addr.toNat % 64
    .cond e l.addr.toNat (byteMask off 8) (BitVec.ofNat 512 (d.toNat <<< (8 * off)))
  | .resv _ => .load e l.seq piece true
  | _ => .load e l.seq piece false

/-- The access is a plain load: it may take its bytes from the store buffer, and others may follow it (R82, R89). -/
def LoadKind.plain : LoadKind → Bool
  | .gpr _ _ _ | .pair _ | .vec _ => true
  | _ => false

/-- One piece of an access is taken from the store buffer, asked for, or waits (R82). -/
def State.pumpPiece (s : State) (e : EngineNo) (seq piece : Nat) (mask : BitVec 64) : State :=
  match (s.engine e).loads.find? fun l => l.seq == seq with
  | none => s
  | some l =>
    match (s.engine e).lookBuffer l.kind.plain (piece / 64) mask with
    | none => s
    | some (some d) => s.loadArrive e seq piece (.line d)
    | some none =>
      (s.updEngine e fun n =>
        { n with loads := mapIf n.loads (fun x => x.seq == seq) fun x =>
            { x with
              sent := piece :: x.sent
              asked := aput x.asked piece { addr := piece, since := s.chron } } }).submit
        (l.request e piece)

/-- The pieces of an engine's accesses that have not been asked for. -/
def State.pumpLoads (s : State) (e : EngineNo) : State :=
  (s.engine e).loads.foldl (fun t l =>
    (pieces l.addr.toNat l.kind.size).foldl (fun t p =>
      if l.want.contains p.1 && !l.sent.contains p.1 then t.pumpPiece e l.seq p.1 (byteMask (p.1 % 64) p.2) else t) t) s

/-- A load writes a general register. -/
def LoadKind.writesReg : LoadKind → BitVec 5 → Bool
  | .gpr rd _ _, r => rd == r
  | .pair rd, r => rd == r || rd + 1 == r
  | _, _ => false

/-- A plain load with its base in a register may issue behind the loads in flight (R82, R89): all are plain, and none of
them writes its base. -/
def Engine.mayOverlap (n : Engine) (base : BitVec 5) : Bool :=
  n.wait == .load && n.loads.all fun l => l.kind.plain && !l.kind.writesReg base && !l.dropped

/-- The bytes of an access whose pieces have all arrived, as a number. -/
def Load.value (l : Load) : Nat :=
  let r := (pieces l.addr.toNat l.kind.size).foldl (fun (t : Nat × Nat) p =>
    (t.1 + lineNat (agetD l.got p.1 0) (p.1 % 64) p.2 * 2 ^ (8 * t.2), t.2 + p.2)) (0, 0)
  r.1

/-- A value of n bytes extended to a register (R400). -/
def extend (n v : Nat) (signed : Bool) : DWord :=
  if signed then (BitVec.ofNat (8 * n) v).signExtend 64 else BitVec.ofNat 64 (v % 2 ^ (8 * n))

/-- What an access writes when its data has arrived (R58, R400, R403, R404). -/
def Engine.takeData (n : Engine) (l : Load) : Engine :=
  match l.kind with
  | .gpr rd k sg => n.setG rd (extend k l.value sg)
  | .pair rd => (n.setG rd (BitVec.ofNat 64 l.value)).setG (rd + 1) (BitVec.ofNat 64 (l.value / 2 ^ 64))
  | .vec vd => n.setV (vd.setWidth 4) (BitVec.ofNat 512 l.value)
  | .resv rd => n.setG rd (BitVec.ofNat 64 l.value)
  | .atom op rd _ =>
    let old := (agetD l.got l.addr.toNat 0).toNat
    let n1 := n.setG rd (BitVec.ofNat 64 old)
    if op = .cas16 then n1.setG (rd + 1) (BitVec.ofNat 64 (old / 2 ^ 64)) else n1
  | .cond _ _ => n

/-- The line of an access that brought no data: the one a POISON or MEM_FAULT names (R409). -/
def Load.badLine (l : Load) : Nat :=
  match (pieces l.addr.toNat l.kind.size).find? fun p => (aget l.got p.1).isNone with
  | some p => p.1 / 64
  | none => l.addr.toNat / 64

/-- The data of the oldest access in flight arrives (R405): it is written, or POISON or MEM_FAULT is raised. Loads issued
after one that faults have no effect (R410). -/
def State.loadData (s : State) (e : Nat) : State :=
  let n := s.engine e
  match n.loads with
  | [] => s
  | l :: r =>
    if n.wait != .load || !l.want.isEmpty then s
    else
      let w : PWait := if r.isEmpty then .none else .load
      if l.dropped then s.updEngine e fun n => { n with loads := r, wait := w }
      else match l.bad with
      | some c =>
        (s.updEngine e fun n => { n with loads := r.map fun x => { x with dropped := true }, wait := w }).memFault e c l.pc
          (l.badLine * 64)
      | none => s.updEngine e fun n => { n with loads := r, wait := w }.takeData l

/-- The response to the conditional store in flight (R404, R405). -/
def State.condData (s : State) (e : Nat) : State :=
  let n := s.engine e
  match n.loads, n.cond with
  | l :: r, some c =>
    if n.wait != .cond then s
    else
      let s1 := s.updEngine e fun n => { n with loads := r, cond := none, wait := .none }
      match l.kind, c with
      | .cond rd _, .ok => s1.updEngine e fun n => n.setG rd 0
      | .cond rd _, .resvFail => s1.updEngine e fun n => n.setG rd 3
      | _, _ => s1.raiseExc e 0x21 l.pc (some (l.addr.toNat / 64 * 64, c.bits.toNat))
  | _, _ => s

/-- The memory port retries the accesses of an engine that were answered DEFER (R405). -/
def State.deferRetry (s : State) (e : Nat) : State :=
  s.updAtu fun a => { a with waiting := mapIf a.waiting (fun w => w.src.engine == some e) fun w => { w with deferred := false } }

/-! ### Fences -/

/-- A fence is executed (R80, R86): every entry begins to issue; the engine waits. Kind 0 is OFENCE, 1 PFENCE, 2
DFENCE. -/
def Engine.startFence (n : Engine) (now lim kind level : Nat) (rd : BitVec 5) : Engine :=
  { n with buffer := n.buffer.map SbEntry.close, wait := .fence kind level rd now lim, fenceRes := none }

/-- A PFENCE of an engine is recorded (R117–R119). -/
def State.engineFence (s : State) (e : EngineNo) (level since : Nat) : State :=
  let f : PFence :=
    { id := s.atu.nextFence, owner := .engine e, stream := .engine e, level := level, arrived := since
      tmo := orOne (s.fld 0x0C0010 0 16) * 1000000, no := s.atu.nextNo, limit := s.atu.nextCov, waitOn := []
      target := none }
  s.updAtu fun a => { a with fences := a.fences ++ [f], nextFence := a.nextFence + 1 }

/-- A PFENCE of the engine is pending. -/
def State.fencePending (s : State) (e : EngineNo) : Bool := s.atu.fences.any fun f => f.owner == .engine e

/-- A Pilot's PFENCE is recorded as it is executed, its stores handed to the memory port: it takes its target once they
are performed (R86, R118, R119). After SAVE_DONE none is. -/
def State.pumpFence (s : State) (e : EngineNo) : State :=
  let n := s.engine e
  match n.wait with
  | .fence 1 level _ since _ =>
    if n.fenceRes.isSome || s.fencePending e || s.cfg.saveDonePin then s else s.engineFence e level since
  | _ => s

/-- The DFENCE result (R87). -/
def Engine.failRecord (n : Engine) : DWord :=
  BitVec.ofNat 64 (n.failCode.bits.toNat * 2 ^ 60 + n.fails * 2 ^ 50 + n.failLine.toNat % 2 ^ 50)

/-- The failure record is cleared (R87). -/
def Engine.clearFails (n : Engine) : Engine := { n with failCode := .ok, fails := 0, failLine := 0 }

/-- A waiting fence whose condition is met completes and writes its result (R86, R87, R119). -/
def State.fenceDone (s : State) (e : Nat) : State :=
  let n := s.engine e
  match n.wait with
  | .fence kind _ rd since _ =>
    let go (f : Engine → Engine) : State :=
      (s.updEngine e fun n => { f n.next with wait := .none, fenceRes := none }).tracePilot e 4 { since := since } .ok
    match kind with
    | 0 => if n.performed then go id else s
    | 1 => match n.fenceRes with
      | some w => go fun n => n.setG rd w
      | none => s
    | _ => if n.loads.isEmpty && n.buffer.isEmpty then go fun n => (n.setG rd n.failRecord).clearFails else s
  | _ => s

/-! ### The end of a stop -/

/-- A stopping engine whose accesses have completed and whose store buffer has issued stops (R368, R409). -/
def State.stopDone (s : State) (e : Nat) : State :=
  let n := s.engine e
  if n.state != .stopping || !n.loads.isEmpty || !(n.buffer.all fun b => b.issued) then s
  else match n.pendExc with
    | some _ => (s.updEngine e fun n => { n with state := .halted, pendExc := none }).event (peaPage e + 0x200) 1
    | none => (s.updEngine e fun n => { n with state := .stopped }).event (peaPage e + 0x200) 3

/-- Engines by number that are not as at reset. -/
def State.engineNos (s : State) : List EngineNo :=
  s.engines.filterMap fun x => if h : x.1 < 32 then some ⟨x.1, h⟩ else none

/-- What the memory ports of the engines can do goes on. -/
def State.pumpEngines (s : State) : State :=
  s.engineNos.foldl (fun t e => ((t.pumpBuffer e).pumpLoads e).pumpFence e) s

end Sys2Proof.Machine
end

