-- ==== Sys2Proof/Machine/Arbiter.lean ====
section
/-! DEFINITION. The shared-unit arbiter: requests, ranking, grants, hints, windows, holds and releases (R374–R381,
R387, R391–R393). -/

namespace Sys2Proof.Machine

/-- First instance number and instances of a unit (R374). -/
def unitSpan (u : Nat) : Nat × Nat :=
  match u with
  | 0 => (0, 8)
  | 1 => (8, 16)
  | 2 => (24, 1)
  | 3 => (25, 1)
  | 4 => (26, 1)
  | _ => (27, 1)

/-- Unit of an instance (R374). -/
def unitOf (inst : Nat) : Nat := if inst < 8 then 0 else if inst < 24 then 1 else inst - 22

/-- Code of a holder in SUA_HOLDER and LONG_HOLD (R391, R517). -/
def Asker.code : Asker → Nat
  | .engine e => e.val
  | .internal .snd => 0x40
  | .internal .sgt => 0x41
  | .internal .twn => 0x42

/-- An engine's grant of a unit. -/
def State.grantOf (s : State) (who : Asker) (u : Nat) : Option Grant :=
  s.sua.grants.find? fun g => g.who == who && unitOf g.inst == u

/-- The instance of a unit that an engine holds. -/
def State.heldInst (s : State) (e : EngineNo) (u : Nat) : Option Nat := (s.grantOf (.engine e) u).map (·.inst)

/-- The instance is BUSY. -/
def State.busyInst (s : State) (inst : Nat) : Bool := s.sua.busy.contains inst

/-- SUA_QUOTA's field of a unit (R377). -/
def State.quota (s : State) (u : Nat) : Nat := s.fld 0x340004 (4 * u) 4

/-- Grants of a unit to an engine in this window. -/
def State.grantCount (s : State) (e : EngineNo) (u : Nat) : Nat := agetD s.sua.counts (32 * u + e.val) 0

/-- The engine's requests for the unit are masked (R377). -/
def State.maskedFor (s : State) (e : EngineNo) (u : Nat) : Bool := s.quota u != 0 && decide (s.quota u ≤ s.grantCount e u)

/-- SUA_CFG.BG_MS in ns (R392). -/
def State.bgTime (s : State) : Nat := orOne (s.fld 0x340000 24 8) * 1000000

/-- SUA_CFG.HOLD_MS in ns (R392). -/
def State.holdTime (s : State) : Nat := orOne (s.fld 0x340000 16 8) * 1000000

/-- The deadline of an internal request (R379). -/
def State.deadline (s : State) (a : Ask) : Nat :=
  match a.who with
  | .internal .twn => a.since
  | _ => a.since + s.bgTime

/-- The ranking key of a request (R376): lower goes first. -/
def State.askKey (s : State) (a : Ask) : Nat × Nat × Nat :=
  match a.who with
  | .internal _ => (if a.due then 0 else 3, s.deadline a, 0)
  | .engine e => (if s.maskedFor e a.unit then 2 else 1, 15 - a.prio, a.since)

/-- Whether a key ranks strictly ahead of another. -/
def keyBefore (a b : Nat × Nat × Nat) : Bool :=
  decide (a.1 < b.1) || (a.1 == b.1 && (decide (a.2.1 < b.2.1) || (a.2.1 == b.2.1 && decide (a.2.2 < b.2.2))))

/-- Insert a request by its rank; one that ranks equal stays behind the earlier one. -/
def State.rankIn (s : State) (a : Ask) : List Ask → List Ask
  | [] => [a]
  | b :: r => if keyBefore (s.askKey a) (s.askKey b) then a :: b :: r else b :: s.rankIn a r

/-- The waiters of a unit, ranked (R376). -/
def State.ranking (s : State) (u : Nat) : List Ask :=
  (s.sua.asks.filter fun a => a.unit == u).foldl (fun l a => s.rankIn a l) []

/-- The lowest free instance of a unit (R376). -/
def State.freeInst (s : State) (u : Nat) : Option Nat :=
  (natsFrom (unitSpan u).1 (unitSpan u).2).find? fun i => !(s.sua.grants.any fun g => g.inst == i)

/-- A waiter is granted an instance (R376, R377). -/
def State.grantTo (s : State) (a : Ask) (inst : Nat) : State :=
  let s1 := s.updSua fun u =>
    { u with
      asks := u.asks.filter fun b => !(b.who == a.who && b.unit == a.unit)
      grants := u.grants ++ [⟨inst, a.who, s.chron, false⟩] }
  let s2 := match a.who with
    | .engine e => s1.updSua fun u => { u with counts := aput u.counts (32 * a.unit + e.val) (s.grantCount e a.unit + 1) }
    | .internal _ => s1
  let s3 := if a.unit = 4 then s2.setUnitReg 26 0x20 (s2.unitReg 26 0x20 &&& 0xFFFFFFFFFFFF0000) else s2
  s3.count 0x0A 0 a.unit 1

/-- Mean hold time of a unit's last 64 grants, in ns (R378). -/
def State.meanHold (s : State) (u : Nat) : Nat := meanOf ((s.sua.holds.filter fun h => h.1 == u).map (·.2))

/-- The bearing hint with p waiters ahead (R378). -/
def State.askHint (s : State) (u p : Nat) : BitVec 16 :=
  BitVec.ofNat 16 (Nat.min p 0xFF * 256 + Nat.min 0xFF ((p / (unitSpan u).2 + 1) * s.meanHold u / 32))

/-- Free instances go down the ranking; the waiters left are given their hints (R376, R378). -/
def State.arbitrate (s : State) (u : Nat) : State :=
  let s1 := (s.ranking u).foldl (fun t a => match t.freeInst u with
    | some i => t.grantTo a i
    | none => t) s
  let left := s1.ranking u
  s1.updSua fun x =>
    { x with asks := x.asks.map fun a =>
        if a.unit = u then { a with hint := s1.askHint u (left.idxOf a) } else a }

/-- Whether a request of a requester for a unit waits. -/
def State.waits (s : State) (who : Asker) (u : Nat) : Bool := s.sua.asks.any fun a => a.who == who && a.unit == u

/-- A new request joins the waiters, and SUA arbitrates (R376). -/
def State.ask (s : State) (a : Ask) : State := (s.updSua fun u => { u with asks := u.asks ++ [a] }).arbitrate a.unit

/-- PRIO kept for an engine's unit (R381). -/
def State.keepPrio (s : State) (e : EngineNo) (u prio : Nat) : State :=
  s.updEngine e fun n => { n with prio := aput n.prio u prio }

/-- A request word with REQ 1 (R375, R381). -/
def State.suaRequest (s : State) (e : EngineNo) (u prio : Nat) : State :=
  let s1 := s.keepPrio e u prio
  if (s1.heldInst e u).isSome then s1
  else if s1.waits (.engine e) u then
    (s1.updSua fun x =>
      { x with asks := mapIf x.asks (fun a => a.who == .engine e && a.unit == u) fun a => { a with prio := prio } }).arbitrate u
  else s1.ask { who := .engine e, unit := u, prio := prio, since := s1.chron }

/-- A request leaves the waiters (R375). -/
def State.dropAsk (s : State) (who : Asker) (u : Nat) : State :=
  if s.waits who u then
    (s.updSua fun x => { x with asks := x.asks.filter fun a => !(a.who == who && a.unit == u) }).arbitrate u
  else s

/-- A grant ends: its hold time joins the unit's last 64, and SUA arbitrates (R376, R378). -/
def State.endGrant (s : State) (g : Grant) : State :=
  let u := unitOf g.inst
  let hs := s.sua.holds ++ [(u, s.chron - g.since)]
  let mine := hs.filter fun h => h.1 == u
  let kept := (hs.filter fun h => h.1 != u) ++ mine.drop (mine.length - 64)
  (s.updSua fun x => { x with grants := x.grants.filter fun k => k.inst != g.inst, holds := kept }).arbitrate u

/-- A release word (R375): none where it is answered ERR_ACCESS. -/
def State.suaRelease (s : State) (e : EngineNo) (u : Nat) : Option State :=
  match s.grantOf (.engine e) u with
  | none => none
  | some g => if s.busyInst g.inst then none else some (s.endGrant g)

/-- The request word as read (R375). -/
def State.requestWord (s : State) (e : EngineNo) (u : Nat) : Word :=
  let ask := s.sua.asks.find? fun a => a.who == .engine e && a.unit == u
  let g := s.grantOf (.engine e) u
  bitAt g.isSome 31 ||| bitAt ask.isSome 30 ||| bitAt (s.maskedFor e u) 29
    ||| at_ ((g.map (·.inst)).getD 0) 24 5 ||| at_ (agetD (s.engine e).prio u 0) 20 4
    ||| at_ ((ask.map fun a => a.hint.toNat).getD 0) 0 16

/-! ### Internal requests -/

/-- The units a subsystem asks for (R374). -/
def internalAsks (i : Internal) (u : Nat) : Bool :=
  match i with
  | .snd | .sgt => u == 0
  | .twn => u == 4

/-- An internal request (R379): TWN's is due at once. -/
def State.askInternal (s : State) (i : Internal) (u : Nat) : State :=
  if !internalAsks i u || s.waits (.internal i) u || (s.grantOf (.internal i) u).isSome || s.cfg.mode = .save then s
  else
    let due := i == .twn
    (s.eventIf due 0x340300 1).ask { who := .internal i, unit := u, prio := 0, since := s.chron, due := due }

/-- An internal request reaches its deadline (R379). -/
def State.requestDue (s : State) (i : Internal) (u : Nat) : State :=
  match s.sua.asks.find? fun a => a.who == .internal i && a.unit == u && !a.due with
  | none => s
  | some a =>
    let s1 := (s.until_ (s.deadline a)).updSua fun x =>
      { x with asks := mapIf x.asks (fun b => b.who == .internal i && b.unit == u) fun b => { b with due := true } }
    (s1.event 0x340300 1).arbitrate u

/-- The work an internal holder borrowed its instance for is over: SND's while no row or line is being copied (R374); what SGT and TWN do
with theirs, this model does in one step. -/
def State.internalIdle (s : State) : Internal → Bool
  | .snd => s.ecc.migrations.isEmpty && s.ecc.moves.isEmpty && s.ecc.copying.isEmpty && s.ecc.copies.isEmpty
  | _ => true

/-! ### Windows and holds -/

/-- A window boundary (R377, R387, R392): counts return to zero, masks clear, a new WIN_US takes effect. -/
def State.suaWindow (s : State) : State :=
  let w := orOne s.sua.winUs * 1000
  let s1 := (s.until_ ((s.chron / w + 1) * w)).updSua fun x =>
    { x with counts := [], winUs := s.fld 0x340000 0 16 }
  (List.range 6).foldl (fun t u => t.arbitrate u) s1

/-- A grant has been held for HOLD_MS (R380): logged once; the Lookout sees it by the grant's mark (R486). -/
def State.longHold (s : State) (inst : Nat) : State :=
  match s.sua.grants.find? fun g => g.inst == inst && !g.longLogged with
  | none => s
  | some g =>
    let s1 := (s.until_ (g.since + s.holdTime)).updSua fun x =>
      { x with grants := mapIf x.grants (fun k => k.inst == inst) fun k => { k with longLogged := true } }
    (s1.logE 0x3401 (srcInt 0x34) 0 (inst + g.who.code * 2 ^ 8)).event 0x340300 0

/-! ### Holders and waiters that leave -/

/-- The grant is to be given back (R380): its engine does not run, or its subsystem's work is over. -/
def State.leaves (s : State) : Asker → Bool
  | .engine e => (s.engine e).state != .running
  | .internal i => s.internalIdle i

/-- A waiting request of an engine that does not run is withdrawn (R368). -/
def State.quitAsks (s : State) : State :=
  (s.sua.asks.filter fun a => match a.who with
    | .engine e => (s.engine e).state != .running
    | .internal _ => false).foldl (fun t a => t.dropAsk a.who a.unit) s

/-- Instances that are to be given back are, once they are not BUSY (R380). -/
def State.quitGrants (s : State) : State :=
  (s.sua.grants.filter fun g => s.leaves g.who && !s.busyInst g.inst).foldl (fun t g => t.endGrant g) s

/-- In Save every grant is released and every waiting request withdrawn (R387). -/
def State.clearUnits (s : State) : State :=
  s.updSua fun x => { x with asks := [], grants := [], busy := [], moves := [], faults := [], arrived := [] }

/-- Waiters and holders that have to leave do. -/
def State.settleGrants (s : State) : State :=
  if s.sua.asks.isEmpty && s.sua.grants.isEmpty then s
  else if s.cfg.mode = .save then s.clearUnits
  else s.quitAsks.quitGrants

end Sys2Proof.Machine
end

