-- ==== Sys2Proof/Machine/Modules.lean ====
section
/-! DEFINITION. The registers SGT sets in the module buffers and in the DRAM, and the commands it sends for it (R198, R237,
R240, R245). -/

namespace Sys2Proof.Machine

/-- SGT_POP.DPC. -/
def State.popDpc (s : State) : Nat := field s.sgt.pop 18 2

/-- A chip select of a channel is still in Sighting: neither failed nor absent. -/
def State.csRuns (s : State) (ch sub cs : Nat) : Bool := agetD s.sgt.rsts (8 * ch + 4 * sub + cs) 0 == 0

/-- The control words SGT writes into the RCD or MRCD of a DIMM (R237). -/
def State.rcdWords (s : State) : Rcd := { band := s.fld 0x080000 0 4, strong := s.popDpc == 2 }

/-- CLOCK releases RESET_n of a channel (R240); RCD_INIT writes the control words of a DIMM and MUX sets the multiplexing
(R237). -/
def State.rcdStep (s : State) (ch step unit : Nat) : State :=
  let key := 2 * ch + unit
  if step = 2 then s.updSgt fun g => { g with resetHigh := insertNat g.resetHigh ch }
  else if step = 3 then s.updSgt fun g => { g with rcd := aput g.rcd key s.rcdWords }
  else if step = 8 then
    s.updSgt fun g => { g with rcd := g.rcd.map fun x => if x.1 = key then (x.1, { x.2 with muxed := true }) else x }
  else s

/-- The mode registers of a chip select as SGT writes them (R245). -/
def State.modeRegsOf (s : State) (ch sub cs : Nat) : ModeRegs :=
  let rank := s.phyReg (0x200000 + ch * 0x10000 + 0x300 + sub * 0x40 + cs * 0x10)
  let f (n lo w : Nat) : Nat := s.fld (chsPage ch + 0x100 + 4 * n) lo w
  { cl := f 0 0 8, fgr := s.refMode != 0, twr := f 1 24 8, trtp := f 1 16 8, vrefDq := field rank 24 8, vrefCa := field rank 16 8
    tccdL := f 3 8 8, odt := s.reg (if s.popDpc = 2 then 0x080024 else 0x080020), arfm := s.fld 0x070008 24 2 }

/-- The mode registers of a chip select are written by MRW (R245, R198). -/
def State.writeModes (s : State) (ch sub cs : Nat) : State :=
  let key := 8 * ch + 4 * sub + cs
  (s.updSgt fun g => { g with modeRegs := aput g.modeRegs key (s.modeRegsOf ch sub cs) }).sends (2 * ch + sub) .mrw cs

/-- After SRX the mode registers of every rank that runs are written again (R245). -/
def State.rewriteModes (s : State) (ch : Nat) : State :=
  ((List.range 8).filter fun k => s.csRuns ch (k / 4) (k % 4)).foldl (fun t k => t.writeModes ch (k / 4) (k % 4)) s

/-- What a rank step of Sighting sends to its chip select (R198, R240): MPC for the training modes, MRW and MRR for the mode
registers and the read-backs, MPC and MRR for the oscillator. -/
def State.stepSends (s : State) (ch step sub cs : Nat) : State :=
  let c := 2 * ch + sub
  match step with
  | 6 => s.sends c .mpc cs
  | 7 => (s.sends c .mpc cs).sends c .mrw cs
  | 9 => ((s.writeModes ch sub cs).sends c .mrr cs).sends c .mrr cs
  | 0xA | 0xB | 0xC | 0xD => s.writeModes ch sub cs
  | 0xE => ((s.sends c .mpc cs).sends c .mrr cs).sends c .mrr cs
  | _ => s

end Sys2Proof.Machine
end

