-- ==== Sys2Proof/Machine/Deep.lean ====
section
/-! DEFINITION. The deep tier at work: slots, fills, LOST segments, seals, publication, and the deep port's commands,
completions and timeouts (R312–R334). -/

namespace Sys2Proof.Machine

/-! ### Slots (R315, R317) -/

/-- Requests that wait on a segment. -/
def State.segWaiters (s : State) (g : Nat) : Nat :=
  (s.ports.map fun p => (p.2.held.filter fun h => onSegment g h.on).length).sum
    + (s.atu.waiting.filter fun w => match w.on with | some o => onSegment g o | none => false).length

/-- The slot is being evicted: no entry names it. -/
def State.evicting (s : State) (k : Nat) (v : Slot) : Bool := (s.seg v.seg).slot != k + 1

/-- The segment's entry no longer names its slot; the slot is free at once where no load reads it (R317). -/
def State.evictSeg (s : State) (g : Nat) : State :=
  let e := s.seg g
  if e.slot = 0 then s
  else
    let k := e.slot - 1
    let s1 := s.putSeg g { e with slot := 0 }
    match aget s.dti.slots k with
    | some v =>
      if v.readers = 0 then s1.updDti fun d => { d with slots := adel d.slots k }
      else s1.updSlot k fun x => { x with inflight := [] }
    | none => s1

/-- A slot qualifies for eviction (R317). -/
def State.qualifies (s : State) (v : Slot) : Bool :=
  !v.ref && v.inflight.isEmpty && v.readers == 0 && !s.pinned v.seg && s.segWaiters v.seg == 0

/-- The clock hand goes over the slots from `k` for some slots (R317): the slots with their bits cleared and the one it
takes. -/
def State.sweep (s : State) (lo hi : Nat) (slots : List (Nat × Slot)) (k fuel : Nat) : List (Nat × Slot) × Option Nat :=
  match fuel with
  | 0 => (slots, none)
  | n + 1 =>
    let next := if k + 1 < hi then k + 1 else lo
    match aget slots k with
    | none => s.sweep lo hi slots next n
    | some v =>
      if s.qualifies v then (slots, some k)
      else s.sweep lo hi (if v.ref then aput slots k { v with ref := false } else slots) next n

/-- A slot for a segment (R317): its own, the first free one, or one the hand takes; none where none qualifies. -/
def State.takeSlot (s : State) (g : Nat) : Option Nat × State :=
  let e := s.seg g
  if e.slot ≠ 0 then (some (e.slot - 1), s)
  else
    let u := s.usableSlots
    let give (t : State) (k : Nat) : Option Nat × State :=
      let t1 := t.updDti fun d => { d with slots := aput d.slots k { seg := g } }
      (some k, t1.putSeg g { e with slot := k + 1 })
    match (natsFrom u.1 (u.2 - u.1)).find? fun k => (aget s.dti.slots k).isNone with
    | some k => give s k
    | none =>
      let hand := if u.1 ≤ s.dti.hand ∧ s.dti.hand < u.2 then s.dti.hand else u.1
      let r := s.sweep u.1 u.2 s.dti.slots hand (2 * (u.2 - u.1))
      match r.2 with
      | none => (none, s.updDti fun d => { d with slots := r.1 })
      | some k =>
        let s1 := s.updDti fun d => { d with slots := r.1, hand := if k + 1 < u.2 then k + 1 else u.1 }
        match aget r.1 k with
        | some v => give (if s1.evicting k v then s1 else s1.evictSeg v.seg) k
        | none => give s1 k

/-! ### Fills (R316, R318–R322) -/

/-- DTI_T1BASE. -/
def State.t1base (s : State) : Nat := s.reg64 0x0E0010

/-- The deep port unit of a sub-block (R312). -/
def State.subUnit (s : State) (g k : Nat) : BitVec 48 := BitVec.ofNat 48 (s.t1base + g * 512 + k)

/-- The key of a key slot field, where it is loaded. -/
def State.keyOf (s : State) (slot : Nat) : Option (BitVec 512) :=
  let k := s.keySlot slot
  if k.loaded then some k.key else none

/-- The segment key slot (R312). -/
def State.segKey (s : State) : Option (BitVec 512) := s.keyOf (s.fld 0x0E0000 16 6)

/-- The IV of a sub-block (R349). -/
def segIv (g k : Nat) (gen : Word) : Nat := 2 ^ 92 + g * 2 ^ 41 + k * 2 ^ 32 + gen.toNat

/-- INDEX of a sub-block's sideband (R312). -/
def segIndex (g k : Nat) : Nat := g * 512 + k + 2 ^ 62

/-- The additional data of a sub-block: sideband bytes 16–27. -/
def segAad (g k : Nat) (gen : Word) : List Nat := (natBytes 8 (segIndex g k) ++ natBytes 4 gen.toNat).map (·.toNat)

/-- A tag from the 16 bytes of a sideband. -/
def sbTag (sb : BitVec 256) : Nat := beNat ((sbBytes sb 0 16).map (·.toNat))

/-- The plaintext of a sub-block read back, where its integrity check passes (R312). -/
def State.openSub (s : State) (g k : Nat) (data : List Byte) (sb : BitVec 256) : Option (List Byte) :=
  let gen := (s.seg g).gen
  if sbBytes sb 16 8 ≠ natBytes 8 (segIndex g k) ∨ sbBytes sb 24 4 ≠ natBytes 4 gen.toNat then none
  else match s.segKey with
    | none => none
    | some key =>
      (gcmDecrypt (k1 key) (segIv g k gen) (segAad g k gen) (data.map (·.toNat)) (sbTag sb)).map fun l =>
        l.map (BitVec.ofNat 8)

/-- A sub-block encrypted for its units: data and sideband (R312, R327). -/
def State.sealSub (s : State) (g k : Nat) (plain : List Byte) : Option (List Byte × BitVec 256) :=
  let gen := (s.seg g).gen
  s.segKey.map fun key =>
    let r := gcmEncrypt (k1 key) (segIv g k gen) (segAad g k gen) (plain.map (·.toNat))
    (r.1.map (BitVec.ofNat 8), sideband r.2 (segIndex g k) gen.toNat 0)

/-- Line i of some bytes. -/
def lineOf (data : List Byte) (i : Nat) : Line := bytesLine ((data.drop (64 * i)).take 64)

/-- DTI writes a line of the staging area through the reserved entries (R188, R316). -/
def State.stageWrite (s : State) (line : Nat) (d : Line) (pois : Bool) : State :=
  s.access (.wr { who := .agent 0x0E, line := line, kind := .full, mask := BitVec.allOnes 64, data := d, pois := pois } .normal true)

/-- Fills may start (R336, R439). -/
def State.fillsRun (s : State) : Bool := s.cfg.mode.serves && !s.tableVoid && !s.dti.down

/-- A queued fill may start: its segment is SEALED. -/
def State.startable (s : State) (f : Fill) : Bool := f.started.isNone && f.arrived.isNone && !f.discard && !f.staged && (s.seg f.seg).stateOf == 1

/-- Queued fills in the order of R320. -/
def State.fillOrder (s : State) : List Fill :=
  let q := s.dti.fills.filter s.startable
  (q.filter fun f => f.level == 1) ++ (q.filter fun f => f.level == 2) ++ (q.filter fun f => decide (3 ≤ f.level))

/-- The fill is the one of the sub-block. -/
def Fill.isFor (f : Fill) (g k : Nat) : Bool := f.seg == g && f.sub == k && !f.discard

/-- Start a fill in a slot (R316): its READ of target 0. -/
def State.startFill (s : State) (f : Fill) (slot : Nat) : State :=
  let s1 := s.updDti fun d => { d with fills := mapIf d.fills (fun x => x.isFor f.seg f.sub) fun x => { x with started := some s.chron } }
  let s2 := s1.updSlot slot fun v => { v with inflight := insertNat v.inflight f.sub }
  s2.dpPush { op := 0, tgt := false, unit := s.subUnit f.seg f.sub, owner := .fill f.seg f.sub (s.seg f.seg).gen, level := fillLevel f.level }

/-- DTI takes the next fill from the queue (R316, R317, R320): the first that finds a slot. -/
def State.issueFrom (s : State) : List Fill → State
  | [] => s
  | f :: r =>
    match s.takeSlot f.seg with
    | (some k, t) =>
      let v := t.admitAs (.fill f.seg f.sub) t.fillClass 64
      if v.1.isSome then v.2.startFill f k else v.2
    | (none, t) => t.issueFrom r

/-- FILL_ISSUE (R316). -/
def State.fillIssue (s : State) : State :=
  if s.fillsRun && decide (s.dti.inFlight.length < s.fillMax) then s.issueFrom s.fillOrder else s

/-- The fill of a sub-block ends. -/
def State.dropFill (s : State) (g k : Nat) : State :=
  let s1 := (s.updDti fun d => { d with fills := d.fills.filter fun f => !f.isFor g k }).unkeep (.fill g k)
  let e := s.seg g
  if e.slot = 0 then s1 else s1.updSlot (e.slot - 1) fun v => { v with inflight := v.inflight.filter (· != k) }

/-- The fills of a segment are discarded as its state changes (R322, R334): those in flight complete unseen. -/
def State.discardFills (s : State) (g : Nat) : State :=
  s.updDti fun d =>
    let mine (f : Fill) : Bool := f.seg == g
    let kept := d.fills.filter fun f => !(mine f && f.started.isNone)
    { d with fills := mapIf kept mine fun f => { f with discard := true } }

/-- Waiting misses of a segment start their fills (R327). -/
def State.refillWaiters (s : State) (g : Nat) : State :=
  let sub : MissOn → Option Nat := fun o => match o with | .sub h k => if h = g then some k else none | .leaf _ => none
  let held := s.ports.flatMap fun p => p.2.held.filterMap fun h => sub h.on
  let pil := s.atu.waiting.filterMap fun w => w.on.bind sub
  (held ++ pil).eraseDups.foldl (fun t k => (t.joinFill g k fun _ => false).2) s

/-- A segment becomes LOST (R322): the failing sub-block is stored as poisoned lines and the slot is freed. -/
def State.loseSegment (s : State) (g k : Nat) : State :=
  let e := s.seg g
  let s1 := if e.slot = 0 then s
    else (List.range 64).foldl (fun t i => t.stageWrite (t.map.act.stageLine (e.slot - 1) k i) 0 true) s
  let s2 := ((s1.dropFill g k).discardFills g).evictSeg g
  let s3 := s2.changeSeg g { s2.seg g with state := 2 }
  ((s3.updDti fun d => { d with lost := satAdd d.lost 1 }).logE 0x0E03 (srcInt 0x0E) (segAddr g) (s.segWaiters g)).event 0x0E0300 1

/-- A fill fails (R321, R322): one re-fetch from target 1, then the segment is LOST. -/
def State.fillFails (s : State) (f : Fill) : State :=
  if !f.refetch then
    let s1 := s.updDti fun d => { d with
      fills := mapIf d.fills (fun x => x.isFor f.seg f.sub) fun x => { x with refetch := true, arrived := none } }
    s1.dpPush { op := 0, tgt := true, unit := s.subUnit f.seg f.sub, owner := .fill f.seg f.sub (s.seg f.seg).gen, level := 1 }
  else s.loseSegment f.seg f.sub

/-- A fill whose 64 lines are written lands: its sub-block is present, or nothing of it is kept (R97, R316, R322). -/
def State.landFill (s : State) (f : Fill) : State :=
  let slot := (s.seg f.seg).slot
  if f.discard then s.updDti fun d => { d with fills := dropFirst d.fills (· == f) }
  else if s.jobOut fun j => j.who == .agent 0x0E && s.map.act.stageLine (slot - 1) f.sub 0 / 64 == j.line / 64 then s
  else (s.dropFill f.seg f.sub).updSlot (slot - 1) fun v => { v with present := insertNat v.present f.sub }

/-- Fills whose last line has been waiting for room. -/
def State.landFills (s : State) : State := (s.dti.fills.filter fun f => f.staged).foldl State.landFill s

/-- FILL_COMPLETE (R165, R316, R321, R353): the sub-block's unit is checked and written to its slot; present once every line
is written. A segment it would make LOST waits for room among the dirty units. -/
def State.fillComplete (s : State) (sb : Nat) : State :=
  let g := sb / 512
  let k := sb % 512
  match s.dti.fill g k with
  | none => s
  | some f =>
    match f.arrived with
    | none => s
    | some (ok, data, side) =>
      let slot := (s.seg g).slot
      match (if ok && slot != 0 then s.openSub g k data side else none) with
      | none => if f.refetch && !s.dirtyRoom (s.map.act.segUnit g) then s else (if ok && slot != 0 then s.tagFails else s).fillFails f
      | some plain =>
        let s1 := (List.range 64).foldl (fun t i =>
          t.stageWrite (t.map.act.stageLine (slot - 1) k i) (lineOf plain i) false)
          (s.cphJob (if f.refetch then 1 else 4) (segIndex g k))
        let s2 := (s1.updDti fun d => { d with
          fills := mapIf d.fills (fun x => x.isFor g k) fun x => { x with arrived := none, staged := true } }).landFills
        let s3 := s2.count 9 0 0 1
        if !f.refetch then s3
        else
          let s4 := (((s3.updDti fun d => { d with refetch := satAdd d.refetch 1 }).count 9 3 0 1).logE 0x0E02 (srcInt 0x0E)
            (subAddr g k) (g + k * 2 ^ 32)).event 0x0E0300 0
          if s.flag 0x0E0000 30 then
            s4.dpPush { op := 1, tgt := false, unit := s.subUnit g k, sb := side, data := data, owner := .repair, level := 4 }
          else s4

/-- SLOT_EVICT (R317): the slot's reader count is zero and the waiting fill can have it. -/
def State.slotEvict (s : State) (k : Nat) : State :=
  match aget s.dti.slots k with
  | some v =>
    if s.evicting k v && v.readers == 0 then (s.updDti fun d => { d with slots := adel d.slots k }).fillIssue else s
  | none => s

/-! ### Seals (R327–R329) -/

/-- STAT of a Mover channel or deep-port slot: DONE with a code, and low bits (R382). -/
def doneStat (code low : Nat) : DWord := BitVec.ofNat 64 (2 ^ 62 + code * 2 ^ 58 + low)

/-- The register of an instance that holds BUSY, and the bit (R382). -/
def busyAt (inst : Nat) : Nat × Nat :=
  if inst < 8 then (0x30, 63) else if inst < 24 then (0x20, 63)
  else if inst = 24 then (0x08, 63) else if inst = 25 then (0x08, 31) else if inst = 26 then (0x20, 31) else (0x60, 31)

/-- An instance is no longer BUSY, whatever it did. -/
def State.clearBusy (s : State) (inst : Nat) : State :=
  let b := busyAt inst
  let v := (s.unitReg inst b.1).toNat
  s.setUnitReg inst b.1 (BitVec.ofNat 64 (if v.testBit b.2 then v - 2 ^ b.2 else v))

/-- An operation of a unit instance ends: its STAT register, BUSY cleared. -/
def State.unitEnds (s : State) (inst off : Nat) (stat : DWord) : State :=
  (s.setUnitReg inst off stat).updSua fun u => 
    { u with busy := u.busy.filter (· != inst), moves := u.moves.filter fun m => m.inst != inst }

/-- The Mover channel and the deep-port slot of a seal end (R383). -/
def State.sealEnds (s : State) (l : Seal) (code stat : Nat) : State :=
  ((s.unitEnds l.chan 0x30 (doneStat code (if code = 0 then 32768 else 0))).unitEnds l.dport 0x20 (doneStat code stat)).updDti fun d =>
    { d with seals := d.seals.filter fun x => x.seg != l.seg }

/-- Step 1 of a seal (R327): whether DTI accepts it; not while a new vault's table is being filled with zeros (R172). -/
def State.sealStart (s : State) (g chan dport : Nat) (replace : Bool) : Bool × State :=
  let e := s.seg g
  let st := e.stateOf
  if g ≥ s.map.act.t1Segs || st = 3 || (st = 1 && !replace) || s.vlt.zeroFill then (false, s)
  else
    let s1 := ((s.noteSeg g).discardFills g).evictSeg g
    let s2 := s1.changeSeg g { e with state := 3, reseal := st == 1, gen := e.gen + 1, slot := 0, stamp := e.stamp }
    (true, s2.updDti fun d => { d with seals := d.seals ++ [{ seg := g, chan := chan, dport := dport, writesLeft := 1024 }] })

/-- A seal fails (R328). -/
def State.sealFails (s : State) (l : Seal) (stat : Nat) : State :=
  let e := s.seg l.seg
  let s1 := s.changeSeg l.seg { e with state := if e.reseal then 2 else 0, reseal := false }
  ((s1.sealEnds l 5 stat).logE 0x0E04 (srcInt 0x0E) (segAddr l.seg) l.seg).event 0x0E0300 5

/-- The seal's 1024 WRITEs (R327 steps 3 and 4). -/
def State.sealWrites (s : State) (l : Seal) (lines : List Line) : State :=
  (List.range 512).foldl (fun t j =>
    let plain := ((lines.drop (64 * j)).take 64).flatMap lineBytes
    match t.sealSub l.seg j plain with
    | none => t
    | some (d, sb) =>
      let c (tgt : Bool) : DpCmd :=
        { op := 1, tgt := tgt, unit := t.subUnit l.seg j, sb := sb, data := d, owner := .seal l.seg (t.seg l.seg).gen, level := 4 }
      ((t.cphJob 5 (segIndex l.seg j)).dpPush (c false)).dpPush (c true)) s

/-- SEAL_FLUSH (R327 step 5). -/
def State.sealFlush (s : State) (g : Nat) : State :=
  match s.dti.seals.find? fun l => l.seg == g with
  | some l =>
    if l.writesLeft = 0 && l.flushLeft == 3 then
      let c (tgt : Bool) : DpCmd := { op := 2, tgt := tgt, unit := 0, owner := .sealFlush g (s.seg g).gen, level := 4 }
      let s1 := s.updDti fun d => { d with seals := mapIf d.seals (fun x => x.seg == g) fun x => { x with flushLeft := 2 } }
      (s1.dpPush (c false)).dpPush (c true)
    else s
  | none => s

/-- SEAL_DONE (R165, R327 step 6): waiting misses start their fills. -/
def State.sealDone (s : State) (g : Nat) : State :=
  match s.dti.seals.find? fun l => l.seg == g with
  | some l =>
    if l.writesLeft = 0 && l.flushLeft == 0 && s.dirtyRoom (s.map.act.segUnit g) then
      let s1 := s.changeSeg g { s.seg g with state := 1, reseal := false, stamp := s.chron }
      (s1.sealEnds l 0 0).refillWaiters g
    else s
  | none => s

/-- A command of a seal completed: one WRITE or FLUSH less, or the seal fails. -/
def State.sealStep (s : State) (g : Nat) (flush : Bool) (stat : Nat) : State :=
  match s.dti.seals.find? fun l => l.seg == g with
  | none => s
  | some l =>
    if stat ≠ 0 then s.sealFails l stat
    else s.updDti fun d => { d with seals := mapIf d.seals (fun x => x.seg == g) fun x =>
      if flush then { x with flushLeft := x.flushLeft - 1 } else { x with writesLeft := x.writesLeft - 1 } }

/-- DTI_PUB_GO (R329). -/
def State.pubGo (s : State) : State :=
  let g := s.fld 0x0E0030 0 31
  let gen := s.reg 0x0E0034
  let e := s.seg g
  if g < s.map.act.t1Segs && e.stateOf != 3 && serialLater gen e.gen && !s.vlt.zeroFill then
    let s1 := (((s.noteSeg g).discardFills g).evictSeg g).changeSeg g
      { state := 1, reseal := false, slot := 0, gen := gen, stamp := s.chron, ok := true }
    (s1.updDti fun d => { d with pubRes := false }).refillWaiters g
  else (s.updDti fun d => { d with pubRes := true }).event 0x0E0300 8

/-! ### The deep port (R330–R333) -/

/-- Retries of a command (R170, R173, R333). -/
def State.dpRetries (s : State) (o : DpOwner) : Nat :=
  match o with
  | .drain _ => if s.cfg.mode = .save then s.fld 0x0F0000 8 4 else s.fld 0x0E0000 8 4
  | .vaultMeta _ => if s.cfg.mode = .save then s.fld 0x0F0000 8 4 else s.fld 0x0E0000 8 4
  | .vault _ _ | .refill _ => s.fld 0x0F0000 8 4
  | _ => 0

/-- A command of VLT's step completed (R170, R172, R173): one less, its unit as read, or the first failure with the reason
of R517. -/
def State.vaultDone (s : State) (no u op stat : Nat) (data : List Byte) (sb : BitVec 256) : State :=
  match s.vlt.job with
  | none => s
  | some j =>
    if j.no ≠ no then s
    else
      let checked := j.step == .metaRead || j.step == .logRead || j.step == .eagerRead
      let why : Option (Nat × Nat) :=
        if stat ≠ 0 then some (if op = 0 then 4 else 5, u)
        else if checked && !s.unitOk u data sb then some (3, u) else none
      s.updVlt fun v => { v with job := some { j with
        out := j.out - 1, failed := j.failed.orElse fun _ => why
        got := if stat = 0 && op = 0 then j.got ++ [(u, data)] else j.got } }

/-- A metadata write-behind completed; one that failed leaves the unit dirty, and in Save ends the Save (R165, R170, R333). -/
def State.behindDone (s : State) (u stat : Nat) : State :=
  let s1 := s.updVlt fun v => { v with writing := v.writing.filter (· != u), broken := v.broken || (stat != 0 && s.cfg.mode == .save) }
  if stat = 0 then s1 else s1.dirtyUnit u

/-- The result of a command reaches its issuer. `stat` 0 is OK. -/
def State.dpDeliver (s : State) (c : DpCmd) (stat : Nat) (data : List Byte) (sb : BitVec 256) : State :=
  match c.owner with
  | .fill g k n =>
    let cur := (s.seg g).gen == n && (s.seg g).stateOf == 1
    s.updDti fun d => { d with
      fills := if cur then mapIf d.fills (fun f => f.isFor g k) fun f => { f with arrived := some (stat == 0, data, sb) }
        else dropFirst d.fills fun f => f.seg == g && f.sub == k && f.discard }
  | .repair => s.updDti fun d => { d with repairFail := d.repairFail + (if stat = 0 then 0 else 1) }
  | .drain i => s.updPlg fun p => { p with drains := mapIf p.drains (fun x => x.idx == i) fun x => { x with result := some (stat == 0) } }
  | .vaultMeta u => s.behindDone u stat
  | .seal g n => if (s.seg g).gen = n then s.sealStep g false stat else s
  | .sealFlush g n => if (s.seg g).gen = n then s.sealStep g true stat else s
  | .slot i n =>
    if s.sua.moves.any fun m => m.inst == i && m.cmd == n then
      s.updSua fun u => { u with arrived := u.arrived ++ [(i, stat, data, sb)] }
    else s
  | .refill l => s.updVlt fun v =>
      { v with demands := mapIf v.demands (fun d => d.leaf == l) fun d => { d with arrived := some (stat == 0, data, sb) } }
  | .vault no u => s.vaultDone no u c.op.toNat stat data sb

/-- A command that did not complete OK is issued again or reported (R333). -/
def State.dpFails (s : State) (c : DpCmd) (stat : Nat) : State :=
  if c.tries < s.dpRetries c.owner && !s.dti.down then s.dpPush { c with tries := c.tries + 1 }
  else s.dpDeliver c stat [] 0

/-- Identities not free. -/
def Dti.taken (d : Dti) (id : BitVec 12) : Bool := (d.out.any fun o => o.id == id) || d.quarantine.contains id

/-- The lowest free identity. -/
def Dti.freeId (d : Dti) : Option (BitVec 12) :=
  ((List.range 4096).map (BitVec.ofNat 12)).find? fun i => !d.taken i

/-- WRITEs that hold an identity. -/
def Dti.writesOut (d : Dti) : Nat := (d.out.filter fun o => o.cmd.op == 1).length

/-- The next command of the write stream that may be issued: a WRITE only below WR_MAX (R331). -/
def State.nextWrite (s : State) : Option DpCmd :=
  let l := s.dti.queueOf s.dti.wstream
  match lowest l with
  | some c => if c.op == 1 && decide (s.wrMax ≤ s.dti.writesOut) then lowest (l.filter fun x => x.op != 1) else some c
  | none => none

/-- The command DP_COMMAND_ISSUE takes (R332). -/
def State.nextCommand (s : State) : Option DpCmd :=
  match s.nextWrite, lowest (s.dti.queueOf s.dti.rstream) with
  | none, r => r
  | w, none => w
  | some w, some r =>
    if w.level < r.level then some w
    else if r.level < w.level then some r
    else if s.dti.lastWrite then some r else some w

/-- DP_COMMAND_ISSUE (R166, R171, R332): none after SAVE_DONE. -/
def State.dpIssue (s : State) : State :=
  match s.nextCommand, s.dti.freeId with
  | some c, some id =>
    if s.dti.down || s.bareSave || s.cfg.saveDonePin then s
    else (s.qOut .dtiCmd).updDti fun d => { d with
      rstream := if c.op = 0 then dropFirst d.rstream (· == c) else d.rstream
      wstream := if c.op = 0 then d.wstream else dropFirst d.wstream (· == c)
      lastWrite := c.op != 0
      out := d.out ++ [{ id := id, cmd := c, since := s.chron }] }
  | _, _ => s

/-- DP_READ_BEAT (R331): beats of an identity come in ascending order. -/
def State.dpBeat (s : State) (id : BitVec 12) (beat : BitVec 6) (data : Line) : State :=
  s.updDti fun d => { d with
    out := mapIf d.out (fun o => o.id == id && o.cmd.op == 0 && o.beats.length == beat.toNat) fun o =>
      { o with beats := o.beats ++ [data] } }

/-- The time of a target-0 READ that completed joins the last 64 (R319). -/
def State.noteRead (s : State) (o : DpOut) : State :=
  if o.cmd.op = 0 && !o.cmd.tgt then
    s.updDti fun d => { d with times := (d.times ++ [s.chron - o.since]).drop (d.times.length + 1 - 64) }
  else s

/-- DP_COMPLETION (R331, R333): a quarantined identity is free again and its completion discarded. -/
def State.dpComplete (s : State) (id : BitVec 12) (stat : BitVec 3) (sb : BitVec 256) : State :=
  if s.dti.quarantine.contains id then s.updDti fun d => { d with quarantine := d.quarantine.filter (· != id) }
  else match s.dti.out.find? fun o => o.id == id with
    | none => s
    | some o =>
      let s1 := (s.updDti fun d => { d with out := d.out.filter fun x => x.id != id }).noteRead o
      if stat = 0 then s1.dpDeliver o.cmd 0 (o.beats.flatMap lineBytes) sb else s1.dpFails o.cmd stat.toNat

/-- Every command queued and not yet issued fails while the port is down (R333). -/
def State.failQueued (s : State) : State :=
  if !s.dti.down then s
  else
    let cs := s.dti.wstream ++ s.dti.rstream
    cs.foldl (fun t c => (t.qOut .dtiCmd).dpDeliver c 3 [] 0) (s.updDti fun d => { d with wstream := [], rstream := [] })

/-- The port goes down at 256 quarantined identities (R333). -/
def State.checkDown (s : State) : State :=
  let n := s.dti.quarantine.length
  if n ≥ 256 && !s.dti.down then
    (((s.updDti fun d => { d with down := true }).logE 0x0E06 (srcInt 0x0E) 0 n).event 0x0E0300 3).setCause 6
  else s

/-- The limit of a command in ns (R333). -/
def State.dpLimit (s : State) (c : DpCmd) : Nat :=
  orOne (if c.op = 2 then s.fld 0x0E0008 16 16 else s.fld 0x0E0008 0 16) * 1000000

/-- DP_TIMEOUT (R333). -/
def State.dpTimeout (s : State) (id : BitVec 12) : State :=
  match s.dti.out.find? fun o => o.id == id with
  | none => s
  | some o =>
    let s0 := s.until_ (o.since + s.dpLimit o.cmd)
    let s1 := s0.updDti fun d => { d with out := d.out.filter fun x => x.id != id, quarantine := d.quarantine ++ [id] }
    let info := (if o.cmd.tgt then 1 else 0) + o.cmd.op.toNat * 16 + id.toNat * 256
    let s2 := ((s1.logE 0x0E05 (srcInt 0x0E) o.cmd.unit.toNat info).event 0x0E0300 2).checkDown
    (s2.dpFails o.cmd 3).failQueued

/-- DTI_CTL.PORT_RESET (R333, R443). -/
def State.dpReset (s : State) : State :=
  ((s.updDti fun d => { d with quarantine := [], down := false }).clearCause 0x40).reeval

end Sys2Proof.Machine
end

