-- ==== Sys2Proof/Machine/Drain.lean ====
section
/-! DEFINITION. Drain and the Anchor at work: issue, completion, repetition and stall of drains, pins and their release
(R15, R106–R114, R120–R126, R170). -/

namespace Sys2Proof.Machine

/-! ### Drain -/

/-- Drain runs in these modes (R439). -/
def Mode.drains : Mode → Bool
  | .reset | .sighting => false
  | _ => true

/-- The level of drain reads: class 15 precedence while urgent, and in Save (R112, R167). -/
def State.drainReadLevel (s : State) : Level := if s.plg.urgent || s.cfg.mode = .save then .high else .normal

/-- The 64 line reads of a drain (R15). -/
def State.drainReads (s : State) (idx leaf : Nat) : State :=
  (List.range 64).foldl (fun t i =>
    t.access (.rd (.drain idx i) (leaf * 64 + i) (.agent 0x0C) s.drainReadLevel true)) s

/-- Entries of the Log whose drain is completed at D advance it (R110). -/
def advance (drained : List Nat) (d : Nat) (fuel : Nat) : Nat :=
  match fuel with
  | 0 => d
  | n + 1 => if drained.contains d then advance drained (d + 1) n else d

/-- An entry is drained or counts as drained: the charge is credited and D advances (R110). -/
def State.credit (s : State) (idx : Nat) : State :=
  let p := s.plg
  let all := insertNat p.drained idx
  let d := advance all p.d (all.length + 1)
  let s1 := s.updPlg fun p => { p with
    d := d, drained := all.filter fun i => decide (d ≤ i), drains := p.drains.filter fun x => x.idx != idx
    lastDone := s.chron, stalled := false }
  (s1.plgRefresh.wayRefresh).count 6 3 0 1

/-- Nothing drains without a vault (R166, R183, R437); while the port is down, only in Save, where its failures end at the
leaf (R110, R170, R333). -/
def State.drainRuns (s : State) : Bool :=
  s.cfg.mode.drains && s.vaultOn && !s.cfg.saveDonePin && (!s.dti.down || s.cfg.mode == .save)

/-- DRAIN_ISSUE (R108–R110, R166, R176): the entry at I, where its leaf has no drain in flight and no failed drain stands
ahead of it. -/
def State.drainIssue (s : State) : State :=
  let p := s.plg
  let due := p.drains.any fun d => d.retryAt.isSome
  if !s.drainRuns || due || p.i ≥ p.w || p.drains.length ≥ 1024 then s
  else match aget p.ring p.i with
    | none => s.updPlg fun p => { p with i := p.i + 1 }
    | some e =>
      if p.drains.any fun d => d.leaf == e.leaf then s
      else
        let s1 := s.updPlg fun q =>
          let q1 := if q.markOf e.leaf = some p.i then q.unmark e.leaf else q
          { q1 with i := p.i + 1 }
        if s.leafState e.leaf ≠ 0 then s1.credit p.i
        else
          let s2 := (s1.updPlg fun q => { q with drains := q.drains ++ [{ idx := p.i, leaf := e.leaf }] }).qIn .plgDrain e.leaf
          s2.drainReads p.i e.leaf

/-- DRAIN_REISSUE (R110): from the first line read, no sooner than 1 ms after the failure. -/
def State.drainReissue (s : State) (idx : Nat) : State :=
  match s.plg.drains.find? fun d => d.idx == idx with
  | none => s
  | some d =>
    match d.retryAt with
    | none => s
    | some t =>
      if !s.drainRuns then s
      else
        let s1 := (s.until_ t).updPlg fun p => { p with
          drains := mapIf p.drains (fun x => x.idx == idx) fun x => { idx := x.idx, leaf := x.leaf } }
        s1.drainReads idx d.leaf

/-- A leaf's vault write fails in Save after its retries (R170). -/
def State.saveLeafFails (s : State) (idx leaf : Nat) : State :=
  let hold := match aget s.plg.ring idx with | some e => e.seq - 1 | none => s.plg.wpv
  let s1 := (s.setLeafCode leaf 2).updVlt fun v => { v with failed := satAdd v.failed 1, failedNow := v.failedNow + 1 }
  let s2 := s1.updPlg fun p => { p with wpvHold := some (match p.wpvHold with | some h => Nat.min h hold | none => hold) }
  ((s2.logE 0x0F01 (srcInt 0x0F) (leafAddr leaf) 0).event 0x0F0100 4).credit idx

/-- DRAIN_COMPLETE (R110, R165, R170): the deep port has answered the entry's vault write. -/
def State.drainComplete (s : State) (idx : Nat) : State :=
  match s.plg.drains.find? fun d => d.idx == idx with
  | none => s
  | some d =>
    match d.result with
    | none => s
    | some true =>
      if s.leafCode d.leaf ≠ 1 && !s.dirtyRoom (s.map.act.leafMapUnit d.leaf) then s
      else
        let s1 := s.updBwr fun b => { b with
          vaultTimes := (b.vaultTimes.filter fun t => decide (s.chron < t + 1000000)) ++ [s.chron] }
        (((s1.setLeafCode d.leaf 1).credit idx).qOut .plgDrain)
    | some false =>
      if s.cfg.mode = .save then
        if s.leafCode d.leaf ≠ 2 && !s.dirtyRoom (s.map.act.leafMapUnit d.leaf) then s else (s.saveLeafFails idx d.leaf).qOut .plgDrain
      else s.updPlg fun p => { p with
        drains := mapIf p.drains (fun x => x.idx == idx) fun x => { x with result := none, retryAt := some (s.chron + 1000000) } }

/-- STALL_MS in ns. -/
def State.stallNs (s : State) : Nat := orOne (s.fld 0x0C0000 4 16) * 1000000

/-- DRAIN_STALL (R112). -/
def State.drainStall (s : State) : State :=
  let p := s.plg
  if p.d < p.w && !p.stalled then
    let s1 := (s.until_ (p.lastDone + s.stallNs)).updPlg fun p => { p with stalled := true }
    (s1.logE 0x0C01 (srcInt 0x0C) 0 0).event 0x0C0100 4
  else s

/-! ### Pins and the Anchor -/

/-- Pin n is set to an index, not below A (R120). -/
def State.setPin (s : State) (n idx : Nat) : State :=
  (s.updPlg fun p => { p with pins := aput p.pins n (Nat.max p.a idx) }).plgRefresh

/-- Pin n is cleared (R120). -/
def State.clearPin (s : State) (n : Nat) : State := (s.updPlg fun p => { p with pins := adel p.pins n }).plgRefresh

/-- A write of PLG_PINCTL (R126): SET, then CLR of the same pin. -/
def State.pinCtl (s : State) (v : Word) : State :=
  let s1 := (List.range 3).foldl (fun t k => if bit v (9 + k) then t.setPin (k + 1) t.plg.w else t) s
  (List.range 3).foldl (fun t k => if bit v (17 + k) then t.clearPin (k + 1) else t) s1

/-- Release pins in ascending order until W − A ≤ 7N/8 (R122): the released bitmap. -/
def State.releasePins (s : State) : List Nat → Nat × State
  | [] => (0, s)
  | k :: r =>
    if s.plg.occupancy * 8 ≤ 7 * s.ringN then (0, s)
    else if (aget s.plg.pins k).isNone then s.releasePins r
    else
      let s1 := s.clearPin k
      let s2 := if k = 0 then s1.updTwn fun t => { t with stale := true } else s1
      let n := s2.releasePins r
      (n.1 + 2 ^ k, n.2)

/-- ANCHOR_RELEASED (R122). -/
def State.anchorRelease (s : State) : State :=
  match s.plg.holdSince with
  | none => s
  | some t =>
    let s1 := s.until_ (t + orOne (s.fld 0x0C000C 0 16) * 1000000)
    let old := s1.plg.a
    let r := s1.releasePins [0, 1, 2, 3]
    if r.1 = 0 then s1
    else (r.2.logE 0x0C04 (srcInt 0x0C) 0 (old % 2 ^ 32 + r.1 * 2 ^ 32)).event 0x0C0100 3

/-- FENCE_TIMEOUT (R118): PLG_FCFG.TMO_MS after the PFENCE arrived; no answer in a Save without a vault (R166). -/
def State.fenceTimeout (s : State) (id : Nat) : State :=
  if s.bareSave then s
  else match s.atu.fences.find? fun f => f.id == id with
  | none => s
  | some f =>
    let s1 := s.until_ (f.arrived + f.tmo)
    let g := s1.takeTarget f
    if s1.fenceMet g then s1.endFence g false
    else ((s1.logE 0x0C02 (match f.owner with | .host p _ => srcHost p | .engine e => srcEngine e) 0 (g.target.getD 0)).event
      0x0C0100 5).endFence g true

end Sys2Proof.Machine
end

