-- ==== Sys2Proof/Machine/Heal.lean ====
section
/-! DEFINITION. The heal table: leaves whose lines a write-queue mismatch poisoned, until the twin's copy replaces them or
they are lost (R277). -/

namespace Sys2Proof.Machine

/-- The heal of a leaf. -/
def State.healOf (s : State) (leaf : Nat) : Option Heal := s.ecc.heals.find? fun h => h.leaf == leaf

/-- The state without the heal of a leaf. -/
def State.dropHeal (s : State) (leaf : Nat) : State :=
  s.updEcc fun e => { e with heals := e.heals.filter fun h => h.leaf != leaf }

/-- A line stays poisoned (R277). -/
def State.stayPoisoned (s : State) (line : Nat) : State :=
  (s.logE 0x0905 (srcInt 0x09) (lineAddr line) (infoLoc (s.map.act.loc line))).event 0x090300 9

/-- A leaf's heal fails: each of its lines stays poisoned and leaves the table (R277). -/
def State.healFails (s : State) (leaf : Nat) : State :=
  match s.healOf leaf with
  | some h => h.lines.foldl State.stayPoisoned (s.dropHeal leaf)
  | none => s

/-- Every heal fails: the twin is no longer in step (R277). -/
def State.healsFail (s : State) : State := (s.ecc.heals.map fun h => h.leaf).foldl State.healFails s

/-- The refill of a leaf is complete: the FETCH is over and its lines leave the table (R277). -/
def State.healDone (s : State) (leaf : Nat) : State :=
  let s1 := s.updTwn fun t => { t with fetches := t.fetches.filter fun x => x.2 != leaf }
  match s.healOf leaf with
  | some h => ((s1.dropHeal leaf).logE 0x0904 (srcInt 0x09) (leafAddr leaf) h.lines.length).event 0x090300 10
  | none => s1

/-- A poisoned line can be healed (R277): its Reach is LOCAL or TWIN, the twin is in step for it, and the table has room
for one more line. -/
def State.healable (s : State) (line : Nat) : Bool :=
  let r := reachOfLine line
  (s.reachState r == 1 || s.reachState r == 2) && s.twinInStep r
    && decide ((s.ecc.heals.map fun h => h.lines.length).sum < 256)

/-- A line that a write-queue mismatch poisoned enters the heal table, or stays poisoned (R276, R277). -/
def State.enterHeal (s : State) (line : Nat) : State :=
  let leaf := leafOfLine line
  if s.healing line then s
  else if !s.healable line then s.stayPoisoned line
  else match s.healOf leaf with
    | some h => s.updEcc fun e => { e with heals := mapIf e.heals (fun x => x.leaf == leaf) fun _ =>
        { h with lines := h.lines ++ [line], wpl := s.plg.wpl, fetched := false } }
    | none =>
      let h : Heal := { leaf := leaf, lines := [line], wpl := s.plg.wpl, since := s.chron }
      s.updEcc fun e => { e with heals := e.heals ++ [h] }

/-- WQ_HEAL_FETCH (R277): WPT has reached the WPL of the moment the hold began. -/
def State.healFetch (s : State) (leaf : Nat) : State :=
  match s.healOf leaf with
  | none => s
  | some h =>
    if h.fetched || s.plg.wpt < h.wpl then s
    else if !s.twinInStep (reachOfLeaf leaf) then s.healFails leaf
    else
      let id := s.twn.nextFetch % 4096
      let s1 := s.updEcc fun e => { e with heals := mapIf e.heals (fun x => x.leaf == leaf) fun x => { x with fetched := true } }
      (s1.updTwn fun t => { t with fetches := aput t.fetches id leaf, nextFetch := (id + 1) % 4096 }).ctrlPush
        (ctrlFrame 7 0 0 (BitVec.ofNat 64 leaf) (at_ id 0 12) [])

/-- HEAL_TIMEOUT (R277): ECC_HCFG.TMO_MS pass without a heal. -/
def State.healTimeout (s : State) (leaf : Nat) : State :=
  match s.healOf leaf with
  | none => s
  | some h => (s.until_ (h.since + orOne (s.fld 0x090008 0 16) * 1000000)).healFails leaf

end Sys2Proof.Machine
end

