-- ==== Sys2Proof/Machine/TwinLink.lean ====
section
/-! DEFINITION. The Bureo link's sending side: frames, their tags and sequences, acknowledgement, go-back, link-down, the
mode TWN requests, and Resync (R12, R128–R154). -/

namespace Sys2Proof.Machine

/-! ### Frames -/

/-- Bytes 0–27 of a frame's header (R133). -/
def headBytes (f : Frame) : List Byte :=
  let w0 := f.typ.toNat * 2 ^ 28 + f.flags.toNat * 2 ^ 24 + f.lane.toNat * 2 ^ 22 + f.ver.toNat * 2 ^ 20 + f.plen.toNat
  natBytes 4 w0 ++ natBytes 4 f.seq.toNat ++ natBytes 4 f.ack.toNat ++ natBytes 4 f.epoch.toNat
    ++ natBytes 8 f.arg0.toNat ++ natBytes 4 f.arg1.toNat

/-- The CHECK of a frame (R133). -/
def frameCheck (f : Frame) : Word := crc32c (headBytes f)

/-- The 32-byte header of a frame. -/
def frameHeader (f : Frame) : List Byte := headBytes f ++ natBytes 4 f.check.toNat

/-- The key of the Bureo link (R136). -/
def State.linkKey (s : State) : Option (BitVec 512) := s.keyOf (s.fld 0x0D0000 16 6)

/-- The IV of a frame (R349). `side` is 1 where the sender's node identity is the higher, `chain` its chain address. -/
def frameIv (side : Bool) (lane chain wrap seq : Nat) : Nat :=
  3 * 2 ^ 92 + (if side then 2 ^ 91 else 0) + lane % 4 * 2 ^ 89 + chain % 128 * 2 ^ 82 + wrap * 2 ^ 32 + seq

/-- The twin's node identity, as its HELLO gave it. -/
def State.peerNode (s : State) : Nat := match s.twn.hello with | some h => h.node.toNat | none => 0

/-- The IV of a frame this block sends, or receives. -/
def State.ivOf (s : State) (sent : Bool) (lane wrap seq : Nat) : Nat :=
  let mine := s.node.toNat
  let peer := s.peerNode
  if sent then frameIv (decide (peer < mine)) lane (mine % 128) wrap seq
  else frameIv (decide (mine < peer)) lane (peer % 128) wrap seq

/-- A frame type that always carries an encrypted payload and a tag (R136). -/
def sealedType (t : BitVec 4) : Bool := t == 2 || t == 8

/-- A frame with its payload encrypted where its type asks, and its tag (R136). -/
def State.sealFrame (s : State) (f : Frame) (wrap : Nat) : Frame :=
  match s.linkKey with
  | none => f
  | some k =>
    let iv := s.ivOf true f.lane.toNat wrap f.seq.toNat
    let aad := (frameHeader f).map (·.toNat)
    let pay := f.payload.map (·.toNat)
    if sealedType f.typ then
      let r := gcmEncrypt (k1 k) iv aad pay
      { f with payload := r.1.map (BitVec.ofNat 8), tag := some (BitVec.ofNat 128 r.2) }
    else if s.flag 0x0D0000 30 then { f with tag := some (BitVec.ofNat 128 (gcmTag (k1 k) iv (aad ++ pay) [])) }
    else f

/-- A frame can be sealed: it needs no key, or the link's key is loaded. One that cannot is held unsent, so that nothing
leaves in plaintext that R11 and R136 have encrypted (DESIGN CHOICE, entry 73: no rule says what a zeroed session slot does
to a link that is UP). -/
def State.canSeal (s : State) (f : Frame) : Bool := !(sealedType f.typ || s.flag 0x0D0000 30) || s.linkKey.isSome

/-! ### Lanes -/

/-- Lane b. -/
def State.lane (s : State) (b : Nat) : Lane := s.twn.lanes.getD b {}

/-- The state with lane b set. -/
def State.setLane (s : State) (b : Nat) (l : Lane) : State := s.updTwn fun t => { t with lanes := t.lanes.set b l }

/-- Frames unacknowledged at most on one lane (R158). -/
def State.window (s : State) : Nat :=
  let n := field s.twn.lcfg 24 4
  if n = 0 then 65536 else 2 ^ Nat.max 4 n

/-- RTO_US in ns (R159). -/
def State.rtoNs (s : State) : Nat := orOne (s.fld 0x0D0008 16 8) * 1000

/-- Frames on the link (R135). -/
def State.emit (s : State) (f : Frame) : State :=
  s.updTwn fun t => { t with sent := (t.sent ++ [f]).drop (t.sent.length + 1 - 64) }

/-- Send a frame: its sequence, the control lane's ACK, CHECK and tag (R133, R136, R138, R139). -/
def State.sendFrame (s : State) (b : Nat) (o : OutFrame) : State :=
  let l := s.lane b
  let f0 := { o.frame with lane := BitVec.ofNat 2 b, seq := l.nextSeq, ack := if b = 2 then (s.lane 2).expect else 0 }
  let f := s.sealFrame { f0 with check := frameCheck f0 } l.wrap.toNat
  let old := if l.retry.isEmpty then s.chron else l.oldestAt
  let l1 := { l with
    nextSeq := l.nextSeq + 1, wrap := if l.nextSeq = 0xFFFFFFFF then l.wrap + 1 else l.wrap
    retry := l.retry ++ [{ o with frame := f, sentAt := s.chron }], oldestAt := old }
  let keyed := sealedType f.typ || s.flag 0x0D0000 30
  ((((if keyed then s.cphJob 2 f.seq.toNat else s).setLane b l1).emit f).count 8 0 b 1).count 8 3 b (if o.frame.typ = 1 then o.frame.payload.length / 64 else 0)

/-- The control frames that wait go out while the window allows and each can be sealed (R136, R139). -/
def State.sendCtrl (s : State) : State :=
  if s.twn.link = 0 then s
  else s.twn.ctrlOut.foldl (fun t o =>
    if (t.lane 2).retry.length < t.window && t.canSeal o.frame then t.sendFrame 2 o
    else t.updTwn fun w => { w with ctrlOut := w.ctrlOut ++ [o] }) (s.updTwn fun t => { t with ctrlOut := [] })

/-- A BEAT (R135, R138). -/
def State.beatFrame (s : State) : Frame :=
  let b (k : Nat) : Bool := (s.lane k).busy
  let nak : BitVec 4 := BitVec.ofNat 4
    ((if (s.lane 0).nakDue then 1 else 0) + (if (s.lane 1).nakDue then 2 else 0) + if (s.lane 2).nakDue then 4 else 0)
  ctrlFrame 3 nak 0 ((s.lane 1).expect ++ (s.lane 0).expect) (bitAt (b 0) 0 ||| bitAt (b 1) 1)
    (natBytes 8 s.plg.wpv ++ natBytes 8 s.plg.wpl)

/-- Send a BEAT; a NAK is sent once for its gap (R137). -/
def State.sendBeat (s : State) : State :=
  ((s.ctrlPush s.beatFrame).updTwn fun t =>
    { t with beatDue := false, lastBeat := s.chron, lanes := t.lanes.map fun l => { l with nakDue := false } }).sendCtrl

/-- Populated Reaches outside nothing: the count a HELLO carries. -/
def State.reachCount (s : State) : Nat := s.map.act.reaches

/-- A HELLO (R135). -/
def State.helloFrame (s : State) : Frame :=
  let w := (if s.flag 0x0D0000 30 then 1 else 0) + (if (aget s.plg.pins 0).isSome then 2 else 0) + (if s.twn.stale then 4 else 0)
    + field s.twn.lcfg 24 4 * 16
  ctrlFrame 4 0 0 s.node (BitVec.ofNat 32 (s.reachCount % 65536))
    (natBytes 8 s.image ++ natBytes 8 s.twn.peerImage.toNat ++ natBytes 8 s.map.act.top ++ natBytes 8 w)

/-- Send a HELLO (R142). -/
def State.sendHello (s : State) : State :=
  let seq := (s.lane 2).nextSeq + BitVec.ofNat 32 s.twn.ctrlOut.length
  ((s.updTwn fun t => { t with lastHello := s.chron, helloSeq := some seq }).ctrlPush s.helloFrame).sendCtrl

/-- OWN TABLE frames for some Reaches, up to 32 in a frame (R135, R142). EPOCH is that of the first of them (R133, DEDUCED,
entry 74). -/
def State.pushTable (s : State) (first n fuel : Nat) : State :=
  match fuel with
  | 0 => s
  | k + 1 =>
    if n = 0 then s
    else
      let c := Nat.min 32 n
      (s.pushOwn 0 (s.reachEpoch first) first c ((natsFrom first c).flatMap fun r => natBytes 8 (s.reach r).toNat)).pushTable (first + c) (n - c) k

/-! ### Mirror-out -/

/-- The Reach of an item of the mirror-out queue. -/
def MirrorItem.reach : MirrorItem → Nat
  | .line l _ _ _ _ _ _ _ => reachOfLine l
  | .fwd _ l _ _ _ _ _ => reachOfLine l

/-- Whether a line may join a frame that has some lines (R135). -/
def joins (first : MirrorItem) (lines : List Nat) (m : MirrorItem) : Bool :=
  match first, m with
  | .line l _ _ e _ rs rf id, .line l' _ _ e' _ rs' rf' id' =>
    leafOfLine l == leafOfLine l' && e == e' && rs == rs' && rf == rf' && id == id' && decide (lines.length < 4)
      && !lines.contains l'
  | _, _ => false

/-- The items one frame takes: the first of the lane and those that directly follow it and join it. -/
def takeItems (first : MirrorItem) (lines : List Nat) : List MirrorItem → List MirrorItem × List MirrorItem
  | [] => ([], [])
  | m :: r =>
    if joins first lines m then
      let x := takeItems first (match m with | .line l _ _ _ _ _ _ _ => lines ++ [l] | _ => lines) r
      (m :: x.1, x.2)
    else ([], m :: r)

/-- A MIRROR frame of some lines (R135). -/
def mirrorFrame (ms : List MirrorItem) : OutFrame :=
  let ls := ms.filterMap fun m => match m with
    | .line l d p e q rs rf id => some (l, d, p, e, q, rs, rf, id)
    | _ => none
  match ls with
  | [] => { frame := ctrlFrame 1 0 0 0 0 [] }
  | (l, _, _, e, _, rs, rf, id) :: _ =>
    let offs := ls.zipIdx.foldl (fun n x => n + x.1.1 % 64 * 2 ^ (6 * x.2)) 0
    let pois := ls.zipIdx.foldl (fun n x => n + (if x.1.2.2.1 then 2 ^ x.2 else 0)) 0
    let pay := ls.flatMap fun x => lineBytes (if x.2.2.1 then 0 else x.2.1)
    { frame := ctrlFrame 1 (BitVec.ofNat 4 ((if rs then 8 else 0) + if rf then 4 else 0)) e
        (BitVec.ofNat 64 (offs + leafOfLine l * 2 ^ 24)) (at_ (if rf then id else 0) 16 12 ||| at_ pois 0 4) pay
      seqs := ls.filterMap fun x => x.2.2.2.2.1, reach := some (reachOfLine l) }

/-- An FWD_WR frame (R135). -/
def fwdFrame (ftag : BitVec 12) (line : Nat) (pois : Bool) (op : BitVec 4) (mask : BitVec 64) (d : Line) (e : Word) :
    OutFrame :=
  { frame := ctrlFrame 2 0 e (BitVec.ofNat 64 (line + ftag.toNat * 2 ^ 40)) (bitAt pois 7 ||| at_ op.toNat 0 4)
      (natBytes 8 mask.toNat ++ lineBytes d)
    reach := some (reachOfLine line) }

/-- MIRROR_FRAME_SEND (R135, R139): the next frame of a data lane. -/
def State.mirrorSend (s : State) (b : Nat) : State :=
  let mine (m : MirrorItem) : Bool := s.laneOf m.reach == b
  let before := s.twn.out.takeWhile fun m => !mine m
  match s.twn.out.drop before.length with
  | [] => s
  | m :: r =>
    if s.twn.link ≠ 2 || s.window ≤ (s.lane b).retry.length then s
    else match m with
      | .fwd t l p op k d e =>
        let f := fwdFrame t l p op k d e
        if s.canSeal f.frame then ((s.updTwn fun w => { w with out := before ++ r }).qOut .twnOut).sendFrame b f else s
      | .line l _ _ _ _ rs _ _ =>
        let x := takeItems m [l] r
        if !s.canSeal (mirrorFrame (m :: x.1)).frame then s
        else
        let seq := (s.lane b).nextSeq
        let s1 := s.updTwn fun w => { w with
          out := before ++ x.2
          lastResync := if rs then (if b = 0 then (seq, w.lastResync.2) else (w.lastResync.1, seq)) else w.lastResync }
        ((m :: x.1).foldl (fun t _ => t.qOut .twnOut) s1).sendFrame b (mirrorFrame (m :: x.1))

/-! ### Acknowledgement -/

/-- LOCAL Reaches, or TWIN Reaches. -/
def State.reachesIn (s : State) (st : Nat) : List Nat := (s.map.reach.filter fun x => bitsOf x.2.toNat 0 2 == st).map fun x => x.1

/-- LOCAL Reaches a Resync copies. -/
def State.localReaches (s : State) : List Nat := (s.reachesIn 1).filter fun r => !s.map.unresolved.contains r

/-- The twin's pin 0 (R148): the lowest index with a shipped write that has not reached TWIN, behind a Resync's walk. An
invalid one becomes valid while the link is UP and nothing is left for a Resync to decide. -/
def State.pin0 (s : State) : State :=
  let low := s.twn.shippedIdx.foldl (fun n x => Nat.min n x.2.1) s.plg.w
  if s.twn.link ≠ 2 then s
  else match s.twn.resync, aget s.plg.pins 0 with
    | none, some p => if p = low then s else s.setPin 0 low
    | none, none => if s.localReaches.all s.reachInStep then s.setPin 0 low else s
    | some _, none => s
    | some r, some p =>
      let at0 := if r.walked then low else if r.reaches.isEmpty then Nat.min low (Nat.max p r.walk) else p
      if p = at0 then s else s.setPin 0 at0

/-- The writes of an acknowledged frame that have not been dropped from shipping have reached TWIN (R115, R130): their
fates, and the answers they free. -/
def State.frameDone (s : State) (o : OutFrame) : State :=
  let live := if o.dropped then [] else o.seqs.filter fun q => s.twn.shipped.contains q
  let acks := s.twn.fwdHere.filter fun f => live.contains f.seq
  let s1 := live.foldl (fun t q => t.setFate q .atTwin) s
  let s2 := s1.updTwn fun t => { t with
    shipped := t.shipped.filter fun q => !live.contains q
    shippedIdx := t.shippedIdx.filter fun x => !live.contains x.1
    fwdHere := t.fwdHere.filter fun f => !live.contains f.seq }
  let s4 := acks.foldl (fun t f => t.pushFwdAck f.ftag f.line .ok f.seq false) s2
  match o.engine with
  | some _ => s4.unitEnds 26 0x20 (BitVec.ofNat 64 (2 ^ 30 + (s4.unitReg 26 0x20).toNat % 65536))
  | none => s4

/-- Frames of a lane earlier than an acknowledged sequence (R138, R139). -/
def State.laneAck (s : State) (b : Nat) (next : Word) : State :=
  let l := s.lane b
  let gone := l.retry.filter fun o => serialLater next o.frame.seq
  if gone.isEmpty then s
  else
    let rest := l.retry.filter fun o => !serialLater next o.frame.seq
    let s1 := s.setLane b { l with
      retry := rest, goBacks := 0, oldestAt := match rest with | o :: _ => o.sentAt | [] => s.chron }
    let s2 := gone.foldl State.frameDone s1
    let s3 := match s2.twn.helloSeq with
      | some q => if b = 2 && serialLater next q then s2.updTwn fun t => { t with helloAcked := true } else s2
      | none => s2
    s3.pin0.wayRefresh

/-! ### Link-down -/

/-- The requester of a forward is answered with a code (R129, R141). -/
def State.answerForward (s : State) (f : Forward) (c : Code) : State :=
  match f.who with
  | .host p _ _ => s.respondCode p (BitVec.ofNat 12 f.tag) c
  | .engine e => s.storeAnswer e f.tag c
  | .mover e => s.moverAnswer e f.tag f.line f.asked c
  | _ => s

/-- The link goes down (R140, R141). -/
def State.linkDown (s : State) (cause : Nat) : State :=
  if s.twn.link = 0 then s
  else
    let t := s.twn
    let lost := t.forwards
    let clear (s : State) : State :=
      let rs := s.map.reach.map fun x => x.1
      rs.foldl (fun t r => if t.reachState r = 1 ∨ t.reachState r = 2 then t.setInStep r false else t) s
    let s1 := clear (t.shipped.foldl (fun u q => u.setFate q .missed) s)
    let msgs := ((s.lane 2).retry.filter fun o => o.engine.isSome).length + (t.ctrlOut.filter fun o => o.engine.isSome).length
    let s2 := s1.updTwn fun t => { t with
      link := 0, cause := BitVec.ofNat 4 cause, lanes := [{}, {}, {}], out := [], ctrlOut := [], forwards := [], fwdHere := []
      shipped := [], shippedIdx := [], reading := [], resyncSeen := false, resync := none, syncIn := none, fetches := [], handover := [], tableOut := false
      tableIn := 0, hello := none, helloAcked := false, helloSeq := none, beatDue := false, pendTable := [] }
    let s3 := s2.updVlt fun v => { v with demands := mapIf v.demands (fun d => d.source == 2 && d.inFlight) fun d =>
      { d with inFlight := false, fetched := true, lines := [] } }
    let s4 := lost.foldl (fun u f => u.answerForward f .errDevice) s3
    let s5 := s4.updAtu fun a => { a with covered := a.covered.filter fun c => match c.fate with | .forwarded _ => false | _ => true }
    let s6 := match lost with
      | [] => s5
      | f :: _ => (s5.logE 0x0D05 (srcInt 0x0D) (lineAddr f.line) lost.length).event 0x0D0100 7
    let s7 := if msgs = 0 then s6
      else s6.unitEnds 26 0x20 (BitVec.ofNat 64 (2 ^ 29 + Nat.min 65535 ((s6.unitReg 26 0x20).toNat % 65536 + msgs)))
    (((((s7.healsFail).qRestart .twnOut).qRestart .twnIn).logE 0x0D01 (srcInt 0x0D) 0 cause).event 0x0D0100 0).wayRefresh

/-- SILENT_TIMEOUT (R140). -/
def State.silent (s : State) : State :=
  if s.twn.link = 0 then s
  else
    let hb := orOne (field s.twn.lcfg 16 8)
    (s.until_ (s.twn.lastControl + Nat.max (field s.twn.lcfg 0 16) (2 * hb) * 1000)).linkDown 1

/-- HEARTBEAT (R138): at once where an acknowledgement advanced, else HB_US after the last BEAT. -/
def State.heartbeat (s : State) : State :=
  if s.twn.link = 0 then s
  else if s.twn.beatDue then s.sendBeat
  else (s.until_ (s.twn.lastBeat + orOne (field s.twn.lcfg 16 8) * 1000)).sendBeat

/-- HELLO_RESEND (R142). -/
def State.helloResend (s : State) : State :=
  if s.twn.link = 1 && !(s.twn.hello.isSome && s.twn.helloAcked) then (s.until_ (s.twn.lastHello + 100000)).sendHello else s

/-- A lane goes back to its oldest unacknowledged frame (R139). -/
def State.goBack (s : State) (b : Nat) : State :=
  let l := s.lane b
  if l.retry.isEmpty then s
  else
    let n := l.goBacks + 1
    let s1 := (s.updTwn fun t => { t with retryCount := satAdd t.retryCount 1 }).count 8 2 b 1
    if n ≥ orOne (s.fld 0x0D0008 8 8) then s1.linkDown 2
    else
      let s2 := s1.setLane b { l with goBacks := n, oldestAt := s.chron }
      l.retry.foldl (fun t o => t.emit o.frame) s2

/-- RETRY_TIMEOUT (R139): the oldest frame has waited RTO_US, and no BUSY BEAT has come within that time. -/
def State.retryTimeout (s : State) (b : Nat) : State :=
  let l := s.lane b
  if s.twn.link = 0 || l.retry.isEmpty then s
  else (s.until_ (Nat.max l.oldestAt l.busyAt + s.rtoNs)).goBack b

/-! ### The mode TWN requests -/

/-- RS_IN (R160): the link is UP and some TWIN Reach has INSTEP 0. -/
def State.resyncIn (s : State) : Bool := s.twn.link == 2 && (s.reachesIn 2).any fun r => !s.reachInStep r

/-- The twin sends a Resync, or is to (R154): a resolved TWIN Reach has INSTEP 0, or a RESYNC frame has come with no SYNC_DONE
since. -/
def State.resyncComing (s : State) : Bool :=
  s.twn.resyncSeen || (s.reachesIn 2).any fun r => !s.reachInStep r && !s.map.unresolved.contains r

/-- In step with the twin (R154). -/
def State.inStep (s : State) : Bool :=
  s.twn.link == 2 && s.twn.resync.isNone && !s.twn.resyncSeen && s.map.unresolved.isEmpty
    && (s.reachesIn 1).all s.reachInStep && (s.reachesIn 2).all s.reachInStep

/-- The mode TWN requests (R154). -/
def State.wantMode (s : State) : Mode :=
  if !s.flag 0x0D0000 31 then .solo
  else if s.inStep then .service
  else if s.twn.link == 2 && (s.twn.resync.isSome || s.resyncComing) then .resync
  else .solo

/-- The mode request is brought up to date, and the mode with it (R154, R436); in Save TWN requests nothing (R167). -/
def State.evalTwin (s : State) : State :=
  if s.cfg.mode == .save || s.cfg.twnReq = s.wantMode then s else ({ s with cfg := { s.cfg with twnReq := s.wantMode } }).reeval

/-! ### Resync -/

/-- A full copy is needed (R148). -/
def State.needsFull (s : State) : Bool :=
  (match s.twn.hello with | some h => h.stale || h.peerImage != BitVec.ofNat 64 s.image | none => true)
    || (aget s.plg.pins 0).isNone || s.twn.stale || s.twn.fullReq

/-- The Reaches of the copy set this block is to copy. -/
def State.toCopy (s : State) : List Nat := s.map.copySet.filter fun r => s.reachState r == 1 && !s.map.unresolved.contains r

/-- A Resync starts (R148, R149): until it sends a RESYNC frame on a lane, that lane's last one counts as the frame before. -/
def State.startResync (s : State) (full : Bool) : State :=
  let set := if full then s.localReaches.foldl insertNat s.map.copySet else s.map.copySet
  let s1 := s.updMap fun m => { m with copySet := set }
  let s2 := if s1.toCopy.isEmpty then s1 else s1.setPin 0 s.plg.w
  s2.updTwn fun t => { t with
    resync := some { full := full, reaches := [], walk := agetD s2.plg.pins 0 s2.plg.w }, fullReq := false
    lastResync := ((s.lane 0).nextSeq - 1, (s.lane 1).nextSeq - 1), reading := t.reading.filter fun x => !x.resync }

/-- While the link is UP a Resync runs whenever a LOCAL Reach is not in step (R148). -/
def State.checkResync (s : State) : State :=
  if s.twn.link == 2 && s.twn.resync.isNone && (s.localReaches.any fun r => !s.reachInStep r) then s.startResync s.needsFull
  else s

/-- A Reach joins the copy set (R143, R145, R147): a Resync in progress copies it from its first leaf. -/
def State.joinCopy (s : State) (r : Nat) : State :=
  (s.updMap fun m => { m with copySet := insertNat m.copySet r }).updTwn fun t => { t with
    resync := t.resync.map fun x => { x with reaches := x.reaches.filter (· != r), done := x.done.filter (· != r) } }

/-- The Resync starts again as a full copy, as pin 0 has been released (R151, R155): the Reaches it had in step are not. -/
def State.restartFull (s : State) : State :=
  let s1 := s.localReaches.foldl (fun t r => (t.setInStep r false).missReach r) s
  (s1.updTwn fun t => { t with stale := true }).startResync true

/-- The 64 lines of a leaf are asked for (R149, R150, R152, R188): reserved reads, at the level their class was admitted
at. -/
def State.readLeaf (s : State) (leaf : Nat) (resync : Bool) (id : Nat) (level : Level) : State :=
  let no := s.twn.nextRead
  let s1 := s.updTwn fun t => { t with
    nextRead := no + 1, reading := t.reading ++ [{ leaf := leaf, no := no, resync := resync, fetch := id }] }
  (List.range 64).foldl (fun t i => t.access (.rd (.toTwin leaf i no) (leaf * 64 + i) (.agent 0x0D) level true)) s1

/-- A leaf can be read for the twin: it is not being read, and the mirror-out queue has room for it. -/
def State.leafRoom (s : State) (leaf : Nat) : Bool :=
  !s.leafRead leaf && decide (s.twn.out.length + 64 * s.twn.reading.length + 64 ≤ 4096)

/-- A leaf that is PRESENT is copied, once its class admits it: it leaves the mark directory, then its lines are read (R149);
answers whether it is. -/
def State.copyLeaf (s : State) (leaf : Nat) : Bool × State :=
  let v := s.admitAs (.resync leaf) (s.fld 0x0D0008 28 4) 64
  match v.1 with
  | none => (false, v.2)
  | some l => (true, (v.2.updPlg fun p => p.unmark leaf).readLeaf leaf true 0 l)

/-- The walk has reached W (R151): every LOCAL Reach is in step and the copy set is empty. -/
def State.walkDone (s : State) (r : Resync) : State :=
  let s1 := s.localReaches.foldl (fun t q => t.setInStep q true) s
  (s1.updMap fun m => { m with copySet := [] }).updTwn fun t => { t with resync := some { r with walked := true } }

/-- A leaf that a Resync copies next: where it cannot be copied yet the Resync waits; else `next` is how it stands. -/
def State.resyncLeaf (s : State) (leaf : Nat) (next : Resync) : State :=
  if !s.leafRoom leaf then s
  else if s.leafState leaf ≠ 0 then (s.joinDemand leaf).2
  else
    let c := s.copyLeaf leaf
    if c.1 then c.2.updTwn fun w => { w with resync := some next } else c.2

/-- RESYNC_LEAF_COPY (R149): the next leaf of the copy set, which Reaches may still join, else the next entry of the walk;
one leaf is read at a time. -/
def State.resyncStep (s : State) : State :=
  match s.twn.resync with
  | none => s
  | some r =>
    let set (t : State) (r : Resync) : State := t.updTwn fun w => { w with resync := some r }
    if s.twn.link ≠ 2 || r.walked then s
    else if (aget s.plg.pins 0).isNone then s.restartFull
    else if s.twn.reading.any fun x => x.resync then s
    else
      let left := s.toCopy.filter fun q => !r.done.contains q
      match (r.reaches.filter fun q => left.contains q) ++ left with
      | q :: _ =>
        let at_ := if r.reaches.head? == some q then r.leaf else 0
        let leaf := q * 2 ^ 18 + at_
        let past_ : Resync := { r with reaches := [], done := insertNat r.done q, leaf := 0 }
        if leaf ≥ s.map.act.dataLeaves then set s past_
        else s.resyncLeaf leaf (if at_ + 1 < 2 ^ 18 then { r with reaches := [q], leaf := at_ + 1 } else past_)
      | [] =>
        if r.walk ≥ s.plg.w then s.walkDone { r with reaches := [], leaf := 0 }
        else
          let next := { r with reaches := [], leaf := 0, walk := r.walk + 1 }
          match aget s.plg.ring r.walk with
          | none => (set s next).pin0
          | some e =>
            let q := reachOfLeaf e.leaf
            if s.reachState q = 1 && !s.map.unresolved.contains q then (s.resyncLeaf e.leaf next).pin0
            else (set s next).pin0

/-- SYNC_DONE goes out once the last RESYNC frame has its sequence (R151); where pin 0 has been released before, a full copy
follows instead (R155). What made the twin's HELLO ask for a full copy is then over. -/
def State.syncSend (s : State) : State :=
  match s.twn.resync with
  | some r =>
    let waits := s.twn.out.any fun m => match m with | .line _ _ _ _ _ rs _ _ => rs | _ => false
    if !r.walked || waits then s
    else if (aget s.plg.pins 0).isNone then s.restartFull
    else
      let pay := natBytes 4 s.twn.lastResync.1.toNat ++ natBytes 4 s.twn.lastResync.2.toNat
      (((s.pushOwn 5 0 0 0 pay).updTwn fun t => { t with
        resync := none, stale := false
        hello := t.hello.map fun h => { h with stale := false, peerImage := BitVec.ofNat 64 s.image } }).event 0x0D0100 2).pin0
  | none => s

end Sys2Proof.Machine
end

