-- ==== Sys2Proof/Machine/TwinIn.lean ====
section
/-! DEFINITION. The Bureo link's receiving side: the checks of a frame, mirrored and forwarded writes, acknowledgements,
bring-up, ownership and leaf fetch (R14, R130–R155, R175, R176). -/

namespace Sys2Proof.Machine

/-! ### Checks -/

/-- What the checks of R137 make of a frame. -/
inductive Arrival where
  | discard
  | take (f : Frame)
  deriving DecidableEq, Repr

/-- The lane a frame type travels on (R134). -/
def laneFits (f : Frame) : Bool :=
  if f.typ = 1 ∨ f.typ = 2 then f.lane = 0 || f.lane = 1 else decide (3 ≤ f.typ.toNat) && decide (f.typ.toNat ≤ 8) && f.lane == 2

/-- A frame opened under the link's key: none where its tag fails (R136). -/
def State.openFrame (s : State) (f : Frame) : Option Frame :=
  if !sealedType f.typ && !s.flag 0x0D0000 30 then some f
  else match s.linkKey, f.tag with
    | some k, some t =>
      let iv := s.ivOf false f.lane.toNat (s.lane f.lane.toNat).rxWrap.toNat f.seq.toNat
      let aad := (frameHeader f).map (·.toNat)
      let pay := f.payload.map (·.toNat)
      if sealedType f.typ then
        (gcmDecrypt (k1 k) iv aad pay t.toNat).map fun p => { f with payload := p.map (BitVec.ofNat 8) }
      else if gcmTag (k1 k) iv (aad ++ pay) [] = t.toNat then some f else none
    | _, _ => none

/-- A frame whose tag fails (R136). -/
def State.authFails (s : State) (f : Frame) : State :=
  let times := (s.twn.authTimes.filter fun t => decide (s.chron < t + 1000000)) ++ [s.chron]
  let s1 := s.tagFails.updTwn fun t => { t with authFail := satAdd t.authFail 1, authTimes := times }
  let s2 := (s1.logE 0x0D04 srcTwin 0 (f.lane.toNat + f.seq.toNat * 2 ^ 32)).event 0x0D0100 6
  if times.length ≥ orOne (s.fld 0x0D0008 0 8) then s2.linkDown 3 else s2

/-- A NAK for the lane's gap stands: neither has the expected frame come nor the retry timeout passed (R137). -/
def State.nakOpen (s : State) (l : Lane) : Bool :=
  match l.nakAt with
  | some t => decide (s.chron < t + s.rtoNs)
  | none => false

/-- A frame arrives (R137): CHECK, tag (a LINK job, R353), sequence. -/
def State.arrive (s : State) (f : Frame) : Arrival × State :=
  let b := f.lane.toNat
  let l := s.lane b
  if s.twn.link = 0 || f.check != frameCheck f || f.plen.toNat != f.payload.length || f.ver != 1 || !laneFits f then (.discard, s)
  else
  let s := if sealedType f.typ || s.flag 0x0D0000 30 then s.cphJob 2 f.seq.toNat else s
  match s.openFrame f with
    | none => (.discard, s.authFails f)
    | some g =>
      if f.seq = l.expect then (if l.waiting.isSome then (.discard, s) else (.take g, s))
      else if serialLater f.seq l.expect then
        (.discard, if s.nakOpen l then s
          else (s.setLane b { l with nakDue := true, nakAt := some s.chron }).updTwn fun t => { t with beatDue := true })
      else (.discard, s)

/-- The expected sequence of a lane advances (R137, R138). -/
def State.accepted (s : State) (b : Nat) : State :=
  let l := s.lane b
  (((if b < 2 then s.qOut .twnIn else s).setLane b { l with
      expect := l.expect + 1, rxWrap := if l.expect = 0xFFFFFFFF then l.rxWrap + 1 else l.rxWrap, nakDue := false, nakAt := none
      waiting := none, busy := false }).updTwn fun t => { t with beatDue := true }).count 8 1 b 1

/-! ### The tables -/

/-- A Reach becomes unresolved (R143): not in step, its shipped writes dropped (R115). -/
def State.unresolve (s : State) (r : Nat) : State :=
  ((s.setInStep r false).updMap fun m => { m with unresolved := insertNat m.unresolved r }).missReach r

/-- The pair of entries of a Reach is resolved (R143); the demoted side is logged. -/
def State.resolve (s : State) (r : Nat) (theirs : DWord) : State :=
  let mine := s.reach r
  let e1 := s.reachEpoch r
  let e2 : Word := theirs.extractLsb' 32 32
  let a := bitsOf mine.toNat 0 2
  let b := bitsOf theirs.toNat 0 2
  let clean (t : State) : State := t.updMap fun m => { m with unresolved := m.unresolved.filter (· != r) }
  let unresolved : State := s.unresolve r
  if a = 0 && b = 0 then clean s
  else if ((a = 1 && b = 2) || (a = 2 && b = 1)) && e1 == e2 then clean s
  else if a = 1 && b = 1 && e1 != e2 then
    if serialLater e2 e1 then
      ((clean ((s.setReach r (mkReach e2 2 (s.reachFwd r) false)).missReach r)).logE 0x0D06 srcTwin 0
        (r + e2.toNat * 2 ^ 32)).event 0x0D0100 4
    else if serialLater e1 e2 then (clean s).joinCopy r
    else unresolved
  else if a = 2 && b = 2 && e1 != e2 then
    if serialLater e2 e1 then (clean (s.setReach r (mkReach e2 1 false false))).joinCopy r
    else if serialLater e1 e2 then clean s else unresolved
  else unresolved

/-- SPLIT_BRAIN, once in a bring-up (R143). -/
def State.noteSplit (s : State) : State :=
  match s.map.unresolved with
  | [] => s
  | r :: _ =>
    if s.twn.splitBrain then s
    else (((s.updTwn fun t => { t with splitBrain := true }).logE 0x0D07 (srcInt 0x0D) 0
      (r + s.map.unresolved.length % 65536 * 2 ^ 16)).event 0x0D0100 3)

/-- The twin's table is complete and so is this block's: the link is UP (R142, R143). -/
def State.comeUp (s : State) : State :=
  if s.twn.link = 1 && s.twn.tableOut && decide (s.reachCount ≤ s.twn.tableIn) then
    let s1 := ((s.updTwn fun t => { t with link := 2 }).logE 0x0D02 (srcInt 0x0D) 0 0).event 0x0D0100 1
    ((List.range s.reachCount).foldl (fun t r => t.resolve r (agetD t.map.twinTable r 0)) s1).noteSplit
  else s

/-- This block's table goes out once a valid HELLO has come and its own is acknowledged (R142). -/
def State.helloDone (s : State) : State :=
  if s.twn.link = 1 && s.twn.hello.isSome && s.twn.helloAcked && !s.twn.tableOut then
    let n := s.reachCount
    ((s.pushTable 0 n (n + 1)).updTwn fun t => { t with tableOut := true }).comeUp
  else s

/-- A control frame arrives: the time of the last one, its ACK, and its effect (R137, R140); any of them may acknowledge this
block's HELLO (R142). -/
def State.control (s : State) (f : Frame) (typ : BitVec 4) (effect : State → Frame → State) : State :=
  if f.typ ≠ typ then s
  else
    let a := s.arrive f
    match a.1 with
    | .discard => a.2
    | .take g =>
      let s1 := ((a.2.updTwn fun t => { t with lastControl := s.chron }).accepted 2).laneAck 2 g.ack
      (effect s1 g).helloDone.sendCtrl

/-! ### Mirror-in -/

/-- OWN FENCE for a frame (R130); the fencing owner adds the Reach to its copy set (R147). -/
def State.fenceFrame (s : State) (r : Nat) (epoch : Word) : State :=
  let s1 := s.pushOwn 4 (s.reachEpoch r) r 1 []
  if s.reachState r = 1 && epochEarlier epoch (s.reachEpoch r) then s1.joinCopy r else s1

/-- A stale frame for an UNM Reach (R130). -/
def State.staleFrame (s : State) (r b : Nat) : State :=
  (s.logE 0x0D03 srcTwin 0 (r + b * 2 ^ 16)).event 0x0D0100 5

/-- Lines of a MIRROR frame (R135): line index, data, POIS. -/
def frameLines (f : Frame) : List (Nat × Line × Bool) :=
  let leaf := bitsOf f.arg0.toNat 24 34
  (List.range (f.payload.length / 64)).map fun k =>
    (leaf * 64 + bitsOf f.arg0.toNat (6 * k) 6, lineOf f.payload k, f.arg1.getLsbD k)

/-- The leaf of a mirrored line that is not PRESENT (R176, R181). -/
def State.mirrorLeaf (s : State) (line : Nat) (resync refill : Bool) : State :=
  let leaf := leafOfLine line
  if s.leafState leaf = 0 then s
  else if resync || refill then
    if line % 64 = 63 then
      let s0 := s.setLeaf leaf 0
      let s1 := if refill then s0.noteRefill leaf 2
        else s0.updVlt fun v => { v with demands := v.demands.filter fun d => d.leaf != leaf }
      if s.eagerHold && decide (s.map.walk ≤ leaf) then s1.setLeafCode leaf 3 else s1
    else s
  else
    let s1 := (s.setLeaf leaf 2).updVlt fun v =>
      { v with demands := mapIf v.demands (fun d => d.leaf == leaf && d.source != 2) fun d =>
          { d with inFlight := false, arrived := none } }
    s1.setLeafCode leaf 2

/-- The change a mirrored line makes to the leaf map has room among the dirty units (R165, R176). -/
def State.codeRoom (s : State) (leaf : Nat) (whole : Bool) : Bool :=
  s.leafState leaf == 0 || (whole && !s.eagerHold) || s.dirtyRoom (s.map.act.leafMapUnit leaf)

/-- Accept one mirrored line (R14, R102, R115): room for it in the queue, the budget and the metadata. -/
def State.mirrorLine (s : State) (b : Nat) (resync refill : Bool) (x : Nat × Line × Bool) : Option State :=
  let who : Requester := if refill then .refill else .mirror b
  let j : WJob := { who := who, line := x.1, kind := .full, mask := BitVec.allOnes 64, data := x.2.1, pois := x.2.2 }
  let last (t : State) : State := if refill && x.1 % 64 == 63 then t.healDone (leafOfLine x.1) else t
  if s.deadLine x.1 then some (last (s.rankHit x.1))
  else if s.atu.locks.contains x.1 || s.rowHeld x.1 || !s.writeReady j true || !s.codeRoom (leafOfLine x.1) (resync || refill) then none
  else some (last (((s.acceptLine j x.2.1 x.2.2 .normal true).2).mirrorLeaf x.1 resync refill))

/-- Accept the lines of a frame from the k-th on: how many stand accepted. -/
def State.mirrorLines (s : State) (b : Nat) (resync refill : Bool) (k : Nat) : List (Nat × Line × Bool) → Nat × Bool × State
  | [] => (k, true, s)
  | x :: r => match s.mirrorLine b resync refill x with
    | some t => t.mirrorLines b resync refill (k + 1) r
    | none => (k, false, s)

/-- A frame waits for budget or an epoch (R130, R138). -/
def State.frameWaits (s : State) (b : Nat) (f : Frame) (k : Nat) (busy : Bool) : State :=
  let l := s.lane b
  let since := match l.waiting with | some (_, t, _) => t | none => s.chron
  let s1 := s.setLane b { l with waiting := some (f, since, k), busy := busy }
  if busy && !l.busy then s1.updTwn fun t => { t with beatDue := true } else s1

/-- A line is written for the twin under the forwarder's FTAG (R130): a write-class access at write-path step 3, which takes
its queue entry as a host write does (R188). -/
def State.forwardedWrite (s : State) (b : Nat) (f : Frame) : Option State :=
  let line := bitsOf f.arg0.toNat 0 40
  let ftag := BitVec.ofNat 12 (bitsOf f.arg0.toNat 40 12)
  let op := bitsOf f.arg1.toNat 0 4
  let leaf := leafOfLine line
  let mask : BitVec 64 := BitVec.ofNat 64 (bytesNat (f.payload.take 8))
  if s.leafState leaf ≠ 0 then some ((s.joinDemand leaf).2.pushFwdAck ftag line .defer 0 false)
  else if s.healing line || s.eagerHold then some (s.pushFwdAck ftag line .defer 0 false)
  else if !s.budgetOk leaf then none
  else
    let j : WJob :=
      { who := .mirror b, line := line, kind := if op = 2 then .full else .partialWrite, mask := mask
        data := bytesLine (f.payload.drop 8), pois := f.arg1.getLsbD 7, ftag := some ftag }
    some (s.access (.wr j .normal false))

/-- A REFILL frame that answers a FETCH of this block (R152): its lines are refills whatever the Reach entry, which R130 has
for mirrored writes (R175). -/
def State.answersFetch (s : State) (f : Frame) : Bool :=
  f.flags.getLsbD 2 && aget s.twn.fetches (field f.arg1 16 12) == some (bitsOf f.arg0.toNat 24 34)

/-- The lines of a MIRROR frame are accepted from the k-th on; where one has to wait the frame does, BUSY where it waits for
dirty budget (R14, R138). -/
def State.mirrorAccept (s : State) (b : Nat) (f : Frame) (k : Nat) : State :=
  let x := s.mirrorLines b (f.flags.getLsbD 3) (f.flags.getLsbD 2) k ((frameLines f).drop k)
  let full := !x.2.2.budgetOk (bitsOf f.arg0.toNat 24 34)
  if x.2.1 then x.2.2.accepted b else (if full then x.2.2.noteBudgetHold else x.2.2).frameWaits b f x.1 full

/-- A MIRROR frame under R130, from its k-th line. -/
def State.mirrorFrameIn (s : State) (b : Nat) (f : Frame) (k : Nat) : State :=
  let leaf := bitsOf f.arg0.toNat 24 34
  let r := reachOfLeaf leaf
  let e := s.reachEpoch r
  let st := s.reachState r
  let inMap : Bool := decide (leaf < s.map.act.dataLeaves)
  if st = 0 || !inMap then (s.staleFrame r b).accepted b
  else if s.answersFetch f then s.mirrorAccept b f k
  else if f.epoch ≠ e && !epochEarlier f.epoch e then s.frameWaits b f k true
  else if st = 1 || f.epoch ≠ e then (s.fenceFrame r f.epoch).accepted b
  else (if f.flags.getLsbD 3 then s.updTwn fun t => { t with resyncSeen := true } else s).mirrorAccept b f k

/-- An FWD_WR frame under R130. The write it hands over may wait for its line or for room: the frame then holds its lane, and
is accepted with the write or with its answer (R137). -/
def State.fwdFrameIn (s : State) (b : Nat) (f : Frame) : State :=
  let line := bitsOf f.arg0.toNat 0 40
  let ftag := BitVec.ofNat 12 (bitsOf f.arg0.toNat 40 12)
  let r := reachOfLine line
  let e := s.reachEpoch r
  let st := s.reachState r
  if st = 0 || decide (s.map.act.dataLeaves ≤ leafOfLine line) then (s.pushFwdAck ftag line .errOwner 0 false).accepted b
  else if f.epoch ≠ e && !epochEarlier f.epoch e then s.frameWaits b f 0 true
  else if st = 2 then (s.pushFwdAck ftag line .defer 0 false).accepted b
  else if f.epoch ≠ e then (s.pushFwdAck ftag line .errFenced 0 false).accepted b
  else match s.forwardedWrite b f with
    | some t => if t.jobOut fun j => j.ftag == some ftag then t.frameWaits b f 1 false else t.accepted b
    | none => s.noteBudgetHold.frameWaits b f 0 true

/-- A data-lane frame is processed. -/
def State.dataFrame (s : State) (b : Nat) (f : Frame) (k : Nat) : State :=
  if f.typ = 1 then s.mirrorFrameIn b f k else s.fwdFrameIn b f

/-- A data-lane frame arrives, in a mode that takes mirror-in (R439). -/
def State.dataArrive (s : State) (f : Frame) (typ : BitVec 4) : State :=
  if f.typ ≠ typ || !s.cfg.mode.serves then s
  else
    let a := s.arrive f
    match a.1 with
    | .discard => a.2
    | .take g => ((a.2.qIn .twnIn g.arg0.toNat).dataFrame g.lane.toNat g 0).sendCtrl

/-- A frame whose write has been handed over waits for nothing but that write. -/
def handedOver (f : Frame) (k : Nat) : Bool := f.typ == 2 && k == 1

/-- MIRROR_FRAME_RESUME: a waiting frame is tried again (R14, R130). -/
def State.frameResume (s : State) (b : Nat) : State :=
  match (s.lane b).waiting with
  | some (f, _, k) => if handedOver f k then s else (s.dataFrame b f k).sendCtrl
  | none => s

/-- A lane whose forwarded write has been accepted or answered goes on (R137). -/
def State.laneGoesOn (s : State) (b : Nat) : State :=
  match (s.lane b).waiting with
  | some (f, _, k) =>
    if handedOver f k && !s.jobOut fun j => j.ftag == some (BitVec.ofNat 12 (bitsOf f.arg0.toNat 40 12)) then (s.accepted b).sendCtrl else s
  | none => s

/-- EPOCH_WAIT: a frame has waited 1 ms for an epoch (R130). -/
def State.epochTimeout (s : State) (b : Nat) : State :=
  match (s.lane b).waiting with
  | some (f, t, k) =>
    let line := if f.typ = 1 then bitsOf f.arg0.toNat 24 34 * 64 else bitsOf f.arg0.toNat 0 40
    let e := s.reachEpoch (reachOfLine line)
    if !handedOver f k && f.epoch ≠ e && !epochEarlier f.epoch e then (s.until_ (t + 1000000)).linkDown 4 else s
  | none => s

/-! ### Acknowledgements -/

/-- FWD_ACK (R129, R135). -/
def State.fwdAckIn (s : State) (f : Frame) : State :=
  let ftag := BitVec.ofNat 12 (field f.arg1 16 12)
  match s.twn.forwards.find? fun x => x.ftag == ftag with
  | none => s
  | some x =>
    let code : Code := match field f.arg1 12 4 with
      | 0 => .ok | 1 => .defer | 2 => .poison | 3 => .resvFail | 4 => .errAccess | 5 => .errDevice | 6 => .errOwner
      | 7 => .errFenced | _ => .errMode
    let s1 := s.updTwn fun t => { t with forwards := t.forwards.filter fun y => y.ftag != ftag }
    let s2 := if code = .ok then s1.setFwdFate ftag (.forwardAcked f.arg0.toNat (bit f.arg1 11))
      else s1.updAtu fun a => { a with covered := a.covered.filter fun c => c.fate != .forwarded ftag }
    s2.answerForward x code

/-- BEAT (R135, R138, R139). -/
def State.beatIn (s : State) (f : Frame) : State :=
  let mark (t : State) (b : Nat) : State := if bit f.arg1 b then t.setLane b { t.lane b with busyAt := s.chron } else t
  let wpv := bytesNat (f.payload.take 8)
  let s1 := (mark (mark s 0) 1).updTwn fun t => { t with
    peerWpv := wpv, peerWpl := bytesNat ((f.payload.drop 8).take 8) }
  let s2 := (s1.laneAck 0 (f.arg0.extractLsb' 0 32)).laneAck 1 (f.arg0.extractLsb' 32 32)
  let back (t : State) (b : Nat) : State := if f.flags.getLsbD b then t.goBack b else t
  back (back (back s2 0) 1) 2

/-! ### Bring-up and ownership -/

/-- A block whose HELLO does not fit (R142). -/
def State.helloFits (s : State) (h : PeerHello) : Bool :=
  h.auth == s.flag 0x0D0000 30 && h.t0Top == BitVec.ofNat 64 s.map.act.top && h.reaches == s.reachCount % 65536 && h.node != s.node

/-- HELLO (R142). -/
def State.helloIn (s : State) (f : Frame) : State :=
  let w := bytesNat ((f.payload.drop 24).take 8)
  let h : PeerHello :=
    { node := f.arg0, reaches := f.arg1.toNat % 65536, image := BitVec.ofNat 64 (bytesNat (f.payload.take 8))
      peerImage := BitVec.ofNat 64 (bytesNat ((f.payload.drop 8).take 8)), t0Top := BitVec.ofNat 64 (bytesNat ((f.payload.drop 16).take 8))
      auth := w.testBit 0, anchor := w.testBit 1, stale := w.testBit 2 }
  if s.twn.link ≠ 1 then s
  else if s.helloFits h then s.updTwn fun t => { t with hello := some h, peerImage := h.image }
  else (s.event 0x0D0100 8).linkDown 6

/-- A HELLO frame with another VER, or with neither tag nor AUTH where this block has AUTH 1 (R142): a mismatch takes the
link down. -/
def State.helloArrive (s : State) (f : Frame) : State :=
  let bare := s.flag 0x0D0000 30 && f.tag.isNone && !(bytesNat ((f.payload.drop 24).take 8)).testBit 0
  if f.typ = 4 && (f.ver != 1 || bare) && s.twn.link == 1 && f.check == frameCheck f then (s.event 0x0D0100 8).linkDown 6
  else s.control f 4 State.helloIn

/-- First Reach and count of an OWN frame (R135). -/
def ownRange (f : Frame) : Nat × Nat := (bitsOf f.arg0.toNat 0 16, bitsOf f.arg0.toNat 16 16)

/-- OWN TABLE (R142, R143): in HELLO it fills the table; while UP each pair is resolved again. -/
def State.ownTableIn (s : State) (f : Frame) : State :=
  let r := ownRange f
  let ents := (List.range r.2).map fun i => (r.1 + i, BitVec.ofNat 64 (bytesNat ((f.payload.drop (8 * i)).take 8)))
  let s1 := s.updMap fun m => { m with twinTable := ents.foldl (fun l x => aputD l x.1 x.2 0) m.twinTable }
  if s.twn.link = 2 then (ents.foldl (fun t x => t.resolve x.1 x.2) s1).noteSplit
  else (s1.updTwn fun t => { t with tableIn := t.tableIn + r.2 }).comeUp

/-- OWN HANDOVER (R144 step 4). -/
def State.ownHandoverIn (s : State) (f : Frame) : State :=
  let r := (ownRange f).1
  if serialLater f.epoch (s.reachEpoch r) && s.reachState r == 2 then
    let s1 := (s.setReach r (mkReach f.epoch 1 false true)).updMap fun m => { m with
      twinTable := aputD m.twinTable r (mkReach f.epoch 2 true true) 0 }
    s1.pushOwn 2 f.epoch r 1 []
  else s

/-- OWN_ACK (R144 step 5). -/
def State.ownAckIn (s : State) (f : Frame) : State :=
  let r := (ownRange f).1
  if s.twn.handover.any fun h => h.reach == r && h.sent && h.epoch == f.epoch then
    ((s.updTwn fun t => { t with handover := t.handover.filter fun h => h.reach != r }).updMap fun m => { m with
      twinTable := aputD m.twinTable r (mkReach f.epoch 1 false true) 0 }).event 0x0D0100 10
  else s

/-- OWN TAKE (R145): a Reach with an earlier epoch becomes TWIN at the grant epoch. -/
def State.ownTakeIn (s : State) (f : Frame) : State :=
  let r := ownRange f
  (natsFrom r.1 r.2).foldl (fun t q =>
    if epochEarlier (t.reachEpoch q) f.epoch && decide (q < t.map.act.reaches) && decide (q < t.map.act.carveBase) then
      ((t.setReach q (mkReach f.epoch 2 (t.reachFwd q) false)).updMap fun m => { m with
        unresolved := m.unresolved.filter (· != q)
        twinTable := aputD m.twinTable q (mkReach f.epoch 1 false false) 0 }).missReach q
    else t) s

/-- A frame of a Reach that a fence at an epoch fences (R130, R138): one of the Reach no later than the fence. -/
def OutFrame.fencedBy (o : OutFrame) (r : Nat) (epoch : Word) : Bool := o.reach == some r && !serialLater o.frame.epoch epoch

/-- The writes of the fenced frames of a Reach are dropped from shipping (R115, R138). -/
def State.dropFrames (s : State) (r : Nat) (epoch : Word) : State :=
  let gone := s.twn.lanes.flatMap fun l => (l.retry.filter fun o => o.fencedBy r epoch).flatMap fun o => o.seqs
  (s.updTwn fun t => { t with lanes := t.lanes.map fun l => { l with
    retry := mapIf l.retry (fun o => o.fencedBy r epoch) fun o => { o with dropped := true } } }).missSeqs gone

/-- OWN FENCE (R138, R147). -/
def State.ownFenceIn (s : State) (f : Frame) : State :=
  let r := (ownRange f).1
  let s1 := s.dropFrames r f.epoch
  if s.reachState r ≠ 1 then s1
  else if s.reachEpoch r = f.epoch then (s1.unresolve r).noteSplit
  else if serialLater f.epoch (s.reachEpoch r) then
    let s2 := ((s1.setReach r (mkReach f.epoch 2 (s.reachFwd r) false)).updMap fun m => { m with
      unresolved := m.unresolved.filter (· != r)
      twinTable := aputD m.twinTable r (mkReach f.epoch 1 false false) 0 }).missReach r
    (s2.logE 0x0D06 srcTwin 0 (r + f.epoch.toNat * 2 ^ 32)).event 0x0D0100 4
  else s1

/-- The twin's Resync is complete once both lanes are accepted up to its last RESYNC frames (R151). -/
def State.syncCheck (s : State) : State :=
  match s.twn.syncIn with
  | none => s
  | some (a, b) =>
    let past (k : Nat) (q : Word) : Bool := serialLater (s.lane k).expect q
    if past 0 a && past 1 b then
      let rs := (s.reachesIn 2).filter fun r =>
        match aget s.map.twinTable r with | some e => e.extractLsb' 32 32 == s.reachEpoch r | none => false
      (rs.foldl (fun t r => t.setInStep r true) s).updTwn fun t => { t with syncIn := none, resyncSeen := false }
    else s

/-- OWN SYNC_DONE (R151). -/
def State.ownSyncIn (s : State) (f : Frame) : State :=
  let w (i : Nat) : Word := BitVec.ofNat 32 (bytesNat ((f.payload.drop (4 * i)).take 4))
  (s.updTwn fun t => { t with syncIn := some (w 0, w 1) }).syncCheck

/-- An OWN frame of one kind arrives. -/
def State.own (s : State) (f : Frame) (sub : BitVec 4) (effect : State → Frame → State) : State :=
  if f.flags ≠ sub then s else s.control f 5 effect

/-! ### Fetch and messages -/

/-- A leaf the twin may fetch (R152). -/
def State.fetchable (s : State) (leaf : Nat) : Bool :=
  let r := reachOfLeaf leaf
  let st := s.reachState r
  (st == 1 || (st == 2 && s.reachInStep r)) && s.leafState leaf == 0 && decide (leaf < s.map.act.dataLeaves)

/-- FETCH (R152, R176): its reads are admitted in class RCLASS (R159). -/
def State.fetchIn (s : State) (f : Frame) : State :=
  let leaf := bitsOf f.arg0.toNat 0 34
  let id := field f.arg1 0 12
  if f.flags.getLsbD 0 then s
  else if s.fetchable leaf then
    let v := s.admitAs (.fetch leaf) (s.fld 0x0D0008 28 4) 64
    v.2.readLeaf leaf false id (v.1.getD .normal)
  else s.ctrlPush (ctrlFrame 7 1 0 (BitVec.ofNat 64 leaf) (at_ id 0 12) [])

/-- A FETCH arrives: while its class holds the reads, or the mirror-out queue has no room for the leaf, the frame is not
acted on, and the twin sends it again (R139). -/
def State.fetchArrive (s : State) (f : Frame) : State :=
  let v := s.admitAs (.fetch (bitsOf f.arg0.toNat 0 34)) (s.fld 0x0D0008 28 4) 64
  if !s.fetchable (bitsOf f.arg0.toNat 0 34) then s.control f 7 State.fetchIn
  else if v.1.isNone then v.2
  else if !s.leafRoom (bitsOf f.arg0.toNat 0 34) then s
  else s.control f 7 State.fetchIn

/-- FETCH NAK (R152, R175): R175 chooses again. -/
def State.fetchNakIn (s : State) (f : Frame) : State :=
  let id := field f.arg1 0 12
  match aget s.twn.fetches id with
  | none => s
  | some leaf =>
    if !f.flags.getLsbD 0 then s
    else
      let s1 := (s.updTwn fun t => { t with fetches := adel t.fetches id }).updVlt fun v =>
        { v with demands := mapIf v.demands (fun d => d.leaf == leaf) fun d => { d with inFlight := false, fetched := true } }
      s1.healFails leaf

/-- A message buffer is free for an engine number (R372): 64 in all, and the engine's queue. -/
def State.msgRoom (s : State) (e : Nat) : Bool :=
  decide (e < 32) && decide ((s.engines.map fun x => x.2.msgs.length).sum < 64) && decide ((s.engine e).msgs.length < 16)

/-- CTRL (R153, R372): the message joins the queue of its engine; a frame that finds no room is not acted on. -/
def State.ctrlIn (s : State) (f : Frame) : State :=
  if !s.msgRoom (field f.arg1 0 6) then s
  else s.control f 8 fun t g =>
    t.updEngine (field g.arg1 0 6) fun n => { n with msgs := n.msgs ++ [(BitVec.ofNat 6 (bitsOf g.arg0.toNat 0 6), g.payload)] }

/-! ### Firmware -/

/-- TWN_CTL.UP (R142, R346): it needs a fresh key in a session slot that is not bound, and spends it. -/
def State.twinUp (s : State) : State :=
  if !(s.flag 0x0D0000 31 && s.twn.link == 0) then s
  else
    let k := s.sessionSlot
    if !(s.keySlot k).fresh || s.boundSlot k then (s.logE 0x0B03 (srcInt 0x0B) 0 k).event 0x0B0300 7
    else
      ((s.setKeySlot k { s.keySlot k with fresh := false }).updTwn fun t => { t with
        link := 1, lcfg := s.reg 0x0D0004, lsel := s.fld 0x0D0000 4 4, staleRd := s.flag 0x0D0000 29, lanes := [{}, {}, {}]
        splitBrain := false, lastControl := s.chron, lastBeat := s.chron, tableIn := 0, tableOut := false }).sendHello

/-- TWN_HOVER with GO (R144). -/
def State.hover (s : State) (r : Nat) : State :=
  if s.twn.link == 2 && s.reachState r == 1 && s.reachInStep r && !s.map.unresolved.contains r then
    let e := s.reachEpoch r + 1
    (s.setReach r (mkReach e 2 true true)).updTwn fun t => { t with handover := t.handover ++ [{ reach := r, epoch := e }] }
  else s.event 0x0D0100 11

/-- HANDOVER_SEND (R144 steps 2 and 3). -/
def State.handoverSend (s : State) (r : Nat) : State :=
  match s.twn.handover.find? fun h => h.reach == r && !h.sent with
  | none => s
  | some h =>
    let waits := (s.twn.out.any fun m => match m with | .line l _ _ _ _ _ _ _ => reachOfLine l == r | _ => false)
      || s.twn.lanes.any fun l => l.retry.any fun o => o.frame.typ == 1 && o.reach == some r
    if waits then s
    else ((s.pushOwn 1 h.epoch r 1 []).updTwn fun t => { t with
      handover := mapIf t.handover (fun x => x.reach == r) fun x => { x with sent := true } }).sendCtrl

/-- One Reach of a grant (R145); a handover of it is abandoned (R155). -/
def State.grantOne (s : State) (e : Word) (x : Nat × Nat) (r : Nat) : (Nat × Nat) × State :=
  let st := s.reachState r
  if r < s.map.act.reaches && r < s.map.act.carveBase && (st == 1 || st == 2) && serialLater e (s.reachEpoch r) then
    let hov := s.twn.handover.any fun h => h.reach == r
    let s1 := (((s.setReach r (mkReach e 1 false false)).updMap fun m => { m with
      unresolved := m.unresolved.filter (· != r) }).joinCopy r).missReach r
    let s2 := (s1.updTwn fun t => { t with handover := t.handover.filter fun h => h.reach != r }).eventIf hov 0x0D0100 11
    ((x.1 + 1, x.2), s2)
  else ((x.1, x.2 + 1), s)

/-- TWN_GRANT_GO (R145): every Reach of the range; OWN TAKE for the applied ones while the link is UP. -/
def State.grantGo (s : State) : State :=
  let first := s.fld 0x0D0030 0 16
  let n := s.fld 0x0D0034 0 17
  let e := s.reg 0x0D0038
  let rs := natsFrom first n
  let out := rs.foldl (fun a r => let g := a.2.grantOne e a.1 r; (g.1, g.2)) ((0, 0), s)
  let applied := rs.filter fun r => s.reach r != out.2.reach r
  let s1 := if s.twn.link = 2 then applied.foldl (fun t r => t.pushOwn 3 e r 1 []) out.2 else out.2
  (s1.updTwn fun t => { t with grantPend := some (out.1.1, out.1.2, e) }).sendCtrl

/-- GRANT_DONE (R145). -/
def State.grantDone (s : State) : State :=
  match s.twn.grantPend with
  | none => s
  | some (a, j, _) =>
    (s.updTwn fun t => { t with grantPend := none, grantRes := at_ j 16 16 ||| at_ a 0 16 }).event 0x0D0100 9

/-- Entries firmware wrote while the link is UP go to the twin, and their pairs are resolved again (R143). -/
def State.sendPendTable (s : State) : State :=
  if s.twn.pendTable.isEmpty then s
  else
    let rs := s.twn.pendTable
    let s1 := s.updTwn fun t => { t with pendTable := [] }
    if s.twn.link ≠ 2 then s1
    else (rs.foldl (fun t r =>
      ((t.pushOwn 0 (t.reachEpoch r) r 1 (natBytes 8 (t.reach r).toNat))).resolve r (agetD t.map.twinTable r 0)) s1).noteSplit

end Sys2Proof.Machine
end

