-- ==== Sys2Proof/Machine/Vault.lean ====
section
/-! DEFINITION. VLT: entering and ending Save, the superblocks and metadata of Restore, and the refill of leaves
(R162–R181, R436–R441). -/

namespace Sys2Proof.Machine

/-! ### Save -/

/-- Requests not past admission are answered ERR_MODE (R167). -/
def State.refuseWaiting (s : State) : State :=
  let held := s.ports.flatMap fun p => p.2.held.map fun h => h.w
  let s1 : State := { s with ports := s.ports.map fun p => (p.1, { p.2 with held := [] }) }
  let host := s1.atu.waiting.filter fun w => w.src.port.isSome
  let s2 := s1.updAtu fun a => { a with waiting := a.waiting.filter fun w => w.src.port.isNone }
  let s3 := host.foldl (fun t w => (t.leave w.src).answerSource w.src .errMode 0) s2
  held.foldl (fun t w => t.answerSource w.src .errMode 0) s3

/-- Pilot requests that can no longer be admitted in Save are answered ERR_MODE (R167). -/
def State.refusePilots (s : State) : State :=
  let pil := s.atu.waiting
  pil.foldl (fun t w => t.answerSource w.src .errMode 0) (s.updAtu fun a => { a with waiting := [] })

/-- Staging fills, Courses, the Mover and every other unit stop, and every grant is released; an open seal leaves its
entry SEALING (R167, R334, R358, R387). -/
def State.stopDeep (s : State) : State :=
  let s1 := s.sua.busy.foldl State.clearBusy s
  let s2 := s1.updDti fun d => { d with fills := [], courses := [], seals := [], stages := [], hints := [] }
  ((s2.updSua fun u => { u with asks := [], grants := [], busy := [], moves := [], arrived := [] }).updCph fun c =>
    { c with jobs := [], contexts := [] }).dropProbe.dropOffers

/-- Running engines stop at the next instruction boundary (R167, R368). -/
def State.stopEngines (s : State) : State :=
  { s with engines := s.engines.map fun x =>
      if x.2.state = .running then
        (x.1, { x.2 with state := .stopping, buffer := x.2.buffer.map fun b => { b with closed := true } })
      else x }

/-- Re-sighting ends on PF_WARN (R250, R251, R253): pauses end, a channel in its outage gets back the host-side delays it
had and leaves self-refresh, its ranks owing no refresh (R224). -/
def State.sightStops (s : State) : State :=
  let outs := s.sgt.outages
  let s1 := s.updSgt fun g => { g with
    resights := [], outages := [], before := [], phase := if g.phase == .outage then .track else g.phase
    phy := g.before.foldl (fun l x => aput l x.1 x.2) g.phy }
  let s2 := outs.foldl (fun t ch => ((t.selfRefresh (2 * ch) false).selfRefresh (2 * ch + 1) false).rewriteModes ch) s1
  { s2 with
    subs := s2.subs.map fun x => (x.1, { x.2 with pause := false })
    rpm := s1.rpm.map fun x => (x.1, { x.2 with pauseAsked := false, debt := if outs.contains (x.1 / 2) then [] else x.2.debt }) }

/-- A command of VLT's own. -/
def DpCmd.isVault (c : DpCmd) : Bool := match c.owner with | .vault _ _ => true | _ => false

/-- VLT's step ends: its commands that have not been issued are dropped. -/
def State.dropVault (s : State) : State :=
  let gone := (s.dti.wstream ++ s.dti.rstream).filter DpCmd.isVault
  let s1 := s.updDti fun d => { d with
    wstream := d.wstream.filter fun c => !c.isVault, rstream := d.rstream.filter fun c => !c.isVault }
  (gone.foldl (fun t _ => t.qOut .dtiCmd) s1).updVlt fun v => { v with job := none }

/-- Entry into Save (R166, R167, R440). -/
def State.enterSave (s : State) : State :=
  let s1 := (({ s with cfg := { s.cfg with saveEntered := true, noSave := !s.vaultOn } }).reeval).stopCopies
  let s2 := s1.dropVault.updVlt fun v => { v with phase := .quiesce, saveStart := s.chron, failedNow := 0, eagerUnit := none }
  let s3 := ((s2.refuseWaiting.stopDeep).stopEngines).linkDown 5
  let s4 : State := { s3 with
    subs := s3.subs.map fun x => (x.1, { x.2 with rq := relevelDrain true x.2.rq })
    dti := { s3.dti with wstream := relevelPort (drainPort true true) s3.dti.wstream } }
  s4.sightStops

/-- PF_WARN taken as asserted (R166). -/
def State.pfWarn (s : State) : State :=
  let s1 := { s with cfg := { s.cfg with pfWarn := true } }
  if s.cfg.mode = .save || s.cfg.frozen then s1
  else if s.cfg.mode.early && !(s.cfg.mode = .sighting && s.vlt.running) then
    { s1.dropVault with cfg := { s1.cfg with frozen := true, noSave := true, saveDonePin := true } }.updVlt fun v =>
      { v with phase := .saved }
  else s1.enterSave

/-- Save has quiesced (R167): no read past admission, no engine running or stopping. -/
def State.quiesced (s : State) : Bool :=
  (s.subs.all fun x => (x.2.rq.all fun e => match e.dest with | .drain _ _ => true | _ => false))
    && s.engines.all fun x => x.2.state != .running && x.2.state != .stopping

/-- QUIESCE ends (R185). -/
def State.savePhase (s : State) : State :=
  if s.cfg.mode = .save && s.vlt.phase == .quiesce && s.quiesced then s.updVlt fun v => { v with phase := .drain } else s

/-- SAVE_DONE asserted (R171): every rank in self-refresh, no command any more, pending PFENCEs never answered. -/
def State.finishSave (s : State) (completed : Bool) : State :=
  let s0 := s.selfRefreshAll
  let s1 : State := { s0 with
    cfg := { s0.cfg with saveDonePin := true }
    subs := s0.subs.map fun x => (x.1, { x.2 with slotReg := [], banks := [], replayPend := [], parityPre := [] }) }
  (((s1.updAtu fun a => { a with fences := [] }).updVlt fun v => { v with phase := .saved, job := none }).updDti fun d =>
    { d with wstream := [], rstream := [] }).eventIf completed 0x0F0100 0

/-- Drain is complete (R168 step 4). -/
def State.drained (s : State) : Bool := s.plg.d == s.plg.w && s.plg.drains.isEmpty

/-! ### VLT's commands on the deep port (R168, R172–R174) -/

/-- A step that reads. -/
def VltStep.reads : VltStep → Bool
  | .superRead | .metaRead | .logRead | .eagerRead => true
  | _ => false

/-- VLT starts a step with the units it goes over. -/
def State.beginStep (s : State) (st : VltStep) (todo : List (Nat × Nat)) : State :=
  s.updVlt fun v => { v with job := some { step := st, no := v.jobNo + 1, todo := todo }, jobNo := v.jobNo + 1 }

/-- A command of VLT's step joins its stream, at the level of Save traffic or of demand refills (DESIGN CHOICE, entry 75). -/
def State.vaultPush (s : State) (op : BitVec 2) (u : Nat) (data : List Byte) : State :=
  match s.vlt.job with
  | none => s
  | some j =>
    (s.updVlt fun v => { v with job := some { j with out := j.out + 1 } }).dpPush
      { op := op, tgt := false, unit := if op = 2 then 0 else BitVec.ofNat 48 (s.vbase + u)
        sb := if op = 1 then s.unitSideband u data else 0, data := data, owner := .vault j.no u, level := 1 }

/-- The unit of the slot a superblock is written to next. -/
def State.superUnit (s : State) : Nat := if s.nextSlot then 1 else 0

/-- A FLUSH of target 0 as a step; its failure is reported with the unit of the superblock in use. -/
def State.flushStep (s : State) (st : VltStep) : State :=
  (s.beginStep st []).vaultPush 2 (if s.vlt.slot && s.vlt.sbState != 0 then 1 else 0) []

/-- A superblock is written to its slot (R164). -/
def State.superStep (s : State) (st : VltStep) (state failed saveUs : Nat) : State :=
  let b := s.superBytes state failed saveUs
  ((s.updVlt fun v => { v with superOut := b }).beginStep st []).vaultPush 1 s.superUnit (padUnit b)

/-- A superblock that has been written is the one in use. -/
def State.superInUse (s : State) (state : Nat) : State :=
  s.updVlt fun v => { v with
    sbState := BitVec.ofNat 2 state, slot := s.nextSlot, gen := v.gen + 1, onMedium := some (s.nextSlot, v.gen + 1) }

/-- STATE of the superblock a Save writes: SAVED, or SAVED_PARTIAL with a failed leaf (R164, R170). -/
def State.savedCode (s : State) : Nat := if s.vlt.failedNow = 0 then 2 else 3

/-- The next unit of some ranges. -/
def takeUnit : List (Nat × Nat) → Option (Nat × List (Nat × Nat))
  | [] => none
  | (_, 0) :: r => takeUnit r
  | (u, n + 1) :: r => some (u, (u + 1, n) :: r)

/-- The units of the Log slots [A, W) (R172), of a ring of n slots: one range, or two where it wraps. -/
def logRanges (first n a w : Nat) : List (Nat × Nat) :=
  let per := n / 128
  let lo := a / 128 % per
  let cnt := Nat.min per ((w + 127) / 128 - a / 128)
  if w ≤ a then [] else if lo + cnt ≤ per then [(first + lo, cnt)] else [(first + lo, per - lo), (first, lo + cnt - per)]

/-- A unit that VLT has read. -/
def VltJob.unit (j : VltJob) (u : Nat) : List Byte := (aget j.got u).getD []

/-- The Restore state that a leaf-map code of an eager walk stands for (R165, R174). -/
def codeState (c : Nat) : Nat := if c = 0 then 3 else if c = 1 then 1 else if c = 2 then 2 else 0

/-- An eager walk takes up the codes of the leaf-map unit it has read (R174). -/
def State.takeCodes (s : State) (j : VltJob) : State :=
  match j.got with
  | [] => s.updVlt fun v => { v with job := none }
  | (u, data) :: _ =>
    let first := (u - s.map.act.leafMapAt) * 16384
    let ahead (l : Nat) : Bool := decide (first ≤ l) && decide (l < first + 16384) && decide (s.map.walk ≤ l)
    let codes := codesOfUnit first data
    let s1 := s.updMap fun m => { m with absent := m.absent.filter fun x => !ahead x.1 }
    let s2 := (codes.filter fun x => ahead x.1).foldl (fun t x => t.setLeaf x.1 (codeState x.2)) s1
    s2.updVlt fun v => { v with
      job := none, eagerUnit := some u
      leafMap := codes.foldl (fun l x => aput l x.1 x.2) (v.leafMap.filter fun x => !(decide (first ≤ x.1) && decide (x.1 < first + 16384))) }

/-- The step VLT takes after one that completed; a step that a command of the block ends stays. -/
def State.nextStep (s : State) (j : VltJob) : State :=
  let m := s.map.act
  match j.step with
  | .metaRead =>
    let plg := j.unit 2
    let s1 := s.beginStep .logRead
      (logRanges m.logMirrorAt s.ringN (plgField plg 2) (plgField plg 0) ++ [(m.segMirrorAt, m.metaEnd - m.segMirrorAt)])
    s1.updVlt fun v => { v with job := v.job.map fun k => { k with got := j.got } }
  | .saveUnits => s.flushStep .saveFlush
  | .saveSuper => (s.superInUse s.savedCode).flushStep .saveLast
  | .initUnits => s.flushStep .initFlush
  | .initFlush => s.superStep .runSuper 1 0 0
  | .runSuper => ((s.superInUse 1).updVlt fun v => { v with running := true }).flushStep .runFlush
  | .eagerRead => s.takeCodes j
  | .superRead | .logRead | .saveFlush | .saveLast | .runFlush => s

/-- The vault cannot be used (R172, R173): logged with its reason, phase WAIT_INIT. -/
def State.vaultInvalid (s : State) (reason unit : Nat) : State :=
  ((s.dropVault.updVlt fun v => { v with phase := .waitInit, running := false }).logE 0x0F02 (srcInt 0x0F) unit reason).event 0x0F0100 3

/-- A step failed after its retries: Save ends (R170), a write of Restore makes the vault invalid (R173), an eager walk reads
the unit again, and a failed read is for the command that ends its step. -/
def State.stepFails (s : State) (j : VltJob) (why : Nat × Nat) : State :=
  match j.step with
  | .saveUnits | .saveFlush | .saveSuper | .saveLast => s.finishSave false
  | .initUnits | .initFlush | .runSuper | .runFlush => s.vaultInvalid why.1 why.2
  | .eagerRead => s.dropVault
  | .superRead | .metaRead | .logRead => s

/-- VLT goes on: the next unit of its step once none of its commands waits to be issued, and the next step once all have
completed (DESIGN CHOICE, entry 75: one command of VLT's waits at a time). -/
def State.vaultGoes (s0 : State) : State :=
  let s := s0.dirtyWaits
  if s.vlt.broken && s.cfg.mode == .save && !s.cfg.saveDonePin then s.finishSave false
  else match s.vlt.job with
    | none => s
    | some j => match j.failed with
      | some why => s.stepFails j why
      | none => match takeUnit j.todo with
        | none => if j.out = 0 then s.nextStep j else s
        | some (u, rest) =>
          if (s.dti.wstream ++ s.dti.rstream).any DpCmd.isVault then s
          else
            let s1 := s.updVlt fun v => { v with job := some { j with todo := rest } }
            if j.step.reads then s1.vaultPush 0 u [] else s1.vaultPush 1 u (s.unitBytes u)

/-- The step at hand is over: every command of it has completed OK. -/
def State.stepOver (s : State) (st : VltStep) : Bool :=
  match s.vlt.job with
  | some j => j.step == st && (takeUnit j.todo).isNone && j.out == 0 && j.failed.isNone
  | none => false

/-- SAVE_META_WRITE (R168 step 5, R170): the dirty units, the Reach table and the PLG record are written, then flushed. -/
def State.saveMeta (s : State) : State :=
  if s.cfg.mode = .save && s.vaultOn && s.drained && s.quiesced && s.vlt.writing.isEmpty
      && (s.vlt.phase == .quiesce || s.vlt.phase == .drain) then
    (s.updVlt fun v => { v with phase := .metaOut, dirty := [], waits := [] }).beginStep .saveUnits
      (((s.vlt.dirty ++ s.vlt.waits).map fun u => (u, 1)) ++ [(3, 64), (2, 1)])
  else s

/-- SAVE_FIRST_FLUSH_DONE (R168 step 7): the superblock SAVED or SAVED_PARTIAL is written, then flushed. -/
def State.saveFlush (s : State) : State :=
  if s.cfg.mode = .save && s.stepOver .saveFlush then
    s.superStep .saveSuper s.savedCode s.vlt.failedNow (Nat.min 0xFFFFFFFF ((s.chron - s.vlt.saveStart) / 1000))
  else s

/-- SAVE_DONE (R166, R168, R171). -/
def State.saveEnd (s : State) : State :=
  if s.cfg.mode ≠ .save || s.cfg.saveDonePin then s
  else if !s.vaultOn then (if s.quiesced then s.finishSave false else s)
  else if s.stepOver .saveLast then s.finishSave true
  else s

/-! ### Metadata write-behind -/

/-- VAULT_META_WRITEBACK (R165): a dirty unit is written to the vault, in Save too while its drain goes on (R166). -/
def State.metaWriteback (s : State) (u : Nat) : State :=
  let saves := s.cfg.mode == .save && (s.vlt.phase == .quiesce || s.vlt.phase == .drain)
  if s.vaultOn && s.vlt.dirty.contains u && !s.vlt.writing.contains u && s.vlt.running
      && (saves || (s.cfg.mode.serves && !s.dti.down)) then
    let data := s.unitBytes u
    (s.updVlt fun v => { v with dirty := v.dirty.filter (· != u), writing := insertNat v.writing u }).dpPush
      { op := 1, tgt := false, unit := BitVec.ofNat 48 (s.vbase + u), sb := s.unitSideband u data, data := data, owner := .vaultMeta u
        level := if saves then 1 else 3 }
  else s

/-! ### Restore -/

/-- SIGHTING_COMPLETE (R437): its conditions hold; without a vault the image starts empty at once. -/
def State.sightedAll (s : State) : Bool :=
  s.cfg.mode == .sighting && s.cfg.sightDone && s.xready && s.locked && !s.flag 0x000044 31 && !s.cfg.sightingComplete

/-- An empty image starts (R172): the image identity, Log, pins, Waypoint and leaf map; every leaf is ZERO (R174). -/
def State.emptyImage (s : State) : State :=
  let s1 := s.updPlg fun _ => { markOrder := 0, remark := s.plg.remark }
  let s2 := s1.updVlt fun v => { v with
    leafMap := [], dirty := [], waits := [], demands := [], zeroFill := true, chosenRunning := false }
  ((s2.updTwn fun t => { t with image := BitVec.ofNat 64 s.chron }).updDti fun d => { d with segt := [], slots := [] }).updMap fun m =>
    { m with absent := [], restoring := true, walk := 0 }

/-- SIGHTING_COMPLETE (R437, R172, R173 step 1): VLT reads both superblocks. -/
def State.sightingDone (s : State) : State :=
  if !s.sightedAll then s
  else
    let s1 := { s with cfg := { s.cfg with sightingComplete := true } }
    if s.vaultOn then (s1.updVlt fun v => { v with phase := .metaIn }).beginStep .superRead [(0, 2)] else s1.emptyImage

/-- The superblock VLT chooses of two (R172): which, and its fields; none where neither is valid. -/
def chooseSuper (x y : Super) : Option (Bool × Super) :=
  if x.valid && y.valid then some (if x.gen < y.gen then (true, y) else (false, x))
  else if y.valid then some (true, y) else if x.valid then some (false, x) else none

/-- The metadata is read (R172): the remap mirror, the PLG record, the Reach table and the leaf map. -/
def State.readMeta (s : State) : State :=
  let m := s.map.act
  s.beginStep .metaRead [(67, m.leafMapAt - 67), (2, 1), (3, 64), (m.leafMapAt, m.logMirrorAt - m.leafMapAt)]

/-- RESTORE_SUPERBLOCK_READ (R172). -/
def State.superRead (s : State) : State :=
  match s.vlt.job with
  | none => s
  | some j =>
    if j.step ≠ .superRead then s
    else match j.failed with
      | some w => s.vaultInvalid w.1 w.2
      | none =>
        if !s.stepOver .superRead then s
        else
          let x := readSuper (j.unit 0)
          let y := readSuper (j.unit 1)
          if !x.hasMagic && !y.hasMagic then s.updVlt fun v => { v with phase := .waitInit, job := none }
          else match chooseSuper x y with
            | none => s.vaultInvalid 1 0
            | some (second, c) =>
              let s0 := s.updVlt fun v => { v with onMedium := some (second, BitVec.ofNat 64 c.gen) }
              if !s.superFits c then s0.vaultInvalid 2 0
              else
                let s1 := s0.updVlt fun v => { v with
                  sbState := BitVec.ofNat 2 c.state, slot := second, gen := BitVec.ofNat 64 c.gen
                  lastSave := BitVec.ofNat 32 c.saveUs, chosenRunning := c.state == 1 }
                let s2 := if c.state = 1 then (s1.logE 0x0F03 (srcInt 0x0F) 0 c.gen).event 0x0F0100 2 else s1
                s2.readMeta

/-- After an incomplete Save the ABSENT leaves of Reaches the twin is in step for come only from the twin; the others are
suspect (R178). -/
def State.decideSuspect (s : State) : State :=
  if !s.vlt.chosenRunning then s
  else s.updMap fun m => { m with
    absent := m.absent.map fun x => if x.2 = 1 && s.twinInStep (reachOfLeaf x.1) then (x.1, 2) else x }

/-- The contents of the metadata are applied (R172, R174, R313). -/
def State.applyMeta (s : State) (j : VltJob) : State :=
  let m := s.map.act
  let plg := j.unit 2
  let n := plgField plg
  let units (lo hi : Nat) : List (Nat × List Byte) := j.got.filter fun x => decide (lo ≤ x.1) && decide (x.1 < hi)
  let slotBytes (i : Nat) : List Byte := ((j.unit (m.logUnit i)).drop (32 * (i % 128))).take 32
  let codes := (units m.leafMapAt m.logMirrorAt).flatMap fun x => codesOfUnit ((x.1 - m.leafMapAt) * 16384) x.2
  let pool := (units 67 marksUnit).flatMap fun x => pieceBytes 32 x.2
  let spare := (units spareUnit (spareUnit + 1)).flatMap fun x => pieceBytes 32 x.2
  let s1 := s.updPlg fun p => { p with
    w := n 0, d := n 1, a := n 2, i := n 1, pins := plgPins plg, wpl := n 7, wpt := n 8, wpv := n 9
    ring := (natsFrom (n 2) (n 0 - n 2)).map fun i => (i, readLog (slotBytes i)), marks := [], drained := [], drains := [] }
  let s2 := s1.updTwn fun t => { t with
    image := BitVec.ofNat 64 (n 10), peerImage := BitVec.ofNat 64 (n 11), stale := decide (n 12 % 2 = 1) }
  let s3 := s2.updMap fun p => { p with
    reach := (units 3 67).flatMap fun x => reachOfUnit x.1 x.2
    absent := codes.map fun x => (x.1, if x.2 = 1 then 1 else 2), restoring := true, walk := 0 }
  let s4 := s3.carveUnm.updEcc fun e => { e with
    remaps := pool.filterMap readRemap, retired := pool.filterMap readRetired
    marks := (units marksUnit spareUnit).flatMap fun x => (pieceBytes 16 x.2).filterMap readMark
    bindings := spare.filterMap readBinding, migrations := spare.filterMap readMigration }
  let s5 := s4.updSgt fun g => { g with sppr := spare.filterMap readSppr }
  ((s5.updVlt fun v => { v with leafMap := codes }).updDti fun d => { d with
    segt := ((units m.segMirrorAt m.metaEnd).flatMap fun x =>
      ((pieceBytes 32 x.2).zipIdx.map fun b => ((x.1 - m.segMirrorAt) * 128 + b.2, restoreSeg b.1))).filter fun x => x.2 != zeroEntry
    slots := [] }).decideSuspect

/-- RESTORE_METADATA_READ (R172, R173 steps 3 and 4): the RUNNING superblock is written. -/
def State.metaRead (s : State) : State :=
  match s.vlt.job with
  | none => s
  | some j =>
    if j.step ≠ .metaRead && j.step ≠ .logRead then s
    else match j.failed with
      | some w => s.vaultInvalid w.1 w.2
      | none => if s.stepOver .logRead then (s.applyMeta j).superStep .runSuper 1 0 0 else s

/-- The superblock an INIT writes next to is the newer valid one of the medium, where there is one (R164). -/
def State.newestSuper (s : State) : State :=
  s.updVlt fun v => match v.onMedium with
    | some x => { v with sbState := 1, slot := x.1, gen := x.2 }
    | none => { v with sbState := 0, gen := 0 }

/-- VLT_CTL.INIT in WAIT_INIT (R172): every metadata unit is written, then flushed, and then the RUNNING superblock. -/
def State.vltInit (s : State) : State :=
  let m := s.map.act
  (s.emptyImage.newestSuper.updVlt fun v => { v with phase := .metaIn }).beginStep .initUnits [(2, m.metaEnd - 2)]

/-- RESTORE_SERVICE_START (R173 step 5, R174): the RUNNING superblock is durable. -/
def State.serviceStart (s : State) : State :=
  if !s.cfg.sightingComplete || s.cfg.restoreBegun || s.cfg.mode != .sighting || s.cfg.frozen then s
  else if s.vaultOn && !s.stepOver .runFlush then s
  else
    let eager := decide (s.map.act.stageSize * 2 ^ 20 < s.map.act.restoreMap + 64 * 2 ^ 20)
    let s1 := { s with cfg := { s.cfg with restoreBegun := true } }
    let s2 := s1.updVlt fun v => { v with phase := .refill, eager := eager, lazyRun := !eager, job := none }
    (s2.eventIf eager 0x0F0100 8).reeval

/-! ### Refills -/

/-- A row that hPPR repaired leaves the pool: its slot's lines are copied back and the slot is then free (R283). -/
def State.rowBack (s : State) (r : Remap) : State :=
  let m : RowMove := { row := r.row, slot := r.slot, back := true, todo := s.rowTier r.row }
  s.updEcc fun e => { e with moves := e.moves ++ [m] }

/-- Every leaf is PRESENT (R180): RESTORE_DONE, and the mode as TWN requests. -/
def State.restoreDone (s : State) : State :=
  if !s.map.restoring || !s.cfg.restoreBegun || s.leavesLeft ≠ 0 || s.cfg.mode == .save then s
  else
    let s1 := s.updMap fun m => { m with restoring := false, absent := [], walk := 0 }
    let s2 := s1.updVlt fun v => { v with
      phase := .idle, lazyRun := false, eager := false, zeroFill := false, demands := [], job := none, eagerUnit := none }
    let s3 := ((s2.logE 0x0F05 (srcInt 0x0F) 0 0).event 0x0F0100 1)
    let s4 := (s3.ecc.remaps.filter fun r => r.ppr == .done).foldl State.rowBack s3
    ({ s4 with cfg := { s4.cfg with restoreDone := true } }).reeval

/-- A leaf becomes PRESENT (R176): its refill ends with its time. -/
def State.leafPresent (s : State) (leaf src : Nat) : State := ((s.noteRefill leaf src).setLeaf leaf 0).restoreDone

/-- VLT writes a line of a leaf: plaintext zeros, the vault's ciphertext, or poison (R174, R178). -/
def State.refillLine (s : State) (line : Nat) (d : Option Line) (pois : Bool) : State :=
  s.access (.wr { who := .agent 0x0F, line := line, kind := .full, mask := BitVec.allOnes 64, data := 0, pois := pois
                  final := d.map fun x => (x, pois) } .normal true)

/-- The 64 lines of a leaf are written poisoned (R178, R179). -/
def State.poisonLeaf (s : State) (leaf : Nat) : State :=
  (List.range 64).foldl (fun t i => t.refillLine (leaf * 64 + i) none true) s

/-- A leaf's refill from a source (R175, R178). -/
def State.refillFrom (s : State) (leaf : Nat) (demand : Bool) (src : RefillSource) : State :=
  let old := (s.demandOf leaf).getD { leaf := leaf, demand := demand }
  let d : Demand := { old with inFlight := true, source := src.no, since := s.chron, arrived := none }
  let s2 := s.updVlt fun v => { v with demands := (v.demands.filter fun x => x.leaf != leaf) ++ [d] }
  match src with
  | .vault =>
    let s3 := s2.eventIf s.vlt.chosenRunning 0x0F0100 6
    s3.dpPush { op := 0, tgt := false, unit := BitVec.ofNat 48 (s.vbase + s.map.act.leafAreaAt + leaf), owner := .refill leaf
                level := if demand then 1 else 4 }
  | .twin =>
    let id := s.twn.nextFetch % 4096
    ((s2.updTwn fun t => { t with fetches := aput t.fetches id leaf, nextFetch := (id + 1) % 4096 }).ctrlPush
      (ctrlFrame 7 0 0 (BitVec.ofNat 64 leaf) (at_ id 0 12) [])).sendCtrl
  | _ => s2

/-- A leaf's refill starts from its source, once its lines are admitted (R10, R175). -/
def State.startRefill (s : State) (leaf : Nat) (demand : Bool) : State :=
  match s.sourceOf leaf with
  | none => s
  | some src =>
    let v := s.admitAs (.refill leaf) s.refillClass 64
    if v.1.isSome then v.2.refillFrom leaf demand src else v.2

/-- Demand refills start while fewer than DEM_MAX are in flight (R175). -/
def State.startDemands (s : State) : State :=
  s.vlt.demandQueue.foldl (fun t d =>
    if (t.vlt.demands.filter fun x => x.demand && x.inFlight).length < t.demMax && (t.sourceOf d.leaf).isSome && t.cfg.mode.serves
    then t.startRefill d.leaf true else t) s

/-- VLT_RCFG.BG_MAX lets one more background refill start (R175, R184). -/
def State.bgRoom (s : State) : Bool :=
  s.map.restoring && s.cfg.mode.serves && decide ((s.vlt.demands.filter fun d => !d.demand && d.inFlight).length < s.fld 0x0F0004 8 8)

/-- Background refills whose source failed choose again (R175, R181). A leaf that only the twin has, and whose FETCH failed, is
fetched again when the twin is next in step: until then it is remembered. -/
def State.chooseAgain (s : State) : State :=
  (s.vlt.demands.filter fun d => !d.inFlight).foldl (fun t d =>
    let step := t.twinInStep (reachOfLeaf d.leaf)
    let upd (f : Demand → Demand) (u : State) : State := u.updVlt fun v => { v with demands := mapIf v.demands (fun x => x.leaf == d.leaf) f }
    let t1 := if d.fetched && !step && t.leafState d.leaf == 2 then upd (fun x => { x with fetched := false }) t else t
    if d.demand then t1
    else if (t1.sourceOf d.leaf).isSome then (if t1.bgRoom then t1.startRefill d.leaf false else t1)
    else if step then t1
    else t1.updVlt fun v => { v with demands := v.demands.filter fun x => x.leaf != d.leaf }) s

/-- The next leaf the background walk takes (R180): the lowest not PRESENT with a source and no refill. -/
def State.nextLeaf (s : State) : Option Nat :=
  let free (l : Nat) : Bool := (s.demandOf l).isNone && (s.sourceOf l).isSome
  let low := ((s.map.absent.filter fun x => x.2 != 0 && decide (x.1 < s.map.walk)).map fun x => x.1).find? free
  match low with
  | some l => some l
  | none =>
    let n := s.map.absent.length + s.vlt.demands.length + 1
    ((natsFrom s.map.walk n).filter fun l => decide (l < s.map.act.dataLeaves)).find? free

/-- An eager walk has read the leaf-map unit of its next leaf (R174). -/
def State.eagerReady (s : State) (leaf : Nat) : Bool :=
  !s.vlt.eager || !s.vaultOn || s.vlt.eagerUnit == some (s.map.act.leafMapUnit leaf)

/-- An eager walk reads the leaf-map unit of its next leaf, once every write-behind of the unit has been written (R174). -/
def State.eagerAsk (s : State) (leaf : Nat) : State :=
  let u := s.map.act.leafMapUnit leaf
  if s.vlt.job.isSome || s.vlt.dirty.contains u || s.vlt.writing.contains u || s.vlt.waits.contains u then s
  else s.beginStep .eagerRead [(u, 1)]

/-- BACKGROUND_REFILL (R174, R180). -/
def State.backgroundRefill (s : State) : State :=
  if !s.bgRoom then s
  else match s.nextLeaf with
    | none => s
    | some l =>
      if s.map.walk ≤ l && !s.eagerReady l then s.eagerAsk l
      else
        let st := s.leafState l
        let s1 := if l < s.map.walk then s
          else
            let skipped := (natsFrom s.map.walk (l - s.map.walk)).map fun k => (k, s.leafState k)
            let t := (s.setWalk (l + 1)).setLeaf l st
            skipped.foldl (fun t x => t.setLeaf x.1 x.2) t
        s1.startRefill l false

/-- The vault's unit of a leaf passes its tag (R163, R179). -/
def State.leafOpens (s : State) (leaf : Nat) (data : List Byte) (sb : BitVec 256) : Bool :=
  match s.keyOf (s.fld 0x0F0000 16 6) with
  | none => false
  | some k => sbBytes sb 16 8 == natBytes 8 leaf && leafTag (k1 k) (s.leafAad leaf data) == sbTag sb

/-- A leaf is lost (R179). -/
def State.loseLeaf (s : State) (leaf : Nat) : State :=
  let n := s.waitersBefore (.leaf leaf) s.atu.nextNo
  let s1 := (s.poisonLeaf leaf).updVlt fun v => { v with failed := satAdd v.failed 1 }
  ((s1.logE 0x0F04 (srcInt 0x0F) (leafAddr leaf) n).event 0x0F0100 5).leafPresent leaf 1

/-- LEAF_REFILL_DONE (R174, R176, R178, R179): a refill whose data has come. -/
def State.leafRefillDone (s : State) (leaf : Nat) : State :=
  match s.demandOf leaf with
  | none => s
  | some d =>
    if !d.inFlight || s.leafState leaf = 0 then s
    else match d.source with
      | 0 => ((List.range 64).foldl (fun t i => t.refillLine (leaf * 64 + i) none false) s).leafPresent leaf 0
      | 3 => (s.poisonLeaf leaf).leafPresent leaf 3
      | 1 => match d.arrived with
        | none => s
        | some (ok, data, sb) =>
          if ok && s.leafOpens leaf data sb then
            ((List.range 64).foldl (fun t i => t.refillLine (leaf * 64 + i) (some (lineOf data i)) false) (s.cphJob 1 leaf)).leafPresent leaf 1
          else
            let s1 := if ok then s.tagFails else s
            if s1.twinInStep (reachOfLeaf leaf) && !d.fetched then s1.refillFrom leaf d.demand .twin else s1.loseLeaf leaf
      | _ => s

/-- VLT_CTL.RELEASE (R179): every ABSENT_TWIN_ONLY leaf without a source is poisoned and PRESENT. -/
def State.release (s : State) : State :=
  let ls := (s.map.absent.filter fun x => x.2 == 2 && (s.sourceOf x.1).isNone).map fun x => x.1
  if ls.isEmpty then s
  else
    let s1 := ls.foldl (fun t l => (t.poisonLeaf l).setLeaf l 0) s
    let s2 := s1.updVlt fun v => { v with
      failed := satAdd v.failed ls.length, demands := v.demands.filter fun d => !ls.contains d.leaf }
    (((s2.logE 0x0F04 (srcInt 0x0F) 0 ls.length).event 0x0F0100 7).event 0x0F0100 5).restoreDone

end Sys2Proof.Machine
end

