-- ==== Sys2Proof/Machine/Units.lean ====
section
/-! DEFINITION. The shared units: the Mover, the deep-port command slots, the Sounding probe, the Sighting sequencer, the
Bureo control lane and the key port, with their registers in the unit window (R85, R347, R382–R386). -/

namespace Sys2Proof.Machine

/-! ### Lines a unit reads -/

/-- What a unit's read of one line gives: it waits, it ends with a code, or a plaintext line. -/
inductive UnitGet where
  | wait
  | stop (c : Code)
  | got (l : Line)
  deriving DecidableEq, Repr

/-- A read that a write entry answers is counted as forwarded (R189, R205). -/
def State.countForward (s : State) (line : Nat) : State :=
  if (s.writeEntry line).isSome then s.count 2 9 (s.subOf line) 1 else s

/-- A Tier 0 line, once present: deciphered, unless it is poisoned or of a failed rank (R192, R274, R383). -/
def State.unitLine (s : State) (line : Nat) : UnitGet × State :=
  if s.deadLine line then (.stop .errDevice, s.rankHit line)
  else
    let c := s.coherent line
    let t := s.countForward line
    if c.2 then (.stop .poison, t)
    else match s.plain line c.1 with
      | some d => (.got d, t)
      | none => (.stop .errDevice, t)

/-- A state whose counters and trace are those of another: what was read is to be read again. -/
def State.uncounted (t s : State) : State := { t with tel := s.tel, freeCtr := s.freeCtr }

/-- A Tier 0 line waits: its Reach is not current, its leaf is not PRESENT or in the heal table (R128, R176, R277). -/
def State.unitWaits (s : State) (line : Nat) : Bool × State :=
  if s.eagerHold || s.healing line then (true, s)
  else if s.leafState (leafOfLine line) ≠ 0 then (true, (s.joinDemand (leafOfLine line)).2)
  else (false, s)

/-- A unit, or an agent of the block, reads the line at an address (R42, R45, R314, R383); `src` is its SOURCE. -/
def State.unitRead (s : State) (src : BitVec 16) (addr : Nat) : UnitGet × State :=
  match s.region addr with
  | .unmapped | .window _ => (.stop .errAccess, s.noteUnmapped src addr 0)
  | .t0 pa =>
    if s.map.act.inCarve pa then (.stop .errAccess, s.noteCarve src addr 0)
    else if s.reachState (reachOfLine (pa / 64)) = 2 && s.notCurrent (pa / 64) then (.wait, s)
    else
      let w := s.unitWaits (pa / 64)
      if w.1 then (.wait, w.2) else s.unitLine (pa / 64)
  | .t1 g k l =>
    if s.tableVoid then (.got 0, s.count 9 1 0 1)
    else
      let s1 := s.noteSeg g
      match (s.seg g).stateOf with
      | 0 => (.got 0, s1.count 9 1 0 1)
      | 2 => (.stop .poison, s1)
      | _ => match s1.stagedIn g k with
        | some slot => (s1.updSlot slot fun v => { v with ref := true }).unitLine (s.map.act.stageLine slot k l)
        | none => (.wait, (s1.joinFill g k fun _ => false).2)

/-- Lines read in ascending order: all of them, or the first that waits or stops. -/
def State.unitReads (s : State) (src : BitVec 16) (addr n : Nat) : UnitGet × List Line × State :=
  (List.range n).foldl (fun (t : UnitGet × List Line × State) i =>
    match t.1 with
    | .got _ =>
      let r := t.2.2.unitRead src (addr + 64 * i)
      match r.1 with
      | .got l => (t.1, t.2.1 ++ [l], r.2)
      | x => (x, t.2.1, r.2)
    | _ => t) (.got 0, [], s)

/-! ### Admission of an instance's lines (R10, R295, R298) -/

/-- Lines of an instance that BWR has admitted ahead. -/
def State.paidLines (s : State) (inst : Nat) : Nat := match aget s.sua.paid inst with | some p => p.1 | none => 0

/-- One more line of an instance is admitted, or held at the instance. -/
def State.payOne (s : State) (inst cls charge : Nat) : Bool × State :=
  let a := s.admitAs (.unit inst) cls charge
  match a.1 with
  | none => (false, a.2)
  | some l => (true, a.2.updSua fun u => { u with paid := aput u.paid inst (a.2.paidLines inst + 1, l) })

/-- The lines an instance goes on with are admitted one by one, each with its charge, those admitted before not again:
whether all of them are (entry 71). -/
def State.pay (s : State) (inst cls : Nat) (charges : List Nat) : Bool × State :=
  (charges.drop (s.paidLines inst)).foldl (fun t c => if t.1 then t.2.payOne inst cls c else t) (true, s)

/-- The lines admitted for an instance are used. -/
def State.spend (s : State) (inst : Nat) : State := (s.updSua fun u => { u with paid := adel u.paid inst }).unkeep (.unit inst)

/-- The level an instance's admitted lines go on at. -/
def State.paidLevel (s : State) (inst : Nat) : Level := match aget s.sua.paid inst with | some p => p.2 | none => .normal

/-! ### Lines a unit writes -/

/-- What becomes of a unit's write of one line. -/
inductive UnitPut where
  | wait
  | stop (c : Code)
  | fwd (line : Nat)
  | ok (line : Nat)
  deriving DecidableEq, Repr

/-- Where a write of a unit goes (R42, R45, R65, R128, R176, R383); `raw` lines come as ciphertext and need no key, unless
they are forwarded. -/
def State.unitDest (s : State) (e : EngineNo) (addr : Nat) (raw : Bool) : UnitPut × State :=
  match s.region addr with
  | .unmapped | .window _ => (.stop .errAccess, s.noteUnmapped (srcMover e) addr 0)
  | .t1 _ _ _ => (.stop .errAccess, s.noteT1Write (srcMover e) addr 0)
  | .t0 pa =>
    let line := pa / 64
    if s.map.act.inCarve pa then (.stop .errAccess, s.noteCarve (srcMover e) addr 0)
    else
      let r := reachOfLine line
      let twin := s.reachState r == 2
      if twin && !s.forwards r then (.stop .errOwner, s)
      else
        let w := s.unitWaits line
        if w.1 then (.wait, w.2)
        else if raw && twin && s.xtsKey.isNone then (.stop .errDevice, s)
        else if twin then (if s.forwardRoom then .fwd line else .wait, s)
        else if s.deadLine line then (.stop .errDevice, s.rankHit line)
        else if !raw && s.xtsKey.isNone then (.stop .errDevice, s)
        else (.ok line, s)

/-- The write of an instance to one line; `final` gives ciphertext that is to be stored as it is. -/
def unitJob (e : EngineNo) (inst line : Nat) (mask : BitVec 64) (d : Line) (pois : Bool) (final : Option Line) (q : Asked) :
    WJob :=
  { who := .mover e, line := line, kind := if mask = BitVec.allOnes 64 then .full else .partialWrite, mask := mask, data := d
    pois := pois, seq := inst, final := final.map fun c => (c, false), asked := q }

/-- A unit writes one line, unless it has to wait or stop. -/
def State.unitWrite (s : State) (e : EngineNo) (inst addr : Nat) (mask : BitVec 64) (d : Line) (pois : Bool)
    (final : Option Line) (level : Level) : UnitPut × State :=
  let r := s.unitDest e addr final.isSome
  let q : Asked := { addr := addr, since := s.chron, level := level }
  match r.1 with
  | .fwd line => (r.1, r.2.forward (unitJob e inst line mask d pois none q))
  | .ok line => (r.1, r.2.access (.wr (unitJob e inst line mask d pois final q) level false))
  | .stop c => (r.1, r.2.traceMover e q c)
  | .wait => r

/-- Whether every line of a range can be written now: the first that cannot. -/
def State.unitDests (s : State) (e : EngineNo) (addr n : Nat) (raw : Bool) : UnitPut × State :=
  (List.range n).foldl (fun (t : UnitPut × State) i =>
    match t.1 with
    | .ok _ | .fwd _ => t.2.unitDest e (addr + 64 * i) raw
    | _ => t) (.ok 0, s)

/-- Lines of an instance that are handed over and not yet performed. -/
def State.unitOut (s : State) (inst : Nat) : Bool :=
  (s.jobOut fun j => j.seq == inst && (match j.who with | .mover _ => true | _ => false))
  || s.twn.forwards.any fun f => f.tag == inst && (match f.who with | .mover _ => true | _ => false)

/-! ### BUSY and DONE -/

/-- An instance becomes BUSY. -/
def State.unitBusy (s : State) (inst : Nat) : State :=
  let b := busyAt inst
  (s.setUnitReg inst b.1 (BitVec.ofNat 64 (2 ^ b.2))).updSua fun u =>
    { u with busy := insertNat u.busy inst, faults := adel u.faults inst }

/-- The operation of an instance. -/
def State.moveOf (s : State) (inst : Nat) : Option Move := s.sua.moves.find? fun m => m.inst == inst

/-- The state with the operation of an instance. -/
def State.setMove (s : State) (m : Move) : State :=
  s.updSua fun u => { u with moves := (u.moves.filter fun x => x.inst != m.inst) ++ [m] }

/-- MV_STAT of an operation (R382). -/
def Move.stat64 (m : Move) (busy done_ : Bool) (code : Code) : DWord :=
  BitVec.ofNat 64 ((if busy then 2 ^ 63 else 0) + (if done_ then 2 ^ 62 else 0) + code.bits.toNat * 2 ^ 58
    + m.pois % 2 ^ 27 * 2 ^ 31 + m.pos % 2 ^ 27)

/-- The first error of an operation: that of a line handed over, which precedes the line it stopped at, else its own. -/
def State.moveCode (s : State) (m : Move) : Code := match aget s.sua.faults m.inst with | some f => f.2 | none => m.code

/-- The operation with LINES_DONE not past the first line that failed (R383). -/
def State.moveDone (s : State) (m : Move) : Move :=
  match aget s.sua.faults m.inst with
  | some f => { m with pos := Nat.min m.pos (f.1 - m.dst / 64) }
  | none => m

/-! ### The Mover (R383) -/

/-- The ranges of a copy overlap. -/
def rangesMeet (a b n : Nat) : Bool := decide (a < b + 64 * n) && decide (b < a + 64 * n)

/-- A destination range that GO refuses: Tier 1 or the carve region, or not aligned (R383). -/
def State.badDest (s : State) (dst n : Nat) : Bool :=
  dst % 64 != 0
    || (match s.region dst, s.region (dst + 64 * n - 64) with
      | .t1 _ _ _, _ => true
      | _, .t1 _ _ _ => true
      | .t0 _, .t0 b => s.map.act.inCarve b
      | _, _ => false)

/-- A destination in Tier 1 or in the carve region is recorded as every access there is (R42, R45), with the first address
of the range, or the carve region's where the range begins below it. -/
def State.noteDest (s : State) (e : EngineNo) (dst n : Nat) : State :=
  match s.region dst, s.region (dst + 64 * n - 64) with
  | .t1 _ _ _, _ => s.noteT1Write (srcMover e) dst 0
  | _, .t1 _ _ _ => s.noteT1Write (srcMover e) dst 0
  | .t0 _, .t0 b =>
    if s.map.act.inCarve b then s.noteCarve (srcMover e) (Nat.max dst (s.map.act.carveBase * 2 ^ 30)) 0 else s
  | _, _ => s

/-- The source of a seal is not aligned, or its length is not that of a segment (R382). -/
def badSeal (src n : Nat) : Bool := src % 2 ^ 21 != 0 || n != 32768

/-- The operation MV_GO finds in a channel's registers. -/
def State.moveAsked (s : State) (inst : Nat) (e : EngineNo) (op : Nat) : Move :=
  { inst := inst, engine := e, op := op, src := (s.unitReg inst 0x08).toNat, dst := (s.unitReg inst 0x10).toNat
    len := (s.unitReg inst 0x18).toNat, pat := s.unitReg inst 0x20 }

/-- The deep-port slot a seal needs (R383). -/
def State.sealSlot (s : State) (e : EngineNo) : Option Nat :=
  match s.heldInst e 1 with
  | some d => if s.busyInst d then none else some d
  | none => none

/-- MV_GO.GO with an operation code (R383): it starts, or is refused with CODE ERR_ACCESS and moves nothing. -/
def State.moverGo (s : State) (inst : Nat) (e : EngineNo) (op : Nat) : State :=
  let m := s.moveAsked inst e op
  let refuse : State := s.setUnitReg inst 0x30 ({ m with pos := 0 }.stat64 false true .errAccess)
  let start : State := (s.unitBusy inst).setMove m
  let badLen := m.len == 0 || decide (2 ^ 26 ≤ m.len)
  match op with
  | 0 =>
    if badLen || m.src % 64 != 0 || rangesMeet m.src m.dst m.len then refuse
    else if s.badDest m.dst m.len then refuse.noteDest e m.dst m.len
    else start
  | 1 => if badLen then refuse else if s.badDest m.dst m.len then refuse.noteDest e m.dst m.len else start
  | 2 =>
    match s.sealSlot e with
    | none => refuse
    | some d =>
      if badSeal m.src m.len || bitsOf m.dst 31 32 != 0 then refuse
      else
        let r := s.sealStart (bitsOf m.dst 0 31) inst d (m.dst.testBit 63)
        if r.1 then ((r.2.unitBusy inst).unitBusy d).setMove m else refuse
  | _ => refuse

/-- MV_GO.ABORT (R328, R382): the channel stops; lines handed over are performed. -/
def State.moverAbort (s : State) (inst : Nat) : State :=
  match s.moveOf inst with
  | none => s
  | some m =>
    match s.dti.seals.find? fun l => l.chan == inst with
    | some l => s.sealFails l 0
    | none => s.unitEnds inst 0x30 ((s.moveDone m).stat64 false false (s.moveCode m))

/-- The value a FILL writes (R382). -/
def fillLine (pat : DWord) : Line := bytesLine ((List.range 8).flatMap fun _ => natBytes 8 pat.toNat)

/-- The line a copy or fill writes next (R274, R383): a poisoned source line, or one of a failed rank, is written
poisoned. -/
def State.moveSource (s : State) (m : Move) : UnitGet × Bool × State :=
  if m.op = 1 then (.got (fillLine m.pat), false, s)
  else
    let addr := m.src + 64 * m.pos
    let r := s.unitRead (srcMover m.engine) addr
    let traced (c : Code) : State := r.2.traceMover m.engine { addr := addr, since := s.chron } c
    match r.1 with
    | .stop .poison => (.got 0, true, traced .poison)
    | .stop .errDevice => (.got 0, true, traced .errDevice)
    | .stop c => (.stop c, false, traced c)
    | .got l => (.got l, false, traced .ok)
    | .wait => (.wait, false, r.2)

/-- The next line of a copy or fill is handed over once its class admits it (R296, R298); answers whether the channel
goes on. -/
def State.moveLine (s : State) (m : Move) : Bool × Move × State :=
  let g := s.moveSource m
  match g.1 with
  | .wait => (false, m, g.2.2)
  | .stop c => (false, { m with code := c, handed := true }, g.2.2)
  | .got d =>
    let cls := g.2.2.moverClass
    let charge := if m.op = 1 then 1 else 2
    let a := g.2.2.admitAs (.unit m.inst) cls charge
    match a.1 with
    | none => (false, m, ((g.2.2.uncounted s).admitAs (.unit m.inst) cls charge).2)
    | some l =>
      let r := a.2.unitWrite m.engine m.inst (m.dst + 64 * m.pos) (BitVec.allOnes 64) d g.2.1 none l
      match r.1 with
      | .wait => (false, m, { r.2 with bwr := g.2.2.bwr, tel := s.tel, freeCtr := s.freeCtr })
      | .stop c => (false, { m with code := c, handed := true }, r.2)
      | _ => (true, { m with pos := m.pos + 1, pois := m.pois + (if g.2.1 then 1 else 0) }, r.2)

/-- Lines of an instance that are handed over and not yet performed, as a number. -/
def State.unitFlight (s : State) (inst : Nat) : Nat :=
  let mine (who : Requester) (n : Nat) : Bool := n == inst && (match who with | .mover _ => true | _ => false)
  (s.atu.parked.filter fun a => match a with | .wr j _ _ => mine j.who j.seq | .rd _ _ _ _ _ => false).length
    + (s.twn.forwards.filter fun f => mine f.who f.tag).length

/-- The lines of a copy or fill are handed over in ascending order, up to 32 of them in flight, until one has to wait or
stops the channel, or one handed over has failed (R383). -/
def State.moveLines (s : State) (m : Move) (fuel : Nat) : Move × State :=
  match fuel with
  | 0 => ({ m with handed := true }, s)
  | k + 1 =>
    if (aget s.sua.faults m.inst).isSome then ({ m with handed := true }, s)
    else if 32 ≤ s.unitFlight m.inst then (m, s)
    else
    let r := s.moveLine m
    if r.1 then r.2.2.moveLines r.2.1 k else (r.2.1, r.2.2)

/-- The 32,768 lines of a seal are read and its WRITEs formed (R327): it waits for a line that is not present, and fails
at one that may not become ordinary data (R274). -/
def State.sealRead (s : State) (m : Move) (l : Seal) : State :=
  let r := s.unitReads (srcMover m.engine) m.src 32768
  match r.1 with
  | .wait => r.2.2.uncounted s
  | .stop _ => (r.2.2.spend m.inst).sealFails l 0
  | .got _ =>
    let p := r.2.2.pay m.inst r.2.2.moverClass (List.replicate 32768 1)
    if !p.1 then ((r.2.2.uncounted s).pay m.inst r.2.2.moverClass (List.replicate 32768 1)).2
    else if r.2.2.segKey.isNone then (p.2.spend m.inst).sealFails l 0
    else ((p.2.spend m.inst).setMove { m with handed := true, pos := 32768 }).sealWrites l r.2.1

/-- MOVER_DONE: the channel's lines are handed over as far as they can be, and once every one is performed DONE is
set. -/
def State.moverDone (s : State) (ch : Nat) : State :=
  match s.moveOf ch with
  | none => s
  | some m =>
    match s.dti.seals.find? fun l => l.chan == ch with
    | some l => if m.handed then s else s.sealRead m l
    | none =>
      let r := if m.handed then (m, s) else s.moveLines m (m.len - m.pos)
      let t := r.2.setMove r.1
      if r.1.handed && !t.unitOut ch then t.unitEnds ch 0x30 ((t.moveDone r.1).stat64 false true (t.moveCode r.1))
      else t.setUnitReg ch 0x30 (r.1.stat64 true false (t.moveCode r.1))

/-! ### Deep-port slots (R384) -/

/-- The sideband of a slot's unit (R384). -/
def slotSideband (leaf : Nat) (data : List Byte) : BitVec 256 :=
  sideband 0 (leaf + 2 ^ 61) 0 (crc32c (data ++ natBytes 8 (leaf + 2 ^ 61) ++ natBytes 4 0))

/-- DP_STAT of a slot. -/
def slotStat (code : Code) (stat : Nat) : DWord := doneStat code.bits.toNat stat

/-- DP_GO (R384): the operation starts, or is refused; a WRITE's buffer is read once its lines are present. A buffer that is
no mapped Tier 0 line ends the operation at the line that meets it (R34, R35, R45). -/
def State.slotGo (s : State) (inst : Nat) (e : EngineNo) (op : Nat) : State :=
  let unit := (s.unitReg inst 0x08).toNat
  let buf := (s.unitReg inst 0x10).toNat
  let base := s.reg64 0x340008
  let inRange := decide (base ≤ unit) && decide (unit < base + (s.reg 0x340010).toNat)
  let bufOk := op == 2 || buf % 4096 == 0
  if !inRange || op = 3 || !bufOk then
    (s.setUnitReg inst 0x20 (slotStat .errAccess 0)).eventIf (!inRange) 0x340300 2
  else
    let tgt := (s.unitReg inst 0x00).getLsbD 4
    let m : Move := { inst := inst, engine := e, op := op, src := unit, dst := buf, len := if tgt then 1 else 0, pat := 0
                      handed := op != 1, cmd := s.dti.nextCmd }
    let t := (s.unitBusy inst).setMove m
    if op = 1 then t
    else t.dpPush { op := if op = 0 then 0 else 2, tgt := tgt, unit := BitVec.ofNat 48 unit, owner := .slot inst m.cmd, level := 4 }

/-- The slot's operation ends. -/
def State.slotEnds (s : State) (inst : Nat) (code : Code) (stat : Nat) : State := s.unitEnds inst 0x20 (slotStat code stat)

/-- A Tier 0 line read as ciphertext, which needs no key (R384), at an address; one that is not Tier 0 or lies in the carve
region is refused as every Mover access is (R34, R35, R45). -/
def State.cipherLine (s : State) (e : EngineNo) (addr : Nat) : UnitGet × State :=
  let line := addr / 64
  match s.region addr with
  | .unmapped | .window _ => (.stop .errAccess, s.noteUnmapped (srcMover e) addr 0)
  | .t1 _ _ _ => (.stop .errAccess, s)
  | .t0 pa =>
  if s.map.act.inCarve pa then (.stop .errAccess, s.noteCarve (srcMover e) addr 0)
  else if s.reachState (reachOfLine line) = 2 && s.notCurrent line then (.wait, s)
  else
    let w := s.unitWaits line
    if w.1 then (.wait, w.2)
    else if s.deadLine line then (.stop .errDevice, s.rankHit line)
    else
      let c := s.coherent line
      (if c.2 then .stop .poison else .got c.1, s.countForward line)

/-- Lines read as ciphertext in ascending order: all of them, or the first that waits or stops. -/
def State.cipherLines (s : State) (e : EngineNo) (addr n : Nat) : UnitGet × List Line × State :=
  (List.range n).foldl (fun (t : UnitGet × List Line × State) i =>
    match t.1 with
    | .got _ =>
      let r := t.2.2.cipherLine e (addr + 64 * i)
      match r.1 with
      | .got l => (t.1, t.2.1 ++ [l], r.2)
      | x => (x, t.2.1, r.2)
    | _ => t) (.got 0, [], s)

/-- The WRITE of a slot reads its buffer as ciphertext and is issued (R384). -/
def State.slotWrite (s : State) (m : Move) : State :=
  let r := s.cipherLines m.engine m.dst 64
  match r.1 with
  | .wait => r.2.2.uncounted s
  | .stop c => (r.2.2.spend m.inst).slotEnds m.inst c 0
  | .got _ =>
    let p := r.2.2.pay m.inst r.2.2.moverClass (List.replicate 64 1)
    if !p.1 then ((r.2.2.uncounted s).pay m.inst r.2.2.moverClass (List.replicate 64 1)).2
    else
    let t := p.2.spend m.inst
    let data := r.2.1.flatMap lineBytes
    (t.setMove { m with handed := true, cmd := t.dti.nextCmd }).dpPush
      { op := 1, tgt := m.len == 1, unit := BitVec.ofNat 48 m.src, sb := slotSideband (m.dst / 4096) data, data := data
        owner := .slot m.inst t.dti.nextCmd, level := 4 }

/-- The unit a READ brought is the one its buffer was saved as (R384). -/
def slotGood (leaf : Nat) (data : List Byte) (sb : BitVec 256) : Bool :=
  sbBytes sb 16 8 == natBytes 8 (leaf + 2 ^ 61)
    && sbBytes sb 28 4 == natBytes 4 (crc32c (data ++ sbBytes sb 16 12)).toNat

/-- The command of a slot has completed (R384): a READ's unit is checked and its lines are written once each can be. -/
def State.slotArrived (s : State) (m : Move) (stat : Nat) (data : List Byte) (sb : BitVec 256) : State :=
  let drop (t : State) : State := t.updSua fun u => { u with arrived := u.arrived.filter fun a => a.1 != m.inst }
  if stat ≠ 0 then (drop s).slotEnds m.inst .errDevice stat
  else if m.op ≠ 0 then (drop s).slotEnds m.inst .ok 0
  else if m.pos = 64 then
    if s.unitOut m.inst then s else (drop s).slotEnds m.inst (s.moveCode m) 0
  else if !slotGood (m.dst / 4096) data sb then (drop s).slotEnds m.inst .errDevice 0
  else
    let r := s.unitDests m.engine m.dst 64 true
    match r.1 with
    | .wait => r.2
    | .stop c => (drop (r.2.spend m.inst)).slotEnds m.inst c 0
    | _ =>
      let p := r.2.pay m.inst r.2.moverClass (List.replicate 64 1)
      if !p.1 then p.2
      else
      let level := p.2.paidLevel m.inst
      let t := (List.range 64).foldl (fun t i =>
        let c := lineOf data i
        (t.unitWrite m.engine m.inst (m.dst + 64 * i) (BitVec.allOnes 64) ((t.plain (m.dst / 64 + i) c).getD 0) false (some c) level).2)
        (p.2.spend m.inst)
      t.setMove { m with pos := 64 }

/-- The deep-port slots go on. -/
def State.pumpSlots (s : State) : State :=
  (s.sua.moves.filter fun m => decide (8 ≤ m.inst)).foldl (fun t m =>
    if !m.handed then t.slotWrite m
    else match t.sua.arrived.find? fun a => a.1 == m.inst with
      | some (_, st, d, sb) => t.slotArrived m st d sb
      | none => t) s

/-! ### Sounding probe and Sighting sequencer (R385) -/

/-- SD_PROBE (R385): one background Sounding read; a line whose leaf is not PRESENT, or that is no Tier 0 line, is
skipped. -/
def State.probe (s : State) (addr : Nat) : State :=
  match s.region addr with
  | .t0 pa =>
    if s.leafState (leafOfLine (pa / 64)) = 0 then (s.unitBusy 24).updEcc fun e => { e with probe := some (pa / 64) }
    else s.setUnitReg 24 0x08 4
  | _ => s.setUnitReg 24 0x08 4

/-- The chip select is present in its subchannel and its rank has not failed (R385). -/
def State.csServes (s : State) (c : Sub) (cs : Nat) : Bool :=
  s.csen c cs
    && (match s.rankOfCs (c / 2) cs with
      | some r => bitsOf (agetD s.ecc.rankFail c 0) r 1 == 0
      | none => true)

/-- SG_REQ (R248, R385): refused, joined, or placed with its outcome still to come. -/
def State.sgReq (s : State) (e : EngineNo) (v : Nat) : State :=
  let c : Sub := Fin.ofNat 32 (2 * bitsOf v 16 4 + bitsOf v 12 1)
  let cs := bitsOf v 8 2
  let kind := bitsOf v 0 2
  if kind = 0 || !s.csServes c cs then s.setUnitReg 25 0x08 3
  else if s.sgt.resights.any fun r => r.sub == c && r.cs == cs then
    (s.askResight c cs (kind % 2 == 1) (decide (2 ≤ kind)) false none).setUnitReg 25 0x08 1
  else (s.unitBusy 25).askResight c cs (kind % 2 == 1) (decide (2 ≤ kind)) false (some e)

/-! ### Bureo control lane (R386) -/

/-- BC_GO (R153, R386): the message goes out as one CTRL frame while the link is UP; refused otherwise. -/
def State.bcGo (s : State) (e : EngineNo) : State :=
  let n := bitsOf (s.unitReg 26 0x10).toNat 0 9
  let at_ := bitsOf (s.unitReg 26 0x08).toNat 0 18
  if !s.linkUp || n = 0 || 256 < n || 0x40000 < at_ + n then
    s.setUnitReg 26 0x20 (BitVec.ofNat 64 ((s.unitReg 26 0x20).toNat % 65536))
  else
    let dest := bitsOf (s.unitReg 26 0x00).toNat 0 6
    let f := ctrlFrame 8 0 0 (BitVec.ofNat 64 e.val) (BitVec.ofNat 32 dest) (memBytes (s.engine e).dmem at_ n)
    let old := (s.unitReg 26 0x20).toNat % 65536
    ((((s.unitBusy 26).setUnitReg 26 0x20 (BitVec.ofNat 64 (2 ^ 31 + old))).ctrlPush f (some e))).sendCtrl

/-! ### Key port unit (R386) -/

/-- KJ_STAT with DONE and a code. -/
def kjDone (code : Nat) : DWord := BitVec.ofNat 64 (2 ^ 30 + code)

/-- A job's IV lies in the block's own spaces (R349, R386). -/
def ivTaken (iv : Nat) : Bool := decide (1 ≤ iv / 2 ^ 92) && decide (iv / 2 ^ 92 ≤ 3)

/-- KJ_GO with OP ZERO (R347, R386). -/
def State.kjZero (s : State) (k : Fin 64) : State :=
  if s.boundSlot k || k.val = s.sessionSlot then s.setUnitReg 27 0x60 (kjDone 2)
  else (s.zeroSlot k).setUnitReg 27 0x60 (kjDone 0)

/-- The tag in KJ_TAG0–3 (R382). -/
def State.kjTag (s : State) : Nat := beNat ((leBytes 8 (s.unitReg 27 0x48).toNat) ++ (leBytes 8 (s.unitReg 27 0x50).toNat))

/-- The tag is written to KJ_TAG0–3. -/
def State.setKjTag (s : State) (tag : Nat) : State :=
  let b := beBytes 16 tag
  (s.setUnitReg 27 0x48 (BitVec.ofNat 64 (leNat (b.take 8)))).setUnitReg 27 0x50 (BitVec.ofNat 64 (leNat (b.drop 8)))

/-- KJ_GO of a GCM or GMAC job (R353, R386): 1 GCM_ENC, 2 GCM_DEC, 3 GMAC. A length out of range, or an address that is not
aligned as R382 has it, is refused as a wrong IV is (DEDUCED, entry 80). -/
def State.kjGo (s : State) (e : EngineNo) (op : BitVec 2) (k : Fin 64) : State :=
  let r (off : Nat) : Nat := (s.unitReg 27 off).toNat
  let iv := r 0x08 % 2 ^ 32 + r 0x10 % 2 ^ 32 * 2 ^ 32 + r 0x18 % 2 ^ 32 * 2 ^ 64
  let badLen := op != 3 && (r 0x40 % 16 != 0 || r 0x40 == 0 || decide (4096 < r 0x40))
  let crooked := r 0x20 % 64 != 0 || (op != 3 && (r 0x30 % 64 != 0 || r 0x38 % 64 != 0))
  if ivTaken iv || badLen || crooked || 4096 < r 0x28 then s.setUnitReg 27 0x60 (kjDone 2)
  else if !(s.keySlot k).loaded then s.setUnitReg 27 0x60 (kjDone 3)
  else
    let j : KeyJob :=
      { engine := e, op := op, slot := k, key := (s.keySlot k).key, iv := iv, aad := r 0x20, aadLen := r 0x28
        src := r 0x30, dst := r 0x38, len := r 0x40, tag := s.kjTag }
    ((s.unitBusy 27).updCph fun c => { c with jobs := c.jobs ++ [j] }).qIn (.cphJob 5) iv

/-- n bytes from an address as an engine's unit reads them. -/
def State.unitFetch (s : State) (e : EngineNo) (addr n : Nat) : UnitGet × List Byte × State :=
  let r := s.unitReads (srcEngine e) addr ((n + 63) / 64)
  (r.1, (r.2.1.flatMap lineBytes).take n, r.2.2)

/-- The state with the key port's job in progress changed. -/
def State.setJob (s : State) (j : KeyJob) : State := s.updCph fun c => { c with jobs := j :: c.jobs.drop 1 }

/-- The number that stands for the lines a key port job reads, beside 27 for those it writes. -/
def jobReads : Nat := 28

/-- The key port's job ends with a code. -/
def State.jobEnds (s : State) (code : Nat) : State :=
  ((((s.spend 27).spend jobReads).updCph fun c => { c with jobs := c.jobs.drop 1 }).qOut (.cphJob 5)).unitEnds 27 0x60 (kjDone code)

/-- The bytes a job puts out, and its tag where it makes one; none where its tag fails (R355, R386). -/
def KeyJob.run (j : KeyJob) (aad data : List Byte) : Option (List Byte × Option Nat) :=
  let a := aad.map (·.toNat)
  let d := data.map (·.toNat)
  let key := k1 j.key
  if j.op = 1 then
    let r := gcmEncrypt key j.iv a d
    some (r.1.map (BitVec.ofNat 8), some r.2)
  else if j.op = 2 then (gcmDecrypt key j.iv a d j.tag).map fun p => (p.map (BitVec.ofNat 8), none)
  else some ([], some (gcmTag key j.iv a []))

/-- The output of a job is written line by line as Mover writes (R386). -/
def State.keyOut (s : State) (j : KeyJob) (out : List Byte) (level : Level) : State :=
  (List.range ((out.length + 63) / 64)).foldl (fun t i =>
    let b := (out.drop (64 * i)).take 64
    (t.unitWrite j.engine 27 (j.dst + 64 * i) (byteMask 0 b.length) (bytesLine b) false none level).2) s

/-- The charges of the lines a job writes (R296): the last one is a partial write where the length is no multiple of 64. -/
def outCharges (j : KeyJob) : List Nat :=
  if j.op = 3 then [] else List.replicate (j.len / 64) 1 ++ (if j.len % 64 = 0 then [] else [2])

/-- The lines a job reads are admitted to its engine's class, then those it writes to the Mover's (R10). -/
def State.payJob (s : State) (j : KeyJob) : Bool × State :=
  let n := (j.aadLen + 63) / 64 + (if j.op = 3 then 0 else (j.len + 63) / 64)
  let p := s.pay jobReads (s.engineClass j.engine) (List.replicate n 1)
  if p.1 then p.2.pay 27 p.2.moverClass (outCharges j) else p

/-- KEY_JOB_DONE (R354, R355, R386): a suspended job resumes first; the oldest job runs once its lines are present, and ends once its output is performed. -/
def State.keyJobDone (s0 : State) : State :=
  let s := s0.resumeJob
  match s.cph.jobs with
  | [] => s
  | j :: _ =>
    if j.aborted then s.jobEnds 1
    else if j.handed then (if s.unitOut 27 then s else s.jobEnds (if (aget s.sua.faults 27).isSome then 2 else j.code))
    else
      let a := s.unitFetch j.engine j.aad j.aadLen
      let d := if j.op = 3 then (UnitGet.got 0, [], a.2.2) else a.2.2.unitFetch j.engine j.src j.len
      let w := if j.op = 3 then (UnitPut.ok 0, d.2.2) else d.2.2.unitDests j.engine j.dst ((j.len + 63) / 64) false
      match a.1, d.1, w.1 with
      | .wait, _, _ => a.2.2.uncounted s
      | _, .wait, _ => d.2.2.uncounted s
      | _, _, .wait => w.2.uncounted s
      | .stop _, _, _ => a.2.2.jobEnds 2
      | _, .stop _, _ => d.2.2.jobEnds 2
      | _, _, .stop _ => w.2.jobEnds 2
      | _, _, _ =>
        let o := w.2.payJob j
        if !o.1 then ((w.2.uncounted s).payJob j).2
        else match j.run a.2.1 d.2.1 with
        | none => o.2.tagFails.jobEnds 1
        | some (out, tag) =>
          let t := match tag with | some x => o.2.setKjTag x | none => o.2
          let t2 := ((t.spend 27).setJob { j with handed := true }).keyOut j out (o.2.paidLevel 27)
          if t2.unitOut 27 then t2 else t2.jobEnds (if (aget t2.sua.faults 27).isSome then 2 else 0)

/-! ### The unit window (R85, R374, R375, R382) -/

/-- Offsets of the registers of a unit's page, in 8-byte words: readable, writable as data. -/
def unitMap (u : Nat) : List (Nat × Bool × Bool) :=
  match u with
  | 0 => [(0x00, true, true), (0x08, true, true), (0x10, true, true), (0x18, true, true), (0x20, true, true),
      (0x28, false, false), (0x30, true, false)]
  | 1 => [(0x00, true, true), (0x08, true, true), (0x10, true, true), (0x18, false, false), (0x20, true, false)]
  | 2 | 3 => [(0x00, false, false), (0x08, true, false)]
  | 4 => [(0x00, true, true), (0x08, true, true), (0x10, true, true), (0x18, false, false), (0x20, true, false)]
  | _ => [(0x00, true, true), (0x08, true, true), (0x10, true, true), (0x18, true, true), (0x20, true, true),
      (0x28, true, true), (0x30, true, true), (0x38, true, true), (0x40, true, true), (0x48, true, true), (0x50, true, true),
      (0x58, false, false), (0x60, true, false)]

/-- An answer to a device access: a code and the data of a load. -/
abbrev DevAnswer := Code × DWord

/-- The part of an 8-byte word a device access names. -/
def devPart (w : DWord) (off size : Nat) : DWord := if size = 8 then w else (w >>> (8 * (off % 8))) &&& 0xFFFFFFFF

/-- An 8-byte word with the part a device access names replaced. -/
def devPut (w : DWord) (off size : Nat) (v : DWord) : DWord :=
  if size = 8 then v
  else if off % 8 = 0 then (w &&& 0xFFFFFFFF00000000) ||| (v &&& 0xFFFFFFFF)
  else (w &&& 0xFFFFFFFF) ||| (v <<< 32)

/-- Where a device access leads: an arbiter word, or a register of an instance the engine holds, which may have failed. -/
inductive DevAt where
  | failed
  | request (u : Nat)
  | release (u : Nat)
  | reg (inst off : Nat) (rd wr : Bool)
  | none
  deriving DecidableEq, Repr

/-- Decode of a unit-window offset for an engine (R85, R374, R375): access size, alignment, grant, then whether the unit has
failed. No rule says what makes a unit fail: the failed instances are part of the state, none at reset (entry 72). -/
def State.devAt (s : State) (e : EngineNo) (off size : Nat) : DevAt :=
  if !(size == 4 || size == 8) || off % size != 0 then .none
  else if off < 0x60 && size = 4 then
    (if off % 16 = 0 then .request (off / 16) else if off % 16 = 8 then .release (off / 16) else .none)
  else if 0x10000 ≤ off && decide (off < 0x2C000) then
    let inst := (off - 0x10000) / 0x1000
    let o := off % 0x1000
    if s.heldInst e (unitOf inst) ≠ some inst then .none
    else if s.sua.failed.contains inst then .failed
    else match (unitMap (unitOf inst)).find? fun x => x.1 == o / 8 * 8 with
      | some (_, rd, wr) => .reg inst o rd wr
      | none => .none
  else .none

/-- A device load (R85). -/
def State.devLoad (s : State) (e : EngineNo) (off size : Nat) : DevAnswer :=
  match s.devAt e off size with
  | .request u => (.ok, (s.requestWord e u).setWidth 64)
  | .release _ => (.ok, 0)
  | .reg inst o rd _ => (.ok, if rd then devPart (s.unitReg inst (o / 8 * 8)) o size else 0)
  | .failed => (.errDevice, 0)
  | .none => (.errAccess, 0)

/-- A GO or command word of a unit is written (R382): an instance that is BUSY answers ERR_ACCESS. -/
def State.unitGo (s : State) (e : EngineNo) (inst o : Nat) (v : Nat) : Code × State :=
  let busy := s.busyInst inst
  let go (t : State) : Code × State := if busy then (.errAccess, s) else (.ok, t)
  match unitOf inst with
  | 0 =>
    if v.testBit 1 then (.ok, s.moverAbort inst)
    else if v.testBit 0 then go (s.moverGo inst e (bitsOf (s.unitReg inst 0x00).toNat 0 2)) else (.ok, s)
  | 1 => if v.testBit 0 then go (s.slotGo inst e (bitsOf (s.unitReg inst 0x00).toNat 0 2)) else (.ok, s)
  | 2 => if o = 0 then go (s.probe v) else (.ok, s)
  | 3 => if o = 0 then go (s.sgReq e v) else (.ok, s)
  | 4 => if v.testBit 0 then go (s.bcGo e) else (.ok, s)
  | _ =>
    if !v.testBit 0 then (.ok, s)
    else
      let w := (s.unitReg 27 0x00).toNat
      let k : Fin 64 := Fin.ofNat 64 (bitsOf w 8 6)
      go (if bitsOf w 0 2 = 0 then s.kjZero k else s.kjGo e (BitVec.ofNat 2 (bitsOf w 0 2)) k)

/-- A device store (R85). -/
def State.devStore (s : State) (e : EngineNo) (off size : Nat) (v : DWord) : Code × State :=
  match s.devAt e off size with
  | .request u =>
    if v.getLsbD 31 then (.ok, s.suaRequest e u (bitsOf v.toNat 0 4)) else (.ok, s.dropAsk (.engine e) u)
  | .release u => match s.suaRelease e u with
    | some t => (.ok, t)
    | none => (.errAccess, s)
  | .reg inst o rd wr =>
    if wr then
      let w := devPut (s.unitReg inst (o / 8 * 8)) o size v
      (.ok, s.setUnitReg inst (o / 8 * 8) w)
    else if rd then (.ok, s)
    else s.unitGo e inst (o / 8 * 8) (if size = 4 && o % 8 ≠ 0 then 0 else v.toNat)
  | .failed => (.errDevice, s)
  | .none => (.errAccess, s)

/-! ### An engine that fails -/

/-- The BUSY operations of an engine that fails are aborted (R380, R387). -/
def State.abortUnits (s : State) (e : EngineNo) : State :=
  let mine := (s.sua.grants.filter fun g => g.who == .engine e).map (·.inst)
  let s1 := (mine.filter fun i => s.busyInst i && decide (i < 8)).foldl (fun t i => t.moverAbort i) s
  let s2 := (mine.filter fun i => s1.busyInst i).foldl (fun t i =>
    (t.clearBusy i).updSua fun u => { u with
      busy := u.busy.filter (· != i), moves := u.moves.filter (fun m => m.inst != i), paid := adel u.paid i, arrived := u.arrived.filter fun a => a.1 != i }) s1
  let s3 := if mine.contains 27 then
      (s2.cph.jobs.foldl (fun t _ => t.qOut (.cphJob 5)) s2).updCph fun c => { c with jobs := [], contexts := [] }
    else s2
  if mine.contains 24 then s3.dropProbe else s3

end Sys2Proof.Machine
end

