-- ==== Sys2Proof/Machine/Sight.lean ====
section
/-! DEFINITION. SGT: the population and the timing from the SPD, initial Sighting, the sideband bus, CA parity, drift
samples, re-sights and channel re-sights (R231–R260). -/

namespace Sys2Proof.Machine

/-! ### Population (R231, R233, R258) -/

/-- A module of R231: its kind, width, chip selects, rows and dies. LRDIMM and x16 devices are not supported (R6). -/
def moduleFits (m : SpdModule) : Bool :=
  m.rowBits != 3 && m.cidBits != 3 && (match m.kind with
    | .rdimm => m.width != .x16 && (m.chipSelects == 1 || m.chipSelects == 2)
    | .mrdimm => m.width == .x4 && (m.chipSelects == 2 || m.chipSelects == 4)
    | .lrdimm => false)

/-- Two modules have the same SPD geometry (R231). -/
def sameModule (a b : SpdModule) : Bool :=
  a.kind == b.kind && a.width == b.width && a.rowBits == b.rowBits && a.cidBits == b.cidBits && a.chipSelects == b.chipSelects

/-- The module in a DIMM slot. -/
def moduleAt (hubs : List SpdModule) (ch slot : Nat) : Option SpdModule :=
  hubs.find? fun m => m.present && m.channel.val == ch && m.slot.val == slot

/-- The modules found, by channel and slot. -/
def modulesOf (hubs : List SpdModule) : List SpdModule :=
  (List.range 16).flatMap fun ch => (List.range 2).filterMap fun k => moduleAt hubs ch k

/-- The DIMMs per channel: those of the first channel with one. -/
def dimmsPer (hubs : List SpdModule) : Nat :=
  match modulesOf hubs with
  | [] => 0
  | m :: _ => ((List.range 2).filter fun k => (moduleAt hubs m.channel.val k).isSome).length

/-- A DIMM slot breaks the population: a module outside R231 or unlike the first one, one missing, or a second one of a
kind that has one. -/
def slotBreaks (hubs : List SpdModule) (ref : SpdModule) (ch k : Nat) : Bool :=
  let d := dimmsPer hubs
  match moduleAt hubs ch k with
  | some m => !moduleFits m || !sameModule m ref || decide (d ≤ k) || (m.kind == .mrdimm && d == 2)
  | none => decide (k < d)

/-- The first slot that breaks the population; channel 0, slot 0 where there is no module at all. -/
def popFault (hubs : List SpdModule) : Option (Nat × Nat) :=
  match modulesOf hubs with
  | [] => some (0, 0)
  | ref :: _ => ((List.range 16).flatMap fun ch => (List.range 2).map fun k => (ch, k)).find? fun x => slotBreaks hubs ref x.1 x.2

/-- SGT_POP (R258). -/
def popWord (hubs : List SpdModule) : Word :=
  match modulesOf hubs with
  | [] => 0
  | ref :: r =>
    let rate := r.foldl (fun n m => Nat.min n m.maxRate.toNat) ref.maxRate.toNat
    let ok (ch : Nat) : Bool := !slotBreaks hubs ref ch 0 && !slotBreaks hubs ref ch 1
    let present := ((List.range 16).map fun ch => if ok ch then 2 ^ ch else 0).foldl (· + ·) 0
    at_ rate 28 4 ||| bitAt (ref.kind == .mrdimm) 27 ||| bitAt (ref.width == .x8) 26 ||| at_ ref.rowBits.toNat 24 2 ||| at_ ref.cidBits.toNat 22 2
      ||| at_ (ref.chipSelects - 1) 20 2 ||| at_ (dimmsPer hubs) 18 2 ||| at_ present 0 16

/-- SGT_CTL.DISCOVER and START are answered ERR_MODE (R439, R441, R442). -/
def State.sightClosed (s : State) : Bool := !s.cfg.mode.early || s.cfg.frozen || s.cfg.sightingComplete

/-- DISCOVER with what the SPD hubs answer (R233): its answer and its effect. -/
def State.discover (s : State) (hubs : List SpdModule) : Code × State :=
  if s.sightClosed then (.errMode, s)
  else
    let s1 := s.updSgt fun g => { g with
      hubs := hubs, asked := true, pop := popWord hubs, discovered := (popFault hubs).isNone, i3c := List.range 16 }
    match popFault hubs with
    | none => (.ok, s1)
    | some (ch, k) => (.ok, (s1.logE 0x0801 (srcInt 0x08) 0 (k + ch * 2 ^ 32)).event 0x080100 3)

/-- The modules in the DIMM slots: as their hubs last answered, else as they are (R233). -/
def State.modules (s : State) : List SpdModule := if s.sgt.asked then s.sgt.hubs else Config.modules

/-! ### Timing from the SPD (R236) -/

/-- The fields SGT writes from the SPD, in the order of R201: register number, low bit, width. -/
def spdFields : List (Nat × Nat × Nat) :=
  [(0, 24, 8), (0, 16, 8), (0, 0, 8), (1, 24, 8), (1, 16, 8), (1, 8, 8), (1, 0, 8), (2, 24, 8), (2, 16, 8), (2, 8, 8), (2, 0, 8),
   (3, 24, 8), (3, 16, 8), (3, 8, 8), (3, 0, 8), (4, 24, 8), (4, 16, 8), (4, 8, 8), (4, 0, 8), (5, 16, 12), (5, 0, 12),
   (6, 24, 8), (6, 0, 12)]

/-- CK of a time in ps at a CK in MHz: ceil(t ÷ tCK − 0.01). -/
def ckOf (ps mhz : Nat) : Nat := (ps * mhz + 989999) / 1000000

/-- The CK of every SPD field at a data rate, the larger of time and minimum, over every module; none where no module
gives either. -/
def spdCk (ms : List SpdModule) (mhz i : Nat) : Option Nat :=
  let one (m : SpdModule) : Nat := Nat.max (if m.tps.getD i 0 = 0 then 0 else ckOf (m.tps.getD i 0) mhz) (m.minCk.getD i 0)
  let n := (ms.map one).foldl Nat.max 0
  if n = 0 then none else some n

/-- CL: the smallest even CAS latency every module supports, at or above n. -/
def pickCas (ms : List SpdModule) (n : Nat) : Option Nat :=
  (List.range 256).find? fun c => decide (n ≤ c) && c % 2 == 0 && c != 0 && ms.all fun m => m.cas.contains c

/-- The value a field takes: GUARD on TRCD, TRP and TRAS; CL from the CAS latencies. -/
def fieldCk (ms : List SpdModule) (mhz guard i : Nat) : Option Nat :=
  match spdCk ms mhz i with
  | none => none
  | some n => if i = 2 then pickCas ms n else some (if i = 0 || i = 1 || i = 6 then n + guard else n)

/-- The values to write: register, low bit, width, value; none where the rate is unusable (R236). -/
def timingOf (ms : List SpdModule) (mhz guard dpc : Nat) : Option (List (Nat × Nat × Nat × Nat)) :=
  let base := spdFields.zipIdx.filterMap fun x => (fieldCk ms mhz guard x.2).map fun n => (x.1.1, x.1.2.1, x.1.2.2, n)
  match (if (spdCk ms mhz 2).isNone then none else fieldCk ms mhz guard 2) with
  | none => none
  | some cl =>
    let v (i : Nat) : Nat := (fieldCk ms mhz guard i).getD 0
    let short (x : Nat × Nat × Nat × Nat) : Nat × Nat × Nat × Nat :=
      if x.1 = 1 && x.2.1 = 8 && 255 < x.2.2.2 && x.2.2.2 ≤ v 6 + v 0 then (1, 8, 8, 255) else x
    let rank := if dpc = 2 then 4 else 2
    let all := base.map short ++ [(0, 8, 8, cl - 2), (7, 8, 4, 2), (7, 4, 4, rank), (7, 0, 4, rank)
      , (7, 16, 8, Nat.max 8 (ckOf 5000 mhz)), (7, 24, 8, Nat.max 16 (ckOf 14000 mhz))]
    if all.any fun x => decide (2 ^ x.2.2.1 ≤ x.2.2.2) then none else some all

/-- The channels of SGT_POP. -/
def State.popChannels (s : State) : List Nat := (List.range 16).filter fun ch => bit s.sgt.pop ch

/-- CK in MHz of a RATE code (R232). -/
def ckMHz (rate : Nat) : Nat := rateMT rate / 2

/-- The timing of the population at a rate. -/
def State.timingAt (s : State) (rate : Nat) : Option (List (Nat × Nat × Nat × Nat)) :=
  timingOf (modulesOf s.sgt.hubs) (ckMHz rate) (s.fld 0x080000 4 4) s.popDpc

/-- A field of a register set. -/
def putField (w : Word) (lo n v : Nat) : Word := (w &&& ~~~(at_ (2 ^ n - 1) lo n)) ||| at_ v lo n

/-- CHS_TIM0 to CHS_TIM7 of every populated channel are written. -/
def State.writeTiming (s : State) (l : List (Nat × Nat × Nat × Nat)) : State :=
  s.popChannels.foldl (fun t ch =>
    l.foldl (fun t x => t.setReg (chsPage ch + 0x100 + 4 * x.1) (putField (t.reg (chsPage ch + 0x100 + 4 * x.1)) x.2.1 x.2.2.1 x.2.2.2)) t) s

/-! ### START (R233, R442) -/

/-- RATE is a code of the module kind within the row of R231 and not above MAXRATE. -/
def State.rateFits (s : State) (rate : Nat) : Bool :=
  let mr := bit s.sgt.pop 27
  decide (rate ≤ field s.sgt.pop 28 4)
    && (if mr then decide (8 ≤ rate) && decide (rate ≤ 0xA) else decide (rate ≤ (if s.popDpc = 2 then 2 else 5)))

/-- The conditions of R233 but for the timing. -/
def State.startFits (s : State) : Bool :=
  let m := s.map.act
  s.sgt.discovered && m.committed && s.rateFits (s.fld 0x080000 0 4) && m.width8 == bit s.sgt.pop 26
    && m.rowBits == field s.sgt.pop 24 2 && m.cidBits == field s.sgt.pop 22 2
    && decide (2 ^ m.rankBits ≤ (field s.sgt.pop 20 2 + 1) * s.popDpc)

/-- Chip selects that are not present read 0xF in SGT_RSTS (R254). -/
def State.absentRsts (s : State) : List (Nat × Nat) :=
  let there (k : Nat) : Bool := bit s.sgt.pop (k / 8) && decide (k % 4 < s.chipSelects)
  ((List.range 128).filter fun k => !there k).map fun k => (k, 15)

/-- Initial Sighting begins at the first step. -/
def State.beginSighting (s : State) : State :=
  let rs := s.absentRsts
  s.updSgt fun g => { g with phase := .train, step := 1, rsts := rs, stepsDone := [], retries := [], resights := [], outages := [] }

/-- SGT_CTL.START (R233, R236, R440–R442): its answer and its effect. -/
def State.sgtStart (s : State) : Code × State :=
  if s.sightClosed then (.errMode, s)
  else if s.cfg.mode = .sighting && s.sgt.phase == .train then (.ok, s)
  else
    match (if s.startFits then s.timingAt (s.fld 0x080000 0 4) else none) with
    | none => (.ok, s.event 0x080100 4)
    | some l =>
      let s1 := (s.writeTiming l).updCfg fun c => { c with startAccepted := true, sightDone := false }
      (.ok, (s1.beginSighting.updSgt fun g => { g with started := s.chron, fallbacks := 0 }).reeval)

/-! ### The steps of initial Sighting and of a channel re-sight (R239–R244, R251) -/

/-- Scope of a step (R240): 0 channel, 1 DIMM, 2 rank. -/
def stepScope (step : Nat) : Nat := if step ≤ 2 then 0 else if step ≤ 5 || step = 8 then 1 else 2

/-- The key of a scope among the steps done. -/
def scopeKey (scope ch sub unit : Nat) : Nat :=
  match scope with
  | 0 => ch
  | 1 => 16 + 2 * ch + unit % 2
  | _ => 48 + 8 * ch + 4 * sub + unit

/-- Chip selects of a DIMM slot. -/
def State.csPerDimm (s : State) : Nat := field s.sgt.pop 20 2 + 1

/-- The chip selects of a scope, as subchannel and number. -/
def State.scopeCs (s : State) (scope sub unit : Nat) : List (Nat × Nat) :=
  let n := s.csPerDimm
  let all : List (Nat × Nat) := [0, 1].flatMap fun b => (List.range s.chipSelects).map fun c => (b, c)
  match scope with
  | 0 => all
  | 1 => all.filter fun x => x.2 / n == unit
  | _ => [(sub, unit)]

/-- A scope has a chip select that still runs. -/
def State.scopeRuns (s : State) (scope ch sub unit : Nat) : Bool := (s.scopeCs scope sub unit).any fun x => s.csRuns ch x.1 x.2

/-- The scopes of a step on a channel in order, as subchannel and unit. -/
def State.stepUnits (s : State) (step : Nat) : List (Nat × Nat) :=
  match stepScope step with
  | 0 => [(0, 0)]
  | 1 => (List.range s.popDpc).map fun k => (0, k)
  | _ => [0, 1].flatMap fun b => (List.range s.chipSelects).map fun c => (b, c)

/-- The steps that run on a channel: all of initial Sighting, MUX on MRDIMM only; IMPCAL, HOST_CS and HOST_CA in an
outage. -/
def State.stepList (s : State) (ch : Nat) : List Nat :=
  if s.sgt.outages.contains ch then [1, 4, 5]
  else (natsFrom 1 14).filter fun k => k != 8 || bit s.sgt.pop 27

/-- A scope still owes a step. -/
def State.owes (s : State) (ch step : Nat) (u : Nat × Nat) : Bool :=
  s.scopeRuns (stepScope step) ch u.1 u.2 && decide (agetD s.sgt.stepsDone (scopeKey (stepScope step) ch u.1 u.2) 0 < step)

/-- The first scope of a channel, or of one subchannel of it, that owes a step, with that step: the step that runs. -/
def State.nextOn (s : State) (ch : Nat) (sub : Option Nat) : Option (Nat × Nat × Nat) :=
  let mine (step : Nat) (u : Nat × Nat) : Bool := stepScope step != 2 || sub == none || sub == some u.1
  let items := (s.stepList ch).flatMap fun k => ((s.stepUnits k).filter (mine k)).map fun u => (k, u.1, u.2)
  items.find? fun x => s.owes ch x.1 (x.2.1, x.2.2)

/-- The step runs now for its scope: a rank step is the next of its subchannel, another the next of its channel. -/
def State.stepRuns (s : State) (r : StepResult) : Bool :=
  let ch := r.channel.val
  let k := r.step.toNat
  if stepScope k = 2 then s.nextOn ch (some r.sub.val) == some (k, r.sub.val, r.unit.val)
  else match s.nextOn ch none with
    | some (k2, _, u) => k2 == k && (stepScope k == 0 || u == r.unit.val)
    | none => false

/-- The fields a step leaves in the PHY result register at an offset of the channel's page (R240, R261–R263). -/
def stepMask (step rel : Nat) : Word :=
  let at0 (lo hi : Nat) : Bool := decide (lo ≤ rel) && decide (rel < hi)
  match step with
  | 0x1 => if rel = 0x004 then 0xFFFF else 0
  | 0x4 | 0x5 => if at0 0x100 0x180 then 0x3FF else 0
  | 0x6 => if at0 0x300 0x380 && rel % 16 = 4 then 0xFF00 else 0
  | 0x7 => if at0 0x300 0x380 && rel % 16 = 0 then 0x00FF0000 else if at0 0x300 0x380 && rel % 16 = 4 then 0xFF else 0
  | 0xA => if at0 0x400 0x800 then 0x3FF00000 else 0
  | 0xB => if at0 0x400 0x800 then 0x000FFC00 else 0
  | 0xC => if at0 0x400 0x800 then 0x3FF else if at0 0x1000 0x2000 then 0x0003FFFF
      else if at0 0x300 0x380 && rel % 16 = 0 then 0xFF00 else 0
  | 0xD => if at0 0x1000 0x2000 then 0x0FFC0000 else if at0 0x300 0x380 && rel % 16 = 0 then 0xFF0000FF else 0
  | 0xE => if at0 0x300 0x380 && rel % 16 = 8 then 0xFFFF0000 else 0
  | _ => 0

/-- Subchannel and chip select a PHY result register belongs to, for those that have one. -/
def phyOwner (rel : Nat) : Option (Nat × Nat) :=
  if 0x300 ≤ rel && rel < 0x380 then some ((rel - 0x300) / 0x40, (rel - 0x300) % 0x40 / 0x10)
  else if 0x400 ≤ rel && rel < 0x800 then some ((rel - 0x400) / 0x200, (rel - 0x400) % 0x200 / 0x80)
  else if 0x1000 ≤ rel && rel < 0x2000 then some ((rel - 0x1000) / 0x800, (rel - 0x1000) % 0x800 / 0x200)
  else none

/-- A result is written under a mask; the DQS delays are the trained values tracking keeps to (R246). -/
def State.putPhy (s : State) (off : Nat) (v mask : Word) : State :=
  if mask = 0 then s
  else
    let w := (s.phyReg off &&& ~~~mask) ||| (v &&& mask)
    let rel := off % 0x10000
    s.updSgt fun g => { g with
      phy := aputD g.phy off w 0
      trained := if 0x400 ≤ rel && rel < 0x800 then
          aputD g.trained off ((agetD g.trained off 0 &&& ~~~mask) ||| (v &&& mask)) 0
        else g.trained }

/-- The results of a step of a scope: those registers it may leave something in. -/
def State.stepResults (s : State) (ch step : Nat) (own : Option (Nat × Nat)) (l : List (Nat × Word)) : State :=
  let base := 0x200000 + ch * 0x10000
  let mine (off : Nat) : Bool := decide (base ≤ off) && decide (off < base + 0x10000) && off % 4 == 0
    && (own == none || phyOwner (off - base) == own)
  (l.filter fun x => mine x.1).foldl (fun t x => t.putPhy x.1 x.2 (stepMask step (x.1 - base))) s

/-- A scope has taken a step. -/
def State.stepTaken (s : State) (key step : Nat) : State :=
  s.updSgt fun g => { g with stepsDone := aput g.stepsDone key step, retries := adel g.retries key }

/-- A chip select fails a step (R241): its field of SGT_RSTS, the report, and the sparing order. -/
def State.csFails (s : State) (ch step : Nat) (x : Nat × Nat) : State :=
  if !s.csRuns ch x.1 x.2 then s
  else
    let s1 := s.updSgt fun g => { g with rsts := aput g.rsts (8 * ch + 4 * x.1 + x.2) step }
    let s2 := (s1.logE 0x0803 (srcInt 0x08) 0 (step + infoCs (2 * ch + x.1) x.2)).event 0x080100 5
    match s2.rankOfCs ch x.2 with
    | some r =>
      if (agetD s2.ecc.rankFail (2 * ch) 0).testBit r then s2 else (s2.spareRank ch r false).2
    | none => s2

/-- A scope fails a step for good: its chip selects fail and skip their other steps (R241). -/
def State.scopeFails (s : State) (ch step : Nat) (cs : List (Nat × Nat)) : State := cs.foldl (fun t x => t.csFails ch step x) s

/-- The next lower rate of the module kind. -/
def lowerRate (rate : Nat) : Option Nat :=
  if rate = 0 || rate = 8 then none else if rate ≤ 5 || (8 < rate && rate ≤ 0xA) then some (rate - 1) else none

/-- A restart at the next lower rate (R243), where one is still permitted and usable. -/
def State.fallback (s : State) : Option State :=
  let rate := s.fld 0x080000 0 4
  if s.sgt.phase != .train || s.fld 0x080000 10 2 ≤ s.sgt.fallbacks then none
  else match lowerRate rate with
    | none => none
    | some r => match s.timingAt r with
      | none => none
      | some l =>
        let s1 := (s.setReg 0x080000 (putField (s.reg 0x080000) 0 4 r)).writeTiming l
        let s2 := s1.beginSighting.updSgt fun g => { g with fallbacks := g.fallbacks + 1 }
        some ((s2.logE 0x0804 (srcInt 0x08) 0 (r + rate * 2 ^ 4)).event 0x080100 6)

/-- What a failing step of a rank within one device makes (R242): none where the rule does not apply, whether it passes,
and the state with the device marked. -/
def State.deviceFails (s : State) (ch step : Nat) (x : Nat × Nat) (dev : Option (BitVec 4)) : Option State :=
  match dev with
  | none => none
  | some d =>
    if !s.flag 0x080000 15 || bit s.sgt.pop 26 || !(step = 0xC || step = 0xD || step = 0xE) then none
    else match aget s.ecc.marks (markKey (2 * ch + x.1) x.2) with
      | some m => if m = d.toNat then some s else none
      | none =>
        if s.canMark (2 * ch + x.1) x.2 d.toNat then some ((s.markDevice (2 * ch + x.1) x.2 d.toNat).event 0x080100 9) else none

/-- The last re-sight of every rank that runs is now (R248). -/
def State.resightBase (s : State) (ch : Nat) : List (Nat × Nat × Byte) :=
  let keys := (List.range 8).filter fun k => s.csRuns ch (k / 4) (k % 4)
  keys.map fun k => (8 * ch + k, s.chron, (s.therm ch).latest)

/-- Initial Sighting ends (R244): every rank idle, its banks precharged; the mode follows (R437). -/
def State.sightEnds (s : State) : State :=
  let us := (s.chron - s.sgt.started) / 1000
  let last := (List.range 16).flatMap s.resightBase
  let s1 := s.updSgt fun g => { g with
    phase := .track, step := 0, timeUs := BitVec.ofNat 32 (Nat.min us 0xFFFFFFFF), lastResight := last }
  let s2 : State := { s1 with subs := s1.subs.map fun x => (x.1, { x.2 with banks := [] }) }
  (s2.updCfg fun c => { c with sightDone := true }).event 0x080100 0

/-- A channel re-sight leaves its outage (R251): SRX, its debts zero (R224), and both re-sights of every rank asked. -/
def State.outageEnds (s : State) (ch : Nat) : State :=
  let keys := (List.range 8).filter fun k => s.csRuns ch (k / 4) (k % 4)
  let s1 := s.updSgt fun g => { g with
    outages := g.outages.filter (· != ch), before := g.before.filter fun x => x.1 / 0x10000 != 0x20 + ch
    phase := if g.outages.all (· == ch) then .track else g.phase, step := 0 }
  let calm (t : State) (c : Nat) : State := let r := t.rpmSub c; (t.setRpm c { r with debt := [] }).selfRefresh c false
  let s2 := (calm (calm s1 (2 * ch)) (2 * ch + 1)).rewriteModes ch
  let s3 := keys.foldl (fun t k => t.askResight (Fin.ofNat 32 (2 * ch + k / 4)) (k % 4) true true false none) s2
  s3.updSgt fun g => { g with resights := mapIf g.resights (fun r => r.sub.val / 2 == ch) fun r => { r with whole := true } }

/-- What follows when a step of a channel is settled: the step SGT_STATE shows, the end of an outage, the end of initial
Sighting. -/
def State.stepSettled (s : State) (ch : Nat) : State :=
  if s.sgt.outages.contains ch then (if (s.nextOn ch none).isNone then s.outageEnds ch else s)
  else
    let next := s.popChannels.filterMap fun c => s.nextOn c none
    match next with
    | [] => s.sightEnds
    | x :: r => s.updSgt fun g => { g with step := BitVec.ofNat 4 (r.foldl (fun n y => Nat.min n y.1) x.1) }

/-- hPPR of one PENDING row (R283). Whether its bank group has a repair resource left, and whether the repair succeeds, is
the DRAM's: a free value says it. -/
def State.hardRepair (s : State) (r : Remap) : State :=
  let f := s.free
  let put (t : State) (p : Ppr) : State := t.updEcc fun e => { e with remaps := mapIf e.remaps (· == r) fun x => { x with ppr := p } }
  match f.1.toNat % 3 with
  | 0 => put f.2 .none
  | 1 => (f.2.logE 0x0908 (srcInt 0x09) 0 (infoLoc r.row)).event 0x090300 5
  | _ => put f.2 .done

/-- hPPR of the PENDING rows of a chip select, after MR_INIT of initial Sighting (R283). -/
def State.hardRepairs (s : State) (c cs : Nat) : State :=
  if s.sgt.phase == .train then
    (s.ecc.remaps.filter fun r => r.ppr == .pending && r.row.sub.val == c && r.row.cs == cs).foldl State.hardRepair s
  else s

/-- A step of a scope passes: its results, and at MR_INIT the RAA thresholds MR58 reports (R217, R245). -/
def State.stepPasses (s : State) (r : StepResult) (key : Nat) : State :=
  let k := r.step.toNat
  let own := if stepScope k = 2 then some (r.sub.val, r.unit.val) else none
  let t := ((s.stepResults r.channel.val k own r.results).stepTaken key k).rcdStep r.channel.val k r.unit.val
  let s0 := if stepScope k = 2 then t.stepSends r.channel.val k r.sub.val r.unit.val else t
  let s1 := if k = 9 then s0.hardRepairs (2 * r.channel.val + r.sub.val) r.unit.val else s0
  match r.raa with
  | some (imt, mmt) => if k = 9 then s1.setReg 0x07000C (at_ imt.toNat 0 9 ||| at_ mmt.toNat 16 9) else s1
  | none => s1

/-- The results of a step meet its criterion (R240): no IMPCAL code at an end of its range (its eight bits: DEDUCED, log entry 81),
QCS_WIN and QCA_WIN of 16, RD_EYE of MIN_RD, WR_EYE of MIN_WR. -/
def State.windowsMet (s : State) (ch step : Nat) (own : Nat × Nat) (l : List (Nat × Word)) : Bool :=
  let base := 0x200000 + ch * 0x10000 + 0x300 + own.1 * 0x40 + own.2 * 0x10
  let least (off lo n : Nat) : Bool := l.all fun x => x.1 != base + off || decide (n ≤ field x.2 lo 8)
  let inside (c : Nat) : Bool := c != 0 && c != 0xFF
  match step with
  | 0x1 => l.all fun x => x.1 != 0x200004 + ch * 0x10000 || (inside (field x.2 0 8) && inside (field x.2 8 8))
  | 0x6 => least 4 8 16
  | 0x7 => least 4 0 16
  | 0xC => least 0 8 (s.fld 0x080004 8 8)
  | 0xD => least 0 0 (s.fld 0x080004 0 8)
  | _ => true

/-- SIGHT_STEP_DONE (R240–R244, R251): a step passes where it did by what is measured outside the results, and by them. -/
def State.sightStep (s : State) (r : StepResult) : State :=
  let ch := r.channel.val
  let k := r.step.toNat
  let scope := stepScope k
  let key := scopeKey scope ch r.sub.val r.unit.val
  if s.cfg.frozen || !(s.sgt.phase == .train || s.sgt.outages.contains ch) || !s.stepRuns r then s
  else if r.pass && s.windowsMet ch k (r.sub.val, r.unit.val) r.results then (s.stepPasses r key).stepSettled ch
  else
    let s0 := if k = 1 then s.event (0x200F00 + ch * 0x10000) 0 else s
    let tries := agetD s0.sgt.retries key 0
    if tries < s0.fld 0x080000 8 2 then s0.updSgt fun g => { g with retries := aput g.retries key (tries + 1) }
    else match (if scope = 2 then s0.deviceFails ch k (r.sub.val, r.unit.val) r.device else none) with
      | some t => (t.stepPasses r key).stepSettled ch
      | none => match s0.fallback with
        | some t => t
        | none => ((s0.scopeFails ch k (s0.scopeCs scope r.sub.val r.unit.val)).stepTaken key k).stepSettled ch

/-! ### Channel re-sights (R251) -/

/-- A channel re-sight starts, for a cause of R517: both subchannels pause and every rank is in self-refresh. -/
def State.startOutage (s : State) (ch cause : Nat) : State :=
  if s.sgt.outages.contains ch || !(s.sgt.phase == .track || s.sgt.phase == .outage) then s
  else
    let was := s.sgt.phy.filter fun x => x.1 / 0x10000 == 0x20 + ch && decide (x.1 % 0x10000 < 0x300)
    let s1 := s.updSgt fun g => { g with
      phase := .outage, step := 1, outages := g.outages ++ [ch], before := g.before ++ was
      stepsDone := adel (adel (adel g.stepsDone (scopeKey 0 ch 0 0)) (scopeKey 1 ch 0 0)) (scopeKey 1 ch 0 1)
      resights := g.resights.filter fun r => r.sub.val / 2 != ch }
    let quiet (t : State) (c : Nat) : State :=
      let q := t.sub c
      let t1 := t.setSub c { q with pause := false, banks := [], parityPre := [] }
      let r := t1.rpmSub c
      (t1.setRpm c { r with pauseAsked := false }).selfRefresh c true
    let s2 := quiet (quiet s1 (2 * ch)) (2 * ch + 1)
    (s2.logE 0x0806 (srcInt 0x08) 0 (cause + ch * 2 ^ 32)).event 0x080100 8

/-! ### SGT_CTL.RESIGHT (R248, R251) -/

/-- SGT_CTL.RESIGHT (R254): FULL 1 starts a channel re-sight, FULL 0 asks both re-sights of a rank. -/
def State.ctlResight (s : State) (v : Word) : State :=
  let ch := field v 16 4
  if s.sgt.phase != .track && s.sgt.phase != .outage then s
  else if bit v 28 then s.startOutage ch 3
  else
    let c : Sub := Fin.ofNat 32 (2 * ch + field v 12 1)
    if s.csServes c (field v 8 2) then s.askResight c (field v 8 2) true true false none else s

/-- SGT_CTL (R254): its action bits in ascending order; DISCOVER reads every hub (R233). -/
def State.sgtCtl (s : State) (v : Word) : Code × State :=
  let s1 := if bit v 29 then s.ctlResight v else s
  let d := if bit v 30 then s1.discover s1.modules else (.ok, s1)
  let g := if bit v 31 then d.2.sgtStart else (.ok, d.2)
  if s.sightClosed && (bit v 30 || bit v 31) then (.errMode, s) else (.ok, g.2)

/-! ### Pauses and chunks (R248–R250) -/

/-- The last re-sight of a chip select of a subchannel. -/
def State.resightedAt (s : State) (c : Sub) (cs : Nat) : Option (Nat × Byte) :=
  (s.sgt.lastResight.find? fun x => x.1 == 8 * (c.val / 2) + 4 * (c.val % 2) + cs).map (·.2)

/-- A rank may be re-sighted: its last re-sight is a second old, channel re-sights apart (R248). -/
def State.resightFree (s : State) (r : Resight) : Bool :=
  match s.resightedAt r.sub r.cs with
  | some (t, _) => decide (t + 1000000000 ≤ s.chron) || decide (0 < r.chunk) || r.whole
  | none => true

/-- The re-sights of a subchannel in the order they are served (R248, R253): due ones by chip select, then background
ones, those of a Pilot last. -/
def State.resightOrder (s : State) (c : Sub) : List Resight :=
  let mine := s.sgt.resights.filter fun r => r.sub == c && s.resightFree r
  let due := (List.range 4).flatMap fun cs => mine.filter fun r => r.due && r.cs == cs
  due ++ (mine.filter fun r => !r.due && r.engine.isNone) ++ (mine.filter fun r => !r.due && r.engine.isSome)

/-- The re-sight whose pause is wanted now (R248): a background one only while both queues are empty. -/
def State.resightNow (s : State) (c : Sub) : Option Resight :=
  let empty := (s.sub c).rq.isEmpty && (s.sub c).wq.isEmpty
  (s.resightOrder c).find? fun r => r.due || empty

/-- Every rank of a subchannel with its CSEN bit set stands at −PULLIN (R223). -/
def State.pulledIn (s : State) (c : Nat) : Bool := (s.csList c).all fun cs => decide ((s.rpmSub c).debtOf cs ≤ -s.pullAt c cs)

/-- SGT asks RPM for a pause (R223): the pull-ins it needs are due refreshes. -/
def State.askPause (s : State) (c : Nat) : State :=
  let r := s.rpmSub c
  let t := s.setRpm c { r with pauseAsked := true }
  t.eventIf ((List.range 4).any fun cs => t.refDue c cs && !s.refDue c cs) 0x070300 1

/-- The pause request is served. -/
def State.pauseServed (s : State) (c : Nat) : State := let r := s.rpmSub c; s.setRpm c { r with pauseAsked := false }

/-- PAUSE_GRANT (R223, R249): the pause a re-sight wants is granted once every rank is pulled in, and closes the open rows
(R197); until then it is asked for. -/
def State.pauseGrant (s : State) (c : Sub) : State :=
  let q := s.sub c
  if q.pause || s.inOutage c || s.sgt.phase != .track || !q.parityPre.isEmpty || !q.replayPend.isEmpty || (s.resightNow c).isNone then s
  else if !s.pulledIn c then s.askPause c
  else ((s.setSub c { q with pause := true }).pauseServed c).closeRows c

/-- The step a chunk of a re-sight repeats: RD_TRACK first, then WR_TRACK, eight chunks each (R248). -/
def Resight.steps (r : Resight) : List Nat := if r.rdTrack && r.chunk < 8 then [0xB, 0xC] else [0xA, 0xD]

/-- Chunks of a re-sight. -/
def Resight.chunks (r : Resight) : Nat := (if r.rdTrack then 8 else 0) + (if r.wrTrack then 8 else 0)

/-- A re-sight is over: it leaves the queue; a Pilot that asked is answered (R385). -/
def State.resightOver (s : State) (r : Resight) (code : Nat) : State :=
  let s1 := s.updSgt fun g => { g with resights := g.resights.filter fun x => !(x.sub == r.sub && x.cs == r.cs) }
  match r.engine with
  | some _ => if s1.busyInst 25 then (s1.clearBusy 25).setUnitReg 25 0x08 (BitVec.ofNat 64 code) else s1
  | none => s1

/-- The rank has been re-sighted. -/
def State.noteResight (s : State) (r : Resight) : State :=
  let k := 8 * (r.sub.val / 2) + 4 * (r.sub.val % 2) + r.cs
  s.updSgt fun g => { g with
    lastResight := (g.lastResight.filter fun x => x.1 != k) ++ [(k, s.chron, (s.therm (r.sub.val / 2)).latest)] }

/-- The settings a chunk leaves, applied together (R249). -/
def State.chunkResults (s : State) (r : Resight) (l : List (Nat × Word)) : State :=
  r.steps.foldl (fun t k => t.stepResults (r.sub.val / 2) k (some (r.sub.val % 2, r.cs)) l) s

/-- RESIGHT_CHUNK (R249, R251): the chunk of the re-sight served in the granted pause. A rank that fails twice in a channel
re-sight fails as in Sighting (R241). -/
def State.resightChunk (s : State) (c : Sub) (pass : Bool) (results : List (Nat × Word)) : State :=
  let q := s.sub c
  match (if q.pause then (s.resightOrder c).head? else none) with
  | none => s
  | some r =>
    let s1 := s.setSub c { q with pause := false }
    let upd (t : State) (f : Resight → Resight) : State := t.updSgt fun g =>
      { g with resights := mapIf g.resights (fun x => x.sub == r.sub && x.cs == r.cs) f }
    if pass then
      let s2 := (s1.chunkResults r results).writeModes (c.val / 2) (c.val % 2) r.cs
      if r.chunks ≤ r.chunk + 1 then (s2.noteResight r).resightOver r 0
      else upd s2 fun x => { x with chunk := x.chunk + 1, failed := false }
    else if !r.failed then upd s1 fun x => { x with failed := true }
    else
      let step := if r.rdTrack && r.chunk < 8 then 0xC else 0xD
      let s2 := ((s1.resightOver r 2).logE 0x0805 (srcInt 0x08) 0 (step + infoCs c r.cs)).event 0x080100 7
      if r.whole then s2.csFails (c.val / 2) step (c.val % 2, r.cs) else s2.startOutage (c.val / 2) 1

/-- RESIGHT_DUE (R248): a background re-sight has waited DEFER_MS. -/
def State.resightDue (s : State) (c : Sub) (cs : Nat) : State :=
  match s.sgt.resights.find? fun r => r.sub == c && r.cs == cs && !r.due with
  | none => s
  | some r =>
    let s1 := s.until_ (r.since + r.defer * 1000000)
    (s1.updSgt fun g => { g with
      resights := mapIf g.resights (fun x => x.sub == c && x.cs == cs) fun x => { x with due := true } }).event 0x080100 1

/-- RESIGHT_INTERVAL (R248): INT_S seconds since the rank's last re-sight. -/
def State.resightInterval (s : State) (c : Sub) (cs : Nat) : State :=
  let n := s.fld 0x080008 8 8
  match s.resightedAt c cs with
  | none => s
  | some (t, _) =>
    if n = 0 || s.sgt.phase != .track || !s.csServes c cs then s
    else (s.until_ (t + n * 1000000000)).askResight c cs true true false none

/-- The temperature trigger of a channel (R248), after a reading. -/
def State.tempTrigger (s : State) (ch : Nat) : State :=
  let lim := s.fld 0x08000C 24 8
  let now := (s.therm ch).latest.toNat
  if lim = 0 || s.sgt.phase != .track then s
  else
    let hit := s.sgt.lastResight.filter fun x => x.1 / 8 == ch &&
      decide (lim ≤ (now - x.2.2.toNat) + (x.2.2.toNat - now)) && s.csServes (Fin.ofNat 32 (x.1 / 4)) (x.1 % 4)
    hit.foldl (fun t x => t.askResight (Fin.ofNat 32 (x.1 / 4)) (x.1 % 4) true true false none) s

/-! ### Drift samples (R247) -/

/-- A signed 8-bit drift. -/
def driftOf (d : BitVec 8) : Int := d.toInt

/-- A delay of 10 bits moved by a drift. -/
def moveDelay (v : Nat) (d : Int) : Nat := (((v : Int) + d) % 1024).toNat

/-- Below SOFT the drift is added to the WL and WR delays of a rank (R247). -/
def State.addDrift (s : State) (c : Sub) (cs : Nat) (d : Int) : State :=
  let base := 0x200000 + c.val / 2 * 0x10000
  let dqs := (List.range 10).map fun i => base + 0x400 + c.val % 2 * 0x200 + cs * 0x80 + 4 * i
  let dq := (List.range 40).map fun i => base + 0x1000 + c.val % 2 * 0x800 + cs * 0x200 + 4 * i
  let width := if bit s.sgt.pop 26 then 5 else 10
  let s1 := (dqs.take width).foldl (fun t o => t.putPhy o (at_ (moveDelay (field (t.phyReg o) 20 10) d) 20 10) 0x3FF00000) s
  dq.foldl (fun t o => t.putPhy o (at_ (moveDelay (field (t.phyReg o) 18 10) d) 18 10) 0x0FFC0000) s1

/-- One chip select of a sample pause: its count, and what its drift asks for. -/
def State.sampleCs (s : State) (c : Sub) (cs : Nat) (count : BitVec 16) (drift : BitVec 8) : State :=
  let page := 0x200000 + c.val / 2 * 0x10000
  let s1 := s.putPhy (page + 0x308 + c.val % 2 * 0x40 + cs * 0x10) (count.setWidth 32) 0xFFFF
  let d := driftOf drift
  let n := d.natAbs
  if n < s.fld 0x08000C 0 8 then s1.addDrift c cs d
  else if n < s.fld 0x08000C 8 8 then (s1.event (page + 0xF00) 1).askResight c cs false true false none
  else (s1.event (page + 0xF00) 2).askResight c cs false true true none

/-- OSC_SAMPLE (R247, R223): the sample pause of a subchannel, once its ranks are pulled in. -/
def State.oscSample (s : State) (c : Sub) (counts : List (BitVec 16)) (drifts : List (BitVec 8)) : State :=
  let q := s.sub c
  if s.sgt.phase != .track || !s.cfg.mode.serves || q.pause || s.inOutage c || !q.parityPre.isEmpty || !q.replayPend.isEmpty then s
  else
    let s0 := s.until_ (agetD s.sgt.sampled c.val 0 + orOne (s.fld 0x080008 0 8) * 1000000)
    if !s0.pulledIn c then s0.askPause c
    else
      let s1 := ((s0.pauseServed c).updSgt fun g => { g with sampled := aput g.sampled c.val s0.chron }).closeRows c
      ((List.range 4).filter (s1.csServes c)).foldl (fun t cs =>
        (((t.sends c .mpc cs).sends c .mrr cs).sends c .mrr cs).sampleCs c cs (counts.getD cs 0) (drifts.getD cs 0)) s1

/-! ### CA parity (R238) -/

/-- CA_PARITY: ALERT_n reports an error on a subchannel: PREab to every rank, and the commands of the 64 CK before it again,
with those of an earlier alert that have not been issued again yet. -/
def State.caParity (s : State) (c : Sub) : State :=
  let q := s.sub c
  let last := Nat.max ((s.sub (2 * (c.val / 2))).lastParity.getD 0) ((s.sub (2 * (c.val / 2) + 1)).lastParity.getD 0)
  let seen := (s.sub (2 * (c.val / 2))).lastParity.isSome || (s.sub (2 * (c.val / 2) + 1)).lastParity.isSome
  if s.inOutage c then s
  else
    let again (x : Launched) : Bool := q.replayPend.any fun y => y.op == x.op && y.loc == x.loc
    let lost := q.replayPend ++ q.replay.filter fun x => decide (q.slot ≤ x.slot + 64) && !again x
    let pre := List.range s.chipSelects
    let s1 := (s.setSub c { q with
      pause := false, parityPre := pre, replayPend := lost, lastParity := some s.chron }).logE 0x0802 (srcInt 0x08) 0 (infoCs c 0)
    if seen && s.chron ≤ last + 1000000 then s1.startOutage (c.val / 2) 2 else s1

/-! ### The sideband (R235, R259) -/

/-- A transaction SGT refuses (R235): a write to an SPD NVM after CFG_LOCK, or to a module buffer during Sighting. -/
def State.sidebandRefused (s : State) (v : Word) : Bool :=
  let lid := field v 16 7 / 8
  bit v 30 && ((lid == 0xA && decide (0x80 ≤ field v 0 11) && s.locked) || (lid == 0xB && s.sgt.phase == .train))

/-- The channel of the transaction in progress. -/
def State.sbChannel (s : State) : Nat := field s.sgt.sbCmd 24 4

/-- When the next temperature poll of a channel is ready (R216, R228). -/
def State.pollAt (s : State) (ch : Nat) : Nat := (s.therm ch).polled + orOne (s.fld 0x070004 0 8) * 1000000

/-- A temperature poll of a populated channel is ready (R216, R235). -/
def State.pollReady (s : State) (ch : Nat) : Bool :=
  s.sgt.discovered && bit s.sgt.pop ch && decide (s.pollAt ch ≤ s.chron)

/-- The bus of a channel has made a transaction (R234): its first one is in I2C; then SETAASA, and I3C with packet error
checking. -/
def State.busUsed (s : State) (ch : Nat) : State := s.updSgt fun g => { g with i3c := insertNat g.i3c ch }

/-- SGT_SB_CMD with its new word (R235, R259): a poll that is ready for the same bus goes first. -/
def State.sidebandCmd (s : State) (v : Word) : State :=
  let s1 := s.setReg 0x080030 (v &&& 0x7FFFFFFF)
  if !bit v 31 || s.sgt.sbBusy then s1
  else if s.sidebandRefused v then s1.updSgt fun g => { g with sbResult := 4 }
  else s1.updSgt fun g => { g with
    sbBusy := true, sbCmd := v, sbSince := s.chron, sbAfterPoll := s1.pollReady (field v 24 4) }

/-- A firmware transaction is on a channel's bus (R235). -/
def State.sbOn (s : State) (ch : Nat) : Bool := s.sgt.sbBusy && !s.sgt.sbAfterPoll && s.sbChannel == ch

/-- Time at which a transaction has timed out: 1 ms for it and for each of its two retries (R234). -/
def State.sbLimit (s : State) : Nat := s.sgt.sbSince + 3000000

/-- SIDEBAND_DONE (R234): the transaction in progress completes, or times out after its retries: with result 3, or when it
has not completed by then. -/
def State.sidebandDone (s : State) (result : BitVec 3) (data : Word) : State :=
  if !s.sgt.sbBusy || s.sgt.sbAfterPoll then s
  else
    let late := result == 3 || decide (s.sbLimit < s.chron)
    let res : BitVec 3 := if late then 3 else result
    let s0 := if late then s.until_ s.sbLimit else s
    let s1 := (s0.busUsed s.sbChannel).updSgt fun g => { g with sbBusy := false, sbResult := res }
    let n := 8 * (field s.sgt.sbCmd 28 2 + 1)
    if res = 0 && !bit s.sgt.sbCmd 30 then s1.setReg 0x080034 (putField (s.reg 0x080034) 0 n data.toNat) else s1

end Sys2Proof.Machine
end

