-- ==== Sys2Proof/Machine/Board.lean ====
section
/-! DEFINITION. Pace monitors, DIMM temperatures, the block's reset input and the test access port (R30–R32, R216, R443,
R506–R514). -/

namespace Sys2Proof.Machine

/-! ### Pace -/

/-- PACE_SAMPLE (R30–R32): a monitor takes one more sample; PACE is the mean of its last 16, rounded down, and is compared
with LIMIT at a sample only. The command leaves the Chronometer where it is (DESIGN CHOICE, entry 66). -/
def State.paceSample (s : State) (m : Nat) (v : BitVec 12) : State :=
  let p := agetD s.tel.pace m {}
  let l := (p.samples ++ [v]).drop (p.samples.length + 1 - 16)
  let mean := if l.length < 16 then 0 else (l.map fun x => x.toNat).sum / 16
  let lim := s.fld 0x010820 0 12
  let cross := p.armed && decide (lim < mean) && s.flag 0x010820 12
  let q : Pace :=
    { samples := l, pace := BitVec.ofNat 12 mean, max := BitVec.ofNat 12 (Nat.max p.max.toNat mean)
      armed := if cross then false else p.armed || decide (mean + 16 < lim) }
  let s1 := s.updTel fun t => { t with pace := aput t.pace m q }
  if cross then s1.logE 0x0101 (srcInt 0x01) 0 (mean + m * 2 ^ 16) else s1

/-- TEL_PACE of a monitor (R30). -/
def State.paceWord (s : State) (m : Nat) : Word :=
  let p := agetD s.tel.pace m {}
  at_ p.max.toNat 16 12 ||| at_ p.pace.toNat 0 12

/-! ### Temperature -/

/-- The state with a channel's thermal state set. -/
def State.setTherm (s : State) (ch : Nat) (t : Thermal) : State := { s with thermal := aput s.thermal ch t }

/-- A poll that read every sensor of the channel (R216). -/
def State.goodReading (s : State) (ch : Nat) (v : Byte) : State :=
  let t := s.therm ch
  let t2x := s.fld 0x070004 16 8
  let crit := s.fld 0x070004 24 8
  let low := decide (v.toNat ≤ t2x - 2)
  let good := if low then t.good + 1 else 0
  let hot : Bool := if t2x < v.toNat then true else if !low then t.hot else if t.byFail then decide (good < 3) else false
  let above := decide (crit < v.toNat)
  let first := above && !t.overCrit
  let t1 : Thermal := { t with
      latest := v, max := if t.max.toNat < v.toNat then v else t.max, hot := hot
      overCrit := above || (t.overCrit && !decide (v.toNat ≤ crit - 2)), bad := 0, good := good
      byFail := t.byFail && hot }
  let s1 := s.setTherm ch t1
  let s2 := if first then (s1.logE 0x0701 (srcInt 0x07) 0 (v.toNat + ch * 2 ^ 32)).event 0x070300 5 else s1
  let s3 := if above && s.flag 0x000044 30 then s2.setCause 7 else s2
  s3.tempTrigger ch

/-- A poll in which a sensor could not be read (R216). -/
def State.badReading (s : State) (ch : Nat) : State :=
  let t := s.therm ch
  let n := t.bad + 1
  if n = 3 then
    ((s.setTherm ch { t with bad := n, good := 0, hot := true, byFail := true }).logE 0x0702 (srcInt 0x07) 0 (ch * 2 ^ 32)).event
      0x070300 6
  else s.setTherm ch { t with bad := Nat.min 3 n, good := 0 }

/-- Cause DIMM_HOT ends once every channel reads at or below TCRIT − 2 (R443). -/
def State.coolDown (s : State) : State :=
  let crit := s.fld 0x070004 24 8
  if s.cfg.drCause.getLsbD 7 && s.thermal.all fun x => decide (x.2.latest.toNat ≤ crit - 2) then
    (s.clearCause (BitVec.ofNat 10 128)).reeval
  else s

/-- THERMAL_POLL (R216, R228, R235): the sensors of a channel's DIMMs, POLL_MS after the last poll. It waits while a firmware
transaction is on the channel's bus. -/
def State.thermalPoll (s : State) (ch : Nat) (readings : List (Option Byte)) : State :=
  if s.sbOn ch then s
  else
    let s0 := s.until_ (s.pollAt ch)
    let s1 := (s0.setTherm ch { s0.therm ch with polled := s0.chron }).busUsed ch
    let s2 := if s.sgt.sbBusy && s.sbChannel == ch then s1.updSgt fun g => { g with sbAfterPoll := false, sbSince := s0.chron } else s1
    let vals := readings.filterMap fun x => x
    if readings.isEmpty || vals.length < readings.length then s2.badReading ch
    else (s2.goodReading ch (vals.foldl (fun m v => if m.toNat < v.toNat then v else m) 0)).coolDown

/-! ### Reset -/

/-- The block after its reset input went low (R440, R507): everything at its reset value; the queue of commands, the straps,
the modules in the DIMM slots, the free-value counter and the test access port are not the block's to lose. -/
def State.afterReset (s : State) (held : Bool) : State :=
  { State.reset with
    pending := s.pending, freeCtr := s.freeCtr
    cfg := { mode := .reset, resetHeld := held, enumIn := s.cfg.enumIn }
    sgt := { State.reset.sgt with hubs := s.sgt.hubs, asked := s.sgt.asked }
    pins := { s.pins with selftestDone := false, ptpEdgeAt := none } }

/-- RST_N_RELEASE (R506, R509): the straps are sampled. -/
def State.rstRelease (s : State) (edgeSync : BitVec 20) : State :=
  if s.cfg.resetHeld then { s with cfg := { s.cfg with resetHeld := false }, pins := { s.pins with edgeSync := edgeSync } } else s

/-! ### Test access -/

/-- The stages of a test chain as they are captured. -/
def chainBits (n : Nat) : List Bool := (List.range n).map Config.testChain

/-- A TAP instruction is selected, with what its register captures. -/
def State.tapSelect (s : State) (i : TapInstr) (data : List Bool) : State :=
  s.updPins fun p => { p with tap := i, tapData := data }

/-- IDCODE (R512), least significant bit first; bit 0 is 1. -/
def idcodeBits : List Bool := true :: (List.range 31).map fun k => Config.idcode.getLsbD (k + 1)

end Sys2Proof.Machine
end

