-- ==== Sys2Proof/Machine/Rings.lean ====
section
/-! DEFINITION. DRE: the host-memory master port, the submission and completion rings, messages, the fetch, checks and
dispatch of descriptors (R369, R371, R411–R422, R426–R434). -/

namespace Sys2Proof.Machine

/-! ### Ring registers -/

/-- DRE_SQ_BASE_LO of a ring (R430). -/
def sqPage (q : Nat) : Nat := 0x031000 + q * 0x20

/-- DRE_CQ_BASE_LO of a ring (R430). -/
def cqPage (q : Nat) : Nat := 0x032000 + q * 0x20

/-- DRE_VEC_ADDR_LO of a vector (R430). -/
def vecPage (v : Nat) : Nat := 0x033000 + v * 0x10

/-- A submission ring. -/
def State.sq (s : State) (q : Nat) : SqState := agetD s.dre.sq q {}

/-- The state with a submission ring set. -/
def State.setSq (s : State) (q : Nat) (v : SqState) : State := s.updDre fun d => { d with sq := aputD d.sq q v {} }

/-- A completion ring. -/
def State.cq (s : State) (q : Nat) : CqState := agetD s.dre.cq q {}

/-- The state with a completion ring set. -/
def State.setCq (s : State) (q : Nat) (v : CqState) : State := s.updDre fun d => { d with cq := aputD d.cq q v {} }

/-- The submission ring is enabled. -/
def State.sqOn (s : State) (q : Nat) : Bool := s.flag (sqPage q + 8) 31

/-- The completion ring is enabled. -/
def State.cqOn (s : State) (q : Nat) : Bool := s.flag (cqPage q + 8) 31

/-- Entries of a submission ring (R411). -/
def State.sqSize (s : State) (q : Nat) : Nat := 2 ^ s.fld (sqPage q + 8) 0 5

/-- Entries of a completion ring (R411). -/
def State.cqSize (s : State) (q : Nat) : Nat := 2 ^ s.fld (cqPage q + 8) 0 5

/-- The tail of a submission ring (R413). -/
def State.sqTail (s : State) (q : Nat) : Nat := s.fld (sqPage q + 12) 0 16

/-- The head of a completion ring (R416). -/
def State.cqHead (s : State) (q : Nat) : Nat := s.fld (cqPage q + 12) 0 16

/-- Entries from a to b in a ring of n. -/
def ringDist (a b n : Nat) : Nat := (b + n - a % n) % n

/-- Free slots of a completion ring (R415). -/
def State.cqFree (s : State) (q : Nat) : Nat :=
  s.cqSize q - 1 - ringDist (s.cqHead q) (s.cq q).tail (s.cqSize q) - (s.cq q).reserved

/-- DRE works: enabled, in a mode of Pilot service (R414, R429). -/
def State.dreRuns (s : State) : Bool := s.flag 0x030000 31 && s.cfg.mode.serves

/-! ### The host-memory master port (R426–R428) -/

/-- The lowest HMP tag not in use (R427). -/
def State.freeHmpTag (s : State) : Option Byte :=
  ((List.range 256).map (BitVec.ofNat 8)).find? fun t => !(s.dre.hmp.any fun o => o.tag == t) && !s.dre.hmpQuar.contains t

/-- A request goes out on the HMP, or waits for a tag. -/
def State.hmpSend (s : State) (op : BitVec 2) (addr : Nat) (mask : BitVec 64) (data : Line) (use : HmpUse) : State :=
  let o : HmpOut := { tag := 0, op := op, addr := BitVec.ofNat 64 addr, mask := mask, data := data, use := use, since := s.chron }
  match s.freeHmpTag with
  | some t => if s.dre.hmpWait.isEmpty then s.updDre fun d => { d with hmp := d.hmp ++ [{ o with tag := t }] }
    else s.updDre fun d => { d with hmpWait := d.hmpWait ++ [o] }
  | none => s.updDre fun d => { d with hmpWait := d.hmpWait ++ [o] }

/-- Requests that wait for an HMP tag take one. -/
def State.hmpPump (s : State) : State :=
  s.dre.hmpWait.foldl (fun t o => t.hmpSend o.op o.addr.toNat o.mask o.data o.use) (s.updDre fun d => { d with hmpWait := [] })

/-- HMP_TMO_US in ns (R431). -/
def State.hmpTmo (s : State) : Nat := orOne (s.fld 0x030000 0 16) * 1000

/-- An HMP request is answered (R427, R428): status 0 is OK. -/
def State.hmpDone (s : State) (o : HmpOut) (stat : Nat) (data : Line) : State :=
  match o.use with
  | .fetch q slot =>
    if stat = 0 then s.ringArrive q slot (.line data)
    else if slot / 65536 ≠ (s.sq q).gen then s
    else s.ringFault 0 q o.addr.toNat stat
  | .completion q gen => if stat = 0 || gen ≠ (s.cq q).gen then s else s.ringFault 1 q o.addr.toNat stat
  | .message v => if stat = 0 then s else s.ringFault 2 v o.addr.toNat stat

/-- HMP_RESPONSE (R427): the late response of a quarantined tag is discarded and frees it. -/
def State.hmpResponse (s : State) (tag : Byte) (stat : BitVec 2) (data : Line) : State :=
  if s.dre.hmpQuar.contains tag then s.updDre fun d => { d with hmpQuar := d.hmpQuar.filter (· != tag) }
  else match s.dre.hmp.find? fun o => o.tag == tag with
    | none => s
    | some o => (s.updDre fun d => { d with hmp := d.hmp.filter fun x => x.tag != tag }).hmpDone o stat.toNat data

/-- HMP_TIMEOUT (R427): as ERROR; the tag is quarantined. -/
def State.hmpTimeout (s : State) (tag : Byte) : State :=
  match s.dre.hmp.find? fun o => o.tag == tag with
  | none => s
  | some o =>
    let s1 := (s.until_ (o.since + s.hmpTmo)).updDre fun d =>
      { d with hmp := d.hmp.filter (fun x => x.tag != tag), hmpQuar := d.hmpQuar ++ [tag] }
    (s1.event 0x030100 4).hmpDone o 1 0

/-! ### Messages (R417) -/

/-- A ring's vector sends its message, or keeps it pending while masked (R417, R434). -/
def State.sendMsg (s : State) (v : Fin 64) : State :=
  if s.flag (vecPage v + 12) 0 then s.updDre fun d => { d with pending := insertNat d.pending v }
  else s.hmpSend 2 (s.reg64 (vecPage v)) 0xF ((s.reg (vecPage v + 8)).setWidth 512) (.message v)

/-- The message of a completion ring. -/
def State.ringMsg (s : State) (q : Nat) : State :=
  let v := s.cq q
  (s.setCq q { v with sinceMsg := 0, oldest := none }).sendMsg (Fin.ofNat 64 (s.fld (cqPage q + 8) 24 6))

/-- CNT of a ring (R433). -/
def State.cqCnt (s : State) (q : Nat) : Nat := s.fld (cqPage q + 8) 16 8

/-- IRQ_COALESCE_TIMEOUT (R417). -/
def State.coalesce (s : State) (q : Fin 64) : State :=
  let t := s.fld (cqPage q + 8) 8 8
  match (s.cq q).oldest with
  | none => s
  | some o => if t = 0 || s.cqCnt q = 0 || s.cfg.mode = .save then s else (s.until_ (o + t * 1000)).ringMsg q

/-- DRE_VEC_CTL with its new word (R417): clearing MASK sends a held message, in Save none (R429). -/
def State.vecCtl (s : State) (v : Fin 64) (w : Word) : State :=
  let s1 := s.setReg (vecPage v + 12) w
  if !bit w 0 && s.dre.pending.contains v.val && s.cfg.mode != .save then
    (s1.updDre fun d => { d with pending := d.pending.filter (· != v.val) }).sendMsg v
  else s1

/-! ### Completions (R415, R416) -/

/-- The 16 bytes of a completion entry (R416). -/
def Compl.entry (c : Compl) (head : Nat) (phase : Bool) : Nat :=
  c.result.toNat + c.tag.toNat * 2 ^ 64 + head % 65536 * 2 ^ 80 + c.status.toNat * 2 ^ 96 + c.sq.val * 2 ^ 112
    + (if phase then 2 ^ 120 else 0)

/-- The write of a ring's completion entry into Tier 0 (R411): no code where it waits, else that of the access. -/
def State.ringStore (s : State) (q addr n : Nat) : Option Code × State :=
  let off := addr % 64
  match s.region addr with
  | .t0 pa =>
    let line := pa / 64
    if s.map.act.inCarve pa || s.map.act.inRedo pa then (some .errAccess, s.noteCarve (srcInt 0x03) addr 0)
    else if s.reachState (reachOfLine line) = 2 then (some .errOwner, s)
    else
      let w := s.unitWaits line
      if w.1 then (none, s)
      else if s.deadLine line || s.xtsKey.isNone then (some .errDevice, s)
      else
        let a := s.admitAs (.compl q) s.dreClass 2
        match a.1 with
        | none => (none, a.2)
        | some l => (some .ok, a.2.access (.wr
            { who := .agent 0x03, line := line, kind := .partialWrite, mask := byteMask off 16
              data := BitVec.ofNat 512 (n <<< (8 * off)) } l false))
  | .t1 _ _ _ => (some .errAccess, s.noteT1Write (srcInt 0x03) addr 0)
  | _ => (some .errAccess, s.noteUnmapped (srcInt 0x03) addr 0)

/-- A completion entry has been written (R414–R417): its slot, the ring's tail and phase, the message it may cause. -/
def State.complWritten (s : State) (q : Nat) (c : Compl) : State :=
  let v := s.cq q
  let wrap := v.tail + 1 = s.cqSize q
  let s1 := s.setCq q { v with
    tail := (v.tail + 1) % s.cqSize q, phase := if wrap then !v.phase else v.phase, reserved := v.reserved - 1
    waiting := v.waiting.drop 1, sinceMsg := v.sinceMsg + 1, oldest := match v.oldest with | some t => some t | none => some s.chron }
  let s2 := s1.setSq c.sq { s1.sq c.sq with open_ := (s1.sq c.sq).open_.filter (· != c.slot) }
  if s.cqCnt q ≠ 0 && (c.irqNow || decide (s.cqCnt q ≤ v.sinceMsg + 1)) then s2.ringMsg q else s2

/-- The first waiting completion of a ring is written, where it can be (R416, R428); in Save none is (R429). -/
def State.writeCompl (s : State) (q : Fin 64) : State :=
  let v := s.cq q
  match v.waiting with
  | [] => s
  | c :: _ =>
    if !s.cqOn q || v.fault || s.cfg.mode == .save then s
    else
      let addr := s.reg64 (cqPage q) + v.tail * 16
      let n := c.entry (s.sq c.sq).head v.phase
      if s.flag (cqPage q + 8) 7 then
        let r := s.ringStore q addr n
        match r.1 with
        | none => r.2
        | some .ok => r.2.complWritten q c
        | some code => (r.2.complWritten q c).ringFault 1 q addr code.bits.toNat
      else
        let off := addr % 64
        (s.hmpSend 1 (addr / 64 * 64) (byteMask off 16) (BitVec.ofNat 512 (n <<< (8 * off))) (.completion q v.gen)).complWritten
          q c

/-- Waiting completions of a ring are written in order. -/
def State.flushCompl (s : State) (q : Fin 64) : State :=
  ((s.cq q).waiting).foldl (fun t _ => t.writeCompl q) s

/-- The work of a descriptor ends (R416, R422): its completion joins its ring. In Save none is written (R429). -/
def State.complete (s : State) (d : Desc) (status : BitVec 16) (result : DWord) : State :=
  if s.cfg.mode = .save then s
  else
    let q : Fin 64 := Fin.ofNat 64 d.cq
    let c : Compl :=
      { result := result, tag := BitVec.ofNat 16 (bytesNat ((d.bytes.drop 4).take 2)), status := status, sq := d.sq, slot := d.slot
        irqNow := (d.bytes.getD 1 0).getLsbD 6 }
    let v := s.cq q
    (s.setCq q { v with waiting := v.waiting ++ [c] }).flushCompl q

/-! ### Doorbells (R413, R416) -/

/-- DOORBELL_BAD (R413, R416, R517). -/
def State.doorbellBad (s : State) (q kind : Nat) (v : Word) : State :=
  (s.logE 0x0301 (srcInt 0x03) 0 (q + kind * 2 ^ 8 + field v 0 16 * 2 ^ 16)).event 0x030100 1

/-- A submission doorbell (R413). -/
def State.sqBell (s : State) (q : Nat) (v : Word) : State :=
  if s.sqSize q ≤ field v 0 16 then s.doorbellBad q 0 v else s.setReg (sqPage q + 12) (at_ (field v 0 16) 0 16)

/-- A completion doorbell (R416): not past the tail. -/
def State.cqBell (s : State) (q : Nat) (v : Word) : State :=
  let n := s.cqSize q
  let h := s.cqHead q
  if n ≤ field v 0 16 || ringDist h (s.cq q).tail n < ringDist h (field v 0 16) n then s.doorbellBad q 1 v
  else s.setReg (cqPage q + 12) (at_ (field v 0 16) 0 16)

/-! ### Ring configuration (R432, R433) -/

/-- The bits of a new word that may not change while EN is 1. -/
def fixedBits (old new mask : Word) : Bool := bit old 31 && (old ^^^ new) &&& mask != 0

/-- LOG2SIZE is in range. -/
def goodSize (w : Word) : Bool := decide (6 ≤ field w 0 5) && decide (field w 0 5 ≤ 16)

/-- DRE_SQ_CFG with its new word (R429, R432). -/
def State.sqConfig (s : State) (q : Nat) (w : Word) : State :=
  let old := s.reg (sqPage q + 8)
  if fixedBits old w 0x003F801F || !goodSize w || (bit w 31 && !s.cqOn (field w 16 6)) then s.event 0x030100 5
  else
    let s1 := s.setReg (sqPage q + 8) w
    let v := s1.sq q
    if bit w 31 && !bit old 31 then
      (s1.setReg (sqPage q + 12) 0).setSq q { open_ := v.open_, gen := v.gen + 1 }
    else if !bit w 31 && bit old 31 then
      s1.setSq q { v with fetched := [], nextFetch := v.head, gen := v.gen + 1 }
    else s1

/-- An enabled submission ring names a completion ring. -/
def State.cqNamed (s : State) (q : Nat) : Bool := (List.range 64).any fun k => s.sqOn k && s.fld (sqPage k + 8) 16 6 == q

/-- DRE_CQ_CFG with its new word (R428, R433). -/
def State.cqConfig (s : State) (q : Fin 64) (w : Word) : State :=
  let old := s.reg (cqPage q + 8)
  if fixedBits old w 0x0000009F || !goodSize w || (!bit w 31 && bit old 31 && s.cqNamed q) then s.event 0x030100 5
  else
    let s1 := s.setReg (cqPage q + 8) w
    if bit w 31 && !bit old 31 then
      let v := s1.cq q
      ((s1.setReg (cqPage q + 12) 0).setCq q { reserved := v.reserved, waiting := v.waiting, gen := v.gen + 1 }).flushCompl q
    else s1

/-! ### Fetch (R414) -/

/-- One descriptor is asked for; answers whether it is, or the access to a Tier 0 ring has to wait. -/
def State.fetchOne (s : State) (q : Fin 64) (slot : Nat) : Bool × State :=
  let addr := s.sqAddr q slot
  let key := slot + 65536 * (s.sq q).gen
  if !s.flag (sqPage q + 8) 15 then (true, s.hmpSend 0 addr 0 0 (.fetch q key))
  else match s.region addr with
    | .t0 pa =>
      if s.map.act.inCarve pa || s.map.act.inRedo pa then
        (true, (s.noteCarve (srcInt 0x03) addr 0).ringFault 0 q addr 4)
      else if s.notCurrent (pa / 64) then (true, s.ringFault 0 q addr Code.defer.bits.toNat)
      else
        let w := s.unitWaits (pa / 64)
        if w.1 then (false, s)
        else
          let a := s.admitAs (.desc q) s.dreClass 1
          match a.1 with
          | none => (false, a.2)
          | some l => (true, a.2.access (.rd (.ring q key) (pa / 64) (.agent 0x03) l false))
    | .t1 _ _ _ => (true, s.ringFault 0 q addr 4)
    | _ => (true, (s.noteUnmapped (srcInt 0x03) addr 0).ringFault 0 q addr 4)

/-- Descriptors of a ring that are fetched or asked for and not dispatched. -/
def State.sqQueued (s : State) (q : Nat) : Nat := ringDist (s.sq q).head (s.sq q).nextFetch (s.sqSize q)

/-- The next descriptor of a ring is asked for, where one waits and the fetch queue of 16 has room (R21). -/
def State.fetchNext (s : State) (q : Fin 64) : State :=
  let v := s.sq q
  if v.nextFetch = s.sqTail q || v.fault || 16 ≤ s.sqQueued q then s
  else
    let r := s.fetchOne q v.nextFetch
    if !r.1 then r.2
    else
      let t := r.2
      (t.setSq q { t.sq q with nextFetch := (v.nextFetch + 1) % s.sqSize q }).qIn (.dreFetch q) v.nextFetch

/-- A ring has descriptors to fetch. -/
def State.ringFetchable (s : State) (q : Nat) : Bool :=
  s.sqOn q && !(s.sq q).fault && (s.sq q).nextFetch != s.sqTail q && decide (s.sqQueued q < 16)

/-- DESCRIPTOR_FETCH (R414): the next ring in rotation, up to WEIGHT descriptors. -/
def State.fetchTurn (s : State) : State :=
  if !s.dreRuns then s
  else match ((List.range 64).map fun i => (s.dre.turn + i) % 64).find? s.ringFetchable with
    | none => s
    | some q =>
      let k : Fin 64 := Fin.ofNat 64 q
      (List.range (orOne (s.fld (sqPage q + 8) 8 4))).foldl (fun t _ => t.fetchNext k)
        (s.updDre fun d => { d with turn := (q + 1) % 64 })

/-! ### The checks of R420 -/

/-- n little-endian bytes of a descriptor from an offset. -/
def dget (b : List Byte) (off n : Nat) : Nat := bytesNat ((b.drop off).take n)

/-- Byte ranges of each opcode's fields beyond the header: offset and length (R421). -/
def descFields (op : Nat) : Option (List (Nat × Nat)) :=
  match op with
  | 0x01 => some [(16, 12)]
  | 0x02 => some [(16, 13), (30, 4)]
  | 0x03 => some [(16, 1), (18, 2)]
  | 0x10 => some [(16, 19)]
  | 0x11 => some [(16, 35)]
  | 0x12 => some [(16, 24)]
  | 0x13 => some [(24, 24)]
  | 0x14 => some [(16, 12)]
  | 0x15 => some [(16, 14), (32, 20)]
  | 0x16 => some [(16, 26)]
  | 0x17 => some []
  | 0x18 => some [(16, 12)]
  | 0x20 => some [(8, 56)]
  | _ => none

/-- A byte outside the header and the fields is not zero. -/
def strayByte (b : List Byte) (fs : List (Nat × Nat)) : Bool :=
  (List.range 56).any fun i =>
    b.getD (8 + i) 0 != 0 && !(fs.any fun f => decide (f.1 ≤ 8 + i) && decide (8 + i < f.1 + f.2))

/-- A range of n bytes, at least one, lies in Tier 0. -/
def State.inT0 (s : State) (a n : Nat) : Bool := decide (a + Nat.max n 1 ≤ s.map.act.top)

/-- A range of n bytes lies in Tier 1. -/
def State.inT1 (s : State) (a n : Nat) : Bool :=
  let t := 0x0010000000000000
  decide (t ≤ a) && decide (a + Nat.max n 1 ≤ t + s.map.act.t1Segs * 2 ^ 21)

/-- The header of a descriptor has a reserved bit set (R418). -/
def badHeader (b : List Byte) : Bool :=
  let svc := bitsOf (dget b 3 1) 0 4
  let user := dget b 0 1 == 0x20
  bitsOf (dget b 1 1) 0 6 != 0 || bitsOf (dget b 2 1) 6 2 != 0 || bitsOf (dget b 3 1) 4 4 != 0 || dget b 6 2 != 0
    || (if user then decide (svc < 10) else svc != 0)

/-- BAD_FIELD of an opcode's own fields (R420, R421). -/
def State.badFields (s : State) (b : List Byte) : Bool :=
  let src := dget b 16 8
  let len := dget b 24 4
  let dst := dget b 32 8
  let t01 := s.inT0 src len || s.inT1 src len
  match dget b 0 1 with
  | 0x01 => src % 4096 != 0 || !s.inT1 src (len * 4096)
  | 0x02 => src % 4 != 0 || !s.inT0 src (4 * len) || bitsOf (dget b 32 2) 12 3 != 0 || bitsOf (dget b 32 2) 6 2 != 0
      || (!(dget b 32 2).testBit 15 && (bitsOf (dget b 32 2) 8 4 != 0 || decide (32 ≤ bitsOf (dget b 32 2) 0 6)))
  | 0x03 => decide (64 ≤ dget b 16 1)
  | 0x10 => src % 8 != 0 || !s.inT0 src (8 * dget b 32 2) || dget b 24 8 % 64 != 0 || !s.inT0 (dget b 24 8) (64 * dget b 32 2)
      || decide (3 ≤ dget b 34 1)
  | 0x11 => src % 64 != 0 || !t01 || (dst != 0 && (dst % 64 != 0 || !s.inT0 dst len)) || decide (8 ≤ dget b 48 1)
      || decide (7 ≤ dget b 49 1) || decide (4 ≤ dget b 50 1)
  | 0x12 => !t01 || !s.inT0 dst len || (decide (src < dst + len) && decide (dst < src + len))
  | 0x13 => !s.inT0 dst len
  | 0x14 => src % 2 ^ 21 != 0 || !s.inT0 src (2 ^ 21) || decide (s.map.act.t1Segs ≤ bitsOf len 0 31)
  | 0x15 => !s.inT0 src len || decide (2 ≤ dget b 28 1) || decide (64 ≤ dget b 29 1)
      || dst % 16 != 0 || !s.inT0 dst 16 || (dget b 28 1 == 1 && ivTaken (dget b 40 12))
  | 0x16 => decide (3 ≤ dget b 40 1) || dget b 41 1 == 0 || decide (4 ≤ dget b 41 1)
      || !s.inT0 src (if dget b 40 1 == 1 then len else 1) || !s.inT0 dst (if dget b 40 1 == 1 then len else 1)
  | 0x18 => src % 64 != 0 || !s.inT0 src len
  | _ => false

/-- A count is out of its range (R419, R421). -/
def badCount (b : List Byte) : Bool :=
  let out (v hi : Nat) : Bool := v == 0 || decide (hi < v)
  match dget b 0 1 with
  | 0x01 => out (dget b 24 4) (2 ^ 24)
  | 0x02 => out (dget b 24 4) (2 ^ 24) || out (dget b 28 1) 32 || out (dget b 30 2) 512
  | 0x10 => out (dget b 32 2) 256
  | _ => false

/-- The opcode has a length (R421). -/
def hasLength (b : List Byte) : Bool :=
  match dget b 0 1 with
  | 0x11 | 0x12 | 0x13 | 0x15 | 0x18 => true
  | 0x16 => dget b 40 1 == 1
  | _ => false

/-- The opcode pairs its length with a BOUND (R421). -/
def hasBound (b : List Byte) : Bool :=
  match dget b 0 1 with
  | 0x11 => dget b 32 8 != 0
  | 0x12 | 0x13 => true
  | 0x16 => dget b 40 1 == 1
  | _ => false

/-- The engine service of a descriptor (R421); none where DTI serves it. -/
def descService (b : List Byte) : Option Nat :=
  match dget b 0 1 with
  | 0x10 => some 0 | 0x11 => some 1 | 0x12 | 0x13 => some 2 | 0x14 => some 3 | 0x15 => some 4 | 0x16 => some 5
  | 0x17 => some 6 | 0x18 => some 7 | 0x20 => some (bitsOf (dget b 3 1) 0 4)
  | _ => none

/-- Engines that run and declare a service (R369). -/
def State.servers (s : State) (svc : Nat) : List EngineNo :=
  s.engineNos.filter fun e => (s.engine e).state == .running && s.flag (peaPage e + 8) svc

/-- The first failing check of a descriptor (R420). -/
def State.descCheck (s : State) (b : List Byte) : Option (BitVec 16) :=
  match descFields (dget b 0 1) with
  | none => some 1
  | some fs =>
    if badHeader b || strayByte b fs || s.badFields b then some 2
    else if badCount b then some 3
    else if hasLength b && dget b 24 4 == 0 then some 4
    else if hasBound b && decide (dget b 28 4 < dget b 24 4) then some 5
    else match descService b with
      | some n => if (s.servers n).isEmpty then some 6 else none
      | none => none

/-! ### Dispatch (R369, R414) -/

/-- The engine that gets a descriptor (R369): the fewest inbox entries, then the lowest number; none while every inbox
is full. -/
def State.pickEngine (s : State) (svc : Nat) : Option EngineNo :=
  let l : List EngineNo := (s.servers svc).filter fun e => decide ((s.engine e).inbox.length < 8)
  l.foldl (fun b e => match b with
    | none => some e
    | some x => if (s.engine e).inbox.length < (s.engine x).inbox.length || ((s.engine e).inbox.length = (s.engine x).inbox.length && e < x)
        then some e else some x) none

/-- A descriptor joins an inbox. -/
def State.giveTo (s : State) (e : EngineNo) (d : Desc) : State := s.updEngine e fun n => { n with inbox := n.inbox ++ [d] }

/-- A descriptor's completion slot is reserved and the head passes it (R414, R415). -/
def State.takeHead (s : State) (q : Fin 64) (d : Desc) (open_ : Bool) : Desc × State :=
  let v := s.sq q
  let n := s.fld (sqPage q + 8) 16 6
  let d1 := { d with slot := d.slot + 65536 * v.gen, cq := n, wpl := s.plg.wpl, at_ := s.chron }
  let s1 := s.setSq q { v with
    head := (v.head + 1) % s.sqSize q, fetched := dropFirst v.fetched (· == d)
    open_ := if open_ then v.open_ ++ [d1.slot] else v.open_ }
  (d1, (s1.setCq n { s1.cq n with reserved := (s1.cq n).reserved + 1 }).qOut (.dreFetch q))

/-- DESCRIPTOR_DISPATCH (R414, R420). -/
def State.dispatch (s : State) (q : Fin 64) : State :=
  let v := s.sq q
  let n := s.fld (sqPage q + 8) 16 6
  if !s.dreRuns || !s.sqOn q then s
  else match v.fetched.find? fun d => d.slot == v.head with
    | none => s
    | some d =>
      if !s.cqOn n || (s.cq n).fault || s.cqFree n = 0 then s
      else match s.descCheck d.bytes with
        | some st => let r := s.takeHead q d false; r.2.complete r.1 st 0
        | none =>
          if (d.bytes.getD 1 0).getLsbD 7 && !v.open_.isEmpty then s
          else match descService d.bytes with
            | none => let r := s.takeHead q d true; r.2.updDre fun x => { x with dtiWork := x.dtiWork ++ [r.1] }
            | some svc => match s.pickEngine svc with
              | none => s
              | some e => let r := s.takeHead q d true; r.2.giveTo e r.1

/-- Descriptors that came back from an inbox are passed again (R369, R371). -/
def State.passBack (s : State) : State :=
  s.dre.back.foldl (fun t d =>
    let svc := (descService d.bytes).getD 0
    if (t.servers svc).isEmpty then t.complete d 6 0
    else match t.pickEngine svc with
      | some e => t.giveTo e d
      | none => t.updDre fun x => { x with back := x.back ++ [d] }) (s.updDre fun x => { x with back := [] })

/-- Completions that wait are written where they can be. -/
def State.flushAll (s : State) : State :=
  (s.dre.cq.filter fun c => !c.2.waiting.isEmpty).foldl (fun t c => t.flushCompl (Fin.ofNat 64 c.1)) s

end Sys2Proof.Machine
end

