-- ==== Sys2Proof/Machine/Mismatch.lean ====
section
/-! DEFINITION. What the block does when the pointer copies or notices of a protected queue disagree, or its producer falls
silent (R18–R21, R276, R486). -/

namespace Sys2Proof.Machine

/-- The register page of the subsystem that consumes a queue (R21, R480). -/
def queuePage : Queue → Nat
  | .hpxIngress _ | .hpxEgress _ => 0x02
  | .chsRead c | .chsWrite c => 0x10 + c.val / 2
  | .eccReturn _ => 0x09
  | .plgMark | .plgDrain => 0x0C
  | .twnOut | .twnIn => 0x0D
  | .dtiCmd => 0x0E
  | .dreFetch _ => 0x03
  | .cphJob _ => 0x0B

/-! ### Host ports -/

/-- HPX ingress: requests not yet accepted are answered ERR_DEVICE. -/
def State.ingressMismatch (s : State) (p : Fin 16) : State :=
  let mine (w : Waiting) : Bool := w.src.port == some p.val
  let gone := s.atu.waiting.filter mine
  let s1 := s.updAtu fun a => { a with waiting := a.waiting.filter fun w => !mine w }
  let s2 := gone.foldl (fun t w => (t.leave w.src).answerSource w.src .errDevice 0) s1
  s2.event 0x020200 0

/-- A response that is formed again by executing its read (R21). -/
def Port.again (p : Port) (r : Response) : Bool :=
  match aget p.tags r.tag.toNat with
  | some t => t.op == .read || t.op == .resvLd
  | none => false

/-- A read of the tag table is executed again, in its order of arrival. -/
def State.readAgain (s : State) (p : Fin 16) (tag : BitVec 12) : State :=
  let port := s.port p
  match aget port.tags tag.toNat with
  | none => s
  | some t =>
    let s1 := s.setPort p { port with tags := aput port.tags tag.toNat { t with answered := false } }
    if !s.cfg.mode.servesOp t.op then s1.respondCode p tag .errMode
    else
      let w : Waiting := { no := t.no, src := .host t.op t.q, arrived := t.arrived }
      (s1.updAtu fun a => { a with waiting := insertWaiting w a.waiting }).qIn (.hpxIngress p) t.q.addr.toNat

/-- HPX egress: read responses are formed again by executing the read, the others from the tag table; the bundle on the
RS wires stays (R54). -/
def State.egressMismatch (s : State) (p : Fin 16) : State :=
  let port := s.port p
  let behind := port.egress.drop 1
  let reads := (behind.filter port.again).map fun r => r.tag
  let kept := port.egress.take 1 ++ behind.filter fun r => !port.again r
  let s1 := (s.setPort p { port with egress := kept }).qAgain (.hpxEgress p) (kept.map fun r => r.tag.toNat)
  reads.foldl (fun t g => t.readAgain p g) s1

/-! ### Channel schedulers and ECC -/

/-- The items that stay in the slot register when the column commands of a queue are taken back, and those taken back: with
an RDA or WRA, whose row then stays open, also the later items of its bank. -/
def takeBack (rd : Bool) (shut : List Nat) : List (Nat × Item) → List (Nat × Item) × List (DOp × Loc × Option Nat)
  | [] => ([], [])
  | (n, .hold r) :: l => let x := takeBack rd shut l; ((n, .hold r) :: x.1, x.2)
  | (n, .cmd op a id w) :: l =>
    let mine := if rd then op.isRd else op.isWr
    if shut.contains (bankKey a) || (mine && id.isSome) then
      let x := takeBack rd (if op == .rda || op == .wra then bankKey a :: shut else shut) l
      (x.1, (op, a, id) :: x.2)
    else
      let x := takeBack rd shut l
      ((n, .cmd op a id w) :: x.1, x.2)

/-- The column commands of a queue that stand in the slot register are taken back: their entries are no longer issuing, and
the row that an RDA or WRA was to close is open as before. -/
def SubState.takeBack (q : SubState) (rd : Bool) : SubState :=
  let x := Machine.takeBack rd [] q.slotReg
  let ids := x.2.filterMap fun y => y.2.2
  let reopen (q : SubState) (y : DOp × Loc × Option Nat) : SubState :=
    if y.1 == .rda || y.1 == .wra then
      q.updBank (bankKey y.2.1) fun b => { b with
        openRow := some y.2.1.row, auto := false, lastClosed := if b.score = 0 then none else b.lastClosed }
    else q
  let q1 := { q with
    slotReg := x.1
    rq := mapIf q.rq (fun e => ids.contains e.id) fun e => { e with issuing := false }
    wq := mapIf q.wq (fun e => ids.contains e.id) fun e => { e with issuing := false } }
  x.2.reverse.foldl reopen q1

/-- CHS read queue: the reads are executed again from their requesters' records (R21, R206). -/
def State.readMismatch (s : State) (c : Sub) : State :=
  let q := (s.sub c).takeBack true
  let q1 := { q with rq := q.rq.map fun e => { e with issuing := false } }
  ((s.setSub c q1).qAgain (.chsRead c) (q1.rq.map fun e => e.line)).event (chsPage (c.val / 2) + 0x200) 2

/-- One poisoned entry for each line of a write queue, oldest first. -/
def poisonEntries (now : Nat) (q : List WEntry) (id : Nat) : List WEntry :=
  match q with
  | [] => []
  | e :: r =>
    if r.any fun x => x.line == e.line then poisonEntries now r id
    else { e with id := id, data := 0, pois := true, who := .agent 0x09, level := .normal, stamp := now, issuing := false
                  reserved := true } :: poisonEntries now r (id + 1)

/-- A slot of a write queue whose address fails its parity (R276): the line cannot be named. -/
def State.addrLost (s : State) (c : Sub) (slot : Nat) : State :=
  (s.logE 0x0903 (srcInt 0x09) 0 (slot + c.val % 2 * 2 ^ 28 + c.val / 2 * 2 ^ 32)).setCause 5

/-- CHS write queue (R276): every line of the address array is written as poisoned and enters the heal table. -/
def State.writeMismatch (s : State) (c : Sub) : State :=
  let q := (s.sub c).takeBack false
  let named (e : WEntry) : Bool := e.par == addrParity e.line
  let l := poisonEntries s.chron (q.wq.filter named) q.nextId
  let lost := (q.wq.zipIdx.filter fun x => !named x.1).map fun x => x.2
  let q1 := { q with
    wq := l, nextId := q.nextId + l.length, poisonLeft := l.map fun e => e.id }
  let s1 := ((s.setSub c q1).qAgain (.chsWrite c) (l.map fun e => e.line)).event (chsPage (c.val / 2) + 0x200) 1
  lost.foldl (fun t k => t.addrLost c k) (l.foldl (fun t e => t.enterHeal e.line) s1)

/-- ECC return: reads whose bursts were returning are executed again. -/
def State.returnMismatch (s : State) (ch : Fin 16) : State :=
  let go (t : State) (c : Sub) : State :=
    let q := t.sub c
    let back := (q.bursts.filter fun b => !b.discard).map fun b => { b.entry with issuing := false }
    let cl := (t.tim c.val).cl
    (t.qAgain (.chsRead c) (back.map fun e => e.line)).setSub c { q with
      rq := back ++ q.rq, bursts := q.bursts.map fun b => { b with discard := true }
      busy := q.busy.filter fun n => !(q.bursts.any fun b => b.slot + cl == n) }
  go (go s (Fin.ofNat 32 (2 * ch.val))) (Fin.ofNat 32 (2 * ch.val + 1))

/-! ### PLG, TWN and DRE -/

/-- PLG dirty-mark: every leaf of the address array is marked. -/
def State.markMismatch (s : State) : State := s.plg.markArr.foldl State.overMark s

/-- PLG drain: a drain whose lines are being read starts again; its leaf stays charged. -/
def State.drainMismatch (s : State) : State :=
  (s.qAgain .plgDrain (s.plg.drains.map fun d => d.leaf)).updPlg fun p => { p with drains := p.drains.map fun d =>
    if d.written || d.retryAt.isSome then d else { idx := d.idx, leaf := d.leaf, retryAt := some s.chron } }

/-- A forwarded write that was lost before it was sent. -/
def MirrorItem.lost : MirrorItem → Option (BitVec 12)
  | .fwd t _ _ _ _ _ _ => some t
  | .line _ _ _ _ _ _ _ _ => none

/-- The Waypoint sequence of an item's line. -/
def MirrorItem.seqOf : MirrorItem → Option Nat
  | .line _ _ _ _ q _ _ _ => q
  | .fwd _ _ _ _ _ _ _ => none

/-- TWN mirror-out: its writes missed the twin, which needs a Resync from the Anchor; a forwarded write that was not sent
is answered as R141 answers a lost one. -/
def State.outMismatch (s : State) : State :=
  let seqs := s.twn.out.filterMap MirrorItem.seqOf
  let tags := s.twn.out.filterMap MirrorItem.lost
  let lost := s.twn.forwards.filter fun f => tags.contains f.ftag
  let s3 := (s.updTwn fun t => { t with
    out := [], resync := none
    forwards := t.forwards.filter fun f => !tags.contains f.ftag }).missSeqs seqs
  let s4 := (s3.reachesIn 1).foldl (fun t r => (t.setInStep r false).missReach r) s3
  let s5 := lost.foldl (fun t f => t.answerForward f .errDevice) s4
  let s6 := s5.updAtu fun a => { a with covered := a.covered.filter fun c => !(tags.any fun g => c.fate == .forwarded g) }
  let s7 := match lost with
    | [] => s6
    | f :: _ => (s6.logE 0x0D05 (srcInt 0x0D) (lineAddr f.line) lost.length).event 0x0D0100 7
  if s7.twn.link = 2 && !s7.localReaches.isEmpty then s7.startResync false else s7

/-- TWN mirror-in: frames that wait are discarded unacknowledged, and their lane asks to go back; one whose write has been
handed over is no longer in the queue. -/
def State.inMismatch (s : State) : State :=
  let waits (l : Lane) : Bool := match l.waiting with | some (f, _, k) => !handedOver f k | none => false
  let any := s.twn.lanes.any waits
  s.updTwn fun t => { t with
    beatDue := t.beatDue || any
    lanes := t.lanes.map fun l => if waits l then { l with waiting := none, busy := false, nakDue := true, nakAt := some s.chron } else l }

/-- A command that is issued again although it has left the queue: a vault write, or the read of a fill. -/
def DpOwner.repeats : DpOwner → Bool
  | .fill _ _ _ | .drain _ | .vaultMeta _ => true
  | _ => false

/-- DTI deep command: the commands that wait are queued again; vault writes and the reads of fills on their way repeat. -/
def State.commandMismatch (s : State) : State :=
  let cs := s.dti.wstream ++ s.dti.rstream
  let s1 := s.qAgain .dtiCmd (cs.map fun c => c.unit.toNat)
  (s.dti.out.filter fun o => o.cmd.owner.repeats).foldl (fun t o => t.dpPush o.cmd) s1

/-- CPH job: the jobs of a class restart from their first 16-byte block. -/
def State.jobMismatch (s : State) (cls : Nat) : State :=
  if cls = 5 then
    let all := s.cph.contexts.map (fun x => x.job) ++ s.cph.jobs
    (s.qAgain (.cphJob 5) (all.map fun j => j.iv)).updCph fun c => { c with jobs := all, contexts := [] }
  else s

/-- DRE fetch: the ring's descriptors are fetched again from its head. -/
def State.fetchMismatch (s : State) (q : Fin 64) : State :=
  let v := s.sq q
  (s.setSq q { v with fetched := [], nextFetch := v.head, gen := v.gen + 1 }).event 0x030100 0

/-! ### The mismatch -/

/-- A mismatch of a queue (R19, R21): logged, the queue restarts empty, and its action. -/
def State.queueMismatch (s : State) (q : Queue) : State :=
  let s1 := (s.logE 0x0008 (srcInt (queuePage q)) 0 (queueId q)).qRestart q
  match q with
  | .hpxIngress p => s1.ingressMismatch p
  | .hpxEgress p => s1.egressMismatch p
  | .chsRead c => s1.readMismatch c
  | .chsWrite c => s1.writeMismatch c
  | .eccReturn ch => s1.returnMismatch ch
  | .plgDrain => s1.drainMismatch
  | .twnOut => s1.outMismatch
  | .twnIn => s1.inMismatch
  | .dreFetch k => s1.fetchMismatch k
  | .plgMark => s1.markMismatch
  | .dtiCmd => s1.commandMismatch
  | .cphJob k => s1.jobMismatch k.val

/-- IDLE_ITEM (R20): one idle interval after the last packet or idle item; it carries the notice count and does not advance
it. The spec does not list the queues that cross a subsystem boundary: every queue of R21's table has idle items (DESIGN
CHOICE, entry 65). -/
def State.idleItem (s : State) (q : Queue) : State :=
  let g := s.guard q
  let s1 := s.until_ (g.lastSeen + s.idleInterval)
  s1.withGuard q { g with lastSeen := s1.chron, idle := noticeOf g.notice 0 }

/-- Time of the last silent-producer report of a queue. -/
def State.silentSince (s : State) (q : Queue) : Option Nat := (s.tel.queues.find? fun x => x.1 == q).map fun x => x.2.since

/-- INFO of a Lookout entry (R486). -/
def lookoutInfo (kind stage trigger q : Nat) : Nat := kind + stage * 2 ^ 8 + trigger * 2 ^ 12 + q * 2 ^ 16

/-- QUEUE_SILENT (R20, R486): four idle intervals without a packet or idle item. A second report of the queue within 1 s
sets the Dead Reckoning cause. -/
def State.queueSilent (s : State) (q : Queue) : State :=
  let s1 := s.until_ ((s.guard q).lastSeen + 4 * s.idleInterval)
  let src := srcInt (queuePage q)
  let again := match s1.silentSince q with | some t => decide (s1.chron ≤ t + 1000000000) | none => false
  let s2 := (s1.logE 0x0103 src 0 (lookoutInfo 2 1 0 (queueId q))).updTel fun t =>
    { t with queues := (t.queues.filter fun x => x.1 != q) ++ [(q, { since := s1.chron })] }
  let s3 := s2.queueMismatch q
  if again then (s3.setCause 8).logE 0x0107 src 0 (lookoutInfo 2 2 0 (queueId q)) else s3

end Sys2Proof.Machine
end

