-- ==== Sys2Proof/Machine/Pea.lean ====
section
/-! DEFINITION. Engine control: images and the digest lock, START, STOP, LOAD and RESET, messages discarded, and an
engine that fails (R286, R366–R372, R395). -/

namespace Sys2Proof.Machine

/-! ### What an engine that is loaded, reset or failed leaves behind -/

/-- Its accesses at the memory port are given up: its stores still issue, its fence does not count (R80, R410). -/
def State.dropAccesses (s : State) (e : EngineNo) : State :=
  s.updAtu fun a =>
    { a with
      waiting := a.waiting.filter fun w => match w.src with
        | .store _ _ _ _ _ => true
        | x => x.engine != some e
      fences := a.fences.filter fun f => f.owner != .engine e }

/-- Its queued messages are discarded and counted (R372). -/
def State.dropMsgs (s : State) (e : EngineNo) : State :=
  s.updEngine e fun n => { n with msgs := [], msgLost := satAdd n.msgLost n.msgs.length }

/-- Its descriptor in progress completes with ENGINE_ABORT, and those of its inbox go back to DRE (R371). -/
def State.dropDescs (s : State) (e : EngineNo) : State :=
  let n := s.engine e
  let s1 := (s.updEngine e fun n => { n with desc := none, svc := none, inbox := [] }).updDre fun d =>
    { d with back := d.back ++ n.inbox }
  match n.desc with
  | some d => s1.complete d 7 0
  | none => s1

/-- All of it. -/
def State.abandonEngine (s : State) (e : EngineNo) : State := ((s.dropAccesses e).dropMsgs e).dropDescs e

/-- The engine with both memories cleared and nothing under way, in a state (R366, R368). -/
def Engine.cleared (n : Engine) (st : EState) : Engine :=
  { n with
    state := st, image := [], imem := [], dmem := [], loads := [], wait := .none, pendExc := none, cond := none
    fenceRes := none, svc := none }

/-! ### Images -/

/-- ILEN, DLEN and ENTRY of an image stream whose header has arrived (R366). -/
def imageHead (b : List Byte) : Nat × Nat × Nat := (bytesNat (b.take 4), bytesNat ((b.drop 4).take 4), bytesNat ((b.drop 8).take 4))

/-- A field of the header is out of range (R366). -/
def badHead (b : List Byte) : Bool :=
  let h := imageHead b
  h.1 % 4 != 0 || h.1 == 0 || decide (65536 < h.1) || h.2.1 % 4 != 0 || decide (262144 < h.2.1) || h.2.2 % 4 != 0
    || decide (h.1 ≤ h.2.2) || bytesNat ((b.drop 12).take 4) != 0

/-- IMAGE_BAD or IMAGE_DIGEST (R366, R367, R517). -/
def State.logImage (s : State) (code : Nat) (e : EngineNo) : State := s.logE code (srcInt (0x30 + e.val / 8)) 0 e.val

/-- PEA_STS.IMAGE_REJ (R390). -/
def State.imageRej (s : State) (e : EngineNo) : State := s.event (peaPage e + 0x200) 0

/-- The expected digest's words. -/
def State.digestWanted (s : State) (e : EngineNo) : List Word := (List.range 8).map fun k => s.reg (peaPage e + 0x20 + 4 * k)

/-- The digest of a stream as the words of PEA_DCALC (R388). -/
def digestWords (b : List Byte) : List Word :=
  let d := sha256 b
  (List.range 8).map fun k => BitVec.ofNat 32 (leNat ((d.drop (4 * k)).take 4))

/-- The check of a complete stream (R367). -/
def State.checkImage (s : State) (e : EngineNo) (b : List Byte) : State :=
  let dg := digestWords b
  let s1 := s.updEngine e fun n => { n with digest := dg }
  let set (st : EState) : State := s1.updEngine e fun n => { n with state := st, image := [] }
  if s.flag (peaPage e + 0x40) 0 then
    if dg = s.digestWanted e then set .loaded else ((set .rejected).logImage 0x3003 e).imageRej e
  else if s.locked then (set .rejected).imageRej e
  else set .loaded

/-- Four bytes of a stream go to their place in the memories (R366). -/
def Engine.place (n : Engine) (b : List Byte) (at_ ilen : Nat) : Engine :=
  if at_ < ilen then { n with imem := memPut n.imem at_ b } else { n with dmem := memPut n.dmem (at_ - ilen) b }

/-- A write to PEA_IMG (R366): its answer and its effect. -/
def State.peaImg (s : State) (e : EngineNo) (v : Word) : Code × State :=
  let n := s.engine e
  if s.cfg.mode = .save then (.errMode, s)
  else if n.state != .loading then (.errAccess, s.logImage 0x3002 e)
  else
    let b := natBytes 4 v.toNat
    let img := n.image ++ b
    if img.length < 16 then (.ok, s.setEngine e { n with image := img })
    else if img.length = 16 then
      if badHead img then
        (.ok, ((s.setEngine e { n with state := .rejected, image := [] }).logImage 0x3002 e).imageRej e)
      else (.ok, s.setEngine e { n with image := img, entry := BitVec.ofNat 16 (imageHead img).2.2 })
    else
      let h := imageHead img
      let s1 := s.setEngine e ({ n with image := img }.place b (n.image.length - 16) h.1)
      (.ok, if img.length = 16 + h.1 + h.2.1 then s1.checkImage e img else s1)

/-! ### PEA_CTL -/

/-- A PEA_CTL write that is refused (R368). -/
def State.ctlRej (s : State) (e : EngineNo) : State := s.event (peaPage e + 0x200) 2

/-- The registers START gives an engine that begins at ENTRY (R395); its failure record begins anew (R87). -/
def Engine.begin_ (n : Engine) : Engine :=
  { n with
    state := .running, wait := .none, pc := n.entry
    g := (List.replicate 32 0).set 25 0x00FD000000040000, v := List.replicate 16 0, m := List.replicate 8 0, arith := 0
    failCode := .ok, fails := 0, failLine := 0 }

/-- START (R368, R395, R439): its answer and its effect. -/
def State.peaStart (s : State) (e : EngineNo) : Code × State :=
  if !s.cfg.mode.serves then (.errMode, s)
  else match (s.engine e).state with
    | .loaded | .halted => (.ok, s.updEngine e Engine.begin_)
    | .stopped => (.ok, s.updEngine e fun n => { n with state := .running })
    | _ => (.ok, s.ctlRej e)

/-- STOP (R368). -/
def State.peaStop (s : State) (e : EngineNo) : State :=
  if (s.engine e).state = .running then s.stopEngine e else s.ctlRej e

/-- LOAD (R366, R368, R371, R372, R439): its answer and its effect. -/
def State.peaLoad (s : State) (e : EngineNo) : Code × State :=
  if s.cfg.mode = .save then (.errMode, s)
  else match (s.engine e).state with
    | .empty | .loaded | .stopped | .halted | .rejected =>
      (.ok, (s.abandonEngine e).updEngine e fun n => n.cleared .loading)
    | _ => (.ok, s.ctlRej e)

/-- RESET (R368, R371, R372). -/
def State.peaReset (s : State) (e : EngineNo) : State :=
  if (s.engine e).state = .failed then s.ctlRej e
  else (s.abandonEngine e).updEngine e fun n => n.cleared .empty

/-- A write to PEA_CTL (R368): exactly one action bit acts. -/
def State.peaCtl (s : State) (e : EngineNo) (v : Word) : Code × State :=
  match field v 0 4 with
  | 0 => (.ok, s)
  | 1 => s.peaStart e
  | 2 => (.ok, s.peaStop e)
  | 4 => s.peaLoad e
  | 8 => (.ok, s.peaReset e)
  | _ => (.ok, s.ctlRej e)

/-! ### An engine that fails (R286) -/

/-- The spare physical engine for an engine number: that of its pair of Watches, else the other's. -/
def State.spareEngine (s : State) (e : EngineNo) : Option Nat :=
  (if e.val < 16 then [32, 33] else [33, 32]).find? fun p => (aget s.ecc.peSpare p).isNone

/-- What a spare finds: nothing under way, empty memories; the page's registers stay with the number (R364). -/
def Engine.fresh (n : Engine) (phys : Nat) (st : EState) : Engine :=
  { phys := phys, state := st, digest := n.digest, exc := n.exc, msgLost := n.msgLost, nextSb := n.nextSb, nextLoad := n.nextLoad
    buffer := n.buffer.filter fun b => b.issued }

/-- An engine fails (R286, R371, R372, R387). -/
def State.failEngine (s : State) (e : EngineNo) : State :=
  if (s.engine e).state = .failed then s
  else
    let s1 := (s.abortUnits e).abandonEngine e
    match s.spareEngine e with
    | some p =>
      (((s1.updEngine e fun n => n.fresh p .empty).updEcc fun x => { x with peSpare := aput x.peSpare p e.val }).logE
        0x090D (srcInt 0x09) 0 (e.val + p * 2 ^ 8)).event 0x090300 11
    | none =>
      (((s1.updEngine e fun n => n.fresh n.phys .failed).logE 0x090E (srcInt 0x09) 0 e.val).event 0x090300 12).setCause 1

end Sys2Proof.Machine
end

