-- ==== Sys2Proof/Machine/Lookout.lean ====
section
/-! DEFINITION. The Lookout over the engines and the firmware (R486, R492). A subject at a stage keeps in `since` the time
at which its next stage is due. -/

namespace Sys2Proof.Machine

/-- ESC_MS in ns. -/
def State.escNs (s : State) : Nat := orOne (s.fld 0x0100C0 8 8) * 1000000

/-- An engine's subject. -/
def State.subject (s : State) (e : Nat) : Subject := agetD s.tel.engines e {}

/-- The state with an engine's subject set. -/
def State.setSubject (s : State) (e : Nat) (v : Subject) : State :=
  s.updTel fun t => { t with engines := aputD t.engines e v {} }

/-- The condition of an engine's trigger holds (R486): 1 a grant whose LONG_HOLD was logged, 2 an OFENCE, 3 a DFENCE that
waits. -/
def State.lookoutHolds (s : State) (e : EngineNo) (trigger : Nat) : Bool :=
  match trigger with
  | 1 => s.sua.grants.any fun g => g.who == .engine e && g.longLogged
  | 2 => match (s.engine e).wait with | .fence k _ _ _ _ => k == 0 | _ => false
  | 3 => match (s.engine e).wait with | .fence k _ _ _ _ => k == 2 | _ => false
  | _ => false

/-- When a trigger's condition reaches stage 1: a LONG_HOLD at once, a fence at its limit. -/
def State.lookoutDue (s : State) (e : EngineNo) (trigger : Nat) : Nat :=
  match (s.engine e).wait with
  | .fence _ _ _ since lim => if trigger = 1 then s.chron else since + lim
  | _ => s.chron

/-- An engine's subject at a stage whose condition has cleared: at stage 1 its trigger's, at stage 2 that it is not
HALTED. -/
def State.lookoutCleared (s : State) (e : EngineNo) : Bool :=
  let v := s.subject e
  (v.stage == 1 && !s.lookoutHolds e v.trigger) || (v.stage == 2 && (s.engine e).state == .halted)

/-- The engine subjects whose condition has cleared return to stage 0 (R486). -/
def State.lookoutRound (s : State) : State :=
  (s.tel.engines.filterMap fun x => if h : x.1 < 32 then some (⟨x.1, h⟩ : EngineNo) else none).foldl
    (fun t e => if t.lookoutCleared e then t.setSubject e {} else t) s

/-- LOOKOUT_WARN: an engine subject enters stage 1, from stage 0 or from a stage 1 whose condition has cleared. -/
def State.lookoutWarn (s : State) (e : EngineNo) (trigger : Nat) : State :=
  let v := s.subject e
  if !s.lookoutHolds e trigger || v.stage == 2 || (v.stage == 1 && s.lookoutHolds e v.trigger) then s
  else
    let s1 := s.until_ (s.lookoutDue e trigger)
    (s1.setSubject e { stage := 1, since := s1.chron + s1.escNs, trigger := trigger }).logE 0x0104 (srcEngine e) 0
      (lookoutInfo 1 1 trigger 0)

/-- LOOKOUT_STOP: stage 2, the engine's unit operations are aborted and it halts; a subject whose condition has cleared
returns to stage 0. -/
def State.lookoutStop (s : State) (e : EngineNo) : State :=
  let v := s.subject e
  if v.stage ≠ 1 then s
  else if !s.lookoutHolds e v.trigger then s.setSubject e {}
  else
    let s1 := s.until_ v.since
    let s2 := (s1.abortUnits e).raiseExc e 0x40 (s1.engine e).pc none
    (s2.setSubject e { v with stage := 2, since := s1.chron + s1.escNs }).logE 0x0105 (srcEngine e) 0 (lookoutInfo 1 2 v.trigger 0)

/-- LOOKOUT_FAIL: stage 3, an engine that is still not HALTED fails. -/
def State.lookoutFail (s : State) (e : EngineNo) : State :=
  let v := s.subject e
  if v.stage ≠ 2 then s
  else if (s.engine e).state == .halted then s.setSubject e {}
  else
    let s1 := s.until_ v.since
    ((s1.failEngine e).setSubject e {}).logE 0x0106 (srcEngine e) 0 (lookoutInfo 1 3 v.trigger 0)

/-- FIRMWARE_KICK_TIMEOUT: KICK_MS without a kick. -/
def State.kickTimeout (s : State) : State :=
  let t := s.tel
  if !t.kickRun || t.firmware.stage != 0 then s
  else
    let s1 := s.until_ (t.lastKick + t.kickMs * 1000000)
    (s1.updTel fun t => { t with firmware := { stage := 1, since := t.lastKick + 2 * t.kickMs * 1000000 } }).logE
      0x0104 (srcInt 0x01) 0 (lookoutInfo 3 1 0 0)

/-- LOOKOUT_DR: twice KICK_MS without a kick. -/
def State.lookoutDr (s : State) : State :=
  let t := s.tel
  if t.firmware.stage ≠ 1 then s
  else
    let s1 := s.until_ t.firmware.since
    ((s1.updTel fun t => { t with firmware := { t.firmware with stage := 2 } }).setCause 8).logE
      0x0107 (srcInt 0x01) 0 (lookoutInfo 3 2 0 0)

end Sys2Proof.Machine
end

