-- ==== Sys2Proof/Machine/PilotCode.lean ====
section
/-! DEFINITION. The Pilot instruction words: their fields, and what makes an instruction illegal (R398–R407). -/

namespace Sys2Proof.Machine

/-! ### Legality of the fields, one predicate for each form -/

/-- An ALU operation of one operand: the rs2 field is zero (R401). -/
def legalUnary (rs2 : BitVec 5) : Bool := rs2 == 0

/-- SHI: imm16[15:8] is zero (R400). -/
def legalShi (imm : BitVec 16) : Bool := imm.toNat / 256 == 0

/-- MOVI: the rs1 field is zero (R400). -/
def legalMovi (rs1 : BitVec 5) : Bool := rs1 == 0

/-- LD, LDU and ST: SIZE is not reserved (R398). -/
def legalSize (size : BitVec 3) : Bool := decide (size.toNat < 4)

/-- A pair register is even (R399). -/
def evenReg (r : BitVec 5) : Bool := r.toNat % 2 == 0

/-- LDP and STP: an even register, SIZE zero (R399, R400). -/
def legalPair (rd : BitVec 5) (size : BitVec 3) : Bool := evenReg rd && size == 0

/-- A Sweep register in a 5-bit field (R399). -/
def legalSweep (r : BitVec 5) : Bool := decide (r.toNat < 16)

/-- A mask in a 5-bit field (R399). -/
def legalMask (r : BitVec 5) : Bool := decide (r.toNat < 8)

/-- VLD and VST (R400). -/
def legalVmem (rd : BitVec 5) (size : BitVec 3) : Bool := legalSweep rd && size == 0

/-- LDR and STC: FUNC is zero (R404). -/
def legalResv (func : BitVec 11) : Bool := func == 0

/-- FAR: FUNC[10:3] is zero (R403). -/
def legalFar (func : BitVec 11) : Bool := func.toNat / 8 == 0

/-- FAR CAS16: both pairs are even besides (R403). -/
def legalFar16 (rd rs2 : BitVec 5) (func : BitVec 11) : Bool := legalFar func && evenReg rd && evenReg rs2

/-- BCOND: bit 16 is zero (R398). -/
def legalBranch (z : BitVec 1) : Bool := z == 0

/-- BCOND ALWAYS: the rs1 field is zero besides (R400). -/
def legalAlways (rs1 : BitVec 5) (z : BitVec 1) : Bool := legalBranch z && rs1 == 0

/-- JUMPR: the rd field is zero (R400). -/
def legalJumpr (rd : BitVec 5) : Bool := rd == 0

/-- A Sweep operation: with ALL at 1 the mask field is zero (R398). -/
def legalV (f : VFields) : Bool := f.all == 0 || f.mask == 0

/-- A Sweep compare: its destination is a mask (R402). -/
def legalVcmp (f : VFields) : Bool := legalV f && decide (f.vd.toNat < 8)

/-- VRED: FUNC[10] and FUNC[7:4] name nothing; with ALL at 1 the rs2 field is zero, else it names a mask (R402). -/
def legalVred (rs1 rs2 : BitVec 5) (func : BitVec 11) : Bool :=
  legalSweep rs1 && !func.getLsbD 10 && func.extractLsb' 4 4 == 0
    && (if func.getLsbD 3 then rs2 == 0 else legalMask rs2)

/-- FUNC of VMOV: bits [10] and [7:3] name nothing (R402). -/
def legalVmovFunc (func : BitVec 11) : Bool := !func.getLsbD 10 && func.extractLsb' 3 5 == 0

/-- VBCAST names a Sweep register in rd (R402). -/
def legalVbcast (rd : BitVec 5) (func : BitVec 11) : Bool := legalVmovFunc func && legalSweep rd

/-- VEXT names a Sweep register in rs1 (R402). -/
def legalVext (rs1 : BitVec 5) (func : BitVec 11) : Bool := legalVmovFunc func && legalSweep rs1

/-- MTOG and MPOPC name a mask in rs1, GTOM in rd (R402). -/
def legalVmask (r : BitVec 5) (func : BitVec 11) : Bool := legalVmovFunc func && legalMask r

/-- ofence: rd and imm12 are zero (R405). -/
def legalOfence (rd : BitVec 5) (imm : BitVec 12) : Bool := rd == 0 && imm == 0

/-- pfence: LEVEL is not reserved (R405). -/
def legalPfence (imm : BitVec 12) : Bool := imm.toNat % 4 != 3

/-- dfence: imm12 is zero (R405). -/
def legalDfence (imm : BitVec 12) : Bool := imm == 0

/-- The CSR map (R407): whether a number names a CSR. -/
def csrNamed (n : Nat) : Bool := [0x000, 0x001, 0x002, 0x003, 0x008, 0x009, 0x00A, 0x010, 0x011, 0x012, 0x013, 0x020].contains n

/-- The CSRs a program can write (R407): ARITH, MSG_DST and MSG_POP. -/
def csrWritable (n : Nat) : Bool := [0x003, 0x011, 0x012].contains n

/-- CRD: a CSR of the map, the rs1 field zero (R407). -/
def legalCrd (rs1 : BitVec 5) (imm : BitVec 12) : Bool := csrNamed imm.toNat && rs1 == 0

/-- CWR, CSET and CCLR: a CSR that can be written, the rd field zero (R407). -/
def legalCsrWrite (rd : BitVec 5) (imm : BitVec 12) : Bool := csrWritable imm.toNat && rd == 0

/-! ### Words (R398, R400) -/

/-- Bits [lo+n-1:lo] of a word. -/
def wbits (w : Word) (lo n : Nat) : BitVec n := w.extractLsb' lo n

/-- The rd field (R398). -/
def wRd (w : Word) : BitVec 5 := wbits w 21 5

/-- The rs1 field. -/
def wRs1 (w : Word) : BitVec 5 := wbits w 16 5

/-- The rs2 field. -/
def wRs2 (w : Word) : BitVec 5 := wbits w 11 5

/-- FUNC. -/
def wFunc (w : Word) : BitVec 11 := wbits w 0 11

/-- imm16. -/
def wImm (w : Word) : BitVec 16 := wbits w 0 16

/-- The V format. -/
def wVec (w : Word) : VFields :=
  { vd := wbits w 22 4, va := wbits w 18 4, vb := wbits w 14 4, mask := wbits w 11 3, elem := wbits w 9 2, all := wbits w 8 1 }

/-- An ALU word (R401). -/
def legalAluWord (w : Word) : Bool :=
  let f := (wFunc w).toNat
  if 0x014 ≤ f ∧ f ≤ 0x017 then legalUnary (wRs2 w) else decide (f ≤ 0x01B)

/-- A FAR word (R403). -/
def legalFarWord (w : Word) : Bool :=
  let f := wFunc w
  match f.toNat % 8 with
  | 1 => legalFar16 (wRd w) (wRs2 w) f
  | 6 | 7 => false
  | _ => legalFar f

/-- A BCOND word (R400). -/
def legalBranchWord (w : Word) : Bool :=
  let c := (wbits w 22 4).toNat
  if c = 8 then legalAlways (wbits w 17 5) (wbits w 16 1) else decide (c < 8) && legalBranch (wbits w 16 1)

/-- A VALU word (R402). -/
def legalVecWord (w : Word) : Bool :=
  let f := (wbits w 0 8).toNat
  if 0x20 ≤ f ∧ f ≤ 0x25 then legalVcmp (wVec w)
  else legalV (wVec w) &&
    (decide (f ≤ 0x06) || (decide (0x08 ≤ f) && decide (f ≤ 0x0B)) || (decide (0x10 ≤ f) && decide (f ≤ 0x12)) || f == 0x18 || f == 0x19)

/-- A VMOV word (R402). -/
def legalMoveWord (w : Word) : Bool :=
  let f := wFunc w
  match f.toNat % 8 with
  | 0 => legalVbcast (wRd w) f
  | 1 => legalVext (wRs1 w) f
  | 2 | 4 => legalVmask (wRs1 w) f
  | 3 => legalVmask (wRd w) f
  | _ => false

/-- A FENCE word (R405). -/
def legalFenceWord (w : Word) : Bool :=
  match (wbits w 12 4).toNat with
  | 0 => legalOfence (wRd w) (wbits w 0 12)
  | 1 => legalPfence (wbits w 0 12)
  | 2 => legalDfence (wbits w 0 12)
  | _ => false

/-- A CSR word (R407). -/
def legalCsrWord (w : Word) : Bool :=
  match (wbits w 12 4).toNat with
  | 0 => legalCrd (wRs1 w) (wbits w 0 12)
  | 1 | 2 | 3 => legalCsrWrite (wRd w) (wbits w 0 12)
  | _ => false

/-- Whether a word is a legal instruction (R399). -/
def legalWord (w : Word) : Bool :=
  match (wbits w 26 6).toNat with
  | 0x01 => legalAluWord w
  | 0x02 | 0x03 | 0x04 | 0x05 | 0x06 | 0x07 | 0x09 => true
  | 0x08 => legalShi (wImm w)
  | 0x0A => legalMovi (wRs1 w)
  | 0x10 | 0x11 | 0x12 => legalSize (wbits w 13 3)
  | 0x13 | 0x14 => legalPair (wRd w) (wbits w 13 3)
  | 0x15 | 0x16 => legalVmem (wRd w) (wbits w 13 3)
  | 0x17 | 0x18 => legalResv (wFunc w)
  | 0x19 => legalFarWord w
  | 0x20 => legalBranchWord w
  | 0x26 | 0x28 => true
  | 0x27 => legalJumpr (wRd w)
  | 0x30 => legalVecWord w
  | 0x32 => legalVred (wRs1 w) (wRs2 w) (wFunc w)
  | 0x33 => legalMoveWord w
  | 0x38 => legalFenceWord w
  | 0x39 => legalCsrWord w
  | 0x3A => decide ((wbits w 12 4).toNat < 4)
  | _ => false

end Sys2Proof.Machine
end

