-- ==== Sys2Proof/Machine/Sweep.lean ====
section
/-! DEFINITION. What the scalar and Sweep instructions of a Pilot compute (R400–R402). -/

namespace Sys2Proof.Machine

/-! ### Scalar results (R401) -/

/-- 1 or 0 for a comparison. -/
def boolWord (b : Bool) : DWord := if b then 1 else 0

/-- MULHU: the high half of the unsigned product. -/
def mulHigh (a b : DWord) : DWord := BitVec.ofNat 64 (a.toNat * b.toNat / 2 ^ 64)

/-- Leading zeros, 0 to 64. -/
def clz64 (a : DWord) : DWord := BitVec.ofNat 64 (((List.range 64).find? fun i => a.getLsbD (63 - i)).getD 64)

/-- Trailing zeros, 0 to 64. -/
def ctz64 (a : DWord) : DWord := BitVec.ofNat 64 (((List.range 64).find? fun i => a.getLsbD i).getD 64)

/-- Set bits. -/
def popc64 (a : DWord) : DWord := BitVec.ofNat 64 ((List.range 64).filter fun i => a.getLsbD i).length

/-- The 8 bytes reversed. -/
def bswap64 (a : DWord) : DWord := BitVec.ofNat 64 (bytesNat (natBytes 8 a.toNat).reverse)

/-- CRC-32C of the bytes of b, byte 0 first, continuing from a value. -/
def crc64 (a b : DWord) : DWord :=
  BitVec.ofNat 64 ((natBytes 8 b.toNat).foldl (fun c x => crcByte c x.toNat) (a.toNat % 2 ^ 32))

/-- A right rotation. -/
def ror64 (a : DWord) (n : Nat) : DWord := a.rotateRight n

/-- The engine after a division: the result, and ARITH.DIVZ where the divisor is zero. -/
def Engine.divide (n : Engine) (rd : BitVec 5) (b : DWord) (byZero else_ : DWord) : Engine :=
  if b = 0 then { n.setG rd byZero with arith := n.arith ||| 1 } else n.setG rd else_

/-! ### Elements (R394, R398) -/

/-- Bits of an element. -/
def elemBits (e : BitVec 2) : Nat := 8 * 2 ^ e.toNat

/-- Elements of a Sweep register. -/
def elemCount (e : BitVec 2) : Nat := 64 / 2 ^ e.toNat

/-- Element i of width w. -/
def elemAt (l : Line) (w i : Nat) : Nat := (l.toNat >>> (w * i)) % 2 ^ w

/-- The Sweep register whose elements are given. -/
def packElems (w : Nat) (xs : List Nat) : Line := BitVec.ofNat 512 (xs.foldr (fun x n => x % 2 ^ w + n * 2 ^ w) 0)

/-- The signed value of an element. -/
def elemInt (w v : Nat) : Int := if 2 * v < 2 ^ w then (v : Int) else (v : Int) - 2 ^ w

/-- Whether an element is selected (R398, R402). -/
def Engine.selects (n : Engine) (f : VFields) (i : Nat) : Bool := f.all == 1 || (n.mask f.mask).getLsbD i

/-- An elementwise operation (R402): an element that is not selected keeps vd's value. -/
def Engine.lanewise (n : Engine) (f : VFields) (op : Nat → Nat → Nat → Nat) : Engine :=
  let w := elemBits f.elem
  n.setV f.vd (packElems w ((List.range (elemCount f.elem)).map fun i =>
    if n.selects f i then op w (elemAt (n.vec f.va) w i) (elemAt (n.vec f.vb) w i) else elemAt (n.vec f.vd) w i))

/-- A Sweep compare (R402): the mask of selected elements for which it holds. -/
def Engine.compare (n : Engine) (f : VFields) (p : Nat → Nat → Nat → Bool) : Engine :=
  let w := elemBits f.elem
  n.setM (f.vd.setWidth 3) (BitVec.ofNat 64 (((List.range (elemCount f.elem)).map fun i =>
    if n.selects f i && p w (elemAt (n.vec f.va) w i) (elemAt (n.vec f.vb) w i) then 2 ^ i else 0).foldl (· + ·) 0))

/-- VSEL (R402): va where the element is selected, vb where it is not. -/
def Engine.vsel (n : Engine) (f : VFields) : Engine :=
  let w := elemBits f.elem
  n.setV f.vd (packElems w ((List.range (elemCount f.elem)).map fun i =>
    if n.selects f i then elemAt (n.vec f.va) w i else elemAt (n.vec f.vb) w i))

/-- VCOMPRESS (R402): the selected elements of va in ascending order, then zeros. -/
def Engine.vcompress (n : Engine) (f : VFields) : Engine :=
  let w := elemBits f.elem
  n.setV f.vd (packElems w (((List.range (elemCount f.elem)).filter fun i => n.selects f i).map fun i =>
    elemAt (n.vec f.va) w i))

/-- A signed minimum or maximum of elements. -/
def pickInt (w : Nat) (least : Bool) (a b : Nat) : Nat :=
  if least then (if elemInt w a ≤ elemInt w b then a else b) else (if elemInt w a ≤ elemInt w b then b else a)

/-- An arithmetic right shift of an element. -/
def elemSra (w a n : Nat) : Nat := ((BitVec.ofNat w a).sshiftRight n).toNat

/-! ### Reductions (R402) -/

/-- ELEM of a VRED or VMOV, FUNC[9:8]. -/
def funcElem (func : BitVec 11) : BitVec 2 := func.extractLsb' 8 2

/-- The selected elements of v(rs1), FUNC[3] being ALL. -/
def Engine.chosen (n : Engine) (rs1 rs2 : BitVec 5) (func : BitVec 11) : List Nat :=
  let e := funcElem func
  ((List.range (elemCount e)).filter fun i => func.getLsbD 3 || (n.mask (rs2.setWidth 3)).getLsbD i).map fun i =>
    elemAt (n.vec (rs1.setWidth 4)) (elemBits e) i

/-- A reduction with its first element as the start; an empty selection gives 0. -/
def foldElems (f : Nat → Nat → Nat) : List Nat → Nat
  | [] => 0
  | x :: r => r.foldl f x

/-- A reduction into rd; a signed one is sign-extended. -/
def Engine.reduce (n : Engine) (rd rs1 rs2 : BitVec 5) (func : BitVec 11) (signed : Bool) (f : Nat → Nat → Nat → Nat) : Engine :=
  let w := elemBits (funcElem func)
  let r := foldElems (f w) (n.chosen rs1 rs2 func)
  n.setG rd (if signed then (BitVec.ofNat w r).signExtend 64 else BitVec.ofNat 64 r)

end Sys2Proof.Machine
end

