-- ==== Sys2Proof/Machine/PilotOps.lean ====
section
/-! DEFINITION. What the memory, branch, fence, service and CSR instructions of a Pilot do (R396, R397, R400, R403–R409). -/

namespace Sys2Proof.Machine

/-- An engine issues its next instruction: it runs and waits for nothing (R373, R405). -/
def State.issues (s : State) (e : EngineNo) : Bool := (s.engine e).state == .running && (s.engine e).wait == .none

/-- ILLEGAL at the instruction at pc (R399, R409). -/
def State.illegal (s : State) (e : EngineNo) : State := s.raiseExc e 0x10 (s.engine e).pc none

/-- MISALIGNED with its target (R409). -/
def State.misaligned (s : State) (e : EngineNo) (target : Nat) : State := s.raiseExc e 0x11 (s.engine e).pc (some (target, 0))

/-- LOCAL_FAULT with its target (R397, R409). -/
def State.localFault (s : State) (e : EngineNo) (target : Nat) : State := s.raiseExc e 0x12 (s.engine e).pc (some (target, 0))

/-- SVC_STATE (R406). -/
def State.svcState (s : State) (e : EngineNo) : State := s.raiseExc e 0x30 (s.engine e).pc none

/-! ### Where an access goes (R396) -/

/-- Base of the local window. -/
def localBase : Nat := 0x00FD000000000000

/-- Base of the unit window. -/
def unitBase : Nat := 0x00FE000000000000

/-- An address in the local window. -/
def inLocal (a : Nat) : Bool := decide (localBase ≤ a) && decide (a < localBase + 0x40000)

/-- An address in the unit window. -/
def inUnits (a : Nat) : Bool := decide (unitBase ≤ a) && decide (a < unitBase + 0x1000000)

/-- A plain load issues behind the loads in flight: of memory, its base not awaited (R82, R89). Where the engine's own
instruction order allows more, the model holds the instruction (DESIGN CHOICE, entry 25). -/
def State.issuesLoad (s : State) (e : EngineNo) (base : BitVec 5) (a : Nat) : Bool :=
  (s.engine e).state == .running && (s.engine e).mayOverlap base && !inLocal a && !inUnits a

/-- A local access of n bytes that R397 refuses. -/
def badLocal (a n : Nat) : Bool := a % n != 0 || decide (localBase + 0x40000 < a + n)

/-- The address of an M-format access: rs1 plus off13, signed (R398). -/
def Engine.memAddr (n : Engine) (rs1 : BitVec 5) (off : BitVec 13) : Nat := (n.reg rs1 + off.signExtend 64).toNat

/-- A local load, performed at once (R397). -/
def Engine.localLoad (n : Engine) (kind : LoadKind) (a : Nat) : Engine :=
  let v := bytesNat (memBytes n.dmem (a - localBase) kind.size)
  match kind with
  | .gpr rd k sg => (n.setG rd (extend k v sg)).next
  | .pair rd => ((n.setG rd (BitVec.ofNat 64 v)).setG (rd + 1) (BitVec.ofNat 64 (v / 2 ^ 64))).next
  | .vec vd => (n.setV (vd.setWidth 4) (BitVec.ofNat 512 v)).next
  | _ => n

/-- A device load of 4 or 8 bytes into a register (R85, R405). -/
def State.deviceLoad (s : State) (e : EngineNo) (kind : LoadKind) (a : Nat) : State :=
  let pc := (s.engine e).pc
  let q : Asked := { addr := a, since := s.chron }
  match kind with
  | .gpr rd k sg =>
    match s.devLoad e (a - unitBase) k with
    | (.ok, v) => (s.updEngine e fun n => (n.setG rd (extend k v.toNat sg)).next).tracePilot e 3 q .ok
    | (c, _) => (s.memFault e c pc a).tracePilot e 3 q c
  | _ => (s.memFault e .errAccess pc a).tracePilot e 3 q .errAccess

/-- A load of the M format (R396, R397, R405): what it loads and from where. -/
def State.loadOp (s : State) (e : EngineNo) (kind : LoadKind) (a : Nat) : State :=
  if inLocal a then
    if badLocal a kind.size then s.localFault e a else s.updEngine e fun n => n.localLoad kind a
  else if inUnits a then s.deviceLoad e kind a
  else s.updEngine e fun n => n.startLoad kind a

/-- A store of n bytes of the M format (R80, R396, R397, R405); with the store buffer full it does not issue yet. A device
store to a failed unit is dropped and reported by the next DFENCE (R88); any other refusal raises MEM_FAULT (R405). -/
def State.storeOp (s : State) (e : EngineNo) (a n : Nat) (v : Nat) : State :=
  let pc := (s.engine e).pc
  if inLocal a then
    if badLocal a n then s.localFault e a
    else s.updEngine e fun g => { g with dmem := memPut g.dmem (a - localBase) (natBytes n v) }.next
  else if inUnits a then
    let q : Asked := { addr := a, since := s.chron }
    match s.devStore e (a - unitBase) n (BitVec.ofNat 64 v) with
    | (.ok, t) => (t.updEngine e Engine.next).tracePilot e 3 q .ok
    | (.errDevice, _) => ((s.deadStore e (a / 64) .errDevice).updEngine e Engine.next).tracePilot e 3 q .errDevice
    | (c, _) => (s.memFault e c pc a).tracePilot e 3 q c
  else if !(s.engine e).storeRoom a n then s
  else s.updEngine e fun g => (g.store s.chron a n v).next

/-- A far atomic, LDR or STC at an address (R403, R404): aligned, outside the local and unit windows. -/
def State.farOp (s : State) (e : EngineNo) (kind : LoadKind) (a : Nat) : State :=
  if a % kind.size != 0 then s.misaligned e a
  else if inLocal a then s.localFault e a
  else if inUnits a then s.memFault e .errAccess (s.engine e).pc a
  else s.updEngine e fun n => n.startLoad kind a

/-- The operand bytes of a far atomic (R58, R403): for CAS the compare value, then the swap value. -/
def Engine.farData (n : Engine) (op : AtomOp) (rd rs2 : BitVec 5) : Line :=
  let w (r : BitVec 5) : Nat := (n.reg r).toNat
  match op with
  | .cas8 => BitVec.ofNat 512 (w rd + w rs2 * 2 ^ 64)
  | .cas16 => BitVec.ofNat 512 (w rd + w (rd + 1) * 2 ^ 64 + w rs2 * 2 ^ 128 + w (rs2 + 1) * 2 ^ 192)
  | _ => BitVec.ofNat 512 (w rs2)

/-! ### Branches (R400) -/

/-- A branch that is taken or not; the target wraps modulo 2^16. -/
def Engine.branch (n : Engine) (taken : Bool) (woff : BitVec 16) : Engine :=
  if taken then { n with pc := n.pc + woff * 4 } else n.next

/-- The target of JUMPR and CALLR. -/
def Engine.jumpTarget (n : Engine) (rs1 : BitVec 5) (imm : BitVec 16) : BitVec 16 := (n.reg rs1).setWidth 16 + imm

/-- The return address: the address after the instruction. -/
def Engine.link (n : Engine) : DWord := BitVec.ofNat 64 (n.pc.toNat + 4)

/-! ### CSRs (R407) -/

/-- The word MSG_HEAD shows. -/
def Engine.msgHead (n : Engine) : DWord :=
  match n.msgs with
  | [] => 0
  | (from_, b) :: _ => BitVec.ofNat 64 (2 ^ 31 + from_.toNat * 2 ^ 16 + b.length)

/-- The value of a CSR (R407); MSG_POP, which is write-only, reads as zero. -/
def State.csrRead (s : State) (e : EngineNo) (k : Nat) : DWord :=
  let n := s.engine e
  match k with
  | 0x000 => BitVec.ofNat 64 (e.val / 8 * 2 ^ 16 + n.phys * 2 ^ 8 + e.val)
  | 0x001 => BitVec.ofNat 64 s.chron
  | 0x002 => BitVec.ofNat 64 s.cfg.mode.bits.toNat
  | 0x003 => n.arith
  | 0x008 => BitVec.ofNat 64 s.plg.wpl
  | 0x009 => BitVec.ofNat 64 s.plg.wpt
  | 0x00A => BitVec.ofNat 64 s.plg.wpv
  | 0x010 => n.msgHead
  | 0x011 => n.msgDst
  | 0x013 => BitVec.ofNat 64 n.msgs.length
  | 0x020 => n.dmemCe
  | _ => 0

/-- A MSG_POP (R407): the oldest message is copied to MSG_DST and removed. -/
def State.msgPop (s : State) (e : EngineNo) : State :=
  let n := s.engine e
  match n.msgs with
  | [] => s.updEngine e Engine.next
  | (_, b) :: r =>
    let off := n.msgDst.toNat
    if 0x40000 < off + b.length then s.localFault e (localBase + off)
    else s.updEngine e fun n => { n with msgs := r, dmem := memPut n.dmem off b }.next

/-- A write to a CSR that can be written, with its new value (R407). -/
def State.csrWrite (s : State) (e : EngineNo) (k : Nat) (v : DWord) : State :=
  match k with
  | 0x003 => s.updEngine e fun n => { n with arith := v &&& 1 }.next
  | 0x011 => s.updEngine e fun n => { n with msgDst := v &&& 0x3FFFF }.next
  | _ => s.msgPop e

/-! ### Services (R406) -/

/-- Every earlier access of the engine is performed; otherwise its stores begin to issue, as before an OFENCE, and the
instruction waits (R406). -/
def State.ordered (s : State) (e : EngineNo) (f : State → State) : State :=
  if (s.engine e).performed then f s
  else s.updEngine e fun n => { n with buffer := n.buffer.map SbEntry.close }

/-- take (R406, R371). -/
def State.takeOp (s : State) (e : EngineNo) (rd rs1 : BitVec 5) (imm : BitVec 12) : State :=
  s.ordered e fun s =>
    let n := s.engine e
    let off := (n.reg rs1).toNat
    if n.desc.isSome then s.svcState e
    else match n.inbox with
      | [] =>
        if imm.getLsbD 0 then s.updEngine e fun n => (n.setG rd 0).next else s.updEngine e fun n => { n with wait := .descriptor }
      | d :: r =>
        if off % 64 != 0 || decide (0x40000 < off + 64) then s.localFault e (localBase + off)
        else s.updEngine e fun n =>
          { n.setG rd 1 with desc := some d, svc := none, inbox := r, dmem := memPut n.dmem off d.bytes }.next

/-- post (R406). -/
def State.postOp (s : State) (e : EngineNo) (rd rs1 : BitVec 5) : State :=
  s.ordered e fun s =>
    let n := s.engine e
    match n.desc with
    | none => s.svcState e
    | some d =>
      (s.updEngine e fun n => { n with desc := none, svc := none }.next).complete d ((n.reg rs1).setWidth 16) (n.reg rd)

/-- wait (R406). -/
def State.waitOp (s : State) (e : EngineNo) : State :=
  let n := s.engine e
  if n.inbox.isEmpty && n.msgs.isEmpty then s.updEngine e fun n => { n with wait := .message } else s.updEngine e Engine.next

/-- A take or wait whose inbox or message queue has filled ends its wait (R406): the take then issues again. -/
def State.wakeEngine (s : State) (e : EngineNo) : State :=
  let n := s.engine e
  match n.wait with
  | .descriptor => if n.inbox.isEmpty then s else s.updEngine e fun n => { n with wait := .none }
  | .message => if n.inbox.isEmpty && n.msgs.isEmpty then s else s.updEngine e fun n => { n.next with wait := .none }
  | _ => s

/-- Every engine that waits for a descriptor or a message. -/
def State.wakeEngines (s : State) : State := s.engineNos.foldl (fun t e => t.wakeEngine e) s

end Sys2Proof.Machine
end

