-- ==== Sys2Proof/Machine/Service.lean ====
section
/-! DEFINITION. What descriptors do: the DTI descriptors with the Courses and stagings they start, and the built-in
services of the Pilot engines (R323–R326, R370, R421–R425). -/

namespace Sys2Proof.Machine

/-! ### DTI descriptors (R421, R423) -/

/-- The status a response code gives (R422). -/
def statusOf : Code → BitVec 16
  | .ok | .defer | .resvFail => 0
  | .errAccess => 0x0A
  | .poison => 0x0B
  | .errDevice => 0x0C
  | .errOwner | .errFenced => 0x0D
  | .errMode => 0x14

/-- The first DTI descriptor of a ring with an opcode that is not yet served. -/
def State.dtiDesc (s : State) (q : Fin 64) (op : Nat) : Option Desc := s.dre.dtiWork.find? fun d => d.sq == q && dget d.bytes 0 1 == op

/-- A DTI descriptor is taken up. -/
def State.dtiTake (s : State) (d : Desc) : State := s.updDre fun x => { x with dtiWork := dropFirst x.dtiWork (· == d) }

/-- One sub-block of a STAGE descriptor: whether it is settled, staged, or in a LOST segment (R421). Its fill queues at level 3;
R320 names no level for it (DEDUCED, log entry 81). -/
def State.stageOne (s : State) (w : StageWork) (x : Nat × Nat) : StageWork × State :=
  let keep : StageWork := { w with left := w.left ++ [x] }
  if s.tableVoid then (w, s)
  else match (s.seg x.1).stateOf with
    | 0 => (w, s)
    | 2 => ({ w with lost := true }, s)
    | 3 => (keep, s)
    | _ =>
      if (s.stagedIn x.1 x.2).isSome then ({ w with staged := w.staged + 1 }, s)
      else if (s.dti.fill x.1 x.2).isSome || 4096 ≤ s.dti.queued.length then (keep, s)
      else (keep, s.queueFill x.1 x.2 3 none)

/-- The STAGE descriptors go on; one with nothing left completes (R421). -/
def State.stageStep (s : State) : State :=
  s.dti.stages.foldl (fun t w =>
    let r := w.left.foldl (fun (p : StageWork × State) x => p.2.stageOne p.1 x) ({ w with left := [] }, t)
    if r.1.left.isEmpty then r.2.complete w.d (if r.1.lost then 0x0B else 0) (BitVec.ofNat 64 r.1.staged)
    else r.2.updDti fun d => { d with stages := d.stages ++ [r.1] })
    (s.updDti fun d => { d with stages := [] })

/-- DESC_STAGE (R421). -/
def State.descStage (s : State) (q : Fin 64) : State :=
  match s.dtiDesc q 0x01 with
  | none => s
  | some d =>
    let first := (dget d.bytes 16 8 - 0x0010000000000000) / 4096
    let left := (natsFrom first (dget d.bytes 24 4)).map fun i => (i / 512, i % 512)
    ((s.dtiTake d).updDti fun x => { x with stages := x.stages ++ [⟨d, left, 0, false⟩] }).stageStep

/-! ### Courses (R323–R326) -/

/-- The segment of an entry needs nothing more: VOID, LOST, or every sub-block present (R323). -/
def State.entryStaged (s : State) (g : Nat) : Bool :=
  s.tableVoid || (match (s.seg g).stateOf with
    | 0 | 2 => true
    | 3 => false
    | _ => (List.range 512).all fun k => (s.stagedIn g k).isSome)

/-- A Course ends (R324): its fills not started go, its slots are unpinned, its descriptor completes. -/
def State.courseEnds (s : State) (c : Course) (status : BitVec 16) : State :=
  let s1 := s.updDti fun d =>
    let kept := d.fills.filter fun f => !(f.course == some c.no && f.level == 2 && f.started.isNone)
    { d with
      courses := d.courses.filter fun x => x.no != c.no
      fills := mapIf kept (fun f => f.course == some c.no) fun f => { f with course := none } }
  s1.complete c.d status (BitVec.ofNat 64 c.pos)

/-- The fills of one entry of a Course's window are queued, within CFILL (R323): whether all of them now are. -/
def State.courseEntry (s : State) (c : Course) (g : Nat) : Bool × State :=
  match (s.seg g).stateOf with
  | 0 | 2 => (true, s)
  | 3 => (false, s)
  | _ =>
    let need := (List.range 512).filter fun k => (s.stagedIn g k).isNone && (s.dti.fill g k).isNone
    let mine := (s.dti.fills.filter fun f => f.course == some c.no && !f.discard).length
    let room := Nat.min (c.cfill - mine) (4096 - s.dti.queued.length)
    (decide (need.length ≤ room), (need.take room).foldl (fun t k => t.queueFill g k 2 (some c.no)) s)

/-- The entries of a window in list order, until one is not wholly queued; an entry at or beyond MAP_T1_SEGS ends the
Course (R323). -/
def State.courseWindow (s : State) (c : Course) : List Nat → State
  | [] => s
  | g :: r =>
    if s.map.act.t1Segs ≤ g then s.courseEnds c 0x13
    else if s.tableVoid then s.courseWindow c r
    else
      let e := s.courseEntry c g
      if e.1 then e.2.courseWindow c r else e.2

/-- A Course goes on: it ends at its staged last entry, else stages its window (R323, R324). -/
def State.courseOne (s : State) (no : Nat) : State :=
  match s.dti.courses.find? fun c => c.no == no with
  | none => s
  | some c =>
    let last := decide (c.list.length ≤ c.pos + 1)
    let g := c.list.getD c.pos 0
    if last && decide (g < s.map.act.t1Segs) && s.entryStaged g then s.courseEnds c 0
    else
      let s1 := if c.wait && !(s.dti.fills.any fun f => f.course == some no && f.level == 1) then
          s.updDti fun d => { d with courses := mapIf d.courses (fun x => x.no == no) fun x => { x with wait := false } }
        else s
      s1.courseWindow c c.window

/-- The Courses go on. -/
def State.courseStep (s : State) : State := (s.dti.courses.map (·.no)).foldl State.courseOne s

/-- The lowest Course number that is free (R323). -/
def State.freeCourse (s : State) : Option Nat := (List.range 64).find? fun n => !(s.dti.courses.any fun c => c.no == n)

/-- The 4-byte entries of a Course's list in the lines that hold it. -/
def listWords (lines : List Line) (off n : Nat) : List Nat :=
  let b := (lines.flatMap lineBytes).drop off
  (List.range n).map fun i => bytesNat ((b.drop (4 * i)).take 4)

/-- The number that stands for the list a ring's COURSE reads. -/
def listInst (q : Fin 64) : Nat := 96 + q.val

/-- DESC_COURSE (R323, R326): refused for slots, or started with its list as read now. -/
def State.descCourse (s : State) (q : Fin 64) : State :=
  match s.dtiDesc q 0x02, s.freeCourse with
  | some d, some no =>
    let b := d.bytes
    let ahead := dget b 28 1
    let total := (s.dti.courses.map fun c => c.ahead + 1).sum + ahead + 1
    if s.usable / 2 < total then (s.dtiTake d).complete d 0x08 0
    else
      let a := dget b 16 8
      let n := dget b 24 4
      let m := (a % 64 + 4 * n + 63) / 64
      let r := s.unitReads (srcInt 0x0E) (a / 64 * 64) m
      let pay (t : State) : Bool × State := t.pay (listInst q) t.fillClass (List.replicate m 1)
      let p := pay r.2.2
      match r.1 with
      | .wait => r.2.2.uncounted s
      | .stop c => ((r.2.2.spend (listInst q)).dtiTake d).complete d (statusOf c) 0
      | .got _ =>
        if !p.1 then (pay (r.2.2.uncounted s)).2
        else
        let k := dget b 32 2
        let c : Course :=
          { no := no, d := d, list := listWords r.2.1 (a % 64) n, ahead := ahead, cfill := dget b 30 2, byPort := k.testBit 15
            port := bitsOf k 8 4, who := bitsOf k 0 6 }
        (((p.2.spend (listInst q)).dtiTake d).updDti fun x => { x with courses := x.courses ++ [c] }).courseOne no
  | _, _ => s

/-- The lowest-numbered Course of a list. -/
def lowestCourse (l : List Course) : Option Course :=
  l.foldl (fun b c => match b with
    | none => some c
    | some x => if c.no < x.no then some c else some x) none

/-- DESC_COURSE_ABORT (R423). -/
def State.descCourseAbort (s : State) (q : Fin 64) : State :=
  match s.dtiDesc q 0x03 with
  | none => s
  | some d =>
    let s1 := s.dtiTake d
    let hit := lowestCourse (s1.dti.courses.filter fun c =>
      c.d.sq.val == dget d.bytes 16 1 && dget c.d.bytes 4 2 == dget d.bytes 18 2)
    match hit with
    | none => s1.complete d 0x12 0
    | some c => (s1.courseEnds c 9).complete d 0 0

/-! ### Built-in services: taking and posting -/

/-- The instance number that stands for an engine's own bulk accesses. -/
def svcInst (e : EngineNo) : Nat := 64 + e.val

/-- An engine that runs works on a descriptor of an opcode: the one in progress, else the oldest of its inbox, which it
takes (R370, R371). -/
def State.svcDesc (s : State) (e : EngineNo) (p : List Byte → Bool) : Option (Desc × State) :=
  let n := s.engine e
  if n.state != .running then none
  else match n.desc with
    | some d => if p d.bytes then some (d, s) else none
    | none => match n.inbox with
      | d :: r =>
        if p d.bytes then some (d, (s.updEngine e fun n => { n with desc := some d, inbox := r, svc := none, fenceRes := none }).updSua fun u =>
          { u with faults := adel u.faults (svcInst e) })
        else none
      | [] => none

/-- The descriptor is one of an opcode. -/
def isOp (op : Nat) (b : List Byte) : Bool := dget b 0 1 == op

/-- A SNAPSHOT descriptor of a SUB. -/
def isSnap (sub : Nat) (b : List Byte) : Bool := dget b 0 1 == 0x16 && dget b 40 1 == sub

/-- The shared units a built-in service works with (R370). -/
def descUnits (b : List Byte) : List Nat :=
  match dget b 0 1 with
  | 0x12 | 0x13 => [0]
  | 0x14 => [0, 1, 4]
  | 0x15 => if dget b 28 1 = 1 then [5] else []
  | 0x16 => if dget b 40 1 = 1 then [0] else []
  | 0x18 => [2]
  | _ => []

/-- A service asks for its units in ascending order (R380); whether it holds all of them. -/
def State.svcUnits (s : State) (e : EngineNo) (b : List Byte) : Bool × State :=
  let t := (descUnits b).foldl (fun t u =>
    if (t.heldInst e u).isSome || t.waits (.engine e) u then t else t.suaRequest e u 0) s
  ((descUnits b).all fun u => (t.heldInst e u).isSome, t)

/-- The units of a service are given back. -/
def State.svcRelease (s : State) (e : EngineNo) (b : List Byte) : State :=
  (descUnits b).foldl (fun t u => ((t.dropAsk (.engine e) u).suaRelease e u).getD (t.dropAsk (.engine e) u)) s

/-- A service gives its units back and posts its descriptor's completion (R371, R406). -/
def State.svcPost (s : State) (e : EngineNo) (d : Desc) (status : BitVec 16) (result : DWord) : State :=
  ((((s.svcRelease e d.bytes).spend (svcInst e)).unkeep (.svc e.val)).updEngine e fun n => { n with desc := none, svc := none, fenceRes := none }).complete d status result

/-- How far the service has come. -/
def State.svcPhase (s : State) (e : EngineNo) : Nat := match (s.engine e).svc with | some r => r.phase | none => 0

/-- The service's phase, status and result are kept. -/
def State.setSvc (s : State) (e : EngineNo) (r : SvcRun) : State := s.updEngine e fun n => { n with svc := some r }

/-- A service whose writes are handed over posts once every one is performed (R98). -/
def State.svcFinish (s : State) (e : EngineNo) (d : Desc) : State :=
  match (s.engine e).svc with
  | none => s
  | some r =>
    if r.phase = 0 || s.unitOut (svcInst e) then s
    else match aget s.sua.faults (svcInst e) with
      | some f => s.svcPost e d (if r.status = 0 then statusOf f.2 else r.status) r.result
      | none => s.svcPost e d r.status r.result

/-! ### Reading -/

/-- Lines of memory a service has read so far. -/
def State.svcGot (s : State) (e : EngineNo) : List Line := match (s.engine e).svc with | some r => r.got | none => []

/-- How a service's read of a range stands: its lines in ascending order, as the engine's loads would fetch them, each once
it is present and admitted to the engine's class with a charge of 1 (R10, R296, R298); `had` of them are read already. -/
def State.svcRead (s : State) (e : EngineNo) (addr n : Nat) (had : List Line) : UnitGet × List Line × State :=
  (List.range (n - had.length)).foldl (fun (t : UnitGet × List Line × State) i =>
    match t.1 with
    | .got _ =>
      let r := t.2.2.unitRead (srcEngine e) (addr + 64 * (had.length + i))
      match r.1 with
      | .got l =>
        let a := r.2.admitAs (.svc e.val) (r.2.engineClass e) 1
        match a.1 with
        | none => (.wait, t.2.1, ((r.2.uncounted t.2.2).admitAs (.svc e.val) (r.2.engineClass e) 1).2)
        | some _ => (t.1, t.2.1 ++ [l], a.2)
      | x => (x, t.2.1, r.2)
    | _ => t) (.got 0, had, s)

/-! ### Copying and filling -/

/-- The lines of a byte range: each with the byte offset in it and the number of bytes. -/
def lineParts (a n : Nat) : List (Nat × Nat × Nat) :=
  (List.range ((a % 64 + n + 63) / 64)).map fun i =>
    let first := i == 0
    let base := a / 64 * 64 + 64 * i
    let off := if first then a % 64 else 0
    (base, off, Nat.min (64 - off) (a + n - (base + off)))

/-- How a bulk service stands: the bytes done, the lines written poisoned, and the status that ended it. -/
structure Bulk where
  bytes : Nat := 0
  pois : Nat := 0
  status : Option (BitVec 16) := none
  wait : Bool := false
  deriving DecidableEq, Repr

/-- A service's next line is one admitted ahead, or is admitted now; none where it is held. -/
def State.bulkPay (s : State) (e : EngineNo) (charge : Nat) : Option Level × State :=
  match aget s.sua.paid (svcInst e) with
  | some (k + 1, l) => (some l, s.updSua fun u => { u with paid := aput u.paid (svcInst e) (k, l) })
  | _ =>
    s.admitAs (.unit (svcInst e)) s.moverClass charge

/-- Write one part of a line as the Mover does, once its class admits it with a charge (R10, R298); a line that has been
admitted ahead is not charged again. -/
def State.bulkPut (s : State) (e : EngineNo) (b : Bulk) (base off k charge : Nat) (d : Line) (pois : Bool) : Bulk × State :=
  let under := match s.region base with
    | .t0 pa => k != 64 && s.leafState (leafOfLine (pa / 64)) = 0 && (s.coherent (pa / 64)).2
    | _ => false
  if under then ({ b with status := some 0x0B }, s)
  else
    let p := s.bulkPay e charge
    match p.1 with
    | none => ({ b with wait := true }, p.2)
    | some level =>
      let r := p.2.unitWrite e (svcInst e) base (byteMask off k) d pois none level
      match r.1 with
      | .wait => ({ b with wait := true }, { r.2 with bwr := s.bwr, tel := s.tel, sua := s.sua })
      | .stop c => ({ b with status := some (statusOf c) }, r.2)
      | _ => ({ b with bytes := b.bytes + k, pois := b.pois + (if pois then 1 else 0) }, r.2)

/-- One part of a copy (R274, R421): a whole poisoned line is carried, a part of one is not. -/
def State.copyPart (s : State) (e : EngineNo) (src dst : Nat) (b : Bulk) (p : Nat × Nat × Nat) : Bulk × State :=
  if b.status.isSome || b.wait then (b, s)
  else
    let from_ := src + (p.1 + p.2.1 - dst)
    let r := s.unitReads (srcMover e) (from_ / 64 * 64) ((from_ % 64 + p.2.2 + 63) / 64)
    let whole := from_ % 64 == 0 && p.2.2 == 64
    match r.1 with
    | .wait => ({ b with wait := true }, r.2.2.uncounted s)
    | .got _ =>
      let n := bytesNat (((r.2.1.flatMap lineBytes).drop (from_ % 64)).take p.2.2)
      r.2.2.bulkPut e b p.1 p.2.1 p.2.2 2 (BitVec.ofNat 512 (n <<< (8 * p.2.1))) false
    | .stop c =>
      if whole && (c == .poison || c == .errDevice) then r.2.2.bulkPut e b p.1 0 64 2 0 true
      else ({ b with status := some (statusOf c) }, r.2.2)

/-- What a bulk service has written so far. -/
def State.bulkFrom (s : State) (e : EngineNo) : Bulk :=
  match (s.engine e).svc with
  | some r => { bytes := r.done, pois := r.pois }
  | none => {}

/-- The parts of a range that lie behind the bytes written. -/
def partsFrom (dst n done : Nat) : List (Nat × Nat × Nat) := (lineParts dst n).filter fun p => decide (dst + done ≤ p.1 + p.2.1)

/-- Copy a range part by part in ascending order, from where the copy stands. -/
def State.bulkCopy (s : State) (e : EngineNo) (src dst n : Nat) : Bulk × State :=
  let b := s.bulkFrom e
  (partsFrom dst n b.bytes).foldl (fun t p => t.2.copyPart e src dst t.1 p) (b, s)

/-- Fill a range with a pattern that repeats from its first byte (R421). -/
def State.bulkFill (s : State) (e : EngineNo) (dst n : Nat) (pat : List Byte) : Bulk × State :=
  let z := s.bulkFrom e
  (partsFrom dst n z.bytes).foldl (fun t p =>
    if t.1.status.isSome || t.1.wait then t
    else
      let b := (List.range p.2.2).map fun i => pat.getD ((p.1 + p.2.1 + i - dst) % 8) 0
      t.2.bulkPut e t.1 p.1 p.2.1 p.2.2 1 (BitVec.ofNat 512 (bytesNat b <<< (8 * p.2.1))) false) (z, s)

/-- Write some bytes from an address. -/
def State.bulkBytes (s : State) (e : EngineNo) (dst : Nat) (bs : List Byte) : Bulk × State :=
  let z := s.bulkFrom e
  (partsFrom dst bs.length z.bytes).foldl (fun t p =>
    if t.1.status.isSome || t.1.wait then t
    else t.2.bulkPut e t.1 p.1 p.2.1 p.2.2 (writeCharge false (byteMask p.2.1 p.2.2))
      (BitVec.ofNat 512 (bytesNat ((bs.drop (p.1 + p.2.1 - dst)).take p.2.2) <<< (8 * p.2.1))) false) (z, s)

/-- What follows a bulk service's writes: all handed over, or, where one has to wait, the part that was, with the lines
read before it. -/
def State.bulkRun (e : EngineNo) (r : Bulk × State) (got : List Line) (result : Bulk → DWord) : State :=
  if r.1.wait then r.2.setSvc e { phase := 0, done := r.1.bytes, pois := r.1.pois, got := got }
  else r.2.setSvc e { phase := 1, status := r.1.status.getD 0, result := result r.1 }

/-- RESULT of COPY and FILL: bytes, and lines written poisoned. -/
def bulkResult (b : Bulk) : DWord := BitVec.ofNat 64 (b.bytes % 2 ^ 32 + b.pois * 2 ^ 32)

/-- A bulk service with its units in hand does its work, then waits until every line is performed. -/
def State.bulkDesc (s : State) (e : EngineNo) (d : Desc) (run : State → State) : State :=
  if s.svcPhase e ≠ 0 then s.svcFinish e d
  else
    let u := s.svcUnits e d.bytes
    if u.1 then (run u.2).svcFinish e d else u.2

/-- DESC_COPY (R421). -/
def State.descCopy (s : State) (e : EngineNo) : State :=
  match s.svcDesc e (isOp 0x12) with
  | none => s
  | some (d, t) =>
    t.bulkDesc e d fun t =>
      State.bulkRun e (t.bulkCopy e (dget d.bytes 16 8) (dget d.bytes 32 8) (dget d.bytes 24 4)) [] bulkResult

/-- DESC_FILL (R421). -/
def State.descFill (s : State) (e : EngineNo) : State :=
  match s.svcDesc e (isOp 0x13) with
  | none => s
  | some (d, t) =>
    t.bulkDesc e d fun t =>
      State.bulkRun e (t.bulkFill e (dget d.bytes 32 8) (dget d.bytes 24 4) ((d.bytes.drop 40).take 8)) [] bulkResult

/-! ### SCAN -/

/-- An element as a number, signed where the descriptor says so. -/
def scanValue (w v : Nat) (unsigned : Bool) : Int := if unsigned then (v : Int) else (BitVec.ofNat w v).toInt

/-- Whether an element meets PRED (R421). -/
def scanMeets (pred : Nat) (x y : Int) : Bool :=
  match pred with
  | 0 => true
  | 1 => x == y
  | 2 => x != y
  | 3 => decide (x < y)
  | 4 => decide (x ≤ y)
  | 5 => decide (y < x)
  | _ => decide (y ≤ x)

/-- The aggregate of the matching elements (R421); 0 for an empty selection. -/
def scanAgg (agg : Nat) (l : List Int) : Int :=
  match agg, l with
  | 0, l => l.length
  | 1, l => l.sum
  | _, [] => 0
  | 2, x :: r => r.foldl min x
  | _, x :: r => r.foldl max x

/-- The elements of some bytes that meet a SCAN's predicate, of the first n bytes. -/
def scanHits (b : List Byte) (n : Nat) (bytes : List Byte) : List (List Byte) :=
  let w := 2 ^ bitsOf (dget b 48 1) 0 2
  let uns := (dget b 48 1).testBit 2
  let y := scanValue (8 * w) (dget b 40 8 % 2 ^ (8 * w)) uns
  ((List.range (n / w)).map fun i => (bytes.drop (w * i)).take w).filter fun x =>
    scanMeets (dget b 49 1) (scanValue (8 * w) (bytesNat x) uns) y

/-- RESULT of a SCAN over some matching elements. -/
def scanResult (b : List Byte) (hits : List (List Byte)) : DWord :=
  let w := 2 ^ bitsOf (dget b 48 1) 0 2
  BitVec.ofInt 64 (scanAgg (dget b 50 1) (hits.map fun x => scanValue (8 * w) (bytesNat x) ((dget b 48 1).testBit 2)))

/-- The matching elements are packed into DST, if there is one, and the scan ends with a status (R421, R422). -/
def State.scanPack (s : State) (e : EngineNo) (d : Desc) (lines : List Line) (hits : List (List Byte)) (st : BitVec 16) : State :=
  let dst := dget d.bytes 32 8
  let w := 2 ^ bitsOf (dget d.bytes 48 1) 0 2
  if dst = 0 then (s.setSvc e { phase := 1, status := st, result := scanResult d.bytes hits }).svcFinish e d
  else
    let y := s.bulkBytes e dst hits.flatten
    let y1 := ({ y.1 with status := match y.1.status with | some c => some c | none => some st }, y.2)
    (State.bulkRun e y1 lines fun k => scanResult d.bytes (hits.take (k.bytes / w))).svcFinish e d

/-- DESC_SCAN (R421). -/
def State.descScan (s : State) (e : EngineNo) : State :=
  match s.svcDesc e (isOp 0x11) with
  | none => s
  | some (d, t) =>
    if t.svcPhase e ≠ 0 then t.svcFinish e d
    else
      let len := dget d.bytes 24 4
      let r := t.svcRead e (dget d.bytes 16 8) ((len + 63) / 64) (t.svcGot e)
      let lines := r.2.1
      let bytes := (lines.flatMap lineBytes).take len
      match r.1 with
      | .wait => r.2.2.setSvc e { phase := 0, got := lines }
      | .stop c => r.2.2.scanPack e d lines (scanHits d.bytes (64 * lines.length) bytes) (statusOf c)
      | .got _ => r.2.2.scanPack e d lines (scanHits d.bytes len bytes) 0

/-! ### CHECKSUM -/

/-- DESC_CHECKSUM (R421): CRC-32C of the range, or its GMAC under a key slot. -/
def State.descChecksum (s : State) (e : EngineNo) : State :=
  match s.svcDesc e (isOp 0x15) with
  | none => s
  | some (d, t) =>
    let b := d.bytes
    t.bulkDesc e d fun t =>
      let a := dget b 16 8
      let len := dget b 24 4
      let r := t.svcRead e (a / 64 * 64) ((a % 64 + len + 63) / 64) (t.svcGot e)
      match r.1 with
      | .wait => r.2.2.setSvc e { phase := 0, got := r.2.1 }
      | .stop c => r.2.2.setSvc e { phase := 1, status := statusOf c }
      | .got _ =>
        let data := ((r.2.1.flatMap lineBytes).drop (a % 64)).take len
        if dget b 28 1 = 0 then r.2.2.setSvc e { phase := 1, result := (crc32c data).setWidth 64 }
        else
          let k := r.2.2.keySlot (dget b 29 1)
          if !k.loaded then r.2.2.setSvc e { phase := 1, status := 0x10 }
          else
            let tag := gcmTag (k1 k.key) (dget b 40 12) (data.map (·.toNat)) []
            State.bulkRun e ((r.2.2.cphJob 5 (dget b 40 12)).bulkBytes e (dget b 32 8) ((beBytes 16 tag).map (BitVec.ofNat 8))) r.2.1
              fun _ => 0

/-! ### SNAPSHOT (R425) -/

/-- DESC_SNAPSHOT_TAKE: pin PIN is set to W. -/
def State.descSnapTake (s : State) (e : EngineNo) : State :=
  match s.svcDesc e (isSnap 0) with
  | none => s
  | some (d, t) => (t.setPin (dget d.bytes 41 1) t.plg.w).svcPost e d 0 (BitVec.ofNat 64 t.plg.w)

/-- DESC_SNAPSHOT_DROP: pin PIN is cleared. -/
def State.descSnapDrop (s : State) (e : EngineNo) : State :=
  match s.svcDesc e (isSnap 2) with
  | none => s
  | some (d, t) => (t.clearPin (dget d.bytes 41 1)).svcPost e d 0 0

/-- DESC_SNAPSHOT_COPY: the copy is made at one W, so that no leaf is left to copy again, and starts over after a wait, its
lines all admitted ahead; a pin that was released fails it. -/
def State.descSnapCopy (s : State) (e : EngineNo) : State :=
  match s.svcDesc e (isSnap 1) with
  | none => s
  | some (d, t) =>
    let b := d.bytes
    if (aget t.plg.pins (dget b 41 1)).isNone then t.svcPost e d 0x11 0
    else
      t.bulkDesc e d fun t =>
        let p := t.pay (svcInst e) t.moverClass (List.replicate (lineParts (dget b 32 8) (dget b 24 4)).length 2)
        let c := p.2.bulkCopy e (dget b 16 8) (dget b 32 8) (dget b 24 4)
        if !p.1 then p.2
        else if c.1.wait then { p.2 with vlt := { t.vlt with demands := c.2.vlt.demands }, dti := { t.dti with fills := c.2.dti.fills } }
        else State.bulkRun e (c.1, c.2.spend (svcInst e)) [] fun _ => BitVec.ofNat 64 c.2.plg.w

/-! ### VSYNC, PROBE, USER -/

/-- DESC_VSYNC (R421): WPV has reached the WPL read at dispatch, or TMO_MS have passed. -/
def State.descVsync (s : State) (e : EngineNo) : State :=
  match s.svcDesc e (isOp 0x17) with
  | none => s
  | some (d, t) =>
    if d.wpl ≤ t.plg.wpv then t.svcPost e d 0 (BitVec.ofNat 64 d.wpl)
    else if d.at_ + orOne (t.fld 0x0C0010 0 16) * 1000000 ≤ t.chron then t.svcPost e d 0x0E 0
    else t

/-- RESULT of a PROBE (R421): the lines probed, and those found not clean. -/
def probeResultWord (r : SvcRun) : DWord := r.result + BitVec.ofNat 64 (r.pois * 2 ^ 32)

/-- The next of the lines left is probed (R385); one that is skipped at once leaves the next, and after the last the service
posts. -/
def State.probeNext (s : State) (e : EngineNo) (d : Desc) (r : SvcRun) : Nat → State
  | 0 => s.svcPost e d 0 (probeResultWord r)
  | k + 1 =>
    let t := (s.setSvc e { r with phase := 1 }).probe (dget d.bytes 16 8 + 64 * r.done)
    if t.busyInst 24 then t else t.probeNext e d { r with done := r.done + 1 } k

/-- The line in progress was probed with a result (R382, R385): skipped, clean or not clean. -/
def SvcRun.probed (r : SvcRun) (res : Nat) : SvcRun :=
  if res.testBit 2 then { r with done := r.done + 1 }
  else { r with done := r.done + 1, result := r.result + 1, pois := r.pois + (if res % 4 = 0 then 0 else 1) }

/-- DESC_PROBE (R421): every line is probed through the Sounding unit, one at a time; a probe whose unit was given up since
is made again. -/
def State.descProbe (s : State) (e : EngineNo) : State :=
  match s.svcDesc e (isOp 0x18) with
  | none => s
  | some (d, t) =>
    let u := t.svcUnits e d.bytes
    if !u.1 || u.2.busyInst 24 then u.2
    else
      let r := (t.engine e).svc.getD { phase := 0 }
      let r1 := if r.phase = 0 || (t.heldInst e 2).isNone then r else r.probed (t.unitReg 24 0x08).toNat
      u.2.probeNext e d r1 ((dget d.bytes 24 4 + 63) / 64 - r1.done)

/-- DESC_USER (R421): the image posts its status and result. -/
def State.descUser (s : State) (e : EngineNo) (status : BitVec 16) (result : DWord) : State :=
  match s.svcDesc e (isOp 0x20) with
  | none => s
  | some (d, t) => t.svcPost e d status result

/-! ### SEAL -/

/-- The notice of a seal to the twin (R329): the segment index and the new GEN. -/
def State.sealNotice (s : State) (e : EngineNo) (g : Nat) : State :=
  if !s.linkUp then s
  else (s.ctrlPush (ctrlFrame 8 0 0 (BitVec.ofNat 64 e.val) (BitVec.ofNat 32 e.val)
      (natBytes 4 g ++ natBytes 4 (s.seg g).gen.toNat))).sendCtrl

/-- DESC_SEAL (R327, R328, R421): with its units granted the seal starts; it ends with the Mover's DONE and the notice. -/
def State.descSeal (s : State) (e : EngineNo) : State :=
  match s.svcDesc e (isOp 0x14) with
  | none => s
  | some (d, t) =>
    let seg := dget d.bytes 24 4
    let g := bitsOf seg 0 31
    if t.svcPhase e = 0 then
      let u := (t.setSvc e { phase := 0 }).svcUnits e d.bytes
      let t1 := u.2
      match u.1, t1.heldInst e 0 with
      | true, some m =>
        let dst := g + (if seg.testBit 31 then 2 ^ 63 else 0)
        let t2 := ((t1.setUnitReg m 0x08 (BitVec.ofNat 64 (dget d.bytes 16 8))).setUnitReg m 0x10 (BitVec.ofNat 64 dst)).setUnitReg
          m 0x18 32768
        let t3 := t2.moverGo m e 2
        if t3.busyInst m then t3.setSvc e { phase := 1 } else t3.svcPost e d 8 0
      | _, _ => t1
    else match t.heldInst e 0 with
      | none => t.svcPost e d 0x0F 0
      | some m =>
        if t.busyInst m then t
        else if bitsOf (t.unitReg m 0x30).toNat 58 4 ≠ 0 then t.svcPost e d 0x0F 0
        else
          let gen := (t.seg g).gen
          (t.sealNotice e g).svcPost e d 0 (gen.setWidth 64)

/-! ### COMMIT (R424) -/

/-- First address of an engine's redo record (R45, R424): 32 KiB of the redo area for each engine number. -/
def State.redoAt (s : State) (e : Nat) : Nat := s.map.act.redoBase * 2 ^ 20 + e * 32768

/-- The engine's redo record lies in the redo area. -/
def State.redoFits (s : State) (e : Nat) : Bool := decide ((e + 1) * 32768 ≤ s.map.act.redoSize * 2 ^ 20)

/-- The mark of an unretired record. -/
def redoMark : Nat := 0x4B4F5F4F444552

/-- The header line of a record of n lines; a retired one has none. -/
def redoHead (n : Nat) : Line := if n = 0 then 0 else BitVec.ofNat 512 (redoMark + n * 2 ^ 64)

/-- Lines of an unretired record; zero where there is none. -/
def redoCount (h : Line) : Nat :=
  if bitsOf h.toNat 0 64 = redoMark && h.toNat / 2 ^ 64 ≤ 256 then h.toNat / 2 ^ 64 else 0

/-- A service's store of a whole line. -/
def State.svcStore (s : State) (e : EngineNo) (line : Nat) (d : Line) : State :=
  let no := s.atu.nextNo
  (s.updAtu fun a => { a with nextNo := no + 1 }).access (.wr
    { who := .engine e, line := line, kind := .full, mask := BitVec.allOnes 64, data := d, seq := 2 ^ 32, no := no } .normal false)

/-- Stores of an engine that are not performed. -/
def State.storesOut (s : State) (e : EngineNo) : Bool :=
  s.atu.parked.any fun a => match a with
    | .wr j _ _ => j.who == .engine e
    | _ => false

/-- Lines packed from doublewords, eight to a line. -/
def packDwords (l : List Nat) : List Line :=
  (chunks 8 (l.length / 8 + 1) l).map fun c => bytesLine (c.flatMap fun x => natBytes 8 x)

/-- The record of a transaction is written (R424 step 2). -/
def State.redoWrite (s : State) (e : EngineNo) (targets : List Nat) (data : List Line) : State :=
  let base := s.redoAt e / 64
  let t := packDwords targets
  let s1 := t.zipIdx.foldl (fun u x => u.svcStore e (base + 1 + x.2) x.1) s
  let s2 := data.zipIdx.foldl (fun u x => u.svcStore e (base + 33 + x.2) x.1) s1
  s2.svcStore e base (redoHead targets.length)

/-- The record is retired (R424 step 6). -/
def State.redoRetire (s : State) (e : EngineNo) : State := s.svcStore e (s.redoAt e / 64) (redoHead 0)

/-- The targets and data of an engine's unretired record. -/
def State.redoRead (s : State) (e : EngineNo) : List (Nat × Line) :=
  let base := s.redoAt e / 64
  let at_ (l : Nat) : Line := match (s.unitLine l).1 with | .got d => d | _ => 0
  let n := if s.redoFits e && s.leafState (leafOfLine base) = 0 then redoCount (at_ base) else 0
  (List.range n).map fun i => ((lineDword (at_ (base + 1 + i / 8)) (i % 8)).toNat / 64, at_ (base + 33 + i))

/-- A service's own reads and stores of n lines are admitted to the engine's class, one line each (R10, R296). -/
def State.svcPay (s : State) (e : EngineNo) (n : Nat) : Bool × State :=
  let p := s.pay (svcInst e) (s.engineClass e) (List.replicate n 1)
  (p.1, if p.1 then p.2.spend (svcInst e) else p.2)

/-- Unretired records of an engine are replayed before it takes a descriptor (R424): whether none is left. -/
def State.redoReplay (s : State) (e : EngineNo) : Bool × State :=
  match s.redoRead e with
  | [] => (true, s)
  | l =>
    let p := s.svcPay e (2 + l.length / 8 + 2 * l.length)
    if p.1 then (true, (l.foldl (fun t x => if t.inT0 (x.1 * 64) 64 then t.svcStore e x.1 x.2 else t) p.2).redoRetire e)
    else p

/-- The check of one target (R424 step 1): its status where it fails. -/
def State.commitCheck (s : State) (a : Nat) : Option (BitVec 16) :=
  match s.region a with
  | .t0 pa =>
    if a % 64 ≠ 0 || s.map.act.inCarve pa || s.map.act.inRedo pa then some 0x0A
    else if s.reachState (reachOfLine (pa / 64)) = 2 then some 0x0D
    else if s.deadLine (pa / 64) || s.xtsKey.isNone then some 0x0C
    else none
  | _ => some 0x0A

/-- Targets and data of a COMMIT as read from Tier 0; what has been read is kept. -/
def State.commitRead (s : State) (e : EngineNo) (b : List Byte) : UnitGet × List Nat × List Line × State :=
  let n := dget b 32 2
  let a := dget b 16 8
  let m := (a % 64 + 8 * n + 63) / 64
  let had := s.svcGot e
  let r := s.svcRead e (a / 64 * 64) m (had.take m)
  let bytes := (r.2.1.flatMap lineBytes).drop (a % 64)
  let targets := (List.range n).map fun i => bytesNat ((bytes.drop (8 * i)).take 8)
  match r.1 with
  | .got _ =>
    let q := r.2.2.svcRead e (dget b 24 8) n (had.drop m)
    (q.1, targets, q.2.1, q.2.2.setSvc e { phase := 0, got := r.2.1 ++ q.2.1 })
  | x => (x, [], [], r.2.2.setSvc e { phase := 0, got := r.2.1 })

/-- Every target's leaf is present. -/
def State.commitReady (s : State) (targets : List Nat) : Bool × State :=
  targets.foldl (fun (p : Bool × State) a =>
    let w := p.2.unitWaits (a / 64)
    (p.1 && !w.1, w.2)) (true, s)

/-- A fence of the service: pending, or the word it gave (R424 steps 3 and 5). -/
def State.svcFence (s : State) (e : EngineNo) (level : Nat) : Option DWord × State :=
  if s.storesOut e then (none, s)
  else match (s.engine e).fenceRes with
    | some w => (some w, s.updEngine e fun n => { n with fenceRes := none })
    | none => (none, if s.fencePending e then s else s.engineFence e level s.chron)

/-- Whether a fence word reports TIMEOUT (R119). -/
def fenceTimedOut (w : DWord) : Bool := w.getLsbD 7

/-- The fence of a phase: pending, ended by TIMEOUT, or passed, with `next` to follow. -/
def State.commitFence (s : State) (e : EngineNo) (d : Desc) (level : Nat) (next : DWord → State → State) : State :=
  let f := s.svcFence e level
  match f.1 with
  | none => f.2
  | some w => if fenceTimedOut w then f.2.svcPost e d 0x0E w else next w f.2

/-- DESC_COMMIT (R424): a transaction through the redo area, phase by phase. -/
def State.descCommit (s : State) (e : EngineNo) : State :=
  let z := if (s.engine e).state = .running && (s.engine e).desc.isNone then s.redoReplay e else (true, s)
  if !z.1 then z.2
  else match z.2.svcDesc e (isOp 0x10) with
  | none => z.2
  | some (d, t) =>
    let level := dget d.bytes 34 1
    match t.svcPhase e with
    | 0 =>
      let r := t.commitRead e d.bytes
      match r.1 with
      | .wait => r.2.2.2
      | .stop c => r.2.2.2.svcPost e d (statusOf c) 0
      | .got _ =>
        let u := r.2.2.2
        match r.2.1.findSome? u.commitCheck with
        | some st => u.svcPost e d st 0
        | none =>
          if !u.redoFits e then u.svcPost e d 0x0A 0
          else
            let w := u.commitReady (u.redoAt e :: r.2.1)
            if !w.1 then w.2
            else
              let p := u.svcPay e ((r.2.1.length + 7) / 8 + r.2.1.length + 1)
              if p.1 then (p.2.redoWrite e r.2.1 r.2.2.1).setSvc e { phase := 1 } else p.2
    | 1 =>
      let n := (t.redoRead e).length
      let p := t.pay (svcInst e) (t.engineClass e) (List.replicate (1 + (n + 7) / 8 + 2 * n) 1)
      if p.1 then p.2.commitFence e d level fun _ u =>
        ((u.redoRead e).foldl (fun v x => v.svcStore e x.1 x.2) (u.spend (svcInst e))).setSvc e { phase := 2 }
      else p.2
    | _ =>
      let p := t.pay (svcInst e) (t.engineClass e) [1]
      if p.1 then p.2.commitFence e d level fun w u => ((u.spend (svcInst e)).redoRetire e).svcPost e d 0 w else p.2

end Sys2Proof.Machine
end

