-- ==== Sys2Proof/Machine/Copy.lean ====
section
/-! DEFINITION. The copies of row remapping and of bank and rank sparing, through the reserved entries of the queues (R188,
R273, R282–R284). -/

namespace Sys2Proof.Machine

/-! ### One line -/

/-- The entry of a copy read: as due Sounding traffic (R280, R284). -/
def State.copyEntry (s : State) (line : Nat) : REntry :=
  let l := s.locOf line
  { id := (s.sub l.sub).nextId, loc := l, line := line, dest := .copy, who := .agent 0x09, level := .high
    stamp := s.chron - s.ageCap l.sub, reserved := true }

/-- A read entry joins its queue. -/
def State.addRead (s : State) (e : REntry) : State :=
  let c := e.loc.sub
  let q := s.sub c
  (s.setSub c { q with rq := q.rq ++ [e], nextId := q.nextId + 1 }).qIn (.chsRead c) e.line

/-- A line begins to be copied (R189, R282, R284): a queued write supplies it, a line of a failed rank is copied as poisoned;
none while another access holds its merge lock or the read queue has no room. -/
def State.askCopy (s : State) (line : Nat) (dst : Loc) : Option State :=
  let put (t : State) (got : Option (Line × Bool)) : State := t.updEcc fun e => { e with copies := e.copies ++ [⟨line, dst, got⟩] }
  if s.atu.locks.contains line then none
  else if s.deadLine line then some (put s (some (0, true)))
  else match s.writeEntry line with
    | some e => some (put (s.count 2 9 (s.subOf line) 1) (some (e.data, e.pois)))
    | none => if s.readRoom (s.subOf line) true then some (put (s.addRead (s.copyEntry line)) none) else none

/-- A line that was read is written to its new place, once the write queue there has an entry (R188). -/
def State.landCopy (s : State) (c : LineCopy) : State :=
  match c.got with
  | none => s
  | some (d, p) =>
    let q := s.sub c.dst.sub
    if 96 ≤ q.wq.length then s
    else
      (s.addWrite { id := q.nextId, loc := c.dst, line := c.line, data := d, pois := p, who := .agent 0x09, level := .normal
                    stamp := s.chron, reserved := true, copy := true }).updEcc fun e =>
        { e with copies := e.copies.filter fun x => x != c }

/-- A line is being copied. -/
def State.copyRuns (s : State) (line : Nat) : Bool := s.ecc.copies.any fun c => c.line == line

/-! ### Rows that move -/

/-- Where a line of a row that moves goes. -/
def State.moveDst (s : State) (m : RowMove) (line : Nat) : Loc :=
  let l := s.homeOf line
  if m.back then l else s.slotLoc m.slot l.col

/-- SND's copies need a Mover channel (R374): whether SND holds one; else it asks for one. -/
def State.copier (s : State) : Bool × State :=
  let held (t : State) : Bool := (t.grantOf (.internal .snd) 0).isSome
  if held s then (true, s)
  else
    let t := s.askInternal .snd 0
    (held t, t)

/-- The lines of a move that are still to be read are asked for in order; one that lies elsewhere by now is left out. -/
def State.askRow (s : State) (m : RowMove) : List Nat × State :=
  m.todo.foldl (fun (x : List Nat × State) line =>
    if rowKey (x.2.homeOf line) != m.row then x
    else match x.2.askCopy line (x.2.moveDst m line) with
      | some t => (x.1, t)
      | none => (x.1 ++ [line], x.2)) ([], s)

/-- A row that moves goes on: when every line stands in the write queues of its new place the move is over (R282). -/
def State.rowStep (s : State) (m : RowMove) : State :=
  let k := if m.todo.isEmpty then (true, s) else s.copier
  let x := if k.1 then k.2.askRow m else (m.todo, k.2)
  let m1 := { m with todo := x.1 }
  let t := x.2.updEcc fun e => { e with moves := mapIf e.moves (fun y => y == m) fun _ => m1 }
  if x.1.isEmpty && !(t.ecc.copies.any fun c => rowKey (t.homeOf c.line) == m.row) then t.rowMoved m1 else t

/-! ### Migrations -/

/-- Time one line takes at COPY_GBS, in ns, rounded up (R284, R290). -/
def State.copyNs (s : State) : Nat :=
  let g := Nat.min 16 (orOne (s.fld 0x090004 24 8))
  (64 + g - 1) / g

/-- The lines at a pointer are asked for, all of them or none. -/
def State.askAll (s : State) (l : List (Nat × Loc)) : Option State :=
  l.foldl (fun t x => t.bind fun t => t.askCopy x.1 x.2) (some s)

/-- SPARE_COPY (R284): the lines at the pointer of the channel's migration are merge-locked and copied; the command waits
while SND has no Mover channel (R374), or one of the lines is locked or held by another or is still being copied. -/
def State.spareCopy (s : State) (ch : Nat) : State :=
  match s.ecc.migrations.find? fun g => g.ch.val == ch with
  | none => s
  | some g =>
    if (aget s.ecc.copying ch).isSome || !s.cfg.mode.serves then s
    else
      let k := s.copier
      if !k.1 then k.2
      else
      let s1 := k.2.until_ (agetD s.ecc.copiedAt ch 0 + s.copyNs)
      let l := s1.copyLines g
      if l.any fun x => s1.rowHeld x.1 || s1.copyRuns x.1 then k.2
      else match s1.askAll l with
        | none => k.2
        | some t =>
          (t.updEcc fun e => { e with
            copiedAt := aput e.copiedAt ch s1.chron, copying := aput e.copying ch (l.map fun x => x.1) }).updAtu fun a =>
              { a with locks := a.locks ++ l.map fun x => x.1 }

/-- The copies at a channel's pointer stand in the write queue: the locks are released and the pointer moves on. -/
def State.pointerStep (s : State) (x : Nat × List Nat) : State :=
  if x.2.any s.copyRuns then s
  else
    let s1 := (s.updEcc fun e => { e with copying := adel e.copying x.1 }).updAtu fun a =>
      { a with locks := a.locks.filter fun l => !x.2.contains l }
    match s1.ecc.migrations.find? fun g => g.ch.val == x.1 with
    | some g => s1.pointerOn g
    | none => s1

/-- Everything that is being copied goes on. -/
def State.copyStep (s : State) : State :=
  let s1 := s.ecc.copies.foldl State.landCopy s
  let s2 := s1.ecc.copying.foldl State.pointerStep s1
  s2.ecc.moves.foldl State.rowStep s2

end Sys2Proof.Machine
end

