-- ==== Sys2Proof/Machine/Sounding.lean ====
section
/-! DEFINITION. Sounding, and the commands firmware gives ECC (R270, R278–R280, R282–R286, R290–R294). -/

namespace Sys2Proof.Machine

/-! ### Where Sounding stands -/

/-- PERIOD_H of the pass in ns. -/
def State.sndPeriod (s : State) : Nat := orOne (field s.ecc.sndCfg 0 16) * 3600000000000

/-- LAG of the pass, in 1/64. -/
def State.sndLag (s : State) : Nat := Nat.min 63 (orOne (field s.ecc.sndCfg 16 8))

/-- Lines of Tier 0 in one subchannel. -/
def MapSet.subLines (m : MapSet) : Nat := 2 ^ m.rankBits * m.copyTotal true

/-- Chip selects of a channel that serve no rank and passed Sighting: the spares Sounding also reads (R278). -/
def State.idleCs (s : State) (c : Nat) : List Nat :=
  (List.range 4).filter fun cs => decide (cs < s.chipSelects) && (s.rankOfCs (c / 2) cs).isNone
    && agetD s.sgt.rsts (4 * c + cs) 0 == 0 && !s.ecc.failing.contains (c / 2, cs)

/-- L: the lines of a subchannel (R278). -/
def State.sndLines (s : State) (c : Nat) : Nat := s.map.act.subLines + (s.idleCs c).length * s.map.act.copyTotal true

/-- The walk position of a subchannel. -/
def State.sndAt (s : State) (c : Nat) : Int := agetD s.ecc.sndPos c 0

/-- The schedule position of a subchannel with L lines (R278). -/
def State.sndSchedule (s : State) (l : Nat) : Nat := Nat.min l (l * (s.chron - s.ecc.passStart) / s.sndPeriod)

/-- A subchannel is due (R278): from the lag on until it reaches the schedule. -/
def State.soundingDue (s : State) (c : Nat) : Bool :=
  let l := s.sndLines c
  let behind : Int := (s.sndSchedule l : Int) - s.sndAt c
  if s.ecc.sndDue.contains c then decide (0 < behind) else decide ((l * s.sndLag / 64 : Nat) < behind)

/-- The location of a walk position: logical rank, chip ID, bank group, bank, row, column, then the spares. -/
def State.sndLoc (s : State) (c : Nat) (n : Nat) : Loc :=
  let m := s.map.act
  let u := m.copyTotal true
  let spare := decide (m.subLines ≤ n)
  let k := if spare then (n - m.subLines) / u else n / u
  let g : Migration := { ch := Fin.ofNat 16 (c / 2), rankKind := true, rank := if spare then 0 else k, bank := 0, spare := 0, pos := 0
                         total := 0, byCmd := false }
  let cs := if spare then (s.idleCs c).getD k 0 else csOf (m.csmap.getD (c / 2) 0x3210) k
  m.copyLoc g (c % 2) cs (n % u)

/-! ### Passes -/

/-- Subchannels Sounding walks. -/
def State.sndSubs (s : State) : List Nat := s.enabledChannels.flatMap fun ch => [2 * ch, 2 * ch + 1]

/-- SOUNDING_PASS_START (R270, R278, R293): the walks are counted from the new pass, and a subchannel that had not finished the
last one is late. -/
def State.passBegins (s : State) : State :=
  let s1 := s.until_ (s.ecc.passStart + s.sndPeriod)
  let subs := s1.sndSubs
  let late := if s1.flag 0x0A0000 31 then subs.filter fun c => decide (s1.sndAt c < s1.sndLines c) else []
  let s2 := s1.updEcc fun e => { e with
    passStart := s1.chron, sndCfg := s1.reg 0x0A0000, rowCe := [], posCount := []
    sndPos := subs.foldl (fun l c => aput l c (if s1.flag 0x0A0000 31 then s1.sndAt c - s1.sndLines c else 0)) e.sndPos }
  late.foldl (fun t c => (t.logE 0x0A01 (srcInt 0x0A) 0 c).event 0x0A0100 2) s2

/-- A subchannel has read one more line; the last of the subchannels to finish ends the pass (R278). -/
def State.sndAdvance (s : State) (c : Nat) : State :=
  let n := s.sndAt c + 1
  let s1 := s.updEcc fun e => { e with sndPos := aput e.sndPos c n }
  let all (f : Nat → Int) : Bool := s1.sndSubs.all fun k => decide (f k ≤ s1.sndAt k)
  if (n == (s1.sndLines c : Int) && all fun k => (s1.sndLines k : Int)) || (n == 0 && all fun _ => 0) then
    (s1.updEcc fun e => { e with pass := satAdd e.pass 1 }).event 0x0A0100 0
  else s1

/-- The due flags as they stand now, with the event of one that is set. -/
def State.noteDue (s : State) (c : Nat) : State :=
  if s.soundingDue c then
    if s.ecc.sndDue.contains c then s else (s.updEcc fun e => { e with sndDue := insertNat e.sndDue c }).event 0x0A0100 1
  else s.updEcc fun e => { e with sndDue := e.sndDue.filter (· != c) }

/-! ### One read -/

/-- A read SND makes at a location: background_cmd offers it, or it is due and goes as aged (R280). -/
def State.soundEntry (s : State) (c : Nat) (loc : Loc) (line : Nat) (dest : ReadDest) (due : Bool) : REntry :=
  { id := (s.sub c).nextId, loc := loc, line := line, dest := dest, who := .agent 0x0A, level := if due then .high else .normal
    stamp := if due then s.chron - s.ageCap c else s.chron, reserved := true }

/-- A read is offered through background_cmd. -/
def State.soundOffer (s : State) (c : Nat) (e : REntry) : State :=
  let q := s.sub c
  s.setSub c { q with offer := some e, nextId := q.nextId + 1 }

/-- The line that stands for a line of a spare: no Tier 0 line has it. -/
def spareLine : Nat := 2 ^ 58

/-- A write entry supplies a Sounding read (R189, R279): nothing is corrected, and a probe finds the line clean, or poisoned. -/
def State.soundForward (s : State) (line : Nat) (probe : Bool) (e : WEntry) : State :=
  let s1 := s.count 2 9 (s.subOf line) 1
  if probe then s1.probeResult (if e.pois then 3 else 0) else s1

/-- The walk reads the line at its position (R278–R280). -/
def State.soundStep (s : State) (c : Nat) (due : Bool) : State :=
  let n := s.sndAt c
  let l := s.sndLines c
  if (l : Int) ≤ n || l = 0 then s
  else
    let k := (n % (l : Int)).toNat
    let loc := s.sndLoc c k
    let spare := decide (s.map.act.subLines ≤ k)
    let line := if spare then spareLine else s.map.act.lineAt loc
    let at_ := if spare then loc else s.locOf line
    let e := s.soundEntry at_.sub at_ line (if spare then .soundSpare else .sounding false) due
    if !spare && (s.leafState (leafOfLine line) != 0 || s.deadLine line) then s.sndAdvance c
    else match (if spare then none else s.writeEntry line) with
      | some w => (s.soundForward line false w).sndAdvance c
      | none =>
        if !due && (s.sub at_.sub).offer.isNone then (s.soundOffer at_.sub e).sndAdvance c
        else if due && s.readRoom at_.sub true then (s.addRead e).sndAdvance c
        else s

/-- A probe's line is read in the background (R385), or skipped where its leaf is not PRESENT or its rank has failed. -/
def State.soundProbe (s : State) (c : Nat) (line : Nat) : State :=
  let s1 := s.updEcc fun e => { e with probe := none }
  if s.deadLine line || s.leafState (leafOfLine line) != 0 then s1.probeResult 4
  else match s.writeEntry line with
    | some w => s1.soundForward line true w
    | none => s1.soundOffer c (s.soundEntry c (s.locOf line) line (.sounding true) false)

/-- A read of the walk that is offered becomes due: it enters the read queue (R280). -/
def State.offerDue (s : State) (c : Nat) (e : REntry) : State :=
  if s.readRoom c true then
    (s.setSub c { s.sub c with offer := none }).addRead { e with level := .high, stamp := s.chron - s.ageCap c }
  else s

/-- SOUNDING_READ (R278–R280, R385): a queued probe of the subchannel first, else the walk; one read at a time is offered. -/
def State.soundingRead (s : State) (c : Sub) : State :=
  if !s.cfg.mode.serves then s
  else
    let on := s.flag 0x0A0000 31
    let s1 := if on then s.noteDue c else s
    let due := on && s1.ecc.sndDue.contains c.val
    match (s1.sub c).offer, s1.ecc.probe with
    | some e, _ => if due && e.dest != .sounding true then s1.offerDue c e else s1
    | none, some line => if s1.subOf line = c then s1.soundProbe c line else if on then s1.soundStep c due else s1
    | none, none => if on then s1.soundStep c due else s1

/-- An offered Sounding read whose line has a write entry by now is answered by it (R189, R279). -/
def State.offerStep (s : State) (c : Nat) : State :=
  match (s.sub c).offer with
  | none => s
  | some e =>
    match (if e.dest = .soundSpare then none else s.writeEntry e.line) with
    | some w => (s.setSub c { s.sub c with offer := none }).soundForward e.line (e.dest == .sounding true) w
    | none => s

/-- The offers of all subchannels. -/
def State.offersStep (s : State) : State := (s.subs.map fun x => x.1).foldl State.offerStep s

/-! ### SND's registers -/

/-- A position in 1/65536 of a pass. -/
def passPart (n : Int) (l : Nat) : Nat := if n ≤ 0 || l = 0 then 0 else Nat.min 65535 (n.toNat * 65536 / l)

/-- SND_PROG (R292). -/
def State.sndProg (s : State) : Word :=
  let parts := s.sndSubs.map fun c => passPart (s.sndAt c) (s.sndLines c)
  let slow := parts.foldl Nat.min 65535
  let t := Nat.min 65535 ((s.chron - s.ecc.passStart) * 65536 / s.sndPeriod)
  at_ (if parts.isEmpty then 0 else slow) 16 16 ||| at_ t 0 16

/-- SND_DUE (R292). -/
def State.sndDueWord (s : State) : Word :=
  if !s.flag 0x0A0000 31 then 0
  else BitVec.ofNat 32 ((s.sndSubs.filter s.soundingDue).foldl (fun n c => n + 2 ^ c) 0)

/-! ### ECC_CMD -/

/-- The row, or bank, a command names (R290): its word and ECC_CMD_ARG. -/
def State.cmdLoc (s : State) (v : Word) : Loc :=
  let ch := field v 24 4
  let bk := field v 13 5
  let cs := field v 20 2
  { sub := Fin.ofNat 32 (2 * ch + field v 23 1), cs := cs, rank := (s.rankOfCs ch cs).getD 0, cid := field v 18 2, bg := bk / 4
    bank := bk % 4, row := s.fld 0x090014 0 18, col := 0 }

/-- The chip select a command names serves a rank of an enabled channel, and its row, chip ID and bank exist. -/
def State.cmdFits (s : State) (l : Loc) : Bool :=
  (s.rankOfCs (l.sub.val / 2) l.cs).isSome && s.enabledChannels.contains (l.sub.val / 2)
    && decide (l.row < 2 ^ s.map.act.row) && decide (l.cid < 2 ^ s.map.act.cidBits)

/-- RESULT of the command. -/
def State.cmdResult (s : State) (r : Nat) : State := s.updEcc fun e => { e with cmdRes := BitVec.ofNat 4 r }

/-- A sparing that the command started runs until its copy is done (R284). -/
def State.cmdStarted (r : Nat × State) (before : Nat) : State :=
  let t := r.2.cmdResult r.1
  if r.1 = 0 && decide (before < t.ecc.migrations.length) then t.updEcc fun e => { e with cmdBusy := true } else t

/-- A row may be remapped by command (R282): lines are stored in it, and it holds no pool slot. -/
def State.rowFits (s : State) (l : Loc) : Bool :=
  let lines := s.rowTier (rowKey l)
  s.enabledChannels.contains (l.sub.val / 2) && !lines.isEmpty && lines.all fun i => (s.poolSlotOf i).isNone

/-- OP 1, RETIRE_ROW (R282): BUSY until the row has moved. -/
def State.cmdRetireRow (s : State) (v : Word) : State :=
  let l := s.cmdLoc v
  if !s.rowFits l then s.cmdResult 1
  else
    let r := s.retireRow (rowKey l) 0 true
    let t := r.2.cmdResult r.1.1
    if r.1.2 then t.updEcc fun e => { e with cmdBusy := true } else t

/-- OP 2, MARK_DEV (R270). -/
def State.cmdMarkDev (s : State) (v : Word) : State :=
  let l := s.cmdLoc v
  if s.canMark l.sub l.cs (field v 0 4) then (s.markDevice l.sub l.cs (field v 0 4)).cmdResult 0 else s.cmdResult 1

/-- OP 3, SPARE_BANK (R284). -/
def State.cmdSpareBank (s : State) (v : Word) : State :=
  let l := s.cmdLoc v
  let ch := l.sub.val / 2
  if !s.cmdFits l || s.bankTaken ch l.rank (bankNo l) then s.cmdResult 1
  else State.cmdStarted (s.spareBank ch l.rank (bankNo l) true) s.ecc.migrations.length

/-- OP 4, SPARE_RANK (R284). -/
def State.cmdSpareRank (s : State) (v : Word) : State :=
  let l := s.cmdLoc v
  let ch := l.sub.val / 2
  if !s.cmdFits l || (agetD s.ecc.rankFail (2 * ch) 0).testBit l.rank then s.cmdResult 1
  else State.cmdStarted (s.spareRank ch l.rank true) s.ecc.migrations.length

/-- OP 5, RETIRE_PE (R286). -/
def State.cmdRetirePe (s : State) : State :=
  let e := s.fld 0x090014 24 6
  if 32 ≤ e || (s.engine e).state == .failed then s.cmdResult 1
  else
    let k : EngineNo := Fin.ofNat 32 e
    let none_ := (s.spareEngine k).isNone
    (s.failEngine k).cmdResult (if none_ then 2 else 0)

/-- ECC_CMD (R290): a command with GO while none is in progress. -/
def State.eccCmd (s : State) (v : Word) : State :=
  if !bit v 31 || s.ecc.cmdBusy then s
  else match field v 28 3 with
    | 1 => s.cmdRetireRow v
    | 2 => s.cmdMarkDev v
    | 3 => s.cmdSpareBank v
    | 4 => s.cmdSpareRank v
    | 5 => s.cmdRetirePe
    | _ => s.cmdResult 1

/-- ECC_CMD_RES (R290). -/
def State.cmdResWord (s : State) : Word := bitAt s.ecc.cmdBusy 31 ||| at_ s.ecc.cmdRes.toNat 0 4

/-- A write of ECC_MARK of a subchannel (R270): it may only add a mark. -/
def State.markWrite (s : State) (c : Nat) (v : Word) : State :=
  (List.range 4).foldl (fun t cs =>
    if bit v (8 * cs + 7) && t.canMark c cs (field v (8 * cs) 4) then t.markDevice c cs (field v (8 * cs) 4) else t) s

/-- ECC_MARK of a subchannel (R290). -/
def State.markWord (s : State) (c : Nat) : Word :=
  (List.range 4).foldl (fun w cs => match aget s.ecc.marks (markKey c cs) with
    | some p => w ||| bitAt true (8 * cs + 7) ||| at_ p (8 * cs) 4
    | none => w) 0

end Sys2Proof.Machine
end

