-- ==== Sys2Proof/Machine/RegView.lean ====
section
/-! DEFINITION. What every register reads as (R7, R30, R50, R71, R99, R124, R156–R160, R182–R185, R207–R210, R226, R254–R258,
R288, R292, R308, R335–R337, R359–R362, R388–R391, R430–R434, R447–R448, R469–R471, R489). -/

namespace Sys2Proof.Machine

/-- One half of a 64-bit value: `hi` says which. -/
def half (v : Nat) (hi : Bool) : Word := if hi then hiWord v else loWord v

/-! ### CFG and TEL -/

/-- CFG_MODE (R448); its WAIT bits read 0 once Sighting complete has occurred. -/
def State.modeWord (s : State) : Word :=
  let waits := !s.cfg.sightingComplete
  bitAt s.cfg.noSave 19 ||| at_ s.cfg.twnReq.bits.toNat 16 3 ||| bitAt (waits && !s.cfg.sightDone) 15
    ||| bitAt (waits && !s.xready) 14 ||| bitAt (waits && !s.locked) 13 ||| bitAt (waits && s.flag 0x000044 31) 12
    ||| at_ s.cfg.prev.bits.toNat 8 3 ||| at_ s.cfg.mode.bits.toNat 0 3

/-- A data port. -/
def State.dp (s : State) (n : Nat) : DataPort := if n = 0 then s.cfg.dp0 else s.cfg.dp1

/-- The CFG page. -/
def State.cfgView (s : State) (o : Nat) : Word :=
  match o with
  | 0x0C => bitAt s.cfg.enumOut 9 ||| bitAt s.cfg.enumIn 8 ||| at_ s.cfg.chainAddr.toNat 0 7
  | 0x14 => bitAt s.cfg.saveDonePin 1 ||| bitAt s.cfg.pfWarn 0
  | 0x24 | 0x34 => 0
  | 0x28 => at_ (s.dp 0).words 16 5 ||| at_ (s.dp 0).code.bits.toNat 0 4
  | 0x38 => at_ (s.dp 1).words 16 5 ||| at_ (s.dp 1).code.bits.toNat 0 4
  | 0x40 => s.modeWord
  | 0x48 => 0
  | 0x4C => at_ s.cfg.drCause.toNat 0 10
  | _ => s.reg o

/-- The TEL page, the latched words apart. -/
def State.telView (s : State) (o : Nat) : Word :=
  match o with
  | 0x00 => half s.chron false
  | 0x04 => half s.chron true
  | 0x10 => half s.tel.ptpCap false
  | 0x14 => half s.tel.ptpCap true
  | 0x24 => s.ptpOfsWord
  | 0x40 => s.tel.logWr
  | 0x48 => s.tel.logLost
  | 0x88 => s.trcStat
  | 0xC8 => s.lkoStat
  | _ =>
    if 0x800 ≤ o ∧ o < 0x820 then s.paceWord ((o - 0x800) / 4)
    else if 0x9000 ≤ o ∧ o < 0xA000 then s.cntWord ((o - 0x9000) / 8) (o % 8 == 4)
    else if 0xA000 ≤ o ∧ o < 0xA800 then s.csel ((o - 0xA000) / 4)
    else s.reg (0x010000 + o)

/-! ### HPX, DRE, MAP, ATU, BWR -/

/-- The HPX page (R71). -/
def State.hpxView (s : State) (o : Nat) : Word :=
  if o < 0x100 ∧ o % 16 = 8 then
    let p := o / 16
    at_ (s.ingress p) 24 7 ||| at_ (s.port p).held.length 16 6 ||| at_ (s.port p).tags.length 0 13
  else s.reg (0x020000 + o)

/-- The DRE page (R430–R434). -/
def State.dreView (s : State) (o : Nat) : Word :=
  let w := s.reg (0x030000 + o)
  if 0x1000 ≤ o ∧ o < 0x1800 then
    let q := (o - 0x1000) / 0x20
    match o % 0x20 with
    | 0x08 => w ||| bitAt (s.sq q).fault 30
    | 0x10 => at_ (s.sq q).head 0 16
    | _ => w
  else if 0x2000 ≤ o ∧ o < 0x2800 then
    let q := (o - 0x2000) / 0x20
    match o % 0x20 with
    | 0x08 => w ||| bitAt (s.cq q).fault 30
    | 0x10 => at_ (s.cq q).waiting.length 16 16 ||| at_ (s.cq q).tail 0 16
    | _ => w
  else if 0x3000 ≤ o ∧ o < 0x3400 ∧ o % 0x10 = 0x0C then w ||| bitAt (s.dre.pending.contains ((o - 0x3000) / 0x10)) 1
  else w

/-- MAP_REACH_IDX.INDEX (R48). -/
def State.reachIdx (s : State) : Nat := s.fld 0x040050 0 16

/-- The Reach entry at the index as it reads (R48). -/
def State.reachEntry (s : State) : DWord := if s.reachIdx < s.map.act.reaches then s.reach s.reachIdx else 0

/-- The MAP page (R50). -/
def State.mapView (s : State) (o : Nat) : Word :=
  match o with
  | 0x08 => half s.map.act.top false
  | 0x0C => half s.map.act.top true
  | 0x40 => 0
  | 0x44 => at_ s.map.commitErr.toNat 0 4
  | 0x58 => half s.reachEntry.toNat false
  | 0x5C => half s.reachEntry.toNat true
  | _ => s.reg (0x040000 + o)

/-- The ATU page (R99). -/
def State.atuView (s : State) (o : Nat) : Word :=
  match o with
  | 0x04 => at_ s.atu.resv.length 0 13
  | 0x08 => s.atu.evictions
  | 0x0C => 0
  | _ => s.reg (0x050000 + o)

/-- The BWR page (R308). -/
def State.bwrView (s : State) (o : Nat) : Word :=
  match o with
  | 0x0C | 0x10 => 0
  | 0x14 => at_ s.bwr.need 0 24
  | 0x18 => at_ s.bwr.have_ 0 24
  | 0x1C => s.bwrScaleWord
  | 0x20 => at_ s.bwr.hRun 0 24
  | _ => s.reg (0x060000 + o)

/-! ### RPM, SGT, ECC, SND, CPH -/

/-- The highest debt of a subchannel's chip selects, in 5 bits of two's complement (R226). -/
def State.debtField (s : State) (c : Nat) : Nat :=
  let r := s.rpmSub c
  match s.csList c with
  | [] => 0
  | cs :: l => (BitVec.ofInt 5 (l.foldl (fun m k => max m (r.debtOf k)) (r.debtOf cs))).toNat

/-- The RPM page (R226). -/
def State.rpmView (s : State) (o : Nat) : Word :=
  if o = 0x14 then s.rpmTrig
  else if o = 0x18 then s.rpmRfm
  else if 0x140 ≤ o ∧ o < 0x180 then
    let t := s.therm ((o - 0x140) / 4)
    bitAt t.hot 16 ||| at_ t.max.toNat 8 8 ||| at_ t.latest.toNat 0 8
  else if 0x180 ≤ o ∧ o < 0x1C0 then
    let ch := (o - 0x180) / 4
    at_ (s.debtField (2 * ch + 1)) 8 5 ||| at_ (s.debtField (2 * ch)) 0 5
  else s.reg (0x070000 + o)

/-- SGT_STATE.PHASE (R254). -/
def SgtPhase.code : SgtPhase → Nat
  | .idle => 0 | .discover => 1 | .train => 2 | .track => 3 | .outage => 4

/-- The SGT page (R254). -/
def State.sgtView (s : State) (o : Nat) : Word :=
  match o with
  | 0x10 => 0
  | 0x14 => at_ s.sgt.phase.code 28 4 ||| at_ s.sgt.step.toNat 24 4
  | 0x18 => s.sgt.pop
  | 0x1C => s.sgt.timeUs
  | 0x30 => s.reg 0x080030 &&& 0x7FFFFFFF
  | 0x38 => bitAt s.sgt.sbBusy 31 ||| at_ s.sgt.sbResult.toNat 28 3
  | _ =>
    if 0x40 ≤ o ∧ o < 0x80 then
      let ch := (o - 0x40) / 4
      (List.range 8).foldl (fun w k => w ||| at_ (agetD s.sgt.rsts (8 * ch + k) 0) (4 * k) 4) 0
    else s.reg (0x080000 + o)

/-- ECC_MIGR (R288): the first migration in progress. -/
def State.migrWord (s : State) : Word :=
  match s.ecc.migrations with
  | [] => 0
  | g :: _ => bitAt true 31 ||| bitAt g.rankKind 30 ||| at_ g.ch.val 24 4 ||| at_ (g.pos * 1024 / orOne g.total) 0 10

/-- ECC_PESPARE (R288); a spare that failed its self-test serves no number. -/
def State.peSpareWord (s : State) : Word :=
  let one (k lo b : Nat) : Word := match s.ecc.peSpare.find? fun x => x.1 == k with
    | some (_, e) => if e < 32 then bitAt true b ||| at_ e lo 6 else 0
    | none => 0
  one 32 0 30 ||| one 33 8 31

/-- The ECC page (R288). -/
def State.eccView (s : State) (o : Nat) : Word :=
  match o with
  | 0x10 => 0
  | 0x18 => s.cmdResWord
  | 0x1C => at_ (s.map.act.poolSlots - s.ecc.retired.length) 16 11 ||| at_ s.ecc.remaps.length 0 11
  | 0x20 => s.migrWord
  | 0x24 => s.ecc.ceCnt
  | 0x28 => s.ecc.ueCnt
  | 0x2C => at_ (s.ecc.heals.map fun h => h.lines.length).sum 0 9
  | 0x30 => s.peSpareWord
  | _ =>
    if 0x100 ≤ o ∧ o < 0x180 then s.markWord ((o - 0x100) / 4)
    else if 0x200 ≤ o ∧ o < 0x280 then
      match s.ecc.bindings.find? fun b => b.ch.val == (o - 0x200) / 8 with
      | some b => if o % 8 = 0 then b.mask else bitAt true 31 ||| at_ b.rank 8 2 ||| at_ b.spare 0 2
      | none => 0
    else s.reg (0x090000 + o)

/-- The SND page (R292). -/
def State.sndView (s : State) (o : Nat) : Word :=
  match o with
  | 0x04 => s.sndProg
  | 0x08 => s.ecc.pass
  | 0x0C => s.sndDueWord
  | _ => s.reg (0x0A0000 + o)

/-- CPH_KSTAT (R362). -/
def State.kstatWord (s : State) (k : Nat) : Word :=
  let v := s.keySlot k
  bitAt v.loaded 31 ||| bitAt v.wide 30 ||| bitAt v.fresh 29 ||| bitAt (s.boundSlot k) 28 ||| bitAt (s.sessionSlot == k) 27
    ||| bitAt v.spent 26 ||| at_ (if v.loaded then keyCheck v.key else 0) 0 24

/-- The failed cores, bit n for core n (R359). -/
def State.coreMap (s : State) : Nat :=
  s.cph.cores.zipIdx.foldl (fun n x => if x.1 == .failed then n + 2 ^ x.2 else n) 0

/-- The CPH page (R359–R362). -/
def State.cphView (s : State) (o : Nat) : Word :=
  match o with
  | 0x08 => 0
  | 0x0C => bitAt s.xready 31 ||| at_ s.cph.contexts.length 16 6 ||| at_ s.activeCores 8 6 ||| at_ (s.cph.cores.countP (· == .spare)) 0 2
  | 0x10 => half s.coreMap false
  | 0x14 => half s.coreMap true
  | 0x18 => s.cph.authFail
  | 0x1C => s.cph.faults
  | _ => if 0x100 ≤ o ∧ o < 0x200 then s.kstatWord ((o - 0x100) / 4) else s.reg (0x0B0000 + o)

/-! ### PLG, TWN, DTI, VLT -/

/-- The PLG page (R124). -/
def State.plgView (s : State) (o : Nat) : Word :=
  let hi := o % 8 == 4
  match o / 8 with
  | 4 => half s.plg.w hi
  | 5 => half s.plg.d hi
  | 6 => half s.plg.a hi
  | 7 => half s.plg.wpl hi
  | 8 => half s.plg.wpt hi
  | 9 => half s.plg.wpv hi
  | 10 | 11 | 12 | 13 => half (agetD s.plg.pins (o / 8 - 10) 0) hi
  | _ => match o with
    | 0x08 => at_ s.plg.bused 0 29
    | 0x70 => at_ s.plg.pinMap 0 4
    | 0x78 => s.plg.remark
    | _ => s.reg (0x0C0000 + o)

/-- TWN_RSYNC_LEFT: leaves of the copy set not yet copied, and Log entries still to walk (R156). -/
def State.rsyncLeft (s : State) : Nat :=
  match s.twn.resync with
  | some r =>
    ((s.map.copySet.filter fun q => !r.done.contains q && !r.reaches.contains q).length + r.reaches.length) * 2 ^ 18
      - r.leaf + (if r.walked then 0 else s.plg.w - r.walk)
  | none => s.map.copySet.length * 2 ^ 18

/-- TWN_LINK (R160). -/
def State.linkWord (s : State) : Word :=
  at_ s.twn.cause.toNat 12 4 ||| bitAt (!s.map.unresolved.isEmpty) 11 ||| bitAt s.twn.stale 10 ||| bitAt s.resyncIn 9
    ||| bitAt s.twn.resync.isSome 8 ||| at_ s.twn.link.toNat 0 2

/-- The TWN page (R156). -/
def State.twnView (s : State) (o : Nat) : Word :=
  match o with
  | 0x0C | 0x14 | 0x3C => 0
  | 0x10 => s.linkWord
  | 0x20 => half s.image false
  | 0x24 => half s.image true
  | 0x40 => s.twn.grantRes
  | 0x44 => at_ s.twn.forwards.length 0 13
  | 0x48 => s.twn.retryCount
  | 0x4C => s.twn.authFail
  | 0x50 => half s.twn.peerWpv false
  | 0x54 => half s.twn.peerWpv true
  | 0x58 => half s.rsyncLeft false
  | 0x5C => half s.rsyncLeft true
  | _ => s.reg (0x0D0000 + o)

/-- The DTI page (R335–R337). -/
def State.dtiView (s : State) (o : Nat) : Word :=
  match o with
  | 0x18 => at_ s.usable 16 16 ||| at_ s.dti.slots.length 0 16
  | 0x1C => at_ s.dti.queued.length 16 13 ||| at_ s.dti.inFlight.length 0 13
  | 0x20 => at_ (meanOf s.dti.times) 0 24
  | 0x24 => s.dti.refetch
  | 0x28 => s.dti.lost
  | 0x2C => at_ s.dti.quarantine.length 0 9
  | 0x38 | 0x40 => 0
  | 0x3C => bitAt s.dti.pubRes 0
  | _ =>
    if 0x100 ≤ o ∧ o < 0x200 then
      match s.dti.courses.find? fun c => c.no == (o - 0x100) / 4 with
      | some c => bitAt true 31 ||| bitAt c.wait 30 ||| at_ (c.ahead - 1) 24 6 ||| at_ c.pos 0 24
      | none => 0
    else s.reg (0x0E0000 + o)

/-- VLT_STATE.PHASE (R185). -/
def Phase.code : Phase → Nat
  | .idle => 0 | .quiesce => 1 | .drain => 2 | .metaOut => 3 | .saved => 4 | .metaIn => 5 | .refill => 6 | .waitInit => 7

/-- The VLT page (R182, R185). -/
def State.vltView (s : State) (o : Nat) : Word :=
  match o with
  | 0x08 => 0
  | 0x0C =>
    at_ s.vlt.sbState.toNat 6 2 ||| bitAt (s.vlt.slot && s.vlt.sbState != 0) 5 ||| bitAt (s.vlt.lazyRun && s.vlt.phase == .refill) 4
      ||| at_ s.vlt.phase.code 0 4
  | 0x18 => half s.vlt.gen.toNat false
  | 0x1C => half s.vlt.gen.toNat true
  | 0x20 => half s.leavesLeft false
  | 0x24 => half s.leavesLeft true
  | 0x28 => s.vlt.lastSave
  | 0x2C => s.vlt.failed
  | _ => s.reg (0x0F0000 + o)

/-! ### CHS, PHY, PEA, SUA -/

/-- A CHS page (R207, R210). -/
def State.chsView (s : State) (ch o : Nat) : Word :=
  let a := s.sub (2 * ch)
  let b := s.sub (2 * ch + 1)
  match o with
  | 0x14 => at_ b.wq.length 24 7 ||| at_ b.rq.length 16 7 ||| at_ a.wq.length 8 7 ||| at_ a.rq.length 0 7
  | 0x18 => at_ (agetD s.ecc.rankFail (2 * ch + 1) 0) 4 4 ||| at_ (agetD s.ecc.rankFail (2 * ch) 0) 0 4
  | 0x1C => bitAt (b.mode == .wr) 1 ||| bitAt (a.mode == .wr) 0
  | _ => s.reg (chsPage ch + o)

/-- A PEA page (R388, R389). -/
def State.peaView (s : State) (e o : Nat) : Word :=
  let n := s.engine e
  match o with
  | 0x00 => 0
  | 0x04 => at_ n.phys 8 6 ||| at_ n.state.bits.toNat 0 4
  | 0x0C => n.exc
  | 0x10 => bitAt n.desc.isSome 8 ||| at_ n.inbox.length 0 4
  | 0x14 => n.msgLost
  | _ => if 0x60 ≤ o ∧ o < 0x80 then n.digest.getD ((o - 0x60) / 4) 0 else s.reg (peaPage e + o)

/-- The SUA page (R391). -/
def State.suaView (s : State) (o : Nat) : Word :=
  if 0x100 ≤ o ∧ o < 0x118 then
    let u := (o - 0x100) / 4
    let held := (s.sua.grants.filter fun g => unitOf g.inst == u).length
    at_ (Nat.min 255 (s.sua.asks.filter fun a => a.unit == u).length) 24 8 ||| at_ held 16 5
      ||| at_ (Nat.min 65535 (s.meanHold u / 32)) 0 16
  else if 0x180 ≤ o ∧ o < 0x1F0 then
    match s.sua.grants.find? fun g => g.inst == (o - 0x180) / 4 with
    | some g => bitAt true 31 ||| at_ g.who.code 0 8
    | none => 0
  else s.reg (0x340000 + o)

/-! ### The whole map -/

/-- The word of a *_STS register (R454). -/
def StsCell.word (c : StsCell) : Word := c.seq ++ c.bits

/-- The level of EVENT_n[k] (R482): low while TEL_STS bit k is 1 and TEL_EVT_MASK bit k is 0. -/
def State.eventN (s : State) (k : Fin 4) : Bool :=
  !(agetD s.sts 0x010100 {}).bits.getLsbD k || bit (s.reg 0x010108) k

/-- An offset holds a *_STS register. -/
def isSts (off : Nat) : Bool := match regSpec off with | some r => r.sqc != 0 | none => false

/-- An offset holds the clear partner of a *_STS register. -/
def isStsClr (off : Nat) : Bool := decide (4 ≤ off) && isSts (off - 4)

/-- What a register reads as, with no read side-effect (R7, R460): write-only bits and actions read zero. -/
def State.fields (s : State) (off : Nat) : Word :=
  let o := off % 0x10000
  if isSts off then (agetD s.sts off {}).word
  else if isStsClr off then 0
  else match off / 0x10000 with
    | 0x00 => s.cfgView o
    | 0x01 => s.telView o
    | 0x02 => s.hpxView o
    | 0x03 => s.dreView o
    | 0x04 => s.mapView o
    | 0x05 => s.atuView o
    | 0x06 => s.bwrView o
    | 0x07 => s.rpmView o
    | 0x08 => s.sgtView o
    | 0x09 => s.eccView o
    | 0x0A => s.sndView o
    | 0x0B => s.cphView o
    | 0x0C => s.plgView o
    | 0x0D => s.twnView o
    | 0x0E => s.dtiView o
    | 0x0F => s.vltView o
    | p =>
      if p < 0x20 then s.chsView (p - 0x10) o
      else if p < 0x30 then (if o = 0 then s.reg off else s.phyReg off)
      else if p < 0x34 then s.peaView ((off - 0x300000) / 0x2000) (off % 0x2000)
      else if p = 0x34 then s.suaView o
      else 0

/-- What a read of a word shows: its fields, and the reserved RW bits as last written once a write has changed one (R7,
R458). -/
def State.view (s : State) (off : Nat) : Word :=
  if s.testCtl then s.fields off ||| (match regSpec off with | some r => s.reg off &&& r.rsv | none => 0) else s.fields off

end Sys2Proof.Machine
end

