-- ==== Sys2Proof/Machine/RegFunnel.lean ====
section
/-! DEFINITION. Register accesses: the checks of a write in their order, what each register's write does, the pair latches,
read side-effects, the data ports and the bit aliases (R451–R463). -/

namespace Sys2Proof.Machine

/-! ### Log entries of CFG -/

/-- First address of the register window (R33). -/
def windowBase : Nat := 0x00FF000000000000

/-- An access refused by its size, alignment or kind (R451). -/
def State.regAccess (s : State) (p : Path) (a size : Nat) : State :=
  (s.logE 0x0001 (srcPath p) (windowBase + a) size).event 0x000050 0

/-- An access to an offset no chapter defines (R451). -/
def State.regUndef (s : State) (p : Path) (a size : Nat) : State :=
  (s.logE 0x0002 (srcPath p) (windowBase + a) size).event 0x000050 2

/-- A write that breaks a lock or a write-once field (R456, R457). -/
def State.lockViol (s : State) (p : Path) (off : Nat) : State :=
  (s.logE 0x0003 (srcPath p) (windowBase + off) 0).event 0x000050 1

/-- A write that changes frozen reserved bits (R458). -/
def State.rsvdWrite (s : State) (p : Path) (off : Nat) : State :=
  (s.logE 0x0004 (srcPath p) (windowBase + off) 0).event 0x000050 3

/-! ### Which registers a path latches -/

/-- The latch of a path for the marked pair at an offset (R452). -/
def State.latch (s : State) (p : Path) (lo : Nat) : PairLatch :=
  match s.cfg.latches.find? fun x => x.1 == p && x.2.1 == lo with
  | some x => x.2.2
  | none => {}

/-- The state with a latch of a path set. -/
def State.setLatch (s : State) (p : Path) (lo : Nat) (v : PairLatch) : State :=
  s.updCfg fun c => { c with latches := (c.latches.filter fun x => !(x.1 == p && x.2.1 == lo)) ++ [(p, lo, v)] }

/-- An offset holds the LO word of a marked pair. -/
def isPairLo (off : Nat) : Bool := match regSpec off with | some r => r.pair | none => false

/-- An offset holds the HI word of a marked pair. -/
def isPairHi (off : Nat) : Bool := off % 8 == 4 && isPairLo (off - 4)

/-- The data port whose DATA word an offset is. -/
def dataPort (off : Nat) : Option Nat := if off = 0x24 then some 0 else if off = 0x34 then some 1 else none

/-- The data port of a path (R462). -/
def pathPort : Path → Nat
  | .host _ => 0
  | .chain => 1

/-- The page of an engine an offset lies in. -/
def peaOf (off : Nat) : EngineNo := Fin.ofNat 32 ((off - 0x300000) / 0x2000)

/-- An offset lies in the PEA pages. -/
def inPea (off : Nat) : Bool := decide (0x300000 ≤ off) && decide (off < 0x340000)

/-- An offset lies in the CHS pages. -/
def inChs (off : Nat) : Bool := decide (0x100000 ≤ off) && decide (off < 0x200000)

/-! ### Refusals -/

/-- A write its register's own rule refuses for the mode (R439): answered ERR_MODE, with no effect. -/
def State.modeRefuses (s : State) (off : Nat) (v : Word) : Bool :=
  if off = 0x010008 ∨ off = 0x01000C ∨ (0x040100 ≤ off ∧ off < 0x040140) then !s.cfg.mode.early
  else if off = 0x040040 then bit v 0 && !s.cfg.mode.early
  else if off = 0x070000 then field v 0 2 != s.fld off 0 2 && !s.cfg.mode.early
  else if off = 0x06000C then bit v 0 && s.cfg.mode == .save
  else if off = 0x0F0008 then bit v 0 && s.vlt.phase != .waitInit
  else if off = 0x0D000C ∨ off = 0x0D003C then bit v 0 && !s.cfg.mode.serves
  else if inChs off then
    let o := off % 0x10000
    (decide (0x100 ≤ o) && decide (o < 0x120) && !s.cfg.mode.early)
      || (o == 0 && bit v 31 != s.flag off 31 && !s.cfg.mode.early)
  else false

/-- A write that breaks a lock or a write-once field (R113, R456, R457), against what the register reads as. -/
def State.violates (s : State) (r : RegSpec) (off : Nat) (v : Word) : Bool :=
  let old := s.view off
  (s.locked && (v ^^^ old) &&& r.lk != 0)
    || (off == 0x000004 && s.cfg.lockTaken)
    || (off == 0x0C0004 && s.locked && decide (s.budget < field v 0 29))

/-- CHS_WM's fields are in order (R209). -/
def State.wmOk (s : State) (off : Nat) (v : Word) : Bool :=
  let hi := field v 16 7
  let lo := field v 8 7
  let wmin := field v 0 6
  decide (lo < hi) && decide (hi ≤ 96 - Nat.min 16 (s.fld (off + 0xC) 8 5)) && decide (1 ≤ wmin) && decide (wmin ≤ lo)

/-- PLG_BUDGET's range (R113). -/
def State.budgetFits (s : State) (n : Nat) : Bool :=
  decide (2 ^ 18 ≤ n) && decide (n ≤ 2 ^ 28) && decide (n ≤ 2 ^ (s.map.act.logEntries - 1))

/-- A write its register's range refuses: the status register and the bit that say so. It is answered OK. -/
def State.rangeRefuses (s : State) (off : Nat) (v : Word) : Option (Nat × Nat) :=
  if off = 0x050000 then (if field v 0 3 = 7 then some (0x050010, 0) else none)
  else if off = 0x0C0004 then (if s.budgetFits (field v 0 29) then none else some (0x0C0100, 6))
  else if off = 0x08000C then (if field v 0 8 < field v 8 8 then none else some (0x080100, 2))
  else if inChs off && off % 0x10000 == 4 then (if s.wmOk off v then none else some (off - 4 + 0x200, 0))
  else none

/-- A write to a ring's BASE while its EN is 1 (R430). -/
def State.baseFixed (s : State) (off : Nat) : Bool :=
  decide (0x031000 ≤ off) && decide (off < 0x032800) && off % 0x20 == 0 && s.flag (off + 8) 31

/-- A write of an ECC_MARK register that is no addition of marks (R270): refused as an access. -/
def State.markRefuses (s : State) (off : Nat) (v : Word) : Bool :=
  if 0x090100 ≤ off ∧ off < 0x090180 then
    let c := (off - 0x090100) / 4
    let old := s.markWord c
    (List.range 4).any fun cs =>
      let b := field v (8 * cs) 4
      if bit old (8 * cs + 7) then !bit v (8 * cs + 7) || b != field old (8 * cs) 4
      else bit v (8 * cs + 7) && !s.canMark c cs b
  else false

/-! ### What a write does -/

/-- CFG_MODECTL (R445, R450): SAVE alone, else DR_ACK and then DR_ENTER. -/
def State.modeCtl (s : State) (v : Word) : State :=
  if bit v 31 then s.pfWarn
  else
    let ack := v.extractLsb' 0 10 &&& 0x327
    let s1 := s.clearCause (if bit v 30 then ack &&& 0x1FF else ack)
    if bit v 30 then s1.setCause 9 else s1.reeval

/-- MAP_COMMIT.GO (R46), and PLG_BUDGET lowered to half the new ring (R113). -/
def State.commitGo (s : State) : State :=
  let s1 := s.mapCommit
  let half := 2 ^ (s1.map.act.logEntries - 1)
  if s1.map.act.committed && decide (half < s1.budget) then
    ((s1.setReg 0x0C0004 (BitVec.ofNat 32 half)).event 0x0C0100 6).plgRefresh
  else s1

/-- A *_STS register cleared by a write to its partner (R454). -/
def StsCell.clear (c : StsCell) (v : Word) : StsCell :=
  let q : BitVec 8 := v.extractLsb' 24 8
  if 128 ≤ (c.seq - q).toNat then c
  else
    let gone := c.last.filter fun x => bit v x.1 && decide ((q - x.2).toNat < 128)
    { c with bits := gone.foldl (fun w x => w &&& ~~~(BitVec.ofNat 24 (1 <<< x.1))) c.bits }

/-- A write to a *_STS_CLR word. -/
def State.stsClear (s : State) (sts : Nat) (v : Word) : State :=
  match aget s.sts sts with
  | none => s
  | some c => { s with sts := aput s.sts sts (c.clear v) }

/-- TWN_CTL (R140, R142, R148): its bits in ascending order. -/
def State.twnCtl (s : State) (v : Word) : State :=
  let s1 := if bit v 0 then s.twinUp else s
  let s2 := if bit v 1 then s1.linkDown 5 else s1
  if bit v 2 then s2.updTwn fun t => { t with fullReq := true } else s2

/-- VLT_CTL (R172, R179). -/
def State.vltCtl (s : State) (v : Word) : State :=
  let s1 := if bit v 0 then s.vltInit else s
  if bit v 1 then s1.release else s1

/-- The effect of a write that passed every check, with the register's new word: its answer and the new state. -/
def State.effect (s : State) (off : Nat) (w : Word) : Code × State :=
  let ok (t : State) : Code × State := (.ok, t)
  match off / 0x10000 with
  | 0x00 =>
    if off = 0x04 then ok ((s.setReg off w).updCfg fun c => { c with lockTaken := c.lockTaken || bit w 0 })
    else if off = 0x48 then ok (s.modeCtl w)
    else ok (s.setReg off w)
  | 0x01 =>
    if off = 0x010060 then ok (s.cctlWrite w)
    else if off = 0x010084 then ok (s.trcCtlWrite w)
    else if off = 0x0100C0 then ok (s.lkoWrite w)
    else if off = 0x0100C4 then ok (if bit w 0 then s.kick else s)
    else if 0x01A000 ≤ off ∧ off < 0x01A800 then ok (s.cselWrite ((off - 0x01A000) / 4) w)
    else ok (s.setReg off w)
  | 0x03 =>
    let q : Fin 64 := Fin.ofNat 64 (off % 0x1000 / 0x20)
    if 0x031000 ≤ off ∧ off < 0x031800 ∧ off % 0x20 = 8 then ok (s.sqConfig q w)
    else if 0x031000 ≤ off ∧ off < 0x031800 ∧ off % 0x20 = 0xC then ok (s.sqBell q w)
    else if 0x032000 ≤ off ∧ off < 0x032800 ∧ off % 0x20 = 8 then ok (s.cqConfig q w)
    else if 0x032000 ≤ off ∧ off < 0x032800 ∧ off % 0x20 = 0xC then ok ((s.cqBell q w).flushCompl q)
    else if 0x033000 ≤ off ∧ off < 0x033400 ∧ off % 0x10 = 0xC then ok (s.vecCtl (Fin.ofNat 64 ((off - 0x033000) / 0x10)) w)
    else ok (s.setReg off w)
  | 0x04 => ok (if off = 0x040040 then (if bit w 0 then s.commitGo else s) else s.setReg off w)
  | 0x05 =>
    if off = 0x050000 then
      let t := s.setReg off w
      ok (if field w 0 3 = s.gran then t else t.updAtu fun a => { a with resv := [], resvPend := [] })
    else if off = 0x05000C then ok (if bit w 0 then s.updAtu fun a => { a with resv := [], resvPend := [] } else s)
    else ok (s.setReg off w)
  | 0x06 =>
    if off = 0x06000C then ok (if bit w 0 then s.bwrCommitGo else s)
    else if off = 0x060010 then ok (if bit w 0 then s.chartCommitGo else s)
    else ok (s.setReg off w)
  | 0x08 =>
    if off = 0x080010 then s.sgtCtl w
    else if off = 0x080030 then ok (s.sidebandCmd w)
    else ok (s.setReg off w)
  | 0x09 =>
    if off = 0x090010 then ok (s.eccCmd w)
    else if 0x090100 ≤ off ∧ off < 0x090180 then ok (s.markWrite ((off - 0x090100) / 4) w)
    else ok (s.setReg off w)
  | 0x0B => ok (if off = 0x0B0008 then (if bit w 31 then s.zeroSlot (field w 0 6) else s) else s.setReg off w)
  | 0x0C =>
    if off = 0x0C0004 then ok ((s.setReg off w).plgRefresh)
    else if off = 0x0C0070 then ok (s.pinCtl w)
    else ok (s.setReg off w)
  | 0x0D =>
    if off = 0x0D000C then ok (s.twnCtl w)
    else if off = 0x0D0014 then ok (if bit w 31 then s.hover (field w 0 16) else s)
    else if off = 0x0D003C then ok (if bit w 0 then s.grantGo else s)
    else ok (s.setReg off w)
  | 0x0E =>
    if off = 0x0E0038 then ok (if bit w 0 then s.pubGo else s)
    else if off = 0x0E0040 then ok (if bit w 0 then s.dpReset else s)
    else ok (s.setReg off w)
  | 0x0F => ok (if off = 0x0F0008 then s.vltCtl w else s.setReg off w)
  | _ =>
    if inPea off then
      match off % 0x2000 with
      | 0x000 => s.peaCtl (peaOf off) w
      | 0x100 => s.peaImg (peaOf off) w
      | _ => ok (s.setReg off w)
    else ok (s.setReg off w)

/-- The bits of a register a write can set, whatever its lock. -/
def RegSpec.writable (r : RegSpec) : Word := r.rw ||| r.lk ||| r.wo1 ||| r.w1p ||| r.wo

/-- The word a write leaves: the writable bits as written, the others as they are stored; a read-only field the block shows
is not part of it (R7). -/
def RegSpec.merge (r : RegSpec) (old v : Word) : Word := (old &&& ~~~r.writable) ||| (v &&& r.writable)

/-- A write that changes reserved RW bits (R458): after CFG_LOCK it is logged and the bits stay; before, the bits change and
the test control behind them is reached. What the block does besides lies outside the manual (R8). -/
def State.noteRsv (s : State) (p : Path) (r : RegSpec) (off : Nat) (v : Word) : State :=
  if (v ^^^ s.view off) &&& r.rsv = 0 then s
  else if s.locked then s.rsvdWrite p off
  else { s.setReg off ((s.reg off &&& ~~~r.rsv) ||| (v &&& r.rsv)) with testCtl := true }

/-- A write of one whole word that is no marked pair (R451, R456–R458); `a` is the access as logged. -/
def State.applyWord (s : State) (p : Path) (r : RegSpec) (off a : Nat) (v : Word) : Code × State :=
  if s.modeRefuses off v then (.errMode, s)
  else if s.violates r off v then (.errAccess, s.lockViol p off)
  else if s.markRefuses off v then (.errAccess, s.regAccess p a 2)
  else match s.rangeRefuses off v with
    | some (sts, b) => (.ok, s.event sts b)
    | none => let t := s.noteRsv p r off v; t.effect off (r.merge (t.reg off) v)

/-- MAP_REACH_IDX.INDEX advances under AUTOINC (R48). -/
def State.reachStep (s : State) : State :=
  if s.flag 0x040050 31 then s.setReg 0x040050 (putField (s.reg 0x040050) 0 16 (s.reachIdx + 1)) else s

/-- A Reach entry written (R47, R48): INSTEP stays TWN's, and the twin is to hear of it while the link is UP. -/
def State.reachWrite (s : State) (v : DWord) : State :=
  let r := s.reachIdx
  if s.reachRefused r v then s.event 0x040048 3
  else
    let t0 := s.setReach r (mkReach (v.extractLsb' 32 32) (bitsOf v.toNat 0 2) (v.getLsbD 6) (s.reachInStep r))
    let t := if bitsOf v.toNat 0 2 = 1 then t0 else t0.missReach r
    if t.twn.link = 2 then t.updTwn fun x => { x with pendTable := insertNat x.pendTable r } else t

/-- The bits of a pair's HI word, whose register the table may list apart. -/
def hiSpec (lo : Nat) : RegSpec := (regSpec (lo + 4)).getD { off := 0 }

/-- Both words of a marked pair written in one handshake (R452). Of TEL_CHRSET a write that leaves it at its reset value
does not count (R457), a value below the current one does (R475); TEL_PTP_REF without a capture has no effect (R476). -/
def State.applyPair (s : State) (p : Path) (r : RegSpec) (off : Nat) (lo hi : Word) : Code × State :=
  let h := hiSpec off
  let v : DWord := hi ++ lo
  if s.modeRefuses off lo then (.errMode, s)
  else if off = 0x010008 then
    if s.tel.chrSetTaken then (.errAccess, s.lockViol p off)
    else if v = 0 ∧ s.chron = 0 then (.ok, s)
    else match s.chrLoad v.toNat with
      | some t => (.ok, (t.setReg off lo).setReg (off + 4) hi)
      | none => (.errAccess, s.updTel fun t => { t with chrSetTaken := true })
  else if off = 0x010018 ∧ !s.tel.ptpFresh then (.ok, s)
  else if s.violates r off lo || s.violates h (off + 4) hi then (.errAccess, s.lockViol p off)
  else if s.baseFixed off then (.ok, s.event 0x030100 5)
  else
    let s1 := (s.noteRsv p r off lo).noteRsv p h (off + 4) hi
    if off = 0x040058 then (.ok, s1.reachWrite v)
    else
      let s2 := if r.writable = 0 then s1
        else (s1.setReg off (r.merge (s1.reg off) lo)).setReg (off + 4) (h.merge (s1.reg (off + 4)) hi)
      (.ok, if off = 0x010018 then s2.ptpRef v.toNat else s2)

/-- INDEX after a write of `v` to the pair at an offset: a refused access leaves it, and so does a refused entry (R48,
R516). -/
def State.stepIndex (s : State) (off : Nat) (v : DWord) (x : Code × State) : Code × State :=
  if off = 0x040058 && x.1 == .ok && !s.reachRefused s.reachIdx v then (x.1, x.2.reachStep) else x

/-! ### Four-byte accesses -/

/-- A 4-byte write at an aligned offset that is no DATA word. -/
def State.write4 (s : State) (p : Path) (off : Nat) (v : Word) : Code × State :=
  match regSpec off with
  | none => (.errAccess, s.regUndef p off 2)
  | some r =>
    if isStsClr off then (.ok, s.stsClear (off - 4) v)
    else if r.pair then (if s.modeRefuses off v then (.errMode, s) else (.ok, s.setLatch p off { s.latch p off with lo := some v }))
    else if isPairHi off then
      let lo := off - 4
      let l := s.latch p lo
      match regSpec lo with
      | some q =>
        let w := l.lo.getD (s.view lo)
        s.stepIndex lo (v ++ w) ((s.setLatch p lo { l with lo := none }).applyPair p q lo w v)
      | none => (.errAccess, s)
    else s.applyWord p r off off v

/-- What a 4-byte read of a word returns, apart from its side-effects on the block. -/
def State.peek4 (s : State) (p : Path) (off : Nat) : Word :=
  if isPairHi off then ((s.latch p (off - 4)).hi).getD 0
  else if 0x011000 ≤ off ∧ off < 0x019000 then (s.logRead p ((off - 0x011000) / 32) (off % 32 / 4)).1
  else if 0x01B000 ≤ off ∧ off < 0x01B020 then (s.traceRead p (off % 32 / 4)).1
  else s.view off

/-- The read side-effects of a word (R451). -/
def State.readEffect (s : State) (p : Path) (off : Nat) : State :=
  if isPairLo off then s.setLatch p off { s.latch p off with hi := some (s.view (off + 4)) }
  else if off = 0x04005C then s.reachStep
  else if 0x011000 ≤ off ∧ off < 0x019000 then (s.logRead p ((off - 0x011000) / 32) (off % 32 / 4)).2
  else if 0x01B000 ≤ off ∧ off < 0x01B020 then (s.traceRead p (off % 32 / 4)).2
  else if isSts off && s.flag 0x000008 0 then
    match aget s.sts off with
    | some c => { s with sts := aput s.sts off { c with bits := 0 } }
    | none => s
  else s

/-- A 4-byte read at an aligned offset that is no DATA word; `a` and `size` are the access as logged. -/
def State.read4 (s : State) (p : Path) (off a size : Nat) : Code × Word × State :=
  match regSpec off with
  | none => (.errAccess, 0, s.regUndef p a size)
  | some _ => (.ok, s.peek4 p off, s.readEffect p off)

/-! ### The data ports -/

/-- The state with a data port changed. -/
def State.updDp (s : State) (n : Nat) (f : DataPort → DataPort) : State :=
  s.updCfg fun c => if n = 0 then { c with dp0 := f c.dp0 } else { c with dp1 := f c.dp1 }

/-- CFG_DPn_ADDR's offset. -/
def dpAddr (n : Nat) : Nat := 0x20 + 0x10 * n

/-- The target of a data port. -/
def State.dpTarget (s : State) (n : Nat) : Nat := s.fld (dpAddr n) 2 22 * 4

/-- The target after an access answered OK (R462). -/
def State.dpAdvance (s : State) (n : Nat) (c : Code) : State :=
  let s1 := s.updDp n fun d => { d with code := c }
  if c = .ok && !s1.flag (dpAddr n) 31 then
    s1.setReg (dpAddr n) (putField (s1.reg (dpAddr n)) 2 22 (s1.dpTarget n / 4 + 1)) else s1

/-- A target that is a data port's own register. -/
def ownTarget (t : Nat) : Bool := decide (0x20 ≤ t) && decide (t ≤ 0x3C)

/-- A write to CFG_DPn_DATA (R462). -/
def State.dpWrite (s : State) (p : Path) (n : Nat) (v : Word) : Code × State :=
  let t := s.dpTarget n
  let r := if ownTarget t then (.errAccess, s.regAccess p t 2) else s.write4 p t v
  (r.1, r.2.dpAdvance n r.1)

/-- A read of CFG_DPn_DATA (R462). -/
def State.dpRead (s : State) (p : Path) (n : Nat) : Code × Word × State :=
  let t := s.dpTarget n
  let r := if ownTarget t then (.errAccess, 0, s.regAccess p t 2) else s.read4 p t t 2
  (r.1, r.2.1, r.2.2.dpAdvance n r.1)

/-- A native 4-byte write (R451). -/
def State.regWrite (s : State) (p : Path) (off : Nat) (v : Word) : Code × State :=
  match dataPort off with
  | some n => s.dpWrite p n v
  | none => s.write4 p off v

/-- A native 4-byte read, or the word a narrow read addresses, with its side-effects (R451). -/
def State.regRead (s : State) (p : Path) (off a size : Nat) : Code × Word × State :=
  match dataPort off with
  | some n => s.dpRead p n
  | none => s.read4 p off a size

/-- Some words of a burst (R463): each recorded before the next; the rest is not performed after a failure. -/
def State.burstWords (s : State) (p : Path) (n : Nat) (wr : Option Line) (k : Nat) (fuel : Nat) : Code × Line × State :=
  match fuel with
  | 0 => (.ok, 0, s.updDp n fun d => { d with words := k })
  | fuel + 1 =>
    let r : Code × Word × State := match wr with
      | some l => let x := s.dpWrite p n (lineWord l k); (x.1, 0, x.2)
      | none => s.dpRead p n
    if r.1 = .ok then
      let rest := r.2.2.flush.burstWords p n wr (k + 1) fuel
      (rest.1, rest.2.1 ||| (r.2.1.setWidth 512 <<< (32 * k)), rest.2.2)
    else (r.1, 0, r.2.2.updDp n fun d => { d with words := k })

/-- A 64-byte access to the burst window (R463); a failed read returns no data. -/
def State.burst (s : State) (p : Path) (wr : Option Line) : Code × Line × State :=
  let r := s.burstWords p (pathPort p) wr 0 16
  if r.1 = .ok then r else (r.1, 0, r.2.2)

/-! ### Eight-byte accesses -/

/-- An aligned 8-byte write (R451, R452). -/
def State.write8 (s : State) (p : Path) (off : Nat) (v : DWord) : Code × State :=
  match regSpec off with
  | some r =>
    if r.pair then s.stepIndex off v (s.applyPair p r off (v.setWidth 32) (v.extractLsb' 32 32))
    else
      let a := s.regWrite p off (v.setWidth 32)
      let b := a.2.flush.regWrite p (off + 4) (v.extractLsb' 32 32)
      (if a.1 = .ok then b.1 else a.1, b.2)
  | none =>
    let a := s.regWrite p off (v.setWidth 32)
    let b := a.2.flush.regWrite p (off + 4) (v.extractLsb' 32 32)
    (if a.1 = .ok then b.1 else a.1, b.2)

/-- An aligned 8-byte read (R451, R452): zero for a half that failed. -/
def State.read8 (s : State) (p : Path) (off : Nat) : Code × DWord × State :=
  if isPairLo off then
    (.ok, s.view (off + 4) ++ s.view off, if off = 0x040058 then s.reachStep else s)
  else
    let a := s.regRead p off off 2
    let b := a.2.2.flush.regRead p (off + 4) (off + 4) 2
    let lo := if a.1 = .ok then a.2.1 else 0
    let hi := if b.1 = .ok then b.2.1 else 0
    (if a.1 = .ok then b.1 else a.1, hi ++ lo, b.2.2)

/-! ### Bit aliases -/

/-- The RO fields of a register in the alias region that are not reserved bits (R461), by its offset. -/
def roFields (off : Nat) : Word :=
  let o := off % 0x10000
  if isSts off then 0xFF000000
  else match off / 0x10000 with
    | 0x00 => match o with
      | 0x00 => 0xFFFFFFFF | 0x0C => 0x37F | 0x14 => 3 | 0x28 | 0x38 => 0x1F000F | 0x40 => 0xFF707 | 0x4C => 0x3FF
      | _ => 0
    | 0x01 =>
      if o ∈ [0x00, 0x04, 0x10, 0x14, 0x24, 0x40, 0x48] then 0xFFFFFFFF
      else if o = 0x88 then 0xCFFF1FFF
      else if o = 0xC8 then 0x300FF
      else if 0x800 ≤ o ∧ o < 0x820 then 0x0FFF0FFF
      else if 0x1000 ≤ o ∧ o < 0x9000 then 0xFFFFFFFF
      else if 0x9000 ≤ o ∧ o < 0xA000 then (if o % 8 = 4 then 0x8000FFFF else 0xFFFFFFFF)
      else if 0xB000 ≤ o then 0xFFFFFFFF
      else 0
    | 0x02 => if o < 0x100 ∧ o % 16 = 8 then 0x7F3F1FFF else 0
    | 0x03 =>
      if 0x1000 ≤ o ∧ o < 0x2000 then (match o % 0x20 with | 0x08 => 0x40000000 | 0x10 => 0xFFFF | _ => 0)
      else if 0x2000 ≤ o ∧ o < 0x3000 then (match o % 0x20 with | 0x08 => 0x40000000 | 0x10 => 0xFFFFFFFF | _ => 0)
      else if 0x3000 ≤ o ∧ o % 0x10 = 0xC then 2
      else 0
    | 0x04 => match o with | 0x08 | 0x0C => 0xFFFFFFFF | 0x44 => 0xF | 0x58 => 0x80 | _ => 0
    | 0x05 => match o with | 0x04 => 0x1FFF | 0x08 => 0xFFFFFFFF | _ => 0
    | 0x06 => match o with | 0x14 | 0x18 | 0x20 => 0xFFFFFF | 0x1C => 0xF07FF | _ => 0
    | 0x07 =>
      if o = 0x14 ∨ o = 0x18 then 0xFFFFFFFF
      else if 0x140 ≤ o ∧ o < 0x180 then 0x1FFFF
      else if 0x180 ≤ o ∧ o < 0x1C0 then 0x1F1F
      else 0
    | 0x08 =>
      match o with
      | 0x14 => 0xFF000000 | 0x18 => 0xFFFCFFFF | 0x1C => 0xFFFFFFFF | 0x38 => 0xF0000000
      | _ => if 0x40 ≤ o ∧ o < 0x80 then 0xFFFFFFFF else 0
    | 0x09 =>
      match o with
      | 0x18 => 0x8000000F | 0x1C => 0x07FF07FF | 0x20 => 0xCF0003FF | 0x24 | 0x28 => 0xFFFFFFFF | 0x2C => 0x1FF
      | 0x30 => 0xC0003F3F
      | _ => if 0x200 ≤ o ∧ o < 0x280 then (if o % 8 = 0 then 0xFFFFFFFF else 0x80000303) else 0
    | 0x0A => match o with | 0x04 | 0x08 | 0x0C => 0xFFFFFFFF | _ => 0
    | 0x0B =>
      match o with
      | 0x0C => 0x803F3F03 | 0x10 => 0xFFFFFFFF | 0x14 => 0x3F | 0x18 | 0x1C => 0xFFFFFFFF
      | _ => if 0x100 ≤ o ∧ o < 0x200 then 0xFCFFFFFF else 0
    | 0x0C =>
      if o = 0x08 then 0x1FFFFFFF
      else if (0x20 ≤ o ∧ o < 0x50) ∨ (0x50 ≤ o ∧ o < 0x70) ∨ o = 0x78 then 0xFFFFFFFF
      else if o = 0x70 then 0xF
      else 0
    | 0x0D =>
      match o with
      | 0x10 => 0xFF03 | 0x44 => 0x1FFF
      | 0x20 | 0x24 | 0x40 | 0x48 | 0x4C | 0x50 | 0x54 | 0x58 | 0x5C => 0xFFFFFFFF
      | _ => 0
    | 0x0E =>
      match o with
      | 0x18 => 0xFFFFFFFF | 0x1C => 0x1FFF1FFF | 0x20 => 0xFFFFFF | 0x24 | 0x28 => 0xFFFFFFFF | 0x2C => 0x1FF | 0x3C => 1
      | _ => if 0x100 ≤ o ∧ o < 0x200 then 0xFFFFFFFF else 0
    | 0x0F => match o with | 0x0C => 0xFF | 0x18 | 0x1C | 0x20 | 0x24 | 0x28 | 0x2C => 0xFFFFFFFF | _ => 0
    | _ => 0

/-- The register offset and bit an alias stands for (R459). -/
def aliasOf (a : Nat) : Nat × Nat := ((a - 0x2000000) / 128 * 4, a / 4 % 32)

/-- A 4-byte read of an alias (R460): no side-effect of any kind. -/
def State.aliasRead (s : State) (p : Path) (a : Nat) : Code × Word × State :=
  let x := aliasOf a
  match regSpec x.1 with
  | none => (.errAccess, 0, s.regUndef p a 2)
  | some _ => (.ok, if bit (s.peek4 p x.1) x.2 then 1 else 0, s)

/-- A bit placed in a word that otherwise stays. -/
def setBit (w : Word) (i : Nat) (b : Bool) : Word := if b then w ||| BitVec.ofNat 32 (1 <<< i) else w &&& ~~~(BitVec.ofNat 32 (1 <<< i))

/-- A 4-byte write to an alias (R461). -/
def State.aliasWrite (s : State) (p : Path) (a : Nat) (v : Word) : Code × State :=
  let x := aliasOf a
  let off := x.1
  let i := x.2
  let b := bit v 0
  match regSpec off with
  | none => (.errAccess, s.regUndef p a 2)
  | some r =>
    let no : Code × State := (.errAccess, s.regAccess p a 2)
    if (dataPort off).isSome || bit (r.wo ||| r.sqc) i then no
    else if bit r.w1p i then
      if b then s.applyWord p r off a (setBit (s.view off &&& ~~~r.w1p) i true) else (.ok, s)
    else if bit (r.rw ||| r.lk ||| r.wo1) i then
      let w := setBit (s.view off) i b
      if r.pair then s.applyPair p r off w (s.view (off + 4))
      else if isPairHi off then
        match regSpec (off - 4) with
        | some q => s.applyPair p q (off - 4) (s.view (off - 4)) w
        | none => no
      else s.applyWord p r off a w
    else if bit (roFields off) i then (.ok, s)
    else no

/-! ### Accesses by size and address (R451) -/

/-- The state in which CFG has answered an access. -/
def State.answered (s : State) (p : Path) (c : Code) (d : Line) : State :=
  s.updCfg fun x => { x with answer := some ⟨p, c, d⟩ }

/-- A read of the register window: its code and its data, in the lanes of the address. -/
def State.windowRead (s : State) (p : Path) (a size : Nat) : Code × Line × State :=
  let lane (n : Nat) (k : Nat) : Line := BitVec.ofNat 512 (n <<< (8 * k))
  let no : Code × Line × State := (.errAccess, 0, s.regAccess p a size)
  let n := if size = 4 then 64 else 2 ^ size
  if a % n ≠ 0 then no
  else if a < 0x1000000 then
    match size with
    | 0 | 1 =>
      let r := s.regRead p (a / 4 * 4) a size
      (r.1, if r.1 = .ok then lane (bitsOf r.2.1.toNat (8 * (a % 4)) (8 * n)) (a % 64) else 0, r.2.2)
    | 2 => let r := s.regRead p a a 2; (r.1, if r.1 = .ok then lane r.2.1.toNat (a % 64) else 0, r.2.2)
    | 3 => let r := s.read8 p a; (r.1, lane r.2.1.toNat (a % 64), r.2.2)
    | _ => no
  else if a < 0x2000000 then (if size = 4 then s.burst p none else no)
  else if size = 2 then let r := s.aliasRead p a; (r.1, lane r.2.1.toNat (a % 64), r.2.2)
  else no

/-- A write to the register window, its data in the lanes of the address. -/
def State.windowWrite (s : State) (p : Path) (a size : Nat) (d : Line) : Code × State :=
  let no : Code × State := (.errAccess, s.regAccess p a size)
  let n := if size = 4 then 64 else 2 ^ size
  let v := bitsOf d.toNat (8 * (a % 64)) (8 * n)
  if a % n ≠ 0 then no
  else if a < 0x1000000 then
    match size with
    | 2 => s.regWrite p a (BitVec.ofNat 32 v)
    | 3 => s.write8 p a (BitVec.ofNat 64 v)
    | _ => no
  else if a < 0x2000000 then (if size = 4 then (let r := s.burst p (some d); (r.1, r.2.2)) else no)
  else if size = 2 then s.aliasWrite p a (BitVec.ofNat 32 v)
  else no

/-- An offset of the register window that some region covers (R33, R34). -/
def inWindow (a : Nat) : Bool := decide (a < 0x1010000) || (decide (0x2000000 ≤ a) && decide (a < 0x4000000))

/-- A CFG_RD or CFG_WR of a host port at its turn (R35, R79, R451). -/
def State.hostCfg (s : State) (op : HostOp) (q : HostReq) : State :=
  let a := q.addr.toNat
  let size := q.attr.toNat % 8
  let p := Path.host q.port
  if a < windowBase || !inWindow (a - windowBase) then
    (s.noteUnmapped (srcHost q.port) a op.bits).respondCode q.port q.tag .errAccess
  else
    match op with
    | .cfgWr =>
      let r := s.windowWrite p (a - windowBase) size q.data
      (r.2.answered p r.1 0).respond q.port q.tag r.1 0 0
    | _ =>
      let r := s.windowRead p (a - windowBase) size
      (r.2.2.answered p r.1 r.2.1).respond q.port q.tag r.1 0 r.2.1

/-! ### Accesses that are commands of their own -/

/-- A path reaches the registers in the mode (R439): the chain in every mode, hosts in every mode but Save. -/
def State.reaches (s : State) : Path → Bool
  | .host _ => s.cfg.mode != .save
  | .chain => true

/-- A write command of a path: refused where the mode keeps the path away, else performed and its answer kept. -/
def State.writeCmd (s : State) (p : Path) (f : State → Code × State) : State :=
  if s.reaches p then let r := f s; r.2.answered p r.1 0 else s.answered p .errMode 0

/-- A read command of a path. -/
def State.readCmd (s : State) (p : Path) (f : State → Code × Line × State) : State :=
  if s.reaches p then let r := f s; r.2.2.answered p r.1 r.2.1 else s.answered p .errMode 0

/-- A 4-byte register write as a command. -/
def State.writeReg (s : State) (p : Path) (off : Nat) (v : Word) : State := s.writeCmd p fun t => t.regWrite p off v

/-- An aligned 8-byte register write as a command. -/
def State.writePair (s : State) (p : Path) (off : Nat) (v : DWord) : State := s.writeCmd p fun t => t.write8 p off v

/-- A 4-byte register read as a command: the word in the low bytes of the answer. -/
def State.readReg (s : State) (p : Path) (off : Nat) : State :=
  s.readCmd p fun t => if off % 4 = 0 then (let r := t.regRead p off off 2; (r.1, r.2.1.setWidth 512, r.2.2))
    else (.errAccess, 0, t.regAccess p off 2)

end Sys2Proof.Machine
end

