-- ==== Sys2Proof/Machine/Chain.lean ====
section
/-! DEFINITION. Frames of the management chain (R464–R467). -/

namespace Sys2Proof.Machine

/-- CHECK of a frame holds (R465): its last four bytes are the CRC-32C of the bytes before them. -/
def chainCheck (f : List Byte) : Bool :=
  decide (6 ≤ f.length) && bytesNat (f.drop (f.length - 4)) == (crc32c (f.take (f.length - 4))).toNat

/-- A byte of a frame. -/
def chainByte (f : List Byte) (i : Nat) : Nat := (f.getD i 0).toNat

/-- CMD of a frame. -/
def chainCmd (f : List Byte) : Nat := chainByte f 1 % 16

/-- SIZE of a frame. -/
def chainSize (f : List Byte) : Nat := chainByte f 1 / 16

/-- DIR of a frame: 1 for a response. -/
def chainDir (f : List Byte) : Bool := decide (128 ≤ chainByte f 0)

/-- ADDR of a frame. -/
def chainAddr (f : List Byte) : Nat := chainByte f 0 % 128

/-- OFFSET of a request. -/
def chainOffset (f : List Byte) : Nat := bytesNat ((f.drop 3).take 4) % 2 ^ 26

/-- The data bytes a SIZE names: 4, 8 or 64. -/
def sizeBytes (size : Nat) : Nat := if size = 4 then 64 else 2 ^ size

/-- A reserved CMD, or a READ or WRITE of an unusable SIZE (R465, R466): the frame's fields fix no length. -/
def chainReserved (f : List Byte) : Bool :=
  let c := chainCmd f
  c == 0 || decide (4 < c) || ((c == 1 || c == 2) && (decide (chainSize f < 2) || decide (4 < chainSize f)))

/-- The length a frame's fields fix (R465). -/
def chainLength (f : List Byte) : Nat :=
  let n := sizeBytes (chainSize f)
  match chainDir f, chainCmd f with
  | false, 2 => 11 + n
  | false, 3 => 15
  | false, _ => 11
  | true, 1 => 8 + n
  | true, 4 => 12
  | true, _ => 8

/-- A frame leaves on MC_OUT. -/
def State.mcSend (s : State) (f : List Byte) : State := s.updCfg fun c => { c with mcOut := f }

/-- MC_CRC or MC_BAD is logged (R466, R517). -/
def State.mcNote (s : State) (f : List Byte) (code b : Nat) : State :=
  (s.logE code srcChain 0 (chainByte f 0 + chainByte f 1 * 2 ^ 8)).event 0x000050 b

/-- A response of this block to a request (R465). -/
def State.mcRespond (s : State) (f : List Byte) (code : Code) (data : List Byte) : State :=
  let body := BitVec.ofNat 8 (128 + s.cfg.chainAddr.toNat) :: f.getD 1 0 :: f.getD 2 0 :: BitVec.ofNat 8 code.bits.toNat :: data
  s.mcSend (body ++ natBytes 4 (crc32c body).toNat)

/-- A READ of the chain (R465): zeros where its code is not OK. -/
def State.mcRead (s : State) (f : List Byte) : Code × List Byte × State :=
  let a := chainOffset f
  let n := sizeBytes (chainSize f)
  let r := if inWindow a then s.windowRead .chain a (chainSize f)
    else (.errAccess, 0, s.noteUnmapped srcChain (windowBase + a) 0)
  (r.1, if r.1 = .ok then natBytes n (bitsOf r.2.1.toNat (8 * (a % 64)) (8 * n)) else List.replicate n 0,
    r.2.2.answered .chain r.1 r.2.1)

/-- A WRITE of the chain (R465). -/
def State.mcWrite (s : State) (f : List Byte) : Code × State :=
  let a := chainOffset f
  let d := BitVec.ofNat 512 (bytesNat ((f.drop 7).take (sizeBytes (chainSize f))) <<< (8 * (a % 64)))
  let r := if inWindow a then s.windowWrite .chain a (chainSize f) d
    else (.errAccess, s.noteUnmapped srcChain (windowBase + a) 0)
  (r.1, r.2.answered .chain r.1 0)

/-- SETADDR at this block (R467): only an unassigned block takes an address, from 0x00 to 0x3F. -/
def State.mcSetAddr (s : State) (f : List Byte) : State :=
  let n := chainByte f 7 % 128
  if s.cfg.chainAddr == 0x7F && decide (n < 0x40) then
    let s1 := (s.updCfg fun c => { c with chainAddr := BitVec.ofNat 7 n }).event 0x000050 6
    (s1.mcRespond f .ok []).updCfg fun c => { c with enumOut := true }
  else s.mcRespond f .errAccess []

/-- A request this block performs, with its response (R466). -/
def State.mcPerform (s : State) (f : List Byte) : State :=
  match chainCmd f with
  | 1 => let r := s.mcRead f; r.2.2.mcRespond f r.1 r.2.1
  | 2 => let r := s.mcWrite f; r.2.mcRespond f r.1 []
  | 3 => s.mcSetAddr f
  | _ => s.mcRespond f .ok (natBytes 4 (s.view 0).toNat)

/-- A request is for this block: its own address, or 0x7F while it is unassigned with ENUM_EN_IN at 1 (R466). -/
def State.mcMine (s : State) (f : List Byte) : Bool :=
  chainAddr f == s.cfg.chainAddr.toNat && (chainAddr f != 0x7F || s.cfg.enumIn)

/-- A whole frame has arrived on MC_IN (R466). -/
def State.chainFrame (s : State) (f : List Byte) : State :=
  if !s.pins.selftestDone then s
  else if !chainCheck f || (!chainReserved f && f.length != chainLength f) then s.mcNote f 0x0005 4
  else if chainReserved f || (!chainDir f && chainAddr f == 0x7E && chainCmd f != 2) then (s.mcNote f 0x0006 5).mcSend f
  else if chainDir f then s.mcSend f
  else if chainAddr f = 0x7E then (s.mcWrite f).2.mcSend f
  else if s.mcMine f then s.mcPerform f
  else s.mcSend f

end Sys2Proof.Machine
end

