-- ==== Sys2Proof/Machine/Lapse.lean ====
section
/-! DEFINITION. The counter events that count time: they add the Chronometer's advance while their condition holds (R478). -/

namespace Sys2Proof.Machine

/-- A frame of a data lane waits for dirty budget: its epoch is its Reach's (R130, R111). -/
def State.frameHeld (s : State) (b : Nat) : Bool :=
  match (s.lane b).waiting with
  | some (f, _, _) =>
    let r := if f.typ = 1 then reachOfLeaf (bitsOf f.arg0.toNat 24 34) else reachOfLine (bitsOf f.arg0.toNat 0 40)
    f.epoch == s.reachEpoch r
  | none => false

/-- A write is held for dirty budget (R111). -/
def State.holdsWrites (s : State) : Bool :=
  (s.atu.waiting.any fun w => match w.cleared with
    | some line => s.budgetHeld w line
    | none => false) || s.frameHeld 0 || s.frameHeld 1

/-- The condition of a "ns" event (R478): a port has a request outstanding, an engine runs and does not wait for a descriptor
or a message, a write is held for dirty budget, the consumer of a Course waits, a unit is held, a request for it waits. -/
def State.nsHolds (s : State) (group event inst : Nat) : Bool :=
  match group, event with
  | 0x01, 2 => !(s.port inst).tags.isEmpty
  | 0x03, 14 => (s.engine inst).state == .running && (s.engine inst).wait != .descriptor && (s.engine inst).wait != .message
  | 0x06, 4 => s.holdsWrites
  | 0x09, 4 => s.dti.courses.any fun c => c.no == inst && c.wait
  | 0x0A, 1 => s.sua.grants.any fun g => unitOf g.inst == inst
  | 0x0A, 2 => s.sua.asks.any fun a => a.unit == inst
  | _, _ => false

/-- The events whose number the times of the spec's circuits fix and no rule gives: the issue slots and handshakes of a
RUNNING engine (R373), the handshakes, busy time and suspensions of a core (R354). What they add in some nanoseconds is a free
value below this bound (log 54). -/
def State.freeEvent (s : State) (n group event inst : Nat) : Option Nat :=
  match group with
  | 0x03 => if (s.engine inst).state == .running && decide (event < 14) then some (2 ^ 48) else none
  | 0x04 => some (if event = 2 then n + 1 else 2 ^ 48)
  | _ => none

/-- A counter after some nanoseconds that began in a state, and whether it wrapped; `k` numbers its free value. -/
def State.nsCounter (s : State) (n k : Nat) (c : Counter) : Counter × Bool :=
  let group := field c.sel 16 8
  let event := field c.sel 8 8
  let inst := field c.sel 0 8
  if !bit c.sel 31 then (c, false)
  else if s.nsHolds group event inst then c.add n
  else match s.freeEvent n group event inst with
    | some m => c.add ((Config.freeValue k).toNat % m)
    | none => (c, false)

/-- The "ns" events of a command that found the state `s` and leaves `t`: the Chronometer's advance is added where the
condition held. A load of the Chronometer (R475) is no advance. -/
def State.lapse (t s : State) : State :=
  if t.chron ≤ s.chron || t.tel.chrSetTaken != s.tel.chrSetTaken then t
  else
    let l : List (Nat × Counter × Bool) := t.tel.counters.zipIdx.map fun x =>
      (x.1.1, s.nsCounter (t.chron - s.chron) (t.freeCtr + x.2) x.1.2)
    let counters : List (Nat × Counter) := l.map fun x => (x.1, x.2.1)
    ({ t with tel := { t.tel with counters := counters }, freeCtr := t.freeCtr + l.length }).eventIf (l.any fun x => x.2.2)
      0x010100 5

end Sys2Proof.Machine
end

