-- ==== Sys2Proof/Machine/Settle.lean ====
section
/-! DEFINITION. What the block does of its own accord after each command until nothing more can go on: requests that wait
are tried again in their order, fences that are met complete, and the units take up what has become possible (R22, R56, R63,
R86, R118, R298); and the forms in which a command's meaning is given. -/

namespace Sys2Proof.Machine

/-! ### Rest -/

/-- Nothing of an engine is under way. -/
def Engine.atRest (n : Engine) : Bool :=
  n.buffer.isEmpty && n.loads.isEmpty && n.wait == .none

/-- Nothing waits at the ports, in the fabric or for a fence. -/
def State.portsRest (s : State) : Bool :=
  s.atu.waiting.isEmpty && s.atu.parked.isEmpty && s.ecc.moves.isEmpty && s.ecc.copying.isEmpty
    && (s.subs.all fun x => x.2.offer.isNone) && s.atu.ofences.isEmpty && s.atu.fences.isEmpty
    && s.ports.all fun p => p.2.unacked.isEmpty && p.2.held.isEmpty

/-- Nothing of the deep tier, the vault or a ring waits. -/
def State.deepRest (s : State) : Bool :=
  s.dti.hints.isEmpty && s.dti.courses.isEmpty && s.dti.stages.isEmpty && !s.dti.down && s.vlt.demands.isEmpty && s.vlt.job.isNone
    && s.vlt.waits.isEmpty && !s.vlt.broken && !(s.map.restoring && s.cfg.restoreBegun && s.leavesLeft == 0)
    && s.dre.hmpWait.isEmpty && s.dre.back.isEmpty && s.dre.cq.all fun c => c.2.waiting.isEmpty

/-- No link to the twin is up or coming up, and the mode TWN requests is the one recorded. -/
def State.twinRest (s : State) : Bool :=
  s.twn.link == 0 && s.twn.pendTable.isEmpty && s.twn.ctrlOut.isEmpty && s.twn.resync.isNone && s.twn.syncIn.isNone
    && decide (s.cfg.twnReq = s.wantMode)

/-- The block is at rest: nothing is left that could go on without a further command. -/
def State.quiet (s : State) : Bool :=
  (s.guards.all fun x => !x.2.bad) && s.portsRest && s.deepRest && s.twinRest && s.cfg.mode != .save && s.sua.asks.isEmpty
    && s.sua.grants.isEmpty && s.sua.moves.isEmpty && s.tel.engines.isEmpty && s.engines.all fun e => e.2.atRest

/-! ### One round and the whole -/

/-- In Save the Pilot requests that were not admitted are refused (R167). -/
def State.saveRefuses (s : State) : State := if s.cfg.mode = .save then s.refusePilots else s

/-- The requests of the ports and the memory ports, and the fences. -/
def State.fabricRound (s : State) : State :=
  let s1 := (s.releaseHeld.ackAll).pass State.hostCfg fun _ => true
  (s1.copyStep.offersStep.retryParked.saveRefuses).endOfences.endFences

/-- The deep tier, the vault and the twin link. -/
def State.deepRound (s : State) : State :=
  let s1 := s.landFills.takeHints.startDemands.chooseAgain.courseStep.stageStep.vaultGoes.failQueued
  let s2 := ((s1.laneGoesOn 0).laneGoesOn 1).sendPendTable.sendCtrl.checkResync.syncSend.syncCheck
  s2.pin0.evalTwin.savePhase.restoreDone

/-- The engines, the shared units and the rings. -/
def State.unitRound (s : State) : State :=
  let s1 := s.pumpEngines.wakeEngines.pumpSlots.settleGrants
  s1.hmpPump.passBack.flushAll.lookoutRound

/-- The queues whose pointer copies were found different are recovered (R18, R21). -/
def State.guardRound (s : State) : State :=
  (s.guards.filter fun x => x.2.bad).foldl (fun t x => t.queueMismatch x.1) s

/-- One round. -/
def State.round (s : State) : State := s.guardRound.fabricRound.deepRound.unitRound

/-- Rounds until the block is at rest or a round changes nothing. -/
def State.rounds (s : State) (fuel : Nat) : State :=
  match fuel with
  | 0 => s
  | n + 1 =>
    if s.quiet then s
    else
      let t := s.round
      if t = s then s else t.rounds n

/-- The block goes on until nothing more can. -/
def State.settle (s : State) : State := s.rounds 64

/-! ### Forms of a meaning -/

/-- The state with the queue of another: the queue is the senders' alone, and no command's effect touches it. -/
def State.withQueue (t s : State) : State := { t with pending := s.pending }

/-- A command with an effect of its own alone; while the reset input is held, no command has an effect (R440). -/
def State.within (s : State) (f : State → State) : Host.Outcome State Fault Refusal :=
  if s.cfg.resetHeld then .next s
  else .next (((f s).lapse s).flush.withQueue s)

/-- A command whose effect lets other work of the block go on. -/
def State.act (s : State) (f : State → State) : Host.Outcome State Fault Refusal := s.within fun t => (f t).settle

end Sys2Proof.Machine
end

