-- ==== Sys2Proof/Machine/AtuCmds.lean ====
section
/-! DEFINITION. The commands of ATU and PLG: reservations, drains, the dirty budget, pins, the Anchor and fences (R80–R126). -/

namespace Sys2Proof.Machine

/-- RESERVATION_EXPIRE (R95): a reservation is LIFE µs old. -/
def State.resvExpires (s : State) (who : ResvId) : State :=
  match s.atu.resv.find? fun r => r.who == who with
  | none => s
  | some r => (s.until_ (r.placed + r.life)).dropResv who

/-- RESERVATION_EXPIRE (R95). -/
def execReservationExpire (who : ResvId) (s : State) : Host.Outcome State Fault Refusal := s.act fun t => t.resvExpires who

/-- RESERVATION_CLEAR_ALL (R99). -/
def execReservationClearAll (p : Path) (s : State) : Host.Outcome State Fault Refusal := s.act fun t => t.writeReg p 0x05000C 1

/-- ATU_RCFG_WRITE (R100). -/
def execAtuRcfgWrite (p : Path) (v : Word) (s : State) : Host.Outcome State Fault Refusal :=
  s.act fun t => t.writeReg p 0x050000 v

/-- DRAIN_ISSUE (R108). -/
def execDrainIssue (s : State) : Host.Outcome State Fault Refusal := s.act State.drainIssue

/-- DRAIN_COMPLETE (R110). -/
def execDrainComplete (idx : DWord) (s : State) : Host.Outcome State Fault Refusal := s.act fun t => t.drainComplete idx.toNat

/-- DRAIN_REISSUE (R110). -/
def execDrainReissue (idx : DWord) (s : State) : Host.Outcome State Fault Refusal := s.act fun t => t.drainReissue idx.toNat

/-- DRAIN_STALL (R112). -/
def execDrainStall (s : State) : Host.Outcome State Fault Refusal := s.act State.drainStall

/-- FENCE_TIMEOUT (R118). -/
def execFenceTimeout (id : Nat) (s : State) : Host.Outcome State Fault Refusal := s.act fun t => t.fenceTimeout id

/-- PLG_BUDGET_WRITE (R113). -/
def execPlgBudgetWrite (p : Path) (v : Word) (s : State) : Host.Outcome State Fault Refusal :=
  s.act fun t => t.writeReg p 0x0C0004 v

/-- PIN_SET (R126): pin k + 1. -/
def execPinSet (p : Path) (k : Fin 3) (s : State) : Host.Outcome State Fault Refusal :=
  s.act fun t => t.writeReg p 0x0C0070 (BitVec.ofNat 32 (2 ^ (9 + k.val)))

/-- PIN_CLR (R126): pin k + 1. -/
def execPinClr (p : Path) (k : Fin 3) (s : State) : Host.Outcome State Fault Refusal :=
  s.act fun t => t.writeReg p 0x0C0070 (BitVec.ofNat 32 (2 ^ (17 + k.val)))

/-- ANCHOR_RELEASED (R122). -/
def execAnchorReleased (s : State) : Host.Outcome State Fault Refusal := s.act State.anchorRelease

end Sys2Proof.Machine
end

