-- ==== Sys2Proof/Machine/BoardCmds.lean ====
section
/-! DEFINITION. The block's reset input and its test access port (R506–R514). -/

namespace Sys2Proof.Machine

/-- Step 7 of R506: an engine or a spare that failed its self-test (R286), an AES core that failed its known answer (R357). A
spare engine that failed serves no number. -/
def State.selfTest (s : State) (engines : List (Fin 34)) (cores : List (Fin 38)) : State :=
  let spares := engines.filter fun e => decide (32 ≤ e.val)
  let s1 := s.updEcc fun x => { x with peSpare := spares.foldl (fun l e => aput l e.val e.val) x.peSpare }
  let s2 := (engines.filter fun e => decide (e.val < 32)).foldl (fun t e => t.failEngine (Fin.ofNat 32 e.val)) s1
  let s3 := (cores.filter fun c => decide (36 ≤ c.val)).foldl (fun t c => t.coreFails c) s2
  let s4 := (cores.filter fun c => decide (c.val < 36)).foldl (fun t c => t.coreFails c) s3
  s4.updPins fun x => { x with selftestDone := true }

/-- The boundary cells as a scan shows them. -/
def cellBits (cells : BitVec 2384) : List Bool := (List.range 2384).map cells.getLsbD

/-- The block resets itself before a TAP instruction acts, and stays reset until RST_n is released (R514). -/
def State.tapReset (s : State) (i : TapInstr) (data : List Bool) : State := (s.afterReset true).tapSelect i data

/-- RST_N_ASSERT (R440, R507). -/
def execRstNAssert (s : State) : Host.Outcome State Fault Refusal := .next (s.afterReset true)

/-- RST_N_RELEASE (R506, R509). -/
def execRstNRelease (edgeSync : BitVec 20) (s : State) : Host.Outcome State Fault Refusal := .next (s.rstRelease edgeSync)

/-- POWER_UP_SELFTEST_DONE (R506). -/
def execPowerUpSelftestDone (engines : List (Fin 34)) (cores : List (Fin 38)) (s : State) : Host.Outcome State Fault Refusal :=
  s.act fun t => if t.pins.selftestDone then t else t.selfTest engines cores

/-- BYPASS (R512). -/
def execBypass (s : State) : Host.Outcome State Fault Refusal := .next (s.tapSelect .bypass [false])

/-- IDCODE (R512). -/
def execIdcode (s : State) : Host.Outcome State Fault Refusal := .next (s.tapSelect .idcode idcodeBits)

/-- SAMPLE_PRELOAD (R512). -/
def execSamplePreload (cells : BitVec 2384) (s : State) : Host.Outcome State Fault Refusal :=
  .next ((s.tapSelect .samplePreload (cellBits cells)).updPins fun x => { x with cells := cells })

/-- EXTEST (R512, R514). -/
def execExtest (cells : BitVec 2384) (s : State) : Host.Outcome State Fault Refusal :=
  .next ((s.tapReset .extest (cellBits cells)).updPins fun x => { x with cells := cells })

/-- IJTAG (R512–R514): an MBIST run leaves the arrays as it found them in Reset and is refused without effect elsewhere; fuse programming resets the block first. -/
def execIjtag (_mbist fuse : Bool) (s : State) : Host.Outcome State Fault Refusal :=
  .next (if fuse then s.tapReset .ijtag (chainBits 1) else s.tapSelect .ijtag (chainBits 1))

/-- SCAN (R512, R514). -/
def execScan (s : State) : Host.Outcome State Fault Refusal := .next (s.tapReset .scan (chainBits 1))

end Sys2Proof.Machine
end

