-- ==== Sys2Proof/Machine/BwrCmds.lean ====
section
/-! DEFINITION. The commands of BWR (R294–R311): windows, slots and commits. -/

namespace Sys2Proof.Machine

/-- Credit has come: the requests of class 15 that wait are tried before the others (R300). -/
def State.admitHeld (s : State) : State :=
  s.pass State.hostCfg fun w => w.cls == some 15

/-- BWR_WINDOW (R297). -/
def State.bwrWindow (s : State) : State := ((s.until_ s.nextBoundary).bwrBoundary).admitHeld

/-- BWR_SLOT (R297): the next slot of the window, each a 64th of it. -/
def State.bwrSlot (s : State) : State :=
  if 63 ≤ s.bwr.slot then s
  else ((s.until_ (s.bwr.start + (s.bwr.slot + 1) * s.bwr.act.window / 64)).bwrNextSlot).admitHeld

/-- BWR_WINDOW (R297). -/
def execBwrWindow (s : State) : Host.Outcome State Fault Refusal := s.act State.bwrWindow

/-- BWR_SLOT (R297). -/
def execBwrSlot (s : State) : Host.Outcome State Fault Refusal := s.act State.bwrSlot

/-- BWR_COMMIT (R304). -/
def execBwrCommit (p : Path) (s : State) : Host.Outcome State Fault Refusal := s.act fun t => t.writeReg p 0x06000C 1

/-- BWR_CHART_COMMIT (R301). -/
def execBwrChartCommit (p : Path) (s : State) : Host.Outcome State Fault Refusal := s.act fun t => t.writeReg p 0x060010 1

end Sys2Proof.Machine
end

