-- ==== Sys2Proof/Machine/CfgCmds.lean ====
section
/-! DEFINITION. The commands of CFG and MAP: the registers that act, status words, pairs, bit aliases and data ports (R46–R48, R443–R463). -/

namespace Sys2Proof.Machine

/-- MAP_COMMIT (R46). -/
def execMapCommit (p : Path) (s : State) : Host.Outcome State Fault Refusal := s.act fun t => t.writeReg p 0x040040 1

/-- REACH_ENTRY_READ (R48, R452). -/
def execReachEntryRead (p : Path) (s : State) : Host.Outcome State Fault Refusal := s.act fun t => t.readReg p 0x040058

/-- REACH_ENTRY_WRITE (R48, R452). -/
def execReachEntryWrite (p : Path) (v : DWord) (s : State) : Host.Outcome State Fault Refusal :=
  s.act fun t => t.writePair p 0x040058 v

/-- MODE_SAVE (R445). -/
def execModeSave (p : Path) (s : State) : Host.Outcome State Fault Refusal := s.act fun t => t.writeReg p 0x000048 0x80000000

/-- DR_ENTER (R445). -/
def execDrEnter (p : Path) (s : State) : Host.Outcome State Fault Refusal := s.act fun t => t.writeReg p 0x000048 0x40000000

/-- DR_ACK (R443, R445). -/
def execDrAck (p : Path) (bits : BitVec 10) (s : State) : Host.Outcome State Fault Refusal :=
  s.act fun t => t.writeReg p 0x000048 (bits.setWidth 32)

/-- CFG_MODECFG_WRITE (R449). -/
def execCfgModecfgWrite (p : Path) (v : Word) (s : State) : Host.Outcome State Fault Refusal :=
  s.act fun t => t.writeReg p 0x000044 v

/-- CFG_LOCK (R456). -/
def execCfgLock (p : Path) (s : State) : Host.Outcome State Fault Refusal := s.act fun t => t.writeReg p 0x000004 1

/-- STS_CLR (R454). -/
def execStsClr (p : Path) (off : BitVec 24) (v : Word) (s : State) : Host.Outcome State Fault Refusal :=
  s.act fun t => t.writeReg p off.toNat v

/-- STS_COR_READ (R455). -/
def execStsCorRead (p : Path) (off : BitVec 24) (s : State) : Host.Outcome State Fault Refusal :=
  s.act fun t => t.readReg p off.toNat

/-- PAIR_LO_READ (R452). -/
def execPairLoRead (p : Path) (off : BitVec 24) (s : State) : Host.Outcome State Fault Refusal :=
  s.act fun t => t.readReg p off.toNat

/-- PAIR_HI_WRITE (R452). -/
def execPairHiWrite (p : Path) (off : BitVec 24) (v : Word) (s : State) : Host.Outcome State Fault Refusal :=
  s.act fun t => t.writeReg p off.toNat v

/-- ALIAS_READ (R459, R460): a 4-byte read at an offset of the register window. -/
def execAliasRead (p : Path) (off : BitVec 26) (s : State) : Host.Outcome State Fault Refusal :=
  s.act fun t => t.readCmd p fun t =>
    let r := t.windowRead p off.toNat 2
    (r.1, BitVec.ofNat 512 (bitsOf r.2.1.toNat (8 * (off.toNat % 64)) 32), r.2.2)

/-- ALIAS_WRITE (R459, R461): a 4-byte write at an offset of the register window. -/
def execAliasWrite (p : Path) (off : BitVec 26) (v : Word) (s : State) : Host.Outcome State Fault Refusal :=
  s.act fun t => t.writeCmd p fun t =>
    t.windowWrite p off.toNat 2 (BitVec.ofNat 512 (v.toNat <<< (8 * (off.toNat % 64))))

/-- DP_DATA_ACCESS (R462): at its path's data port. -/
def execDpDataAccess (p : Path) (wr : Option Word) (s : State) : Host.Outcome State Fault Refusal :=
  match wr with
  | some v => s.act fun t => t.writeCmd p fun t => t.dpWrite p (pathPort p) v
  | none => s.act fun t => t.readReg p (dpAddr (pathPort p) + 4)

/-- DP_BURST (R463). -/
def execDpBurst (p : Path) (wr : Option Line) (s : State) : Host.Outcome State Fault Refusal :=
  s.act fun t => t.readCmd p fun t =>
    let r := t.burst p wr
    (r.1, if wr.isSome then 0 else r.2.1, r.2.2)

/-- REGISTER_WRITE (R451, R456–R458). -/
def execRegisterWrite (p : Path) (off : BitVec 24) (v : Word) (s : State) : Host.Outcome State Fault Refusal :=
  s.act fun t => t.writeCmd p fun t =>
    if off.toNat % 4 = 0 then t.regWrite p off.toNat v else (.errAccess, t.regAccess p off.toNat 2)

end Sys2Proof.Machine
end

