-- ==== Sys2Proof/Machine/ChainCmds.lean ====
section
/-! DEFINITION. Frames of the management chain as they arrive (R464–R467): the block acts on what a frame is. -/

namespace Sys2Proof.Machine

/-- MC_READ (R465). -/
def execMcRead (frame : List Byte) (s : State) : Host.Outcome State Fault Refusal := s.act fun t => t.chainFrame frame

/-- MC_WRITE (R465). -/
def execMcWrite (frame : List Byte) (s : State) : Host.Outcome State Fault Refusal := s.act fun t => t.chainFrame frame

/-- MC_SETADDR (R467). -/
def execMcSetaddr (frame : List Byte) (s : State) : Host.Outcome State Fault Refusal :=
  s.act fun t => t.chainFrame frame

/-- MC_PING (R465). -/
def execMcPing (frame : List Byte) (s : State) : Host.Outcome State Fault Refusal := s.act fun t => t.chainFrame frame

/-- MC_FORWARD (R466). -/
def execMcForward (frame : List Byte) (s : State) : Host.Outcome State Fault Refusal :=
  s.act fun t => t.chainFrame frame

/-- MC_CRC (R466). -/
def execMcCrc (frame : List Byte) (s : State) : Host.Outcome State Fault Refusal := s.act fun t => t.chainFrame frame

end Sys2Proof.Machine
end

