-- ==== Sys2Proof/Machine/Launch.lean ====
section
/-! DEFINITION. The command edge: one CK slot of a subchannel, what a launched command changes, and the class of the
slot (R199, R200, R204, R213–R219). -/

namespace Sys2Proof.Machine

/-! ### Slot classes -/

/-- Count one slot in a sub-class of R204, numbered as its table lists them. -/
def State.slotClass (s : State) (c k : Nat) : State := s.count 2 k c 1

/-- The data bus carries a kept burst at a slot (R204). -/
def SubState.dataAt (q : SubState) (slot : Nat) : Bool := q.busy.any fun b => decide (b ≤ slot) && decide (slot < b + 8)

/-- The CA slots of ACTs in banks a launched command reaches leave their deferral: a column command shows them useful,
a precharge wasted (R204). -/
def State.settleActs (s : State) (c : Nat) (op : DOp) (l : Loc) : State :=
  let q := s.sub c
  let hit := q.actSlots.filter fun x => op.reaches l x.1
  let n := (hit.map fun x => x.2).sum
  if op.isCol || op.isPre then
    (s.setSub c { q with actSlots := q.actSlots.filter fun x => !op.reaches l x.1 }).count 2 (if op.isCol then 2 else 1) c n
  else s

/-- Class a slot that carries a cycle of the last launched command (R204). -/
def State.classCycle (s : State) (c slot : Nat) (l : Loc) : State :=
  let q := s.sub c
  if q.dataAt slot then s.slotClass c 0
  else if q.lastClass = 3 then
    s.setSub c { q with actSlots := aput q.actSlots (bankKey l) (agetD q.actSlots (bankKey l) 0 + 1) }
  else if q.lastClass = 4 && q.bursts.any fun b => !b.discard && b.entry.loc == l then
    s.setSub c { q with bursts := mapIf q.bursts (fun b => !b.discard && b.entry.loc == l) fun b =>
      { b with slots := b.slots + 1 } }
  else if q.lastClass = 4 then s.slotClass c 2
  else s.slotClass c q.lastClass

/-- The counter event of a hold reason (R204, R478). -/
def HoldReason.event : HoldReason → Nat
  | .refresh => 3 | .turn => 4 | .timing => 5 | .pause => 6 | .empty => 8

/-- Class a DES slot (R204). A command that waits for its second slot counts with the delayed ones. -/
def State.classDes (s : State) (c slot : Nat) : State :=
  let q := s.sub c
  if q.dataAt slot then s.slotClass c 0
  else match q.slotReg with
    | [] => s.slotClass c 7
    | (_, .hold r) :: _ => s.slotClass c r.event
    | (_, .cmd _ _ _ _) :: _ => s.slotClass c 5

/-! ### What a launch changes -/

/-- The replay record keeps the last 32 column commands (R238). -/
def pushReplay (l : List Launched) (x : Launched) : List Launched := (l ++ [x]).drop (l.length + 1 - 32)

/-- A RD or RDA is on the pins: the burst that will return (R199). A command launched again takes the place of the
burst it repeats (R238). -/
def State.launchRead (s : State) (c slot : Nat) (l : Loc) (id : Option Nat) : State :=
  let q := s.sub c
  match id.bind fun n => q.rq.find? fun e => e.id == n with
  | some e =>
    let d := s.dramRead e.loc
    let b : Burst := { entry := e, slot := slot, line := d.1, pois := d.2 }
    (s.setSub c { q with rq := q.rq.filter fun x => x.id != e.id, bursts := q.bursts ++ [b] }).qOut
      (.chsRead (Fin.ofNat 32 c))
  | none =>
    let again := mapIf q.bursts (fun b => b.entry.loc == l) fun b => { b with slot := slot }
    s.setSub c { q with bursts := again }

/-- A WR or WRA is on the pins: the line is stored. -/
def State.launchWrite (s : State) (c : Nat) (id : Option Nat) : State :=
  let q := s.sub c
  match id.bind fun n => q.wq.find? fun e => e.id == n with
  | some e =>
    let s1 := s.dramWrite e.loc e.data e.pois
    let q1 := { q with
      wq := q.wq.filter fun x => x.id != e.id
      batch := q.batch + 1
      poisonLeft := q.poisonLeft.filter (· != e.id) }
    (s1.setSub c q1).qOut (.chsWrite (Fin.ofNat 32 c))
  | none => s

/-- RPM_STS.RAA_MAX (R230): an ACT brought its bank to MMT while a demand entry waits for the bank. -/
def State.noteRaaMax (s : State) (c : Nat) (l : Loc) : State :=
  s.eventIf (s.raaAtMax c (bankKey l) && (s.sub c).all.any fun e => !e.shut && bankKey e.loc == bankKey l) 0x070300 3

/-- What a launched command changes beside the slot itself. -/
def State.launchEffect (s : State) (c slot : Nat) (op : DOp) (l : Loc) (id : Option Nat) : State :=
  match op with
  | .act => (s.noteAct c l).noteRaaMax c l
  | .rd | .rda => s.launchRead c slot l id
  | .wr | .wra => s.launchWrite c id
  | .refAb => s.noteRefAb c l.cs
  | .rfmAb => s.noteRfmAb c l.cs
  | .refSb => s.noteRefSb c l.cs
  | .rfmSb => s.noteRfm c l.cs l.bank
  | _ => s

/-- A command is launched at a slot. -/
def State.launch (s : State) (c slot : Nat) (op : DOp) (l : Loc) (id : Option Nat) (why : Why) : State :=
  let q := s.sub c
  let t := s.tim c
  let x := launched slot op l
  let wasted : Bool := match why with
    | .pageClose => true
    | _ => op.isAct && (q.bank (bankKey l)).reopen
  let useful : Bool := match why with
    | .targeted _ => true
    | _ => false
  let first := if op.isRd then some (slot + t.cl) else if op.isWr then some (slot + t.cwl) else none
  let q1 := { q with
    slotReg := q.slotReg.drop 1
    hist := (q.hist ++ [x]).filter fun y => decide (slot < y.slot + 5000)
    replay := if op.isCol then pushReplay q.replay x else q.replay
    busy := (match first with | some b => q.busy ++ [b] | none => q.busy).filter fun b => decide (slot < b + 8)
    lastClass := if wasted then 1 else if useful then 2 else if op.isAct then 3 else if op.isRd then 4 else 2 }
  let s1 := (s.setSub c q1).settleActs c op l
  (s1.launchEffect c slot op l id).classCycle c slot l

/-- Launch the command at the head of the slot register, where it arrived two slots ago and every rule holds; else
DES. -/
def State.tryLaunch (s : State) (c slot : Nat) : State :=
  let q := s.sub c
  match q.slotReg with
  | (at_, .cmd op l id why) :: _ =>
    if slot < at_ + 2 then s.classDes c slot
    else if (s.tim c).allows q.hist op l slot then s.launch c slot op l id why
    else (s.classDes c slot).event (chsPage (c / 2) + 0x200) 5
  | _ => s.classDes c slot

/-- COMMAND_LAUNCH: one CK slot of a subchannel (R199, R200, R204). -/
def State.edgeSlot (s : State) (c : Nat) : State :=
  let q0 := s.sub c
  let slot := q0.slot + 1
  let q := { q0 with slot := slot, idle := if q0.rq.isEmpty then q0.idle + 1 else 0 }
  let s1 := s.setSub c q
  match q.hist.getLast? with
  | some last =>
    if slot < last.slot + last.op.cycles then s1.classCycle c slot last.loc else s1.tryLaunch c slot
  | none => s1.tryLaunch c slot

end Sys2Proof.Machine
end

