-- ==== Sys2Proof/Machine/ChsCmds.lean ====
section
/-! DEFINITION. The commands of the DRAM schedulers, of refresh and row protection and of the thermal poll (R186–R226). -/

namespace Sys2Proof.Machine

/-- The schedulers run: after SAVE_DONE no command is issued any more (R171). -/
def State.edgeCmd (s : State) (f : State → State) : Host.Outcome State Fault Refusal :=
  s.act fun t => if t.cfg.saveDonePin then t else f t

/-- CHS_DECIDE (R194). -/
def execChsDecide (c : Sub) (s : State) : Host.Outcome State Fault Refusal := s.edgeCmd fun t => t.chsDecide c.val

/-- COMMAND_LAUNCH (R199). -/
def execCommandLaunch (c : Sub) (s : State) : Host.Outcome State Fault Refusal := s.edgeCmd fun t => t.edgeSlot c.val

/-- READ_DATA_RETURN (R268). -/
def execReadDataReturn (c : Sub) (r : ReadReturn) (s : State) : Host.Outcome State Fault Refusal :=
  s.act fun t => t.dataReturn c r

/-- CHS_CFG_WRITE (R203). -/
def execChsCfgWrite (p : Path) (ch : Fin 16) (v : Word) (s : State) : Host.Outcome State Fault Refusal :=
  s.act fun t => t.writeReg p (chsPage ch.val) v

/-- CHS_WM_WRITE (R209). -/
def execChsWmWrite (p : Path) (ch : Fin 16) (v : Word) (s : State) : Host.Outcome State Fault Refusal :=
  s.act fun t => t.writeReg p (chsPage ch.val + 4) v

/-- CHS_TIM_WRITE (R203). -/
def execChsTimWrite (p : Path) (ch : Fin 16) (n : Fin 8) (v : Word) (s : State) : Host.Outcome State Fault Refusal :=
  s.act fun t => t.writeReg p (chsPage ch.val + 0x100 + 4 * n.val) v

/-- REFRESH_TICK (R213, R221): the next tick of a chip select of a channel that is enabled; one that is not in use has one more,
at which its accounting stops. -/
def State.refreshTick (s : State) (c : Nat) (cs : Nat) : State :=
  if s.cfg.mode == .reset || !s.flag (chsPage (c / 2)) 31 then s
  else if s.csen c cs then (s.until_ (s.nextTick c cs)).refTick c cs
  else if s.counts c cs then (s.until_ (s.nextTick c cs)).offTick c cs
  else s

/-- REFRESH_TICK (R213). -/
def execRefreshTick (c : Sub) (cs : Fin 4) (s : State) : Host.Outcome State Fault Refusal :=
  s.edgeCmd fun t => t.refreshTick c.val cs.val

/-- THERMAL_POLL (R216). -/
def execThermalPoll (ch : Fin 16) (readings : List (Option Byte)) (s : State) : Host.Outcome State Fault Refusal :=
  s.act fun t => t.thermalPoll ch.val readings

/-- TRACKER_CLEAR (R219): at the next multiple of the interval. -/
def execTrackerClear (ch : Fin 16) (s : State) : Host.Outcome State Fault Refusal :=
  s.act fun t =>
    let n := t.clearInterval ch.val
    (t.until_ ((t.chron + n - 1) / n * n)).clearTrackers ch.val

/-- PAUSE_GRANT (R223). -/
def execPauseGrant (c : Sub) (s : State) : Host.Outcome State Fault Refusal := s.act fun t => t.pauseGrant c

/-- RPM_CFG_WRITE (R212). -/
def execRpmCfgWrite (p : Path) (v : Word) (s : State) : Host.Outcome State Fault Refusal :=
  s.act fun t => t.writeReg p 0x070000 v

end Sys2Proof.Machine
end

