-- ==== Sys2Proof/Machine/CphCmds.lean ====
section
/-! DEFINITION. The commands of the key port and of CPH (R339–R362). -/

namespace Sys2Proof.Machine

/-- LOAD256 (R345). -/
def execLoad256 (slot : Fin 64) (key : BitVec 512) (s : State) : Host.Outcome State Fault Refusal :=
  s.act fun t => t.loadKey slot key false

/-- LOAD512 (R345). -/
def execLoad512 (slot : Fin 64) (key : BitVec 512) (s : State) : Host.Outcome State Fault Refusal :=
  s.act fun t => t.loadKey slot key true

/-- KEY_ZERO (R345). -/
def execKeyZero (slot : Fin 64) (s : State) : Host.Outcome State Fault Refusal := s.act fun t => t.keyPortZero slot

/-- KEY_BAD_OP (R345). -/
def execKeyBadOp (slot : Fin 64) (s : State) : Host.Outcome State Fault Refusal := s.act fun t => t.keyRefuse slot 4

/-- CPH_KZERO (R359): GO with the slot. -/
def execCphKzero (p : Path) (slot : Fin 64) (s : State) : Host.Outcome State Fault Refusal :=
  s.act fun t => t.writeReg p 0x0B0008 (0x80000000 ||| BitVec.ofNat 32 slot.val)

/-- CORE_KAT (R356). -/
def execCoreKat (core : Fin 38) (pass : Bool) (s : State) : Host.Outcome State Fault Refusal :=
  s.act fun t => t.coreKat core.val pass

/-- KEY_JOB_DONE (R355). -/
def execKeyJobDone (s : State) : Host.Outcome State Fault Refusal := s.act State.keyJobDone

end Sys2Proof.Machine
end

