-- ==== Sys2Proof/Machine/DreCmds.lean ====
section
/-! DEFINITION. The commands of the descriptor rings and of the services (R411–R434). -/

namespace Sys2Proof.Machine

/-- SQ_DOORBELL (R413). -/
def execSqDoorbell (p : Path) (q : Fin 64) (v : Word) (s : State) : Host.Outcome State Fault Refusal :=
  s.act fun t => t.writeReg p (sqPage q + 0x0C) v

/-- CQ_DOORBELL (R416). -/
def execCqDoorbell (p : Path) (q : Fin 64) (v : Word) (s : State) : Host.Outcome State Fault Refusal :=
  s.act fun t => t.writeReg p (cqPage q + 0x0C) v

/-- DESCRIPTOR_FETCH (R414). -/
def execDescriptorFetch (s : State) : Host.Outcome State Fault Refusal := s.act State.fetchTurn

/-- DESCRIPTOR_DISPATCH (R414, R420). -/
def execDescriptorDispatch (q : Fin 64) (s : State) : Host.Outcome State Fault Refusal := s.act fun t => t.dispatch q

/-- DESC_STAGE (R421). -/
def execDescStage (q : Fin 64) (s : State) : Host.Outcome State Fault Refusal := s.act fun t => t.descStage q

/-- DESC_COURSE (R323, R421). -/
def execDescCourse (q : Fin 64) (s : State) : Host.Outcome State Fault Refusal := s.act fun t => t.descCourse q

/-- DESC_COURSE_ABORT (R423). -/
def execDescCourseAbort (q : Fin 64) (s : State) : Host.Outcome State Fault Refusal := s.act fun t => t.descCourseAbort q

/-- DESC_COMMIT (R424). -/
def execDescCommit (e : EngineNo) (s : State) : Host.Outcome State Fault Refusal := s.act fun t => t.descCommit e

/-- DESC_SCAN (R421). -/
def execDescScan (e : EngineNo) (s : State) : Host.Outcome State Fault Refusal := s.act fun t => t.descScan e

/-- DESC_COPY (R421). -/
def execDescCopy (e : EngineNo) (s : State) : Host.Outcome State Fault Refusal := s.act fun t => t.descCopy e

/-- DESC_FILL (R421). -/
def execDescFill (e : EngineNo) (s : State) : Host.Outcome State Fault Refusal := s.act fun t => t.descFill e

/-- DESC_SEAL (R327, R421). -/
def execDescSeal (e : EngineNo) (s : State) : Host.Outcome State Fault Refusal := s.act fun t => t.descSeal e

/-- DESC_CHECKSUM (R421). -/
def execDescChecksum (e : EngineNo) (s : State) : Host.Outcome State Fault Refusal := s.act fun t => t.descChecksum e

/-- DESC_SNAPSHOT_TAKE (R425). -/
def execDescSnapshotTake (e : EngineNo) (s : State) : Host.Outcome State Fault Refusal := s.act fun t => t.descSnapTake e

/-- DESC_SNAPSHOT_COPY (R425). -/
def execDescSnapshotCopy (e : EngineNo) (s : State) : Host.Outcome State Fault Refusal := s.act fun t => t.descSnapCopy e

/-- DESC_SNAPSHOT_DROP (R425). -/
def execDescSnapshotDrop (e : EngineNo) (s : State) : Host.Outcome State Fault Refusal := s.act fun t => t.descSnapDrop e

/-- DESC_VSYNC (R421). -/
def execDescVsync (e : EngineNo) (s : State) : Host.Outcome State Fault Refusal := s.act fun t => t.descVsync e

/-- DESC_PROBE (R421). -/
def execDescProbe (e : EngineNo) (s : State) : Host.Outcome State Fault Refusal := s.act fun t => t.descProbe e

/-- DESC_USER (R421). -/
def execDescUser (e : EngineNo) (status : BitVec 16) (result : DWord) (s : State) : Host.Outcome State Fault Refusal :=
  s.act fun t => t.descUser e status result

/-- IRQ_COALESCE_TIMEOUT (R417). -/
def execIrqCoalesceTimeout (q : Fin 64) (s : State) : Host.Outcome State Fault Refusal := s.act fun t => t.coalesce q

/-- HMP_RESPONSE (R427). -/
def execHmpResponse (tag : BitVec 8) (stat : BitVec 2) (data : Line) (s : State) : Host.Outcome State Fault Refusal :=
  s.act fun t => t.hmpResponse tag stat data

/-- HMP_TIMEOUT (R427). -/
def execHmpTimeout (tag : BitVec 8) (s : State) : Host.Outcome State Fault Refusal := s.act fun t => t.hmpTimeout tag

/-- DRE_SQ_CFG_WRITE (R432). -/
def execDreSqCfgWrite (p : Path) (q : Fin 64) (v : Word) (s : State) : Host.Outcome State Fault Refusal :=
  s.act fun t => t.writeReg p (sqPage q + 0x08) v

/-- DRE_CQ_CFG_WRITE (R433). -/
def execDreCqCfgWrite (p : Path) (q : Fin 64) (v : Word) (s : State) : Host.Outcome State Fault Refusal :=
  s.act fun t => t.writeReg p (cqPage q + 0x08) v

/-- DRE_VEC_CTL_WRITE (R417). -/
def execDreVecCtlWrite (p : Path) (vec : Fin 64) (v : Word) (s : State) : Host.Outcome State Fault Refusal :=
  s.act fun t => t.writeReg p (vecPage vec + 0x0C) v

end Sys2Proof.Machine
end

