-- ==== Sys2Proof/Machine/DtiCmds.lean ====
section
/-! DEFINITION. The commands of the deep tier and the deep port (R312–R338). -/

namespace Sys2Proof.Machine

/-- FILL_ISSUE (R316). -/
def execFillIssue (s : State) : Host.Outcome State Fault Refusal := s.act State.fillIssue

/-- SLOT_EVICT (R317). -/
def execSlotEvict (slot : Nat) (s : State) : Host.Outcome State Fault Refusal := s.act fun t => t.slotEvict slot

/-- FILL_COMPLETE (R316). -/
def execFillComplete (sb : Nat) (s : State) : Host.Outcome State Fault Refusal := s.act fun t => t.fillComplete sb

/-- SEAL_FLUSH (R327). -/
def execSealFlush (seg : Nat) (s : State) : Host.Outcome State Fault Refusal := s.act fun t => t.sealFlush seg

/-- SEAL_DONE (R327). -/
def execSealDone (seg : Nat) (s : State) : Host.Outcome State Fault Refusal := s.act fun t => t.sealDone seg

/-- DTI_PUB_GO (R329). -/
def execDtiPubGo (p : Path) (s : State) : Host.Outcome State Fault Refusal := s.act fun t => t.writeReg p 0x0E0038 1

/-- DP_COMMAND_ISSUE (R332). -/
def execDpCommandIssue (s : State) : Host.Outcome State Fault Refusal := s.act State.dpIssue

/-- DP_READ_BEAT (R331). -/
def execDpReadBeat (id : BitVec 12) (beat : BitVec 6) (data : Line) (s : State) : Host.Outcome State Fault Refusal :=
  s.act fun t => t.dpBeat id beat data

/-- DP_COMPLETION (R331). -/
def execDpCompletion (id : BitVec 12) (stat : BitVec 3) (sb : BitVec 256) (s : State) : Host.Outcome State Fault Refusal :=
  s.act fun t => t.dpComplete id stat sb

/-- DP_TIMEOUT (R333). -/
def execDpTimeout (id : BitVec 12) (s : State) : Host.Outcome State Fault Refusal := s.act fun t => t.dpTimeout id

/-- PORT_RESET (R333). -/
def execPortReset (p : Path) (s : State) : Host.Outcome State Fault Refusal := s.act fun t => t.writeReg p 0x0E0040 1

end Sys2Proof.Machine
end

