-- ==== Sys2Proof/Machine/EccCmds.lean ====
section
/-! DEFINITION. The commands of ECC, Sounding, spare capacity and the heal table (R262–R293). -/

namespace Sys2Proof.Machine

/-- ECC_CMD with GO and one OP, the other fields as the word holds them (R290). -/
def State.eccOp (s : State) (p : Path) (op : Nat) (v : Word) : State :=
  s.writeReg p 0x090010 ((v &&& 0x0FBFE00F) ||| at_ op 28 3 ||| 0x80000000)

/-- SOUNDING_PASS_START (R278). -/
def execSoundingPassStart (s : State) : Host.Outcome State Fault Refusal := s.act State.passBegins

/-- SOUNDING_READ (R279). -/
def execSoundingRead (c : Sub) (_ : Unit) (s : State) : Host.Outcome State Fault Refusal := s.act fun t => t.soundingRead c

/-- ECC_RETIRE_ROW (R282). -/
def execEccRetireRow (p : Path) (v : Word) (s : State) : Host.Outcome State Fault Refusal := s.act fun t => t.eccOp p 1 v

/-- ECC_MARK_DEV (R270). -/
def execEccMarkDev (p : Path) (v : Word) (s : State) : Host.Outcome State Fault Refusal := s.act fun t => t.eccOp p 2 v

/-- ECC_SPARE_BANK (R284). -/
def execEccSpareBank (p : Path) (v : Word) (s : State) : Host.Outcome State Fault Refusal := s.act fun t => t.eccOp p 3 v

/-- ECC_SPARE_RANK (R284). -/
def execEccSpareRank (p : Path) (v : Word) (s : State) : Host.Outcome State Fault Refusal := s.act fun t => t.eccOp p 4 v

/-- ECC_RETIRE_PE (R286). -/
def execEccRetirePe (p : Path) (v : Word) (s : State) : Host.Outcome State Fault Refusal := s.act fun t => t.eccOp p 5 v

/-- ECC_MARK_WRITE (R270). -/
def execEccMarkWrite (p : Path) (c : Sub) (v : Word) (s : State) : Host.Outcome State Fault Refusal :=
  s.act fun t => t.writeReg p (0x090100 + 4 * c.val) v

/-- SPARE_COPY (R284). -/
def execSpareCopy (ch : Fin 16) (s : State) : Host.Outcome State Fault Refusal := s.act fun t => t.spareCopy ch.val

/-- WQ_HEAL_FETCH (R277). -/
def execWqHealFetch (leaf : Nat) (s : State) : Host.Outcome State Fault Refusal := s.act fun t => t.healFetch leaf

/-- HEAL_TIMEOUT (R277). -/
def execHealTimeout (leaf : Nat) (s : State) : Host.Outcome State Fault Refusal := s.act fun t => t.healTimeout leaf

end Sys2Proof.Machine
end

