-- ==== Sys2Proof/Machine/HostCmds.lean ====
section
/-! DEFINITION. The commands of the host ports: requests, the acknowledgement of a response, a hold slot's time-out, and the
two watches of the boundary queues (R20, R52–R66). -/

namespace Sys2Proof.Machine

/-! ### Requests (R57–R61) -/

/-- A request arrives at its port, and the block goes on with it. -/
def State.hostCmd (s : State) (op : HostOp) (q : HostReq) : Host.Outcome State Fault Refusal :=
  s.act fun t => t.hostArrive op q

/-- READ (R57). -/
def execRead (q : HostReq) (s : State) : Host.Outcome State Fault Refusal := s.hostCmd .read q

/-- WRITE (R57). -/
def execWrite (q : HostReq) (s : State) : Host.Outcome State Fault Refusal := s.hostCmd .write q

/-- WRITE_FULL (R57). -/
def execWriteFull (q : HostReq) (s : State) : Host.Outcome State Fault Refusal := s.hostCmd .writeFull q

/-- ATOM_CAS8 (R58). -/
def execAtomCas8 (q : HostReq) (s : State) : Host.Outcome State Fault Refusal := s.hostCmd (.atom .cas8) q

/-- ATOM_CAS16 (R58). -/
def execAtomCas16 (q : HostReq) (s : State) : Host.Outcome State Fault Refusal := s.hostCmd (.atom .cas16) q

/-- ATOM_FADD (R58). -/
def execAtomFadd (q : HostReq) (s : State) : Host.Outcome State Fault Refusal := s.hostCmd (.atom .fadd) q

/-- ATOM_SWAP (R58). -/
def execAtomSwap (q : HostReq) (s : State) : Host.Outcome State Fault Refusal := s.hostCmd (.atom .swap) q

/-- ATOM_AND (R58). -/
def execAtomAnd (q : HostReq) (s : State) : Host.Outcome State Fault Refusal := s.hostCmd (.atom .and) q

/-- ATOM_OR (R58). -/
def execAtomOr (q : HostReq) (s : State) : Host.Outcome State Fault Refusal := s.hostCmd (.atom .or) q

/-- RESV_LD (R93). -/
def execResvLd (q : HostReq) (s : State) : Host.Outcome State Fault Refusal := s.hostCmd .resvLd q

/-- COND_ST (R96). -/
def execCondSt (q : HostReq) (s : State) : Host.Outcome State Fault Refusal := s.hostCmd .condSt q

/-- OFENCE (R86). -/
def execOfence (q : HostReq) (s : State) : Host.Outcome State Fault Refusal := s.hostCmd .ofence q

/-- PFENCE (R118). -/
def execPfence (q : HostReq) (s : State) : Host.Outcome State Fault Refusal := s.hostCmd .pfence q

/-- STAGE_HINT (R60). -/
def execStageHint (q : HostReq) (s : State) : Host.Outcome State Fault Refusal := s.hostCmd .stageHint q

/-- CFG_RD (R451). -/
def execCfgRd (q : HostReq) (s : State) : Host.Outcome State Fault Refusal := s.hostCmd .cfgRd q

/-- CFG_WR (R451). -/
def execCfgWr (q : HostReq) (s : State) : Host.Outcome State Fault Refusal := s.hostCmd .cfgWr q

/-- RQ_OP of a request is reserved, or it is that of ATOM with a reserved OP (R57, R65). -/
def badCode (op : BitVec 4) (q : HostReq) : Bool := decide (0xB ≤ op.toNat) || (op == 3 && decide (6 ≤ q.attr.toNat % 8))

/-- BAD_OPCODE (R65): accepted and answered like any request. -/
def execBadOpcode (op : BitVec 4) (q : HostReq) (s : State) : Host.Outcome State Fault Refusal :=
  s.act fun t => if badCode op q then t.hostArrive (.bad op) q else t

/-! ### Responses and hold slots -/

/-- HOST_RESPONSE_ACK (R54, R62): the response on the RS wires is taken and its tag is free; the handshake counts
(R478). -/
def State.responseAck (s : State) (p : Fin 16) : State :=
  let port := s.port p
  match port.egress with
  | [] => s
  | r :: rest =>
    let next := !rest.isEmpty
    ((s.setPort p { port with
      egress := rest, tags := adel port.tags r.tag.toNat, rsAck := !port.rsAck, rsReq := port.rsReq != next }).qOut (.hpxEgress p)).count 1 1 p 1

/-- HOST_RESPONSE_ACK (R62). -/
def execHostResponseAck (port : Fin 16) (s : State) : Host.Outcome State Fault Refusal := s.act fun t => t.responseAck port

/-- The bearing hint of a held request as R177 and R319 compute it now: those recorded for the same leaf or sub-block before
it are counted (R66). -/
def State.heldHint (s : State) (h : Held) : BitVec 16 × State :=
  match h.on with
  | .leaf l => s.leafHint l h.w.no false
  | .sub g k => (s.fillHint g k h.w.no false, s)

/-- HOLD_TIMEOUT (R66): a held request is answered DEFER HOLD_TMO after it was accepted. -/
def State.holdExpires (s : State) (p : Fin 16) (tag : BitVec 12) : State :=
  match (s.port p).held.find? fun h => h.tag == tag with
  | none => s
  | some h =>
    let s1 := s.until_ (h.since + h.tmo)
    let x := s1.heldHint h
    let port := x.2.port p
    let s2 := x.2.setPort p { port with held := port.held.filter fun k => k.tag != tag }
    (((s2.event 0x020200 4).countDefer h.on)).respondDefer p tag x.1

/-- HOLD_TIMEOUT (R66). -/
def execHoldTimeout (port : Fin 16) (tag : BitVec 12) (s : State) : Host.Outcome State Fault Refusal :=
  s.act fun t => t.holdExpires port tag

/-! ### The boundary queues (R20) -/

/-- IDLE_ITEM (R20). -/
def execIdleItem (q : Queue) (s : State) : Host.Outcome State Fault Refusal := s.act fun t => t.idleItem q

/-- QUEUE_SILENT (R20). -/
def execQueueSilent (q : Queue) (s : State) : Host.Outcome State Fault Refusal := s.act fun t => t.queueSilent q

end Sys2Proof.Machine
end

