-- ==== Sys2Proof/Machine/MemCmds.lean ====
section
/-! DEFINITION. The memory, atomic and branch instructions of a Pilot (R396–R398, R400, R403–R405). -/

namespace Sys2Proof.Machine

/-- An instruction of a running engine that goes beyond its registers (R399): an illegal one raises ILLEGAL. -/
def State.pilotOp (s : State) (e : EngineNo) (legal : Bool) (f : State → State) : Host.Outcome State Fault Refusal :=
  s.act fun t => if !t.issues e then t else if legal then f t else t.illegal e

/-- The bytes a SIZE names (R398). -/
def mSize (size : BitVec 3) : Nat := 2 ^ size.toNat

/-- A store of the M format: its bytes as a number of the engine's registers. -/
def State.storeCmd (s : State) (e : EngineNo) (legal : Bool) (rs1 : BitVec 5) (off : BitVec 13) (n : Nat) (v : Engine → Nat) :
    Host.Outcome State Fault Refusal :=
  s.pilotOp e legal fun t => t.storeOp e ((t.engine e).memAddr rs1 off) n (v (t.engine e))

/-- A load of the M format: it issues when the engine waits for nothing, or behind other plain loads (R82, R89). -/
def State.loadCmd (s : State) (e : EngineNo) (legal : Bool) (rs1 : BitVec 5) (off : BitVec 13) (kind : LoadKind) :
    Host.Outcome State Fault Refusal :=
  s.act fun t =>
    let a := (t.engine e).memAddr rs1 off
    if !t.issues e then (if legal && t.issuesLoad e rs1 a then t.loadOp e kind a else t)
    else if legal then t.loadOp e kind a
    else t.illegal e

/-- A far atomic at the address in rs1. -/
def State.farCmd (s : State) (e : EngineNo) (legal : Bool) (op : AtomOp) (rd rs1 rs2 : BitVec 5) : Host.Outcome State Fault Refusal :=
  s.pilotOp e legal fun t => t.farOp e (.atom op rd ((t.engine e).farData op rd rs2)) ((t.engine e).reg rs1).toNat

/-- A branch with its condition on rs1 (R400). -/
def State.branchCmd (s : State) (e : EngineNo) (legal : Bool) (rs1 : BitVec 5) (woff : BitVec 16) (taken : DWord → Bool) :
    Host.Outcome State Fault Refusal :=
  s.within fun t => if !t.issues e then t else if legal then t.updEngine e fun n => n.branch (taken (n.reg rs1)) woff else t.illegal e

/-- A jump through a register (R400): a target that is no multiple of 4 raises MISALIGNED. -/
def State.jumpCmd (s : State) (e : EngineNo) (legal : Bool) (rs1 : BitVec 5) (imm : BitVec 16) (f : Engine → Engine) :
    Host.Outcome State Fault Refusal :=
  s.within fun t =>
    if !t.issues e then t
    else if !legal then t.illegal e
    else
      let a := (t.engine e).jumpTarget rs1 imm
      if a.toNat % 4 != 0 then t.misaligned e a.toNat else t.updEngine e fun n => { f n with pc := a }

/-- LD (R397, R405). -/
def execLd (e : EngineNo) (rd rs1 : BitVec 5) (size : BitVec 3) (off : BitVec 13) (s : State) : Host.Outcome State Fault Refusal :=
  s.loadCmd e (legalSize size) rs1 off (.gpr rd (mSize size) true)

/-- LDU (R397, R405). -/
def execLdu (e : EngineNo) (rd rs1 : BitVec 5) (size : BitVec 3) (off : BitVec 13) (s : State) : Host.Outcome State Fault Refusal :=
  s.loadCmd e (legalSize size) rs1 off (.gpr rd (mSize size) false)

/-- ST (R80, R397, R405). -/
def execSt (e : EngineNo) (rd rs1 : BitVec 5) (size : BitVec 3) (off : BitVec 13) (s : State) : Host.Outcome State Fault Refusal :=
  s.storeCmd e (legalSize size) rs1 off (mSize size) fun n => (n.reg rd).toNat

/-- LDP (R400). -/
def execLdp (e : EngineNo) (rd rs1 : BitVec 5) (size : BitVec 3) (off : BitVec 13) (s : State) : Host.Outcome State Fault Refusal :=
  s.loadCmd e (legalPair rd size) rs1 off (.pair rd)

/-- STP (R400). -/
def execStp (e : EngineNo) (rd rs1 : BitVec 5) (size : BitVec 3) (off : BitVec 13) (s : State) : Host.Outcome State Fault Refusal :=
  s.storeCmd e (legalPair rd size) rs1 off 16 fun n => (n.reg rd).toNat + (n.reg (rd + 1)).toNat * 2 ^ 64

/-- VLD (R400). -/
def execVld (e : EngineNo) (rd rs1 : BitVec 5) (size : BitVec 3) (off : BitVec 13) (s : State) : Host.Outcome State Fault Refusal :=
  s.loadCmd e (legalVmem rd size) rs1 off (.vec (rd.setWidth 4))

/-- VST (R400). -/
def execVst (e : EngineNo) (rd rs1 : BitVec 5) (size : BitVec 3) (off : BitVec 13) (s : State) : Host.Outcome State Fault Refusal :=
  s.storeCmd e (legalVmem rd size) rs1 off 64 fun n => (n.vec (rd.setWidth 4)).toNat

/-- LDR (R93, R404). -/
def execLdr (e : EngineNo) (rd rs1 _rs2 : BitVec 5) (func : BitVec 11) (s : State) : Host.Outcome State Fault Refusal :=
  s.pilotOp e (legalResv func) fun t => t.farOp e (.resv rd) ((t.engine e).reg rs1).toNat

/-- STC (R96, R404). -/
def execStc (e : EngineNo) (rd rs1 rs2 : BitVec 5) (func : BitVec 11) (s : State) : Host.Outcome State Fault Refusal :=
  s.pilotOp e (legalResv func) fun t => t.farOp e (.cond rd ((t.engine e).reg rs2)) ((t.engine e).reg rs1).toNat

/-- FAR_CAS8 (R403). -/
def execFarCas8 (e : EngineNo) (rd rs1 rs2 : BitVec 5) (func : BitVec 11) (s : State) : Host.Outcome State Fault Refusal :=
  s.farCmd e (legalFar func) .cas8 rd rs1 rs2

/-- FAR_CAS16 (R403). -/
def execFarCas16 (e : EngineNo) (rd rs1 rs2 : BitVec 5) (func : BitVec 11) (s : State) : Host.Outcome State Fault Refusal :=
  s.farCmd e (legalFar16 rd rs2 func) .cas16 rd rs1 rs2

/-- FAR_FADD (R403). -/
def execFarFadd (e : EngineNo) (rd rs1 rs2 : BitVec 5) (func : BitVec 11) (s : State) : Host.Outcome State Fault Refusal :=
  s.farCmd e (legalFar func) .fadd rd rs1 rs2

/-- FAR_SWAP (R403). -/
def execFarSwap (e : EngineNo) (rd rs1 rs2 : BitVec 5) (func : BitVec 11) (s : State) : Host.Outcome State Fault Refusal :=
  s.farCmd e (legalFar func) .swap rd rs1 rs2

/-- FAR_AND (R403). -/
def execFarAnd (e : EngineNo) (rd rs1 rs2 : BitVec 5) (func : BitVec 11) (s : State) : Host.Outcome State Fault Refusal :=
  s.farCmd e (legalFar func) .and rd rs1 rs2

/-- FAR_OR (R403). -/
def execFarOr (e : EngineNo) (rd rs1 rs2 : BitVec 5) (func : BitVec 11) (s : State) : Host.Outcome State Fault Refusal :=
  s.farCmd e (legalFar func) .or rd rs1 rs2

/-- BCOND_EQZ (R400). -/
def execBcondEqz (e : EngineNo) (rs1 : BitVec 5) (z : BitVec 1) (woff : BitVec 16) (s : State) : Host.Outcome State Fault Refusal :=
  s.branchCmd e (legalBranch z) rs1 woff fun a => a == 0

/-- BCOND_NEZ (R400). -/
def execBcondNez (e : EngineNo) (rs1 : BitVec 5) (z : BitVec 1) (woff : BitVec 16) (s : State) : Host.Outcome State Fault Refusal :=
  s.branchCmd e (legalBranch z) rs1 woff fun a => a != 0

/-- BCOND_LTZ (R400). -/
def execBcondLtz (e : EngineNo) (rs1 : BitVec 5) (z : BitVec 1) (woff : BitVec 16) (s : State) : Host.Outcome State Fault Refusal :=
  s.branchCmd e (legalBranch z) rs1 woff fun a => a.slt 0

/-- BCOND_GEZ (R400). -/
def execBcondGez (e : EngineNo) (rs1 : BitVec 5) (z : BitVec 1) (woff : BitVec 16) (s : State) : Host.Outcome State Fault Refusal :=
  s.branchCmd e (legalBranch z) rs1 woff fun a => !a.slt 0

/-- BCOND_GTZ (R400). -/
def execBcondGtz (e : EngineNo) (rs1 : BitVec 5) (z : BitVec 1) (woff : BitVec 16) (s : State) : Host.Outcome State Fault Refusal :=
  s.branchCmd e (legalBranch z) rs1 woff fun a => !a.sle 0

/-- BCOND_LEZ (R400). -/
def execBcondLez (e : EngineNo) (rs1 : BitVec 5) (z : BitVec 1) (woff : BitVec 16) (s : State) : Host.Outcome State Fault Refusal :=
  s.branchCmd e (legalBranch z) rs1 woff fun a => a.sle 0

/-- BCOND_ODD (R400). -/
def execBcondOdd (e : EngineNo) (rs1 : BitVec 5) (z : BitVec 1) (woff : BitVec 16) (s : State) : Host.Outcome State Fault Refusal :=
  s.branchCmd e (legalBranch z) rs1 woff fun a => a.getLsbD 0

/-- BCOND_EVEN (R400). -/
def execBcondEven (e : EngineNo) (rs1 : BitVec 5) (z : BitVec 1) (woff : BitVec 16) (s : State) : Host.Outcome State Fault Refusal :=
  s.branchCmd e (legalBranch z) rs1 woff fun a => !a.getLsbD 0

/-- BCOND_ALWAYS (R400). -/
def execBcondAlways (e : EngineNo) (rs1 : BitVec 5) (z : BitVec 1) (woff : BitVec 16) (s : State) : Host.Outcome State Fault Refusal :=
  s.branchCmd e (legalAlways rs1 z) rs1 woff fun _ => true

/-- CALL (R400). -/
def execCall (e : EngineNo) (rd : BitVec 5) (woff : BitVec 21) (s : State) : Host.Outcome State Fault Refusal :=
  s.within fun t =>
    if t.issues e then t.updEngine e fun n => (n.setG rd n.link).branch true (woff.setWidth 16) else t

/-- JUMPR (R400). -/
def execJumpr (e : EngineNo) (rd rs1 : BitVec 5) (imm : BitVec 16) (s : State) : Host.Outcome State Fault Refusal :=
  s.jumpCmd e (legalJumpr rd) rs1 imm id

/-- CALLR (R400). -/
def execCallr (e : EngineNo) (rd rs1 : BitVec 5) (imm : BitVec 16) (s : State) : Host.Outcome State Fault Refusal :=
  s.jumpCmd e true rs1 imm fun n => n.setG rd n.link

end Sys2Proof.Machine
end

