-- ==== Sys2Proof/Machine/PeaCmds.lean ====
section
/-! DEFINITION. The commands of the engine pages and the events at an engine's memory port (R80–R87, R366–R368, R404, R405). -/

namespace Sys2Proof.Machine

/-- PEA_START (R368, R395). -/
def execPeaStart (p : Path) (e : EngineNo) (s : State) : Host.Outcome State Fault Refusal :=
  s.act fun t => t.writeReg p (peaPage e) 1

/-- PEA_STOP (R368). -/
def execPeaStop (p : Path) (e : EngineNo) (s : State) : Host.Outcome State Fault Refusal :=
  s.act fun t => t.writeReg p (peaPage e) 2

/-- PEA_LOAD (R366). -/
def execPeaLoad (p : Path) (e : EngineNo) (s : State) : Host.Outcome State Fault Refusal :=
  s.act fun t => t.writeReg p (peaPage e) 4

/-- PEA_RESET (R368). -/
def execPeaReset (p : Path) (e : EngineNo) (s : State) : Host.Outcome State Fault Refusal :=
  s.act fun t => t.writeReg p (peaPage e) 8

/-- PEA_IMG (R366, R367). -/
def execPeaImg (p : Path) (e : EngineNo) (v : Word) (s : State) : Host.Outcome State Fault Refusal :=
  s.act fun t => t.writeReg p (peaPage e + 0x100) v

/-- STOP_DONE (R368). -/
def execStopDone (e : EngineNo) (s : State) : Host.Outcome State Fault Refusal := s.act fun t => t.stopDone e

/-- PILOT_STORE_RESPONSE (R84, R87). -/
def execPilotStoreResponse (e : EngineNo) (s : State) : Host.Outcome State Fault Refusal := s.act fun t => t.storeResponse e

/-- STORE_BUFFER_AGE_ISSUE (R80). -/
def execStoreBufferAgeIssue (e : EngineNo) (s : State) : Host.Outcome State Fault Refusal := s.act fun t => t.ageIssue e

/-- PILOT_LOAD_DATA (R405). -/
def execPilotLoadData (e : EngineNo) (s : State) : Host.Outcome State Fault Refusal := s.act fun t => t.loadData e

/-- PILOT_DEFER_RETRY (R405). -/
def execPilotDeferRetry (e : EngineNo) (s : State) : Host.Outcome State Fault Refusal := s.act fun t => t.deferRetry e

/-- CONDITIONAL_STORE_RESPONSE (R404, R405). -/
def execConditionalStoreResponse (e : EngineNo) (s : State) : Host.Outcome State Fault Refusal := s.act fun t => t.condData e

/-- PILOT_FENCE_DONE (R86, R87, R119). -/
def execPilotFenceDone (e : EngineNo) (s : State) : Host.Outcome State Fault Refusal := s.act fun t => t.fenceDone e

end Sys2Proof.Machine
end

