-- ==== Sys2Proof/Machine/ScalarCmds.lean ====
section
/-! DEFINITION. The scalar register instructions of a Pilot (R398–R401). -/

namespace Sys2Proof.Machine

/-- A register operation (R401, R408): a running engine whose fields are legal has its new registers and its pc past the
instruction; an illegal one raises ILLEGAL (R399). -/
def State.regOp (s : State) (e : EngineNo) (legal : Bool) (f : Engine → Engine) : Host.Outcome State Fault Refusal :=
  s.within fun t => if !t.issues e then t else if legal then t.updEngine e fun n => (f n).next else t.illegal e

/-- A two-operand result into rd. -/
def State.alu2 (s : State) (e : EngineNo) (rd rs1 rs2 : BitVec 5) (f : DWord → DWord → DWord) : Host.Outcome State Fault Refusal :=
  s.regOp e true fun n => n.setG rd (f (n.reg rs1) (n.reg rs2))

/-- A one-operand result into rd: the rs2 field is zero. -/
def State.alu1 (s : State) (e : EngineNo) (rd rs1 rs2 : BitVec 5) (f : DWord → DWord) : Host.Outcome State Fault Refusal :=
  s.regOp e (legalUnary rs2) fun n => n.setG rd (f (n.reg rs1))

/-- A division: its result, and its result for a divisor of zero (R401). -/
def State.aluDiv (s : State) (e : EngineNo) (rd rs1 rs2 : BitVec 5) (zero f : DWord → DWord → DWord) : Host.Outcome State Fault Refusal :=
  s.regOp e true fun n => n.divide rd (n.reg rs2) (zero (n.reg rs1) (n.reg rs2)) (f (n.reg rs1) (n.reg rs2))

/-- A result of rs1 and the immediate into rd. -/
def State.aluImm (s : State) (e : EngineNo) (legal : Bool) (rd rs1 : BitVec 5) (f : DWord → DWord) : Host.Outcome State Fault Refusal :=
  s.regOp e legal fun n => n.setG rd (f (n.reg rs1))

/-- ADD (R401). -/
def execAdd (e : EngineNo) (rd rs1 rs2 : BitVec 5) (s : State) : Host.Outcome State Fault Refusal :=
  s.alu2 e rd rs1 rs2 fun a b => a + b

/-- SUB (R401). -/
def execSub (e : EngineNo) (rd rs1 rs2 : BitVec 5) (s : State) : Host.Outcome State Fault Refusal :=
  s.alu2 e rd rs1 rs2 fun a b => a - b

/-- AND (R401). -/
def execAnd (e : EngineNo) (rd rs1 rs2 : BitVec 5) (s : State) : Host.Outcome State Fault Refusal :=
  s.alu2 e rd rs1 rs2 fun a b => a &&& b

/-- OR (R401). -/
def execOr (e : EngineNo) (rd rs1 rs2 : BitVec 5) (s : State) : Host.Outcome State Fault Refusal :=
  s.alu2 e rd rs1 rs2 fun a b => a ||| b

/-- XOR (R401). -/
def execXor (e : EngineNo) (rd rs1 rs2 : BitVec 5) (s : State) : Host.Outcome State Fault Refusal :=
  s.alu2 e rd rs1 rs2 fun a b => a ^^^ b

/-- SLL (R401). -/
def execSll (e : EngineNo) (rd rs1 rs2 : BitVec 5) (s : State) : Host.Outcome State Fault Refusal :=
  s.alu2 e rd rs1 rs2 fun a b => a <<< (b.toNat % 64)

/-- SRL (R401). -/
def execSrl (e : EngineNo) (rd rs1 rs2 : BitVec 5) (s : State) : Host.Outcome State Fault Refusal :=
  s.alu2 e rd rs1 rs2 fun a b => a >>> (b.toNat % 64)

/-- SRA (R401). -/
def execSra (e : EngineNo) (rd rs1 rs2 : BitVec 5) (s : State) : Host.Outcome State Fault Refusal :=
  s.alu2 e rd rs1 rs2 fun a b => a.sshiftRight (b.toNat % 64)

/-- CMPLT (R401). -/
def execCmplt (e : EngineNo) (rd rs1 rs2 : BitVec 5) (s : State) : Host.Outcome State Fault Refusal :=
  s.alu2 e rd rs1 rs2 fun a b => boolWord (a.slt b)

/-- CMPLTU (R401). -/
def execCmpltu (e : EngineNo) (rd rs1 rs2 : BitVec 5) (s : State) : Host.Outcome State Fault Refusal :=
  s.alu2 e rd rs1 rs2 fun a b => boolWord (a.ult b)

/-- MUL (R401). -/
def execMul (e : EngineNo) (rd rs1 rs2 : BitVec 5) (s : State) : Host.Outcome State Fault Refusal :=
  s.alu2 e rd rs1 rs2 fun a b => a * b

/-- MULHU (R401). -/
def execMulhu (e : EngineNo) (rd rs1 rs2 : BitVec 5) (s : State) : Host.Outcome State Fault Refusal :=
  s.alu2 e rd rs1 rs2 fun a b => mulHigh a b

/-- DIVU (R401). -/
def execDivu (e : EngineNo) (rd rs1 rs2 : BitVec 5) (s : State) : Host.Outcome State Fault Refusal :=
  s.aluDiv e rd rs1 rs2 (fun _ _ => 0) fun a b => a / b

/-- REMU (R401). -/
def execRemu (e : EngineNo) (rd rs1 rs2 : BitVec 5) (s : State) : Host.Outcome State Fault Refusal :=
  s.aluDiv e rd rs1 rs2 (fun a _ => a) fun a b => a % b

/-- DIV (R401). -/
def execDiv (e : EngineNo) (rd rs1 rs2 : BitVec 5) (s : State) : Host.Outcome State Fault Refusal :=
  s.aluDiv e rd rs1 rs2 (fun _ _ => 0) fun a b => a.sdiv b

/-- REM (R401). -/
def execRem (e : EngineNo) (rd rs1 rs2 : BitVec 5) (s : State) : Host.Outcome State Fault Refusal :=
  s.aluDiv e rd rs1 rs2 (fun a _ => a) fun a b => a.srem b

/-- MIN (R401). -/
def execMin (e : EngineNo) (rd rs1 rs2 : BitVec 5) (s : State) : Host.Outcome State Fault Refusal :=
  s.alu2 e rd rs1 rs2 fun a b => if a.sle b then a else b

/-- MAX (R401). -/
def execMax (e : EngineNo) (rd rs1 rs2 : BitVec 5) (s : State) : Host.Outcome State Fault Refusal :=
  s.alu2 e rd rs1 rs2 fun a b => if a.sle b then b else a

/-- MINU (R401). -/
def execMinu (e : EngineNo) (rd rs1 rs2 : BitVec 5) (s : State) : Host.Outcome State Fault Refusal :=
  s.alu2 e rd rs1 rs2 fun a b => if a.ule b then a else b

/-- MAXU (R401). -/
def execMaxu (e : EngineNo) (rd rs1 rs2 : BitVec 5) (s : State) : Host.Outcome State Fault Refusal :=
  s.alu2 e rd rs1 rs2 fun a b => if a.ule b then b else a

/-- CLZ (R401). -/
def execClz (e : EngineNo) (rd rs1 rs2 : BitVec 5) (s : State) : Host.Outcome State Fault Refusal :=
  s.alu1 e rd rs1 rs2 clz64

/-- CTZ (R401). -/
def execCtz (e : EngineNo) (rd rs1 rs2 : BitVec 5) (s : State) : Host.Outcome State Fault Refusal :=
  s.alu1 e rd rs1 rs2 ctz64

/-- POPC (R401). -/
def execPopc (e : EngineNo) (rd rs1 rs2 : BitVec 5) (s : State) : Host.Outcome State Fault Refusal :=
  s.alu1 e rd rs1 rs2 popc64

/-- BSWAP (R401). -/
def execBswap (e : EngineNo) (rd rs1 rs2 : BitVec 5) (s : State) : Host.Outcome State Fault Refusal :=
  s.alu1 e rd rs1 rs2 bswap64

/-- CRC (R401). -/
def execCrc (e : EngineNo) (rd rs1 rs2 : BitVec 5) (s : State) : Host.Outcome State Fault Refusal :=
  s.alu2 e rd rs1 rs2 fun a b => crc64 a b

/-- CMPEQ (R401). -/
def execCmpeq (e : EngineNo) (rd rs1 rs2 : BitVec 5) (s : State) : Host.Outcome State Fault Refusal :=
  s.alu2 e rd rs1 rs2 fun a b => boolWord (a == b)

/-- CMPLE (R401). -/
def execCmple (e : EngineNo) (rd rs1 rs2 : BitVec 5) (s : State) : Host.Outcome State Fault Refusal :=
  s.alu2 e rd rs1 rs2 fun a b => boolWord (a.sle b)

/-- CMPLEU (R401). -/
def execCmpleu (e : EngineNo) (rd rs1 rs2 : BitVec 5) (s : State) : Host.Outcome State Fault Refusal :=
  s.alu2 e rd rs1 rs2 fun a b => boolWord (a.ule b)

/-- ADDI (R398, R400). -/
def execAddi (e : EngineNo) (rd rs1 : BitVec 5) (imm : BitVec 16) (s : State) : Host.Outcome State Fault Refusal :=
  s.aluImm e true rd rs1 fun a => a + imm.signExtend 64

/-- ANDI (R398, R400). -/
def execAndi (e : EngineNo) (rd rs1 : BitVec 5) (imm : BitVec 16) (s : State) : Host.Outcome State Fault Refusal :=
  s.aluImm e true rd rs1 fun a => a &&& imm.setWidth 64

/-- ORI (R398, R400). -/
def execOri (e : EngineNo) (rd rs1 : BitVec 5) (imm : BitVec 16) (s : State) : Host.Outcome State Fault Refusal :=
  s.aluImm e true rd rs1 fun a => a ||| imm.setWidth 64

/-- XORI (R398, R400). -/
def execXori (e : EngineNo) (rd rs1 : BitVec 5) (imm : BitVec 16) (s : State) : Host.Outcome State Fault Refusal :=
  s.aluImm e true rd rs1 fun a => a ^^^ imm.setWidth 64

/-- CMPLTI (R398, R400). -/
def execCmplti (e : EngineNo) (rd rs1 : BitVec 5) (imm : BitVec 16) (s : State) : Host.Outcome State Fault Refusal :=
  s.aluImm e true rd rs1 fun a => boolWord (a.slt (imm.signExtend 64))

/-- CMPLTUI (R398, R400). -/
def execCmpltui (e : EngineNo) (rd rs1 : BitVec 5) (imm : BitVec 16) (s : State) : Host.Outcome State Fault Refusal :=
  s.aluImm e true rd rs1 fun a => boolWord (a.ult (imm.signExtend 64))

/-- SHI_SLL (R398, R400). -/
def execShiSll (e : EngineNo) (rd rs1 : BitVec 5) (imm : BitVec 16) (s : State) : Host.Outcome State Fault Refusal :=
  s.aluImm e (legalShi imm) rd rs1 fun a => a <<< (imm.toNat % 64)

/-- SHI_SRL (R398, R400). -/
def execShiSrl (e : EngineNo) (rd rs1 : BitVec 5) (imm : BitVec 16) (s : State) : Host.Outcome State Fault Refusal :=
  s.aluImm e (legalShi imm) rd rs1 fun a => a >>> (imm.toNat % 64)

/-- SHI_SRA (R398, R400). -/
def execShiSra (e : EngineNo) (rd rs1 : BitVec 5) (imm : BitVec 16) (s : State) : Host.Outcome State Fault Refusal :=
  s.aluImm e (legalShi imm) rd rs1 fun a => a.sshiftRight (imm.toNat % 64)

/-- SHI_ROR (R398, R400). -/
def execShiRor (e : EngineNo) (rd rs1 : BitVec 5) (imm : BitVec 16) (s : State) : Host.Outcome State Fault Refusal :=
  s.aluImm e (legalShi imm) rd rs1 fun a => ror64 a (imm.toNat % 64)

/-- SHIN (R398, R400). -/
def execShin (e : EngineNo) (rd rs1 : BitVec 5) (imm : BitVec 16) (s : State) : Host.Outcome State Fault Refusal :=
  s.aluImm e true rd rs1 fun a => (a <<< 16) ||| imm.setWidth 64

/-- MOVI (R398, R400). -/
def execMovi (e : EngineNo) (rd rs1 : BitVec 5) (imm : BitVec 16) (s : State) : Host.Outcome State Fault Refusal :=
  s.aluImm e (legalMovi rs1) rd rs1 fun _ => imm.signExtend 64

end Sys2Proof.Machine
end

