-- ==== Sys2Proof/Machine/SgtCmds.lean ====
section
/-! DEFINITION. The commands of Sighting and of the DDR5 interface (R227–R259). -/

namespace Sys2Proof.Machine

/-- SGT_DISCOVER (R233): the write of SGT_CTL, with what the hubs answer to it. -/
def execSgtDiscover (p : Path) (hubs : List SpdModule) (s : State) : Host.Outcome State Fault Refusal :=
  s.act fun t => t.writeCmd p fun u => u.discover hubs

/-- SGT_START (R233). -/
def execSgtStart (p : Path) (s : State) : Host.Outcome State Fault Refusal := s.act fun t => t.writeReg p 0x080010 0x80000000

/-- SGT_RESIGHT (R248): RESIGHT with FULL 0, and the channel, subchannel and rank of the word. -/
def execSgtResight (p : Path) (v : Word) (s : State) : Host.Outcome State Fault Refusal :=
  s.act fun t => t.writeReg p 0x080010 ((v &&& 0x000F1300) ||| 0x20000000)

/-- SGT_RESIGHT_FULL (R251): RESIGHT with FULL 1. -/
def execSgtResightFull (p : Path) (v : Word) (s : State) : Host.Outcome State Fault Refusal :=
  s.act fun t => t.writeReg p 0x080010 ((v &&& 0x000F1300) ||| 0x30000000)

/-- SIGHT_STEP_DONE (R240). -/
def execSightStepDone (r : StepResult) (s : State) : Host.Outcome State Fault Refusal := s.act fun t => t.sightStep r

/-- SIDEBAND_CMD_GO (R235): the word with GO. -/
def execSidebandCmdGo (p : Path) (v : Word) (s : State) : Host.Outcome State Fault Refusal :=
  s.act fun t => t.writeReg p 0x080030 (v ||| 0x80000000)

/-- SIDEBAND_DONE (R234). -/
def execSidebandDone (result : BitVec 3) (data : Word) (s : State) : Host.Outcome State Fault Refusal :=
  s.act fun t => t.sidebandDone result data

/-- CA_PARITY (R238). -/
def execCaParity (c : Sub) (s : State) : Host.Outcome State Fault Refusal := s.act fun t => t.caParity c

/-- OSC_SAMPLE (R247). -/
def execOscSample (c : Sub) (counts : List (BitVec 16)) (drifts : List (BitVec 8)) (s : State) :
    Host.Outcome State Fault Refusal := s.act fun t => t.oscSample c counts drifts

/-- RESIGHT_DUE (R248). -/
def execResightDue (c : Sub) (cs : Fin 4) (s : State) : Host.Outcome State Fault Refusal := s.act fun t => t.resightDue c cs.val

/-- RESIGHT_INTERVAL (R248). -/
def execResightInterval (c : Sub) (cs : Fin 4) (s : State) : Host.Outcome State Fault Refusal :=
  s.act fun t => t.resightInterval c cs.val

/-- RESIGHT_CHUNK (R249). -/
def execResightChunk (c : Sub) (pass : Bool) (results : List (Nat × Word)) (s : State) : Host.Outcome State Fault Refusal :=
  s.act fun t => t.resightChunk c pass results

end Sys2Proof.Machine
end

