-- ==== Sys2Proof/Machine/SuaCmds.lean ====
section
/-! DEFINITION. The commands of the shared-unit arbiter and of the units it grants (R374–R387). -/

namespace Sys2Proof.Machine

/-- What an engine does with a free instance of a unit it holds (R382): its GO; nothing without a grant or while BUSY. -/
def State.unitCmd (s : State) (e : EngineNo) (u : Nat) (f : Nat → State → State) : State :=
  match s.heldInst e u with
  | some i => if s.busyInst i then s else f i s
  | none => s

/-- The same for a GO whose operation the instance's OP register names: nothing while it names another. -/
def State.unitOp (s : State) (e : EngineNo) (u op : Nat) (f : Nat → State → State) : State :=
  s.unitCmd e u fun i t => if bitsOf (t.unitReg i 0x00).toNat 0 2 = op then f i t else t

/-- The slot KJ_OP names. -/
def State.jobSlot (s : State) : Fin 64 := Fin.ofNat 64 (bitsOf (s.unitReg 27 0x00).toNat 8 6)

/-- SUA_REQUEST (R375, R376, R381). -/
def execSuaRequest (e : EngineNo) (u : Fin 6) (prio : BitVec 4) (s : State) : Host.Outcome State Fault Refusal :=
  s.act fun t => t.suaRequest e u prio.toNat

/-- SUA_WITHDRAW (R375). -/
def execSuaWithdraw (e : EngineNo) (u : Fin 6) (s : State) : Host.Outcome State Fault Refusal :=
  s.act fun t => t.dropAsk (.engine e) u

/-- SUA_RELEASE (R375): a release that is answered ERR_ACCESS frees nothing. -/
def execSuaRelease (e : EngineNo) (u : Fin 6) (s : State) : Host.Outcome State Fault Refusal :=
  s.act fun t => (t.suaRelease e u).getD t

/-- SUA_INTERNAL_REQUEST (R379). -/
def execSuaInternalRequest (who : Internal) (u : Fin 6) (s : State) : Host.Outcome State Fault Refusal :=
  s.act fun t => t.askInternal who u

/-- SUA_REQUEST_DUE (R379). -/
def execSuaRequestDue (who : Internal) (u : Fin 6) (s : State) : Host.Outcome State Fault Refusal :=
  s.act fun t => t.requestDue who u

/-- SUA_WINDOW (R377). -/
def execSuaWindow (s : State) : Host.Outcome State Fault Refusal := s.act State.suaWindow

/-- LONG_HOLD (R380). -/
def execLongHold (inst : Fin 28) (s : State) : Host.Outcome State Fault Refusal := s.act fun t => t.longHold inst

/-- MV_COPY (R382, R383). -/
def execMvCopy (e : EngineNo) (s : State) : Host.Outcome State Fault Refusal :=
  s.act fun t => t.unitOp e 0 0 fun i t => t.moverGo i e 0

/-- MV_FILL (R382, R383). -/
def execMvFill (e : EngineNo) (s : State) : Host.Outcome State Fault Refusal :=
  s.act fun t => t.unitOp e 0 1 fun i t => t.moverGo i e 1

/-- MV_SEAL (R382, R383). -/
def execMvSeal (e : EngineNo) (s : State) : Host.Outcome State Fault Refusal :=
  s.act fun t => t.unitOp e 0 2 fun i t => t.moverGo i e 2

/-- MV_ABORT (R382). -/
def execMvAbort (e : EngineNo) (s : State) : Host.Outcome State Fault Refusal :=
  s.act fun t => ((t.heldInst e 0).map t.moverAbort).getD t

/-- MOVER_DONE (R383). -/
def execMoverDone (ch : Fin 8) (s : State) : Host.Outcome State Fault Refusal := s.act fun t => t.moverDone ch

/-- SLOT_DP_READ (R384). -/
def execSlotDpRead (e : EngineNo) (s : State) : Host.Outcome State Fault Refusal :=
  s.act fun t => t.unitOp e 1 0 fun i t => t.slotGo i e 0

/-- SLOT_DP_WRITE (R384). -/
def execSlotDpWrite (e : EngineNo) (s : State) : Host.Outcome State Fault Refusal :=
  s.act fun t => t.unitOp e 1 1 fun i t => t.slotGo i e 1

/-- SLOT_DP_FLUSH (R384). -/
def execSlotDpFlush (e : EngineNo) (s : State) : Host.Outcome State Fault Refusal :=
  s.act fun t => t.unitOp e 1 2 fun i t => t.slotGo i e 2

/-- SD_PROBE (R385). -/
def execSdProbe (e : EngineNo) (addr : DWord) (s : State) : Host.Outcome State Fault Refusal :=
  s.act fun t => t.unitCmd e 2 fun _ t => t.probe addr.toNat

/-- SG_REQ (R385). -/
def execSgReq (e : EngineNo) (v : Word) (s : State) : Host.Outcome State Fault Refusal :=
  s.act fun t => t.unitCmd e 3 fun _ t => t.sgReq e v.toNat

/-- BC_GO (R153, R386). -/
def execBcGo (e : EngineNo) (s : State) : Host.Outcome State Fault Refusal :=
  s.act fun t => t.unitCmd e 4 fun _ t => t.bcGo e

/-- KJ_ZERO (R347, R386). -/
def execKjZero (e : EngineNo) (s : State) : Host.Outcome State Fault Refusal :=
  s.act fun t => t.unitOp e 5 0 fun _ t => t.kjZero t.jobSlot

/-- KJ_GCM_ENC (R353, R386). -/
def execKjGcmEnc (e : EngineNo) (s : State) : Host.Outcome State Fault Refusal :=
  s.act fun t => t.unitOp e 5 1 fun _ t => t.kjGo e 1 t.jobSlot

/-- KJ_GCM_DEC (R353, R386). -/
def execKjGcmDec (e : EngineNo) (s : State) : Host.Outcome State Fault Refusal :=
  s.act fun t => t.unitOp e 5 2 fun _ t => t.kjGo e 2 t.jobSlot

/-- KJ_GMAC (R353, R386). -/
def execKjGmac (e : EngineNo) (s : State) : Host.Outcome State Fault Refusal :=
  s.act fun t => t.unitOp e 5 3 fun _ t => t.kjGo e 3 t.jobSlot

end Sys2Proof.Machine
end

