-- ==== Sys2Proof/Machine/SweepCmds.lean ====
section
/-! DEFINITION. The Sweep instructions of a Pilot (R398, R402). -/

namespace Sys2Proof.Machine

/-- An elementwise Sweep operation (R402). -/
def State.lanes (s : State) (e : EngineNo) (f : VFields) (op : Nat → Nat → Nat → Nat) : Host.Outcome State Fault Refusal :=
  s.regOp e (legalV f) fun n => n.lanewise f op

/-- A Sweep compare (R402). -/
def State.cmpLanes (s : State) (e : EngineNo) (f : VFields) (p : Nat → Nat → Nat → Bool) : Host.Outcome State Fault Refusal :=
  s.regOp e (legalVcmp f) fun n => n.compare f p

/-- A reduction (R402). -/
def State.reduction (s : State) (e : EngineNo) (rd rs1 rs2 : BitVec 5) (func : BitVec 11) (signed : Bool) (f : Nat → Nat → Nat → Nat) :
    Host.Outcome State Fault Refusal :=
  s.regOp e (legalVred rs1 rs2 func) fun n => n.reduce rd rs1 rs2 func signed f

/-- VADD (R402). -/
def execVadd (e : EngineNo) (f : VFields) (s : State) : Host.Outcome State Fault Refusal := s.lanes e f fun _ a b => a + b

/-- VSUB (R402). -/
def execVsub (e : EngineNo) (f : VFields) (s : State) : Host.Outcome State Fault Refusal :=
  s.lanes e f fun w a b => a + 2 ^ w - b

/-- VMUL (R402). -/
def execVmul (e : EngineNo) (f : VFields) (s : State) : Host.Outcome State Fault Refusal := s.lanes e f fun _ a b => a * b

/-- VMIN (R402). -/
def execVmin (e : EngineNo) (f : VFields) (s : State) : Host.Outcome State Fault Refusal :=
  s.lanes e f fun w a b => pickInt w true a b

/-- VMAX (R402). -/
def execVmax (e : EngineNo) (f : VFields) (s : State) : Host.Outcome State Fault Refusal :=
  s.lanes e f fun w a b => pickInt w false a b

/-- VMINU (R402). -/
def execVminu (e : EngineNo) (f : VFields) (s : State) : Host.Outcome State Fault Refusal :=
  s.lanes e f fun _ a b => Nat.min a b

/-- VMAXU (R402). -/
def execVmaxu (e : EngineNo) (f : VFields) (s : State) : Host.Outcome State Fault Refusal :=
  s.lanes e f fun _ a b => Nat.max a b

/-- VAND (R402). -/
def execVand (e : EngineNo) (f : VFields) (s : State) : Host.Outcome State Fault Refusal := s.lanes e f fun _ a b => a &&& b

/-- VOR (R402). -/
def execVor (e : EngineNo) (f : VFields) (s : State) : Host.Outcome State Fault Refusal := s.lanes e f fun _ a b => a ||| b

/-- VXOR (R402). -/
def execVxor (e : EngineNo) (f : VFields) (s : State) : Host.Outcome State Fault Refusal := s.lanes e f fun _ a b => a ^^^ b

/-- VANDN (R402). -/
def execVandn (e : EngineNo) (f : VFields) (s : State) : Host.Outcome State Fault Refusal :=
  s.lanes e f fun w a b => a &&& (2 ^ w - 1 - b)

/-- VSLL (R402). -/
def execVsll (e : EngineNo) (f : VFields) (s : State) : Host.Outcome State Fault Refusal :=
  s.lanes e f fun w a b => a <<< (b % w)

/-- VSRL (R402). -/
def execVsrl (e : EngineNo) (f : VFields) (s : State) : Host.Outcome State Fault Refusal :=
  s.lanes e f fun w a b => a >>> (b % w)

/-- VSRA (R402). -/
def execVsra (e : EngineNo) (f : VFields) (s : State) : Host.Outcome State Fault Refusal :=
  s.lanes e f fun w a b => elemSra w a (b % w)

/-- VSEL (R402). -/
def execVsel (e : EngineNo) (f : VFields) (s : State) : Host.Outcome State Fault Refusal :=
  s.regOp e (legalV f) fun n => n.vsel f

/-- VCOMPRESS (R402). -/
def execVcompress (e : EngineNo) (f : VFields) (s : State) : Host.Outcome State Fault Refusal :=
  s.regOp e (legalV f) fun n => n.vcompress f

/-- VCMPEQ (R402). -/
def execVcmpeq (e : EngineNo) (f : VFields) (s : State) : Host.Outcome State Fault Refusal :=
  s.cmpLanes e f fun _ a b => a == b

/-- VCMPNE (R402). -/
def execVcmpne (e : EngineNo) (f : VFields) (s : State) : Host.Outcome State Fault Refusal :=
  s.cmpLanes e f fun _ a b => a != b

/-- VCMPLT (R402). -/
def execVcmplt (e : EngineNo) (f : VFields) (s : State) : Host.Outcome State Fault Refusal :=
  s.cmpLanes e f fun w a b => decide (elemInt w a < elemInt w b)

/-- VCMPLTU (R402). -/
def execVcmpltu (e : EngineNo) (f : VFields) (s : State) : Host.Outcome State Fault Refusal :=
  s.cmpLanes e f fun _ a b => decide (a < b)

/-- VCMPLE (R402). -/
def execVcmple (e : EngineNo) (f : VFields) (s : State) : Host.Outcome State Fault Refusal :=
  s.cmpLanes e f fun w a b => decide (elemInt w a ≤ elemInt w b)

/-- VCMPLEU (R402). -/
def execVcmpleu (e : EngineNo) (f : VFields) (s : State) : Host.Outcome State Fault Refusal :=
  s.cmpLanes e f fun _ a b => decide (a ≤ b)

/-- VRED_SUM (R402). -/
def execVredSum (e : EngineNo) (rd rs1 rs2 : BitVec 5) (func : BitVec 11) (s : State) : Host.Outcome State Fault Refusal :=
  s.reduction e rd rs1 rs2 func false fun _ a b => a + b

/-- VRED_MIN (R402). -/
def execVredMin (e : EngineNo) (rd rs1 rs2 : BitVec 5) (func : BitVec 11) (s : State) : Host.Outcome State Fault Refusal :=
  s.reduction e rd rs1 rs2 func true fun w a b => pickInt w true a b

/-- VRED_MAX (R402). -/
def execVredMax (e : EngineNo) (rd rs1 rs2 : BitVec 5) (func : BitVec 11) (s : State) : Host.Outcome State Fault Refusal :=
  s.reduction e rd rs1 rs2 func true fun w a b => pickInt w false a b

/-- VRED_MINU (R402). -/
def execVredMinu (e : EngineNo) (rd rs1 rs2 : BitVec 5) (func : BitVec 11) (s : State) : Host.Outcome State Fault Refusal :=
  s.reduction e rd rs1 rs2 func false fun _ a b => Nat.min a b

/-- VRED_MAXU (R402). -/
def execVredMaxu (e : EngineNo) (rd rs1 rs2 : BitVec 5) (func : BitVec 11) (s : State) : Host.Outcome State Fault Refusal :=
  s.reduction e rd rs1 rs2 func false fun _ a b => Nat.max a b

/-- VRED_AND (R402). -/
def execVredAnd (e : EngineNo) (rd rs1 rs2 : BitVec 5) (func : BitVec 11) (s : State) : Host.Outcome State Fault Refusal :=
  s.reduction e rd rs1 rs2 func false fun _ a b => a &&& b

/-- VRED_OR (R402). -/
def execVredOr (e : EngineNo) (rd rs1 rs2 : BitVec 5) (func : BitVec 11) (s : State) : Host.Outcome State Fault Refusal :=
  s.reduction e rd rs1 rs2 func false fun _ a b => a ||| b

/-- VRED_XOR (R402). -/
def execVredXor (e : EngineNo) (rd rs1 rs2 : BitVec 5) (func : BitVec 11) (s : State) : Host.Outcome State Fault Refusal :=
  s.reduction e rd rs1 rs2 func false fun _ a b => a ^^^ b

/-- VBCAST (R402). -/
def execVbcast (e : EngineNo) (rd rs1 _rs2 : BitVec 5) (func : BitVec 11) (s : State) : Host.Outcome State Fault Refusal :=
  s.regOp e (legalVbcast rd func) fun n =>
    let w := elemBits (funcElem func)
    n.setV (rd.setWidth 4) (packElems w (List.replicate (elemCount (funcElem func)) (n.reg rs1).toNat))

/-- VEXT (R402). -/
def execVext (e : EngineNo) (rd rs1 rs2 : BitVec 5) (func : BitVec 11) (s : State) : Host.Outcome State Fault Refusal :=
  s.regOp e (legalVext rs1 func) fun n =>
    let k := (n.reg rs2).toNat % elemCount (funcElem func)
    n.setG rd (BitVec.ofNat 64 (elemAt (n.vec (rs1.setWidth 4)) (elemBits (funcElem func)) k))

/-- MTOG (R402). -/
def execMtog (e : EngineNo) (rd rs1 _rs2 : BitVec 5) (func : BitVec 11) (s : State) : Host.Outcome State Fault Refusal :=
  s.regOp e (legalVmask rs1 func) fun n => n.setG rd (n.mask (rs1.setWidth 3))

/-- GTOM (R402). -/
def execGtom (e : EngineNo) (rd rs1 _rs2 : BitVec 5) (func : BitVec 11) (s : State) : Host.Outcome State Fault Refusal :=
  s.regOp e (legalVmask rd func) fun n => n.setM (rd.setWidth 3) (n.reg rs1)

/-- MPOPC (R402). -/
def execMpopc (e : EngineNo) (rd rs1 _rs2 : BitVec 5) (func : BitVec 11) (s : State) : Host.Outcome State Fault Refusal :=
  s.regOp e (legalVmask rs1 func) fun n => n.setG rd (popc64 (n.mask (rs1.setWidth 3)))

end Sys2Proof.Machine
end

