-- ==== Sys2Proof/Machine/SystemCmds.lean ====
section
/-! DEFINITION. The fence, CSR and service instructions of a Pilot, and illegal words (R86, R87, R399, R405–R407). -/

namespace Sys2Proof.Machine

/-- FENCE_MS in ns. -/
def State.fenceNs (s : State) : Nat := orOne (s.fld 0x0100C0 0 8) * 1000000

/-- A fence instruction (R86, R405): the engine waits at it. -/
def State.fenceCmd (s : State) (e : EngineNo) (legal : Bool) (kind level : Nat) (rd : BitVec 5) : Host.Outcome State Fault Refusal :=
  s.pilotOp e legal fun t => t.updEngine e fun n => n.startFence t.chron t.fenceNs kind level rd

/-- A CSR written from its old value and rs1 (R407). -/
def State.csrCmd (s : State) (e : EngineNo) (rd rs1 : BitVec 5) (imm : BitVec 12) (f : DWord → DWord → DWord) :
    Host.Outcome State Fault Refusal :=
  s.pilotOp e (legalCsrWrite rd imm) fun t => t.csrWrite e imm.toNat (f (t.csrRead e imm.toNat) ((t.engine e).reg rs1))

/-- PILOT_OFENCE (R86, R405). -/
def execPilotOfence (e : EngineNo) (rd _rs1 : BitVec 5) (imm : BitVec 12) (s : State) : Host.Outcome State Fault Refusal :=
  s.fenceCmd e (legalOfence rd imm) 0 0 rd

/-- PILOT_PFENCE (R119, R405). -/
def execPilotPfence (e : EngineNo) (rd _rs1 : BitVec 5) (imm : BitVec 12) (s : State) : Host.Outcome State Fault Refusal :=
  s.fenceCmd e (legalPfence imm) 1 (imm.toNat % 4) rd

/-- DFENCE (R87, R405). -/
def execDfence (e : EngineNo) (rd _rs1 : BitVec 5) (imm : BitVec 12) (s : State) : Host.Outcome State Fault Refusal :=
  s.fenceCmd e (legalDfence imm) 2 0 rd

/-- CRD (R407). -/
def execCrd (e : EngineNo) (rd rs1 : BitVec 5) (imm : BitVec 12) (s : State) : Host.Outcome State Fault Refusal :=
  s.pilotOp e (legalCrd rs1 imm) fun t => t.updEngine e fun n => (n.setG rd (t.csrRead e imm.toNat)).next

/-- CWR (R407). -/
def execCwr (e : EngineNo) (rd rs1 : BitVec 5) (imm : BitVec 12) (s : State) : Host.Outcome State Fault Refusal :=
  s.csrCmd e rd rs1 imm fun _ v => v

/-- CSET (R407). -/
def execCset (e : EngineNo) (rd rs1 : BitVec 5) (imm : BitVec 12) (s : State) : Host.Outcome State Fault Refusal :=
  s.csrCmd e rd rs1 imm fun old v => old ||| v

/-- CCLR (R407). -/
def execCclr (e : EngineNo) (rd rs1 : BitVec 5) (imm : BitVec 12) (s : State) : Host.Outcome State Fault Refusal :=
  s.csrCmd e rd rs1 imm fun old v => old &&& ~~~v

/-- MSG_POP (R407). -/
def execMsgPop (e : EngineNo) (_rs1 : BitVec 5) (s : State) : Host.Outcome State Fault Refusal :=
  s.pilotOp e true fun t => t.msgPop e

/-- TAKE (R406). -/
def execTake (e : EngineNo) (rd rs1 : BitVec 5) (imm : BitVec 12) (s : State) : Host.Outcome State Fault Refusal :=
  s.pilotOp e true fun t => t.takeOp e rd rs1 imm

/-- POST (R406). -/
def execPost (e : EngineNo) (rd rs1 : BitVec 5) (_imm : BitVec 12) (s : State) : Host.Outcome State Fault Refusal :=
  s.pilotOp e true fun t => t.postOp e rd rs1

/-- WAIT (R406). -/
def execWait (e : EngineNo) (_rd _rs1 : BitVec 5) (_imm : BitVec 12) (s : State) : Host.Outcome State Fault Refusal :=
  s.pilotOp e true fun t => t.waitOp e

/-- HALT (R368, R406, R409). -/
def execHalt (e : EngineNo) (_rd _rs1 : BitVec 5) (_imm : BitVec 12) (s : State) : Host.Outcome State Fault Refusal :=
  s.pilotOp e true fun t => t.raiseExc e 0x01 (t.engine e).pc none

/-- ILLEGAL_INSTRUCTION (R399, R409): a word that is not legal raises ILLEGAL. -/
def execIllegalInstruction (e : EngineNo) (w : Word) (s : State) : Host.Outcome State Fault Refusal :=
  s.act fun t => if t.issues e && !legalWord w then t.illegal e else t

end Sys2Proof.Machine
end

