-- ==== Sys2Proof/Machine/TelCmds.lean ====
section
/-! DEFINITION. The commands of TEL: pace monitors, Chronometer and PTP, counters, error log, trace and the Lookout
(R30–R32, R474–R492). -/

namespace Sys2Proof.Machine

/-- PACE_SAMPLE (R32). -/
def execPaceSample (m : Fin 8) (pace : BitVec 12) (s : State) : Host.Outcome State Fault Refusal :=
  s.within fun t => t.paceSample m pace

/-- CHRSET_WRITE (R475). -/
def execChrsetWrite (p : Path) (v : DWord) (s : State) : Host.Outcome State Fault Refusal :=
  s.act fun t => t.writePair p 0x010008 v

/-- PTP_SYNC_EDGE (R476). -/
def execPtpSyncEdge (s : State) : Host.Outcome State Fault Refusal := s.within State.ptpEdge

/-- PTP_REF_WRITE (R476). -/
def execPtpRefWrite (p : Path) (v : DWord) (s : State) : Host.Outcome State Fault Refusal :=
  s.act fun t => t.writePair p 0x010018 v

/-- CSEL_WRITE (R477). -/
def execCselWrite (p : Path) (k : Fin 512) (v : Word) (s : State) : Host.Outcome State Fault Refusal :=
  s.act fun t => t.writeReg p (0x01A000 + 4 * k.val) v

/-- COUNTER_SNAP (R479). -/
def execCounterSnap (p : Path) (s : State) : Host.Outcome State Fault Refusal := s.act fun t => t.writeReg p 0x010060 1

/-- COUNTER_CLEAR (R479). -/
def execCounterClear (p : Path) (s : State) : Host.Outcome State Fault Refusal := s.act fun t => t.writeReg p 0x010060 2

/-- LOG_RD_WRITE (R481). -/
def execLogRdWrite (p : Path) (v : Word) (s : State) : Host.Outcome State Fault Refusal :=
  s.act fun t => t.writeReg p 0x010044 v

/-- LOG_LATCH_READ (R481). -/
def execLogLatchRead (p : Path) (slot : Fin 1024) (s : State) : Host.Outcome State Fault Refusal :=
  s.act fun t => t.readReg p (0x011000 + 0x20 * slot.val)

/-- TRACE_ARM (R484). -/
def execTraceArm (p : Path) (s : State) : Host.Outcome State Fault Refusal := s.act fun t => t.writeReg p 0x010084 1

/-- TRACE_STOP (R484). -/
def execTraceStop (p : Path) (s : State) : Host.Outcome State Fault Refusal := s.act fun t => t.writeReg p 0x010084 2

/-- TRACE_LATCH_READ (R485). -/
def execTraceLatchRead (p : Path) (s : State) : Host.Outcome State Fault Refusal := s.act fun t => t.readReg p 0x01B000

/-- LOOKOUT_WARN (R486). -/
def execLookoutWarn (e : EngineNo) (trigger : BitVec 4) (s : State) : Host.Outcome State Fault Refusal :=
  s.act fun t => t.lookoutWarn e trigger.toNat

/-- LOOKOUT_STOP (R486). -/
def execLookoutStop (e : EngineNo) (s : State) : Host.Outcome State Fault Refusal := s.act fun t => t.lookoutStop e

/-- LOOKOUT_FAIL (R486). -/
def execLookoutFail (e : EngineNo) (s : State) : Host.Outcome State Fault Refusal := s.act fun t => t.lookoutFail e

/-- LOOKOUT_KICK (R486). -/
def execLookoutKick (p : Path) (s : State) : Host.Outcome State Fault Refusal := s.act fun t => t.writeReg p 0x0100C4 1

/-- FIRMWARE_KICK_TIMEOUT (R486). -/
def execFirmwareKickTimeout (s : State) : Host.Outcome State Fault Refusal := s.act State.kickTimeout

/-- LOOKOUT_DR (R486). -/
def execLookoutDr (s : State) : Host.Outcome State Fault Refusal := s.act State.lookoutDr

/-- LKO_CFG_WRITE (R492). -/
def execLkoCfgWrite (p : Path) (v : Word) (s : State) : Host.Outcome State Fault Refusal :=
  s.act fun t => t.writeReg p 0x0100C0 v

end Sys2Proof.Machine
end

