-- ==== Sys2Proof/Machine/TwnCmds.lean ====
section
/-! DEFINITION. The commands of the Bureo link: frames that arrive, the link's timers and TWN's firmware controls
(R128–R153). -/

namespace Sys2Proof.Machine

/-- MIRROR_FRAME_SEND (R135). -/
def execMirrorFrameSend (lane : Fin 2) (s : State) : Host.Outcome State Fault Refusal := s.act fun t => t.mirrorSend lane.val

/-- MIRROR (R130). -/
def execMirror (f : Frame) (s : State) : Host.Outcome State Fault Refusal := s.act fun t => t.dataArrive f 1

/-- MIRROR_FRAME_RESUME (R14). -/
def execMirrorFrameResume (lane : Fin 2) (s : State) : Host.Outcome State Fault Refusal := s.act fun t => t.frameResume lane.val

/-- FWD_WR (R130). -/
def execFwdWr (f : Frame) (s : State) : Host.Outcome State Fault Refusal := s.act fun t => t.dataArrive f 2

/-- FWD_ACK (R129). -/
def execFwdAck (f : Frame) (s : State) : Host.Outcome State Fault Refusal := s.act fun t => t.control f 6 State.fwdAckIn

/-- FWD_TABLE_ADMIT (R129): the requests that wait, those for the forward table among them, are tried in their order. -/
def execFwdTableAdmit (s : State) : Host.Outcome State Fault Refusal := s.act fun t => t.pass State.hostCfg fun _ => true

/-- BEAT (R138). -/
def execBeat (f : Frame) (s : State) : Host.Outcome State Fault Refusal := s.act fun t => t.control f 3 State.beatIn

/-- HEARTBEAT (R138). -/
def execHeartbeat (s : State) : Host.Outcome State Fault Refusal := s.act State.heartbeat

/-- HELLO (R142). -/
def execHello (f : Frame) (s : State) : Host.Outcome State Fault Refusal := s.act fun t => t.helloArrive f

/-- HELLO_RESEND (R142). -/
def execHelloResend (s : State) : Host.Outcome State Fault Refusal := s.act State.helloResend

/-- OWN_TABLE (R143). -/
def execOwnTable (f : Frame) (s : State) : Host.Outcome State Fault Refusal := s.act fun t => t.own f 0 State.ownTableIn

/-- OWN_HANDOVER (R144). -/
def execOwnHandover (f : Frame) (s : State) : Host.Outcome State Fault Refusal := s.act fun t => t.own f 1 State.ownHandoverIn

/-- OWN_ACK (R144). -/
def execOwnAck (f : Frame) (s : State) : Host.Outcome State Fault Refusal := s.act fun t => t.own f 2 State.ownAckIn

/-- OWN_TAKE (R145). -/
def execOwnTake (f : Frame) (s : State) : Host.Outcome State Fault Refusal := s.act fun t => t.own f 3 State.ownTakeIn

/-- OWN_FENCE (R147). -/
def execOwnFence (f : Frame) (s : State) : Host.Outcome State Fault Refusal := s.act fun t => t.own f 4 State.ownFenceIn

/-- OWN_SYNC_DONE (R151). -/
def execOwnSyncDone (f : Frame) (s : State) : Host.Outcome State Fault Refusal := s.act fun t => t.own f 5 State.ownSyncIn

/-- FETCH (R152): the NAK bit is 0. -/
def execFetch (f : Frame) (s : State) : Host.Outcome State Fault Refusal :=
  s.act fun t => if f.flags.getLsbD 0 then t else t.fetchArrive f

/-- FETCH_NAK (R175): the NAK bit is 1. -/
def execFetchNak (f : Frame) (s : State) : Host.Outcome State Fault Refusal :=
  s.act fun t => if f.flags.getLsbD 0 then t.control f 7 State.fetchNakIn else t

/-- CTRL (R372). -/
def execCtrl (f : Frame) (s : State) : Host.Outcome State Fault Refusal := s.act fun t => t.ctrlIn f

/-- EPOCH_WAIT (R130). -/
def execEpochWait (lane : Fin 2) (s : State) : Host.Outcome State Fault Refusal := s.act fun t => t.epochTimeout lane.val

/-- RETRY_TIMEOUT (R139). -/
def execRetryTimeout (lane : Fin 3) (s : State) : Host.Outcome State Fault Refusal := s.act fun t => t.retryTimeout lane.val

/-- SILENT_TIMEOUT (R140). -/
def execSilentTimeout (s : State) : Host.Outcome State Fault Refusal := s.act State.silent

/-- TWN_UP (R142). -/
def execTwnUp (p : Path) (s : State) : Host.Outcome State Fault Refusal := s.act fun t => t.writeReg p 0x0D000C 1

/-- TWN_DOWN (R140). -/
def execTwnDown (p : Path) (s : State) : Host.Outcome State Fault Refusal := s.act fun t => t.writeReg p 0x0D000C 2

/-- TWN_FULL (R148). -/
def execTwnFull (p : Path) (s : State) : Host.Outcome State Fault Refusal := s.act fun t => t.writeReg p 0x0D000C 4

/-- TWN_HOVER (R144): a write with GO and the Reach. -/
def execTwnHover (p : Path) (reach : BitVec 16) (s : State) : Host.Outcome State Fault Refusal :=
  s.act fun t => t.writeReg p 0x0D0014 (0x80000000 ||| reach.setWidth 32)

/-- HANDOVER_SEND (R144). -/
def execHandoverSend (reach : BitVec 16) (s : State) : Host.Outcome State Fault Refusal :=
  s.act fun t => t.handoverSend reach.toNat

/-- TWN_GRANT_GO (R145). -/
def execTwnGrantGo (p : Path) (s : State) : Host.Outcome State Fault Refusal := s.act fun t => t.writeReg p 0x0D003C 1

/-- GRANT_DONE (R145). -/
def execGrantDone (s : State) : Host.Outcome State Fault Refusal := s.act State.grantDone

/-- RESYNC_LEAF_COPY (R149). -/
def execResyncLeafCopy (s : State) : Host.Outcome State Fault Refusal := s.act State.resyncStep

end Sys2Proof.Machine
end

