-- ==== Sys2Proof/Machine/VltCmds.lean ====
section
/-! DEFINITION. The commands of Save and Restore (R161–R185) and of the mode controller's start (R437). -/

namespace Sys2Proof.Machine

/-- PF_WARN (R166). -/
def execPfWarn (s : State) : Host.Outcome State Fault Refusal := s.act State.pfWarn

/-- SAVE_META_WRITE (R168). -/
def execSaveMetaWrite (_ : Unit) (s : State) : Host.Outcome State Fault Refusal := s.act State.saveMeta

/-- SAVE_FIRST_FLUSH_DONE (R168). -/
def execSaveFirstFlushDone (_ : Unit) (s : State) : Host.Outcome State Fault Refusal := s.act State.saveFlush

/-- SAVE_DONE (R171). -/
def execSaveDone (_ : Unit) (s : State) : Host.Outcome State Fault Refusal := s.act State.saveEnd

/-- VAULT_META_WRITEBACK (R165). -/
def execVaultMetaWriteback (unit : Nat) (s : State) : Host.Outcome State Fault Refusal := s.act fun t => t.metaWriteback unit

/-- RESTORE_SUPERBLOCK_READ (R172). -/
def execRestoreSuperblockRead (_ _ : Unit) (s : State) : Host.Outcome State Fault Refusal := s.act State.superRead

/-- RESTORE_METADATA_READ (R172). -/
def execRestoreMetadataRead (_ : Unit) (s : State) : Host.Outcome State Fault Refusal := s.act State.metaRead

/-- RESTORE_SERVICE_START (R173). -/
def execRestoreServiceStart (_ : Unit) (s : State) : Host.Outcome State Fault Refusal := s.act State.serviceStart

/-- VLT_INIT (R172). -/
def execVltInit (p : Path) (s : State) : Host.Outcome State Fault Refusal := s.act fun t => t.writeReg p 0x0F0008 1

/-- VLT_RELEASE (R179). -/
def execVltRelease (p : Path) (s : State) : Host.Outcome State Fault Refusal := s.act fun t => t.writeReg p 0x0F0008 2

/-- BACKGROUND_REFILL (R180). -/
def execBackgroundRefill (s : State) : Host.Outcome State Fault Refusal := s.act State.backgroundRefill

/-- LEAF_REFILL_DONE (R176). -/
def execLeafRefillDone (leaf : Nat) (s : State) : Host.Outcome State Fault Refusal := s.act fun t => t.leafRefillDone leaf

/-- SIGHTING_COMPLETE (R437). -/
def execSightingComplete (s : State) : Host.Outcome State Fault Refusal := s.act State.sightingDone

end Sys2Proof.Machine
end

