-- ==== Sys2Proof/Machine/Dispatch.lean ====
section
/-! DEFINITION. The dispatch of every command to its meaning, one arm for each row of the table. -/

namespace Sys2Proof.Machine

/-- The effect of a command on everything but the queue. -/
def exec (i : Instr) (s : State) : Host.Outcome State Fault Refusal :=
  match i with
  | .read q => Sys2Proof.Machine.execRead q s
  | .write q => Sys2Proof.Machine.execWrite q s
  | .writeFull q => Sys2Proof.Machine.execWriteFull q s
  | .atomCas8 q => Sys2Proof.Machine.execAtomCas8 q s
  | .atomCas16 q => Sys2Proof.Machine.execAtomCas16 q s
  | .atomFadd q => Sys2Proof.Machine.execAtomFadd q s
  | .atomSwap q => Sys2Proof.Machine.execAtomSwap q s
  | .atomAnd q => Sys2Proof.Machine.execAtomAnd q s
  | .atomOr q => Sys2Proof.Machine.execAtomOr q s
  | .resvLd q => Sys2Proof.Machine.execResvLd q s
  | .condSt q => Sys2Proof.Machine.execCondSt q s
  | .ofence q => Sys2Proof.Machine.execOfence q s
  | .pfence q => Sys2Proof.Machine.execPfence q s
  | .stageHint q => Sys2Proof.Machine.execStageHint q s
  | .cfgRd q => Sys2Proof.Machine.execCfgRd q s
  | .cfgWr q => Sys2Proof.Machine.execCfgWr q s
  | .hostResponseAck port => Sys2Proof.Machine.execHostResponseAck port s
  | .holdTimeout port tag => Sys2Proof.Machine.execHoldTimeout port tag s
  | .idleItem q => Sys2Proof.Machine.execIdleItem q s
  | .queueSilent q => Sys2Proof.Machine.execQueueSilent q s
  | .paceSample m pace => Sys2Proof.Machine.execPaceSample m pace s
  | .pilotStoreResponse e => Sys2Proof.Machine.execPilotStoreResponse e s
  | .storeBufferAgeIssue e => Sys2Proof.Machine.execStoreBufferAgeIssue e s
  | .reservationExpire who => Sys2Proof.Machine.execReservationExpire who s
  | .reservationClearAll p => Sys2Proof.Machine.execReservationClearAll p s
  | .atuRcfgWrite p v => Sys2Proof.Machine.execAtuRcfgWrite p v s
  | .drainIssue => Sys2Proof.Machine.execDrainIssue s
  | .drainComplete idx => Sys2Proof.Machine.execDrainComplete idx s
  | .drainReissue idx => Sys2Proof.Machine.execDrainReissue idx s
  | .drainStall => Sys2Proof.Machine.execDrainStall s
  | .fenceTimeout id => Sys2Proof.Machine.execFenceTimeout id s
  | .plgBudgetWrite p v => Sys2Proof.Machine.execPlgBudgetWrite p v s
  | .pinSet p k => Sys2Proof.Machine.execPinSet p k s
  | .pinClr p k => Sys2Proof.Machine.execPinClr p k s
  | .anchorReleased => Sys2Proof.Machine.execAnchorReleased s
  | .mirrorFrameSend lane => Sys2Proof.Machine.execMirrorFrameSend lane s
  | .mirror f => Sys2Proof.Machine.execMirror f s
  | .mirrorFrameResume lane => Sys2Proof.Machine.execMirrorFrameResume lane s
  | .fwdWr f => Sys2Proof.Machine.execFwdWr f s
  | .fwdAck f => Sys2Proof.Machine.execFwdAck f s
  | .fwdTableAdmit => Sys2Proof.Machine.execFwdTableAdmit s
  | .beat f => Sys2Proof.Machine.execBeat f s
  | .heartbeat => Sys2Proof.Machine.execHeartbeat s
  | .hello f => Sys2Proof.Machine.execHello f s
  | .helloResend => Sys2Proof.Machine.execHelloResend s
  | .ownTable f => Sys2Proof.Machine.execOwnTable f s
  | .ownHandover f => Sys2Proof.Machine.execOwnHandover f s
  | .ownAck f => Sys2Proof.Machine.execOwnAck f s
  | .ownTake f => Sys2Proof.Machine.execOwnTake f s
  | .ownFence f => Sys2Proof.Machine.execOwnFence f s
  | .ownSyncDone f => Sys2Proof.Machine.execOwnSyncDone f s
  | .fetch f => Sys2Proof.Machine.execFetch f s
  | .fetchNak f => Sys2Proof.Machine.execFetchNak f s
  | .ctrl f => Sys2Proof.Machine.execCtrl f s
  | .epochWait lane => Sys2Proof.Machine.execEpochWait lane s
  | .retryTimeout lane => Sys2Proof.Machine.execRetryTimeout lane s
  | .silentTimeout => Sys2Proof.Machine.execSilentTimeout s
  | .twnUp p => Sys2Proof.Machine.execTwnUp p s
  | .twnDown p => Sys2Proof.Machine.execTwnDown p s
  | .twnFull p => Sys2Proof.Machine.execTwnFull p s
  | .twnHover p reach => Sys2Proof.Machine.execTwnHover p reach s
  | .handoverSend reach => Sys2Proof.Machine.execHandoverSend reach s
  | .twnGrantGo p => Sys2Proof.Machine.execTwnGrantGo p s
  | .grantDone => Sys2Proof.Machine.execGrantDone s
  | .resyncLeafCopy => Sys2Proof.Machine.execResyncLeafCopy s
  | .pfWarn => Sys2Proof.Machine.execPfWarn s
  | .saveMetaWrite u => Sys2Proof.Machine.execSaveMetaWrite u s
  | .saveFirstFlushDone u => Sys2Proof.Machine.execSaveFirstFlushDone u s
  | .saveDone u => Sys2Proof.Machine.execSaveDone u s
  | .vaultMetaWriteback unit => Sys2Proof.Machine.execVaultMetaWriteback unit s
  | .restoreSuperblockRead u v => Sys2Proof.Machine.execRestoreSuperblockRead u v s
  | .restoreMetadataRead u => Sys2Proof.Machine.execRestoreMetadataRead u s
  | .restoreServiceStart u => Sys2Proof.Machine.execRestoreServiceStart u s
  | .vltInit p => Sys2Proof.Machine.execVltInit p s
  | .vltRelease p => Sys2Proof.Machine.execVltRelease p s
  | .backgroundRefill => Sys2Proof.Machine.execBackgroundRefill s
  | .leafRefillDone leaf => Sys2Proof.Machine.execLeafRefillDone leaf s
  | .sightingComplete => Sys2Proof.Machine.execSightingComplete s
  | .chsDecide c => Sys2Proof.Machine.execChsDecide c s
  | .commandLaunch c => Sys2Proof.Machine.execCommandLaunch c s
  | .readDataReturn c r => Sys2Proof.Machine.execReadDataReturn c r s
  | .chsCfgWrite p ch v => Sys2Proof.Machine.execChsCfgWrite p ch v s
  | .chsWmWrite p ch v => Sys2Proof.Machine.execChsWmWrite p ch v s
  | .chsTimWrite p ch n v => Sys2Proof.Machine.execChsTimWrite p ch n v s
  | .refreshTick c cs => Sys2Proof.Machine.execRefreshTick c cs s
  | .thermalPoll ch readings => Sys2Proof.Machine.execThermalPoll ch readings s
  | .trackerClear ch => Sys2Proof.Machine.execTrackerClear ch s
  | .pauseGrant c => Sys2Proof.Machine.execPauseGrant c s
  | .rpmCfgWrite p v => Sys2Proof.Machine.execRpmCfgWrite p v s
  | .sgtDiscover p hubs => Sys2Proof.Machine.execSgtDiscover p hubs s
  | .sgtStart p => Sys2Proof.Machine.execSgtStart p s
  | .sgtResight p v => Sys2Proof.Machine.execSgtResight p v s
  | .sgtResightFull p v => Sys2Proof.Machine.execSgtResightFull p v s
  | .sightStepDone r => Sys2Proof.Machine.execSightStepDone r s
  | .sidebandCmdGo p v => Sys2Proof.Machine.execSidebandCmdGo p v s
  | .sidebandDone result data => Sys2Proof.Machine.execSidebandDone result data s
  | .caParity c => Sys2Proof.Machine.execCaParity c s
  | .oscSample c counts drifts => Sys2Proof.Machine.execOscSample c counts drifts s
  | .resightDue c cs => Sys2Proof.Machine.execResightDue c cs s
  | .resightInterval c cs => Sys2Proof.Machine.execResightInterval c cs s
  | .resightChunk c pass results => Sys2Proof.Machine.execResightChunk c pass results s
  | .soundingPassStart => Sys2Proof.Machine.execSoundingPassStart s
  | .soundingRead c u => Sys2Proof.Machine.execSoundingRead c u s
  | .eccRetireRow p v => Sys2Proof.Machine.execEccRetireRow p v s
  | .eccMarkDev p v => Sys2Proof.Machine.execEccMarkDev p v s
  | .eccSpareBank p v => Sys2Proof.Machine.execEccSpareBank p v s
  | .eccSpareRank p v => Sys2Proof.Machine.execEccSpareRank p v s
  | .eccRetirePe p v => Sys2Proof.Machine.execEccRetirePe p v s
  | .eccMarkWrite p c v => Sys2Proof.Machine.execEccMarkWrite p c v s
  | .spareCopy ch => Sys2Proof.Machine.execSpareCopy ch s
  | .wqHealFetch leaf => Sys2Proof.Machine.execWqHealFetch leaf s
  | .healTimeout leaf => Sys2Proof.Machine.execHealTimeout leaf s
  | .bwrWindow => Sys2Proof.Machine.execBwrWindow s
  | .bwrSlot => Sys2Proof.Machine.execBwrSlot s
  | .bwrCommit p => Sys2Proof.Machine.execBwrCommit p s
  | .bwrChartCommit p => Sys2Proof.Machine.execBwrChartCommit p s
  | .fillIssue => Sys2Proof.Machine.execFillIssue s
  | .slotEvict slot => Sys2Proof.Machine.execSlotEvict slot s
  | .fillComplete sb => Sys2Proof.Machine.execFillComplete sb s
  | .sealFlush seg => Sys2Proof.Machine.execSealFlush seg s
  | .sealDone seg => Sys2Proof.Machine.execSealDone seg s
  | .dtiPubGo p => Sys2Proof.Machine.execDtiPubGo p s
  | .dpCommandIssue => Sys2Proof.Machine.execDpCommandIssue s
  | .dpReadBeat id beat data => Sys2Proof.Machine.execDpReadBeat id beat data s
  | .dpCompletion id stat sb => Sys2Proof.Machine.execDpCompletion id stat sb s
  | .dpTimeout id => Sys2Proof.Machine.execDpTimeout id s
  | .portReset p => Sys2Proof.Machine.execPortReset p s
  | .load256 slot key => Sys2Proof.Machine.execLoad256 slot key s
  | .load512 slot key => Sys2Proof.Machine.execLoad512 slot key s
  | .keyZero slot => Sys2Proof.Machine.execKeyZero slot s
  | .keyBadOp slot => Sys2Proof.Machine.execKeyBadOp slot s
  | .cphKzero p slot => Sys2Proof.Machine.execCphKzero p slot s
  | .coreKat core pass => Sys2Proof.Machine.execCoreKat core pass s
  | .peaStart p e => Sys2Proof.Machine.execPeaStart p e s
  | .peaStop p e => Sys2Proof.Machine.execPeaStop p e s
  | .peaLoad p e => Sys2Proof.Machine.execPeaLoad p e s
  | .peaReset p e => Sys2Proof.Machine.execPeaReset p e s
  | .peaImg p e v => Sys2Proof.Machine.execPeaImg p e v s
  | .stopDone e => Sys2Proof.Machine.execStopDone e s
  | .suaRequest e u prio => Sys2Proof.Machine.execSuaRequest e u prio s
  | .suaWithdraw e u => Sys2Proof.Machine.execSuaWithdraw e u s
  | .suaRelease e u => Sys2Proof.Machine.execSuaRelease e u s
  | .suaInternalRequest who u => Sys2Proof.Machine.execSuaInternalRequest who u s
  | .suaRequestDue who u => Sys2Proof.Machine.execSuaRequestDue who u s
  | .suaWindow => Sys2Proof.Machine.execSuaWindow s
  | .longHold inst => Sys2Proof.Machine.execLongHold inst s
  | .mvCopy e => Sys2Proof.Machine.execMvCopy e s
  | .mvFill e => Sys2Proof.Machine.execMvFill e s
  | .mvSeal e => Sys2Proof.Machine.execMvSeal e s
  | .mvAbort e => Sys2Proof.Machine.execMvAbort e s
  | .moverDone ch => Sys2Proof.Machine.execMoverDone ch s
  | .slotDpRead e => Sys2Proof.Machine.execSlotDpRead e s
  | .slotDpWrite e => Sys2Proof.Machine.execSlotDpWrite e s
  | .slotDpFlush e => Sys2Proof.Machine.execSlotDpFlush e s
  | .sdProbe e addr => Sys2Proof.Machine.execSdProbe e addr s
  | .sgReq e v => Sys2Proof.Machine.execSgReq e v s
  | .bcGo e => Sys2Proof.Machine.execBcGo e s
  | .kjZero e => Sys2Proof.Machine.execKjZero e s
  | .kjGcmEnc e => Sys2Proof.Machine.execKjGcmEnc e s
  | .kjGcmDec e => Sys2Proof.Machine.execKjGcmDec e s
  | .kjGmac e => Sys2Proof.Machine.execKjGmac e s
  | .keyJobDone => Sys2Proof.Machine.execKeyJobDone s
  | .add e rd rs1 rs2 => Sys2Proof.Machine.execAdd e rd rs1 rs2 s
  | .sub e rd rs1 rs2 => Sys2Proof.Machine.execSub e rd rs1 rs2 s
  | .and e rd rs1 rs2 => Sys2Proof.Machine.execAnd e rd rs1 rs2 s
  | .or e rd rs1 rs2 => Sys2Proof.Machine.execOr e rd rs1 rs2 s
  | .xor e rd rs1 rs2 => Sys2Proof.Machine.execXor e rd rs1 rs2 s
  | .sll e rd rs1 rs2 => Sys2Proof.Machine.execSll e rd rs1 rs2 s
  | .srl e rd rs1 rs2 => Sys2Proof.Machine.execSrl e rd rs1 rs2 s
  | .sra e rd rs1 rs2 => Sys2Proof.Machine.execSra e rd rs1 rs2 s
  | .cmplt e rd rs1 rs2 => Sys2Proof.Machine.execCmplt e rd rs1 rs2 s
  | .cmpltu e rd rs1 rs2 => Sys2Proof.Machine.execCmpltu e rd rs1 rs2 s
  | .mul e rd rs1 rs2 => Sys2Proof.Machine.execMul e rd rs1 rs2 s
  | .mulhu e rd rs1 rs2 => Sys2Proof.Machine.execMulhu e rd rs1 rs2 s
  | .divu e rd rs1 rs2 => Sys2Proof.Machine.execDivu e rd rs1 rs2 s
  | .remu e rd rs1 rs2 => Sys2Proof.Machine.execRemu e rd rs1 rs2 s
  | .div e rd rs1 rs2 => Sys2Proof.Machine.execDiv e rd rs1 rs2 s
  | .rem e rd rs1 rs2 => Sys2Proof.Machine.execRem e rd rs1 rs2 s
  | .min e rd rs1 rs2 => Sys2Proof.Machine.execMin e rd rs1 rs2 s
  | .max e rd rs1 rs2 => Sys2Proof.Machine.execMax e rd rs1 rs2 s
  | .minu e rd rs1 rs2 => Sys2Proof.Machine.execMinu e rd rs1 rs2 s
  | .maxu e rd rs1 rs2 => Sys2Proof.Machine.execMaxu e rd rs1 rs2 s
  | .clz e rd rs1 rs2 => Sys2Proof.Machine.execClz e rd rs1 rs2 s
  | .ctz e rd rs1 rs2 => Sys2Proof.Machine.execCtz e rd rs1 rs2 s
  | .popc e rd rs1 rs2 => Sys2Proof.Machine.execPopc e rd rs1 rs2 s
  | .bswap e rd rs1 rs2 => Sys2Proof.Machine.execBswap e rd rs1 rs2 s
  | .crc e rd rs1 rs2 => Sys2Proof.Machine.execCrc e rd rs1 rs2 s
  | .cmpeq e rd rs1 rs2 => Sys2Proof.Machine.execCmpeq e rd rs1 rs2 s
  | .cmple e rd rs1 rs2 => Sys2Proof.Machine.execCmple e rd rs1 rs2 s
  | .cmpleu e rd rs1 rs2 => Sys2Proof.Machine.execCmpleu e rd rs1 rs2 s
  | .addi e rd rs1 imm => Sys2Proof.Machine.execAddi e rd rs1 imm s
  | .andi e rd rs1 imm => Sys2Proof.Machine.execAndi e rd rs1 imm s
  | .ori e rd rs1 imm => Sys2Proof.Machine.execOri e rd rs1 imm s
  | .xori e rd rs1 imm => Sys2Proof.Machine.execXori e rd rs1 imm s
  | .cmplti e rd rs1 imm => Sys2Proof.Machine.execCmplti e rd rs1 imm s
  | .cmpltui e rd rs1 imm => Sys2Proof.Machine.execCmpltui e rd rs1 imm s
  | .shiSll e rd rs1 imm => Sys2Proof.Machine.execShiSll e rd rs1 imm s
  | .shiSrl e rd rs1 imm => Sys2Proof.Machine.execShiSrl e rd rs1 imm s
  | .shiSra e rd rs1 imm => Sys2Proof.Machine.execShiSra e rd rs1 imm s
  | .shiRor e rd rs1 imm => Sys2Proof.Machine.execShiRor e rd rs1 imm s
  | .shin e rd rs1 imm => Sys2Proof.Machine.execShin e rd rs1 imm s
  | .movi e rd rs1 imm => Sys2Proof.Machine.execMovi e rd rs1 imm s
  | .ld e rd rs1 size off => Sys2Proof.Machine.execLd e rd rs1 size off s
  | .ldu e rd rs1 size off => Sys2Proof.Machine.execLdu e rd rs1 size off s
  | .st e rd rs1 size off => Sys2Proof.Machine.execSt e rd rs1 size off s
  | .ldp e rd rs1 size off => Sys2Proof.Machine.execLdp e rd rs1 size off s
  | .stp e rd rs1 size off => Sys2Proof.Machine.execStp e rd rs1 size off s
  | .vld e rd rs1 size off => Sys2Proof.Machine.execVld e rd rs1 size off s
  | .vst e rd rs1 size off => Sys2Proof.Machine.execVst e rd rs1 size off s
  | .pilotLoadData e => Sys2Proof.Machine.execPilotLoadData e s
  | .pilotDeferRetry e => Sys2Proof.Machine.execPilotDeferRetry e s
  | .ldr e rd rs1 rs2 func => Sys2Proof.Machine.execLdr e rd rs1 rs2 func s
  | .stc e rd rs1 rs2 func => Sys2Proof.Machine.execStc e rd rs1 rs2 func s
  | .farCas8 e rd rs1 rs2 func => Sys2Proof.Machine.execFarCas8 e rd rs1 rs2 func s
  | .farCas16 e rd rs1 rs2 func => Sys2Proof.Machine.execFarCas16 e rd rs1 rs2 func s
  | .farFadd e rd rs1 rs2 func => Sys2Proof.Machine.execFarFadd e rd rs1 rs2 func s
  | .farSwap e rd rs1 rs2 func => Sys2Proof.Machine.execFarSwap e rd rs1 rs2 func s
  | .farAnd e rd rs1 rs2 func => Sys2Proof.Machine.execFarAnd e rd rs1 rs2 func s
  | .farOr e rd rs1 rs2 func => Sys2Proof.Machine.execFarOr e rd rs1 rs2 func s
  | .bcondEqz e rs1 z woff => Sys2Proof.Machine.execBcondEqz e rs1 z woff s
  | .bcondNez e rs1 z woff => Sys2Proof.Machine.execBcondNez e rs1 z woff s
  | .bcondLtz e rs1 z woff => Sys2Proof.Machine.execBcondLtz e rs1 z woff s
  | .bcondGez e rs1 z woff => Sys2Proof.Machine.execBcondGez e rs1 z woff s
  | .bcondGtz e rs1 z woff => Sys2Proof.Machine.execBcondGtz e rs1 z woff s
  | .bcondLez e rs1 z woff => Sys2Proof.Machine.execBcondLez e rs1 z woff s
  | .bcondOdd e rs1 z woff => Sys2Proof.Machine.execBcondOdd e rs1 z woff s
  | .bcondEven e rs1 z woff => Sys2Proof.Machine.execBcondEven e rs1 z woff s
  | .bcondAlways e rs1 z woff => Sys2Proof.Machine.execBcondAlways e rs1 z woff s
  | .call e rd woff => Sys2Proof.Machine.execCall e rd woff s
  | .jumpr e rd rs1 imm => Sys2Proof.Machine.execJumpr e rd rs1 imm s
  | .callr e rd rs1 imm => Sys2Proof.Machine.execCallr e rd rs1 imm s
  | .vadd e f => Sys2Proof.Machine.execVadd e f s
  | .vsub e f => Sys2Proof.Machine.execVsub e f s
  | .vmul e f => Sys2Proof.Machine.execVmul e f s
  | .vmin e f => Sys2Proof.Machine.execVmin e f s
  | .vmax e f => Sys2Proof.Machine.execVmax e f s
  | .vminu e f => Sys2Proof.Machine.execVminu e f s
  | .vmaxu e f => Sys2Proof.Machine.execVmaxu e f s
  | .vand e f => Sys2Proof.Machine.execVand e f s
  | .vor e f => Sys2Proof.Machine.execVor e f s
  | .vxor e f => Sys2Proof.Machine.execVxor e f s
  | .vandn e f => Sys2Proof.Machine.execVandn e f s
  | .vsll e f => Sys2Proof.Machine.execVsll e f s
  | .vsrl e f => Sys2Proof.Machine.execVsrl e f s
  | .vsra e f => Sys2Proof.Machine.execVsra e f s
  | .vsel e f => Sys2Proof.Machine.execVsel e f s
  | .vcompress e f => Sys2Proof.Machine.execVcompress e f s
  | .vcmpeq e f => Sys2Proof.Machine.execVcmpeq e f s
  | .vcmpne e f => Sys2Proof.Machine.execVcmpne e f s
  | .vcmplt e f => Sys2Proof.Machine.execVcmplt e f s
  | .vcmpltu e f => Sys2Proof.Machine.execVcmpltu e f s
  | .vcmple e f => Sys2Proof.Machine.execVcmple e f s
  | .vcmpleu e f => Sys2Proof.Machine.execVcmpleu e f s
  | .vredSum e rd rs1 rs2 func => Sys2Proof.Machine.execVredSum e rd rs1 rs2 func s
  | .vredMin e rd rs1 rs2 func => Sys2Proof.Machine.execVredMin e rd rs1 rs2 func s
  | .vredMax e rd rs1 rs2 func => Sys2Proof.Machine.execVredMax e rd rs1 rs2 func s
  | .vredMinu e rd rs1 rs2 func => Sys2Proof.Machine.execVredMinu e rd rs1 rs2 func s
  | .vredMaxu e rd rs1 rs2 func => Sys2Proof.Machine.execVredMaxu e rd rs1 rs2 func s
  | .vredAnd e rd rs1 rs2 func => Sys2Proof.Machine.execVredAnd e rd rs1 rs2 func s
  | .vredOr e rd rs1 rs2 func => Sys2Proof.Machine.execVredOr e rd rs1 rs2 func s
  | .vredXor e rd rs1 rs2 func => Sys2Proof.Machine.execVredXor e rd rs1 rs2 func s
  | .vbcast e rd rs1 rs2 func => Sys2Proof.Machine.execVbcast e rd rs1 rs2 func s
  | .vext e rd rs1 rs2 func => Sys2Proof.Machine.execVext e rd rs1 rs2 func s
  | .mtog e rd rs1 rs2 func => Sys2Proof.Machine.execMtog e rd rs1 rs2 func s
  | .gtom e rd rs1 rs2 func => Sys2Proof.Machine.execGtom e rd rs1 rs2 func s
  | .mpopc e rd rs1 rs2 func => Sys2Proof.Machine.execMpopc e rd rs1 rs2 func s
  | .pilotOfence e rd rs1 imm => Sys2Proof.Machine.execPilotOfence e rd rs1 imm s
  | .pilotPfence e rd rs1 imm => Sys2Proof.Machine.execPilotPfence e rd rs1 imm s
  | .dfence e rd rs1 imm => Sys2Proof.Machine.execDfence e rd rs1 imm s
  | .pilotFenceDone e => Sys2Proof.Machine.execPilotFenceDone e s
  | .crd e rd rs1 imm => Sys2Proof.Machine.execCrd e rd rs1 imm s
  | .cwr e rd rs1 imm => Sys2Proof.Machine.execCwr e rd rs1 imm s
  | .cset e rd rs1 imm => Sys2Proof.Machine.execCset e rd rs1 imm s
  | .cclr e rd rs1 imm => Sys2Proof.Machine.execCclr e rd rs1 imm s
  | .msgPop e rs1 => Sys2Proof.Machine.execMsgPop e rs1 s
  | .take e rd rs1 imm => Sys2Proof.Machine.execTake e rd rs1 imm s
  | .post e rd rs1 imm => Sys2Proof.Machine.execPost e rd rs1 imm s
  | .wait e rd rs1 imm => Sys2Proof.Machine.execWait e rd rs1 imm s
  | .halt e rd rs1 imm => Sys2Proof.Machine.execHalt e rd rs1 imm s
  | .sqDoorbell p q v => Sys2Proof.Machine.execSqDoorbell p q v s
  | .cqDoorbell p q v => Sys2Proof.Machine.execCqDoorbell p q v s
  | .descriptorFetch => Sys2Proof.Machine.execDescriptorFetch s
  | .descriptorDispatch q => Sys2Proof.Machine.execDescriptorDispatch q s
  | .descStage q => Sys2Proof.Machine.execDescStage q s
  | .descCourse q => Sys2Proof.Machine.execDescCourse q s
  | .descCourseAbort q => Sys2Proof.Machine.execDescCourseAbort q s
  | .descCommit e => Sys2Proof.Machine.execDescCommit e s
  | .descScan e => Sys2Proof.Machine.execDescScan e s
  | .descCopy e => Sys2Proof.Machine.execDescCopy e s
  | .descFill e => Sys2Proof.Machine.execDescFill e s
  | .descSeal e => Sys2Proof.Machine.execDescSeal e s
  | .descChecksum e => Sys2Proof.Machine.execDescChecksum e s
  | .descSnapshotTake e => Sys2Proof.Machine.execDescSnapshotTake e s
  | .descSnapshotCopy e => Sys2Proof.Machine.execDescSnapshotCopy e s
  | .descSnapshotDrop e => Sys2Proof.Machine.execDescSnapshotDrop e s
  | .descVsync e => Sys2Proof.Machine.execDescVsync e s
  | .descProbe e => Sys2Proof.Machine.execDescProbe e s
  | .descUser e status result => Sys2Proof.Machine.execDescUser e status result s
  | .irqCoalesceTimeout q => Sys2Proof.Machine.execIrqCoalesceTimeout q s
  | .hmpResponse tag stat data => Sys2Proof.Machine.execHmpResponse tag stat data s
  | .hmpTimeout tag => Sys2Proof.Machine.execHmpTimeout tag s
  | .dreSqCfgWrite p q v => Sys2Proof.Machine.execDreSqCfgWrite p q v s
  | .dreCqCfgWrite p q v => Sys2Proof.Machine.execDreCqCfgWrite p q v s
  | .dreVecCtlWrite p vec v => Sys2Proof.Machine.execDreVecCtlWrite p vec v s
  | .mapCommit p => Sys2Proof.Machine.execMapCommit p s
  | .reachEntryRead p => Sys2Proof.Machine.execReachEntryRead p s
  | .reachEntryWrite p v => Sys2Proof.Machine.execReachEntryWrite p v s
  | .modeSave p => Sys2Proof.Machine.execModeSave p s
  | .drEnter p => Sys2Proof.Machine.execDrEnter p s
  | .drAck p bits => Sys2Proof.Machine.execDrAck p bits s
  | .cfgModecfgWrite p v => Sys2Proof.Machine.execCfgModecfgWrite p v s
  | .cfgLock p => Sys2Proof.Machine.execCfgLock p s
  | .stsClr p off v => Sys2Proof.Machine.execStsClr p off v s
  | .stsCorRead p off => Sys2Proof.Machine.execStsCorRead p off s
  | .pairLoRead p off => Sys2Proof.Machine.execPairLoRead p off s
  | .pairHiWrite p off v => Sys2Proof.Machine.execPairHiWrite p off v s
  | .aliasRead p off => Sys2Proof.Machine.execAliasRead p off s
  | .aliasWrite p off v => Sys2Proof.Machine.execAliasWrite p off v s
  | .dpDataAccess p wr => Sys2Proof.Machine.execDpDataAccess p wr s
  | .dpBurst p wr => Sys2Proof.Machine.execDpBurst p wr s
  | .registerWrite p off v => Sys2Proof.Machine.execRegisterWrite p off v s
  | .mcRead frame => Sys2Proof.Machine.execMcRead frame s
  | .mcWrite frame => Sys2Proof.Machine.execMcWrite frame s
  | .mcSetaddr frame => Sys2Proof.Machine.execMcSetaddr frame s
  | .mcPing frame => Sys2Proof.Machine.execMcPing frame s
  | .mcForward frame => Sys2Proof.Machine.execMcForward frame s
  | .mcCrc frame => Sys2Proof.Machine.execMcCrc frame s
  | .chrsetWrite p v => Sys2Proof.Machine.execChrsetWrite p v s
  | .ptpSyncEdge => Sys2Proof.Machine.execPtpSyncEdge s
  | .ptpRefWrite p v => Sys2Proof.Machine.execPtpRefWrite p v s
  | .cselWrite p k v => Sys2Proof.Machine.execCselWrite p k v s
  | .counterSnap p => Sys2Proof.Machine.execCounterSnap p s
  | .counterClear p => Sys2Proof.Machine.execCounterClear p s
  | .logRdWrite p v => Sys2Proof.Machine.execLogRdWrite p v s
  | .logLatchRead p slot => Sys2Proof.Machine.execLogLatchRead p slot s
  | .traceArm p => Sys2Proof.Machine.execTraceArm p s
  | .traceStop p => Sys2Proof.Machine.execTraceStop p s
  | .traceLatchRead p => Sys2Proof.Machine.execTraceLatchRead p s
  | .lookoutWarn e trigger => Sys2Proof.Machine.execLookoutWarn e trigger s
  | .lookoutStop e => Sys2Proof.Machine.execLookoutStop e s
  | .lookoutFail e => Sys2Proof.Machine.execLookoutFail e s
  | .lookoutKick p => Sys2Proof.Machine.execLookoutKick p s
  | .firmwareKickTimeout => Sys2Proof.Machine.execFirmwareKickTimeout s
  | .lookoutDr => Sys2Proof.Machine.execLookoutDr s
  | .lkoCfgWrite p v => Sys2Proof.Machine.execLkoCfgWrite p v s
  | .rstNAssert => Sys2Proof.Machine.execRstNAssert s
  | .rstNRelease edgeSync => Sys2Proof.Machine.execRstNRelease edgeSync s
  | .powerUpSelftestDone engines cores => Sys2Proof.Machine.execPowerUpSelftestDone engines cores s
  | .bypass => Sys2Proof.Machine.execBypass s
  | .idcode => Sys2Proof.Machine.execIdcode s
  | .samplePreload cells => Sys2Proof.Machine.execSamplePreload cells s
  | .extest cells => Sys2Proof.Machine.execExtest cells s
  | .ijtag mbist fuse => Sys2Proof.Machine.execIjtag mbist fuse s
  | .scan => Sys2Proof.Machine.execScan s
  | .badOpcode op q => Sys2Proof.Machine.execBadOpcode op q s
  | .illegalInstruction e w => Sys2Proof.Machine.execIllegalInstruction e w s
  | .conditionalStoreResponse e => Sys2Proof.Machine.execConditionalStoreResponse e s

end Sys2Proof.Machine
end

