-- ==== Sys2Proof/Machine/Tick.lean ====
section
/-! DEFINITION. The Chronometer's advance in one REFCLK period with its slew correction (R474, R476). -/

namespace Sys2Proof.Machine

/-- The time of one REFCLK period (R474): 10 ns, or one nanosecond more or less where the slew of R476 corrects. -/
def State.refclk (s : State) : State :=
  let t := s.tel
  if t.slewLeft = 0 then { s with chron := s.chron + 10 }
  else if t.slewCount + 1 < t.slewDiv then
    { s with chron := s.chron + 10, tel := { t with slewCount := t.slewCount + 1 } }
  else if 0 < t.slewLeft then
    { s with chron := s.chron + 11, tel := { t with slewCount := 0, slewLeft := t.slewLeft - 1 } }
  else { s with chron := s.chron + 9, tel := { t with slewCount := 0, slewLeft := t.slewLeft + 1 } }

/-- One REFCLK period: the time passes, and the counters of time take it (R474, R478). While the reset input is
held nothing advances. -/
def State.tick (s : State) : State :=
  if s.cfg.resetHeld then s else (s.refclk.lapse s).flush.withQueue s

end Sys2Proof.Machine
end

