-- ==== Sys2Proof/WellFormed.lean ====
section
/-! DEFINITION. Which commands are well formed: the operand values the spec gives a command where their Lean type is wider. -/

namespace Sys2Proof

/-- The OP code of a far atomic (R58). -/
def atomOpCode : Instr → Option Nat
  | .atomCas8 _ => some 0
  | .atomCas16 _ => some 1
  | .atomFadd _ => some 2
  | .atomSwap _ => some 3
  | .atomAnd _ => some 4
  | .atomOr _ => some 5
  | _ => none

/-- The operation bits FUNC[2:0] of a Pilot instruction whose mnemonic fixes them (R402, R403), with its FUNC. -/
def funcCode : Instr → Option (Nat × BitVec 11)
  | .farCas8 _ _ _ _ f => some (0, f)
  | .farCas16 _ _ _ _ f => some (1, f)
  | .farFadd _ _ _ _ f => some (2, f)
  | .farSwap _ _ _ _ f => some (3, f)
  | .farAnd _ _ _ _ f => some (4, f)
  | .farOr _ _ _ _ f => some (5, f)
  | .vredSum _ _ _ _ f => some (0, f)
  | .vredMin _ _ _ _ f => some (1, f)
  | .vredMax _ _ _ _ f => some (2, f)
  | .vredMinu _ _ _ _ f => some (3, f)
  | .vredMaxu _ _ _ _ f => some (4, f)
  | .vredAnd _ _ _ _ f => some (5, f)
  | .vredOr _ _ _ _ f => some (6, f)
  | .vredXor _ _ _ _ f => some (7, f)
  | .vbcast _ _ _ _ f => some (0, f)
  | .vext _ _ _ _ f => some (1, f)
  | .mtog _ _ _ _ f => some (2, f)
  | .gtom _ _ _ _ f => some (3, f)
  | .mpopc _ _ _ _ f => some (4, f)
  | _ => none

/-- A leaf index has 34 bits (R38). -/
def leafFits (leaf : Nat) : Bool := decide (leaf < 2 ^ 34)

/-- The bundle of an ATOM row names the row's operation in ATTR (R58). -/
def atomFits (q : HostReq) (op : Nat) : Bool := q.attr.toNat % 8 == op

/-- A reserved opcode, or an ATOM whose operation is reserved (R57, R58). -/
def reservedFits (op : BitVec 4) (q : HostReq) : Bool :=
  decide (0xB ≤ op.toNat) || (op == 3 && decide (6 ≤ q.attr.toNat % 8))

/-- A module has one to four chip selects (R231). -/
def hubFits (m : SpdModule) : Bool := decide (1 ≤ m.chipSelects) && decide (m.chipSelects ≤ 4)

/-- A segment index is below 2^31 (R46). -/
def segFits (g : Nat) : Bool := decide (g < 2 ^ 31)

/-- A command is well formed. -/
def wellFormed (i : Instr) : Bool :=
  match atomOpCode i, funcCode i with
  | _, some (n, f) => f.toNat % 8 == n
  | some n, none => match i with
    | .atomCas8 q | .atomCas16 q | .atomFadd q | .atomSwap q | .atomAnd q | .atomOr q => atomFits q n
    | _ => true
  | none, none => match i with
    | .badOpcode op q => reservedFits op q
    | .sgtDiscover _ hubs => hubs.all hubFits
    | .leafRefillDone leaf | .wqHealFetch leaf | .healTimeout leaf => leafFits leaf
    | .sealFlush g | .sealDone g => segFits g
    | .powerUpSelftestDone es cs => decide es.Nodup && decide cs.Nodup
    | _ => true

end Sys2Proof
end

