-- ==== Sys2Proof/Safety.lean ====
section
/-! DEFINITION. What counts as a sound state of the block and a safe command, in the terms the statements use. -/

namespace Sys2Proof.Machine

/-- The block takes commands: its reset input is released (R440). -/
def State.ready (s : State) : Bool := !s.cfg.resetHeld

/-- Everything a command raised is recorded: no status event and no log entry of it is left over (R454, R481). -/
def State.recorded (s : State) : Bool := s.evts.isEmpty && s.logq.isEmpty

/-- The rows of the reset input and of the test access port (R506–R514), which act outside the block's own logic. -/
def boardRow : Instr → Bool
  | .rstNAssert | .rstNRelease _ | .bypass | .idcode | .samplePreload _ | .extest _ | .ijtag _ _ | .scan => true
  | _ => false

/-- What a command answers whose own effect leaves `u`: the block goes on from there until it is at rest, the counters of
time take the time it took, everything raised is recorded, and the queue is the one it found. -/
def State.goesOn (s u : State) : Host.Outcome State Fault Refusal := .next ((u.settle.lapse s).flush.withQueue s)

/-- The block takes commands, nothing is left to record, and the engine issues its next instruction (R373). -/
def State.pilotReady (s : State) (e : EngineNo) : Bool := s.ready && s.recorded && s.issues e

/-- An instruction that changes its engine alone. -/
def State.engineBecomes (s : State) (e : EngineNo) (f : Engine → Engine) : Host.Outcome State Fault Refusal :=
  .next (s.updEngine e f)

/-- An instruction that writes one general register. -/
def State.writesReg (s : State) (e : EngineNo) (rd : BitVec 5) (v : DWord) : Host.Outcome State Fault Refusal :=
  s.engineBecomes e fun n => (n.setG rd v).next

/-- An instruction that writes one Sweep register, whose first `count` elements of `w` bits are given. -/
def State.writesVec (s : State) (e : EngineNo) (vd : BitVec 4) (w count : Nat) (elem : Nat → Nat)
    (o : Host.Outcome State Fault Refusal) : Prop :=
  ∃ l : Line, o = s.engineBecomes e (fun n => (n.setV vd l).next) ∧ ∀ i, i < count → elemAt l w i = elem i

/-- An instruction that writes one mask, whose first `count` bits are given and whose other bits are 0. -/
def State.writesMask (s : State) (e : EngineNo) (md : BitVec 3) (count : Nat) (on : Nat → Bool)
    (o : Host.Outcome State Fault Refusal) : Prop :=
  ∃ m : DWord, o = s.engineBecomes e (fun n => (n.setM md m).next) ∧
    ∀ i, m.getLsbD i = (decide (i < count) && on i)

/-- An elementwise Sweep instruction: a selected element has the result modulo its width, another keeps its value. -/
def State.lanesBecome (s : State) (e : EngineNo) (vd : BitVec 4) (w count : Nat) (sel : Nat → Bool) (r : Nat → Nat)
    (o : Host.Outcome State Fault Refusal) : Prop :=
  s.writesVec e vd w count (fun i => if sel i then r i % 2 ^ w else elemAt ((s.engine e).vec vd) w i) o

/-- A branch of the engine: taken, it goes to pc + 4 × woff16 modulo 2^16, else to the next instruction. -/
def State.branches (s : State) (e : EngineNo) (woff : BitVec 16) (taken : Bool) : Host.Outcome State Fault Refusal :=
  s.engineBecomes e fun n =>
    { n with pc := BitVec.ofInt 16 ((n.pc.toNat : Int) + if taken then 4 * woff.toInt else 4) }

/-- An engine that raises an exception (R409): it takes no effect of the instruction, stops issuing and keeps the cause and
the address of the instruction. -/
def State.traps (s : State) (e : EngineNo) (cause : BitVec 8) (log : Option (Nat × Nat)) : State :=
  s.raiseExc e cause (s.engine e).pc log

/-- An access of an engine at the memory port (R396, R405): the engine keeps it, is past the instruction, and waits. An
atomic and a conditional store first make the store-buffer entries of their line begin to issue (R404). -/
def State.asks (s : State) (e : EngineNo) (kind : LoadKind) (a : Nat) (w : PWait) : State :=
  s.updEngine e fun n =>
    { n with
      loads := n.loads ++ [{ seq := n.nextLoad, kind := kind, addr := BitVec.ofNat 64 a
                             want := (pieces a kind.size).map (·.1), pc := n.pc }]
      nextLoad := n.nextLoad + 1
      buffer := match kind with
        | .atom _ _ _ | .cond _ _ => n.buffer.map fun b => if b.line = a / 64 then { b with closed := true } else b
        | _ => n.buffer
      pc := n.pc + 4
      wait := w }

/-- A store whose bytes lie in one line opens an entry of the store buffer that holds them (R80). -/
def State.opensEntry (s : State) (e : EngineNo) (a n v : Nat) : State :=
  s.updEngine e fun g =>
    { g with
      buffer := [{ id := g.nextSb, line := a / 64, mask := BitVec.ofNat 64 ((2 ^ n - 1) <<< (a % 64))
                   data := BitVec.ofNat 512 (v <<< (8 * (a % 64))), opened := s.chron }]
      nextSb := g.nextSb + 1
      pc := g.pc + 4 }

/-- RQ_REQ and RQ_ACK of a port have changed: a request has been handed over at once (R53, R55). -/
def State.shaken (s : State) (p : Fin 16) : State :=
  s.setPort p { s.port p with rqReq := !(s.port p).rqReq, rqAck := !(s.port p).rqAck }

/-- A port takes a request at once: none is withheld before it, it acknowledges, and the tag is free (R55, R62). -/
def State.portTakes (s : State) (q : HostReq) : Bool :=
  (s.port q.port).unacked.isEmpty && s.acks q.port && (aget ((s.shaken q.port).port q.port).tags q.tag.toNat).isNone

/-- A request has been handed over; its tag is recorded, and the request counted (R62, R478). -/
def State.tagged (s : State) (op : HostOp) (q : HostReq) : State :=
  let s0 := s.shaken q.port
  let port := s0.port q.port
  let s1 := (s0.count 1 0 q.port 1).setPort q.port
    { port with tags := aput port.tags q.tag.toNat { op := op, q := q, arrived := s.chron, no := s.atu.nextNo } }
  s1.updAtu fun a => { a with nextNo := s.atu.nextNo + 1 }

/-- A request joins those that wait, last in order of arrival, and the ingress queue of its port (R55, R63). -/
def State.joins (s : State) (op : HostOp) (q : HostReq) : State :=
  ((s.tagged op q).updAtu fun a =>
    { a with waiting := a.waiting ++ [{ no := s.atu.nextNo, src := .host op q, arrived := s.chron }] }).qIn
      (.hpxIngress q.port) q.addr.toNat

/-- What a register-window command answers: CFG keeps the response code for the path, and the block goes on. -/
def State.answers (s : State) (p : Path) (c : Code) (u : State) : Host.Outcome State Fault Refusal :=
  s.goesOn (u.answered p c 0)

/-- The block takes register accesses of a path (R439, R440, R458). -/
def State.takesReg (s : State) (p : Path) : Bool := s.ready && s.reaches p

/-- A write of a whole word to a register that is neither a pair nor a data word passes every check (R451, R456–R458): the
mode, the locks, its range, and its reserved bits as they read. -/
def State.passes (s : State) (p : Path) (off : Nat) (v : Word) : Bool :=
  s.takesReg p && match regSpec off with
    | none => false
    | some r => !isStsClr off && !r.pair && !isPairHi off && (dataPort off).isNone && !s.modeRefuses off v && !s.violates r off v
        && !s.markRefuses off v && (s.rangeRefuses off v).isNone && (v ^^^ s.view off) &&& r.rsv == 0

/-- The word a write leaves in a register: the writable bits as written, the others as stored (R7). -/
def State.newWord (s : State) (off : Nat) (v : Word) : Word :=
  match regSpec off with
  | none => 0
  | some r => (s.reg off &&& ~~~(r.rw ||| r.lk ||| r.wo1 ||| r.w1p ||| r.wo)) ||| (v &&& (r.rw ||| r.lk ||| r.wo1 ||| r.w1p ||| r.wo))

/-- A register keeps the word a write leaves; nothing else of the block changes. -/
def State.keepsWord (s : State) (p : Path) (off : Nat) (v : Word) : Host.Outcome State Fault Refusal :=
  s.answers p .ok (s.setReg off (s.newWord off v))

/-- What a command answers whose effect `u` lets no other work of the block go on. -/
def State.becomes (s u : State) : Host.Outcome State Fault Refusal := .next ((u.lapse s).flush.withQueue s)

/-- What a register read answers: the word stands in the low bytes of the answer kept for the path. -/
def State.reads (s : State) (p : Path) (w : Word) (u : State) : Host.Outcome State Fault Refusal :=
  s.goesOn (u.answered p .ok (w.setWidth 512))

/-- What the arrival of a control frame at a time does before its own effect (R137, R138, R140): the time of the last one, the
lane's next sequence, and the frame's ACK. -/
def State.receives (s : State) (now : Nat) (g : Frame) : State :=
  ((s.updTwn fun t => { t with lastControl := now }).accepted 2).laneAck 2 g.ack

/-- What a command answers whose own effect leaves `u`: the control frames it made go out (R136, R139). -/
def State.goesOut (s u : State) : Host.Outcome State Fault Refusal := s.goesOn u.sendCtrl

/-- What a control frame of a kind answers whose own effect leaves `u`: once the twin has acknowledged this HELLO the link
comes up, and the control frames that were made go out (R138, R142). -/
def State.replies (s u : State) : Host.Outcome State Fault Refusal := s.goesOn u.helloDone.sendCtrl

/-- The word an ECC_CMD command writes: GO, its OP, and the fields of the word given (R290). -/
def eccWord (op : Nat) (v : Word) : Word := (v &&& 0x0FBFE00F) ||| BitVec.ofNat 32 (op * 2 ^ 28) ||| 0x80000000

/-- The keys of a list rise: no key stands twice. -/
def keysRise {α : Type} (l : List (Nat × α)) : Bool :=
  match l with
  | [] => true
  | [_] => true
  | x :: y :: r => decide (x.1 < y.1) && keysRise (y :: r)

end Sys2Proof.Machine
end

