-- ==== Sys2Proof/Certificates/Slice0/Obligations.lean ====
section
/-! DEFINITION. The statements about the block, for the provers. -/

open Sys2Proof Sys2Proof.Machine

/-! ### Pilot instructions -/

/-- R401: the operations of the ALU write the table's result to rd, the pc goes to the next instruction, and nothing else of
the block changes. A division whose divisor is zero sets ARITH.DIVZ as well, any other leaves ARITH. CLZ and CTZ count up to
the first set bit from their end, 64 where there is none; BSWAP turns the bytes round; an operation of one operand with an
rs2 field that is not zero is illegal (R399). -/
def Obligations.ScalarResults : Prop :=
  ∀ (s : State) (e : EngineNo) (rd rs1 rs2 : BitVec 5) (a b : DWord),
    s.pilotReady e = true → a = (s.engine e).reg rs1 → b = (s.engine e).reg rs2 →
    exec (.add e rd rs1 rs2) s = s.writesReg e rd (BitVec.ofNat 64 (a.toNat + b.toNat))
    ∧ exec (.sub e rd rs1 rs2) s = s.writesReg e rd (BitVec.ofInt 64 ((a.toNat : Int) - b.toNat))
    ∧ exec (.and e rd rs1 rs2) s = s.writesReg e rd (a &&& b)
    ∧ exec (.or e rd rs1 rs2) s = s.writesReg e rd (a ||| b)
    ∧ exec (.xor e rd rs1 rs2) s = s.writesReg e rd (a ^^^ b)
    ∧ exec (.sll e rd rs1 rs2) s = s.writesReg e rd (a <<< (b.toNat % 64))
    ∧ exec (.srl e rd rs1 rs2) s = s.writesReg e rd (a >>> (b.toNat % 64))
    ∧ exec (.sra e rd rs1 rs2) s = s.writesReg e rd (a.sshiftRight (b.toNat % 64))
    ∧ exec (.cmplt e rd rs1 rs2) s = s.writesReg e rd (if a.toInt < b.toInt then 1 else 0)
    ∧ exec (.cmpltu e rd rs1 rs2) s = s.writesReg e rd (if a.toNat < b.toNat then 1 else 0)
    ∧ exec (.cmpeq e rd rs1 rs2) s = s.writesReg e rd (if a = b then 1 else 0)
    ∧ exec (.cmple e rd rs1 rs2) s = s.writesReg e rd (if a.toInt ≤ b.toInt then 1 else 0)
    ∧ exec (.cmpleu e rd rs1 rs2) s = s.writesReg e rd (if a.toNat ≤ b.toNat then 1 else 0)
    ∧ exec (.mul e rd rs1 rs2) s = s.writesReg e rd (BitVec.ofNat 64 (a.toNat * b.toNat))
    ∧ exec (.mulhu e rd rs1 rs2) s = s.writesReg e rd (BitVec.ofNat 64 (a.toNat * b.toNat / 2 ^ 64))
    ∧ exec (.min e rd rs1 rs2) s = s.writesReg e rd (if a.toInt ≤ b.toInt then a else b)
    ∧ exec (.max e rd rs1 rs2) s = s.writesReg e rd (if a.toInt ≤ b.toInt then b else a)
    ∧ exec (.minu e rd rs1 rs2) s = s.writesReg e rd (if a.toNat ≤ b.toNat then a else b)
    ∧ exec (.maxu e rd rs1 rs2) s = s.writesReg e rd (if a.toNat ≤ b.toNat then b else a)
    ∧ exec (.crc e rd rs1 rs2) s = s.writesReg e rd
        (BitVec.ofNat 64 ((natBytes 8 b.toNat).foldl (fun c x => crcByte c x.toNat) (a.toNat % 2 ^ 32)))
    ∧ (b = 0 →
      exec (.divu e rd rs1 rs2) s = s.engineBecomes e (fun n => { n.setG rd 0 with arith := n.arith ||| 1 }.next)
      ∧ exec (.remu e rd rs1 rs2) s = s.engineBecomes e (fun n => { n.setG rd a with arith := n.arith ||| 1 }.next)
      ∧ exec (.div e rd rs1 rs2) s = s.engineBecomes e (fun n => { n.setG rd 0 with arith := n.arith ||| 1 }.next)
      ∧ exec (.rem e rd rs1 rs2) s = s.engineBecomes e (fun n => { n.setG rd a with arith := n.arith ||| 1 }.next))
    ∧ (b ≠ 0 →
      exec (.divu e rd rs1 rs2) s = s.writesReg e rd (BitVec.ofNat 64 (a.toNat / b.toNat))
      ∧ exec (.remu e rd rs1 rs2) s = s.writesReg e rd (BitVec.ofNat 64 (a.toNat % b.toNat))
      ∧ exec (.div e rd rs1 rs2) s = s.writesReg e rd (BitVec.ofInt 64 (a.toInt.tdiv b.toInt))
      ∧ exec (.rem e rd rs1 rs2) s = s.writesReg e rd (BitVec.ofInt 64 (a.toInt.tmod b.toInt)))
    ∧ (∃ k : Nat, exec (.clz e rd rs1 0) s = s.writesReg e rd (BitVec.ofNat 64 k) ∧ k ≤ 64
      ∧ (∀ i, i < k → a.getLsbD (63 - i) = false) ∧ (k < 64 → a.getLsbD (63 - k) = true))
    ∧ (∃ k : Nat, exec (.ctz e rd rs1 0) s = s.writesReg e rd (BitVec.ofNat 64 k) ∧ k ≤ 64
      ∧ (∀ i, i < k → a.getLsbD i = false) ∧ (k < 64 → a.getLsbD k = true))
    ∧ exec (.popc e rd rs1 0) s = s.writesReg e rd (BitVec.ofNat 64 ((List.range 64).countP fun i => a.getLsbD i))
    ∧ ∃ r : DWord, exec (.bswap e rd rs1 0) s = s.writesReg e rd r
      ∧ ∀ i, i < 8 → r.extractLsb' (8 * i) 8 = a.extractLsb' (8 * (7 - i)) 8
    ∧ (rs2 ≠ 0 → ∀ t, t = Host.Outcome.next ((s.traps e 0x10 none).flush) → exec (.clz e rd rs1 rs2) s = t
      ∧ exec (.ctz e rd rs1 rs2) s = t ∧ exec (.popc e rd rs1 rs2) s = t ∧ exec (.bswap e rd rs1 rs2) s = t)


/-- R398, R400: the instructions with a 16-bit immediate, each with the extension R398 gives it, and the shifts by an
immediate whose upper byte is zero. -/
def Obligations.ImmediateResults : Prop :=
  ∀ (s : State) (e : EngineNo) (rd rs1 : BitVec 5) (imm : BitVec 16) (a : DWord),
    s.pilotReady e = true → a = (s.engine e).reg rs1 →
    exec (.addi e rd rs1 imm) s = s.writesReg e rd (a + imm.signExtend 64)
    ∧ exec (.andi e rd rs1 imm) s = s.writesReg e rd (a &&& imm.zeroExtend 64)
    ∧ exec (.ori e rd rs1 imm) s = s.writesReg e rd (a ||| imm.zeroExtend 64)
    ∧ exec (.xori e rd rs1 imm) s = s.writesReg e rd (a ^^^ imm.zeroExtend 64)
    ∧ exec (.cmplti e rd rs1 imm) s = s.writesReg e rd (if a.toInt < imm.toInt then 1 else 0)
    ∧ exec (.cmpltui e rd rs1 imm) s = s.writesReg e rd (if a.toNat < (imm.signExtend 64).toNat then 1 else 0)
    ∧ exec (.shin e rd rs1 imm) s = s.writesReg e rd ((a <<< 16) ||| imm.zeroExtend 64)
    ∧ exec (.movi e rd 0 imm) s = s.writesReg e rd (imm.signExtend 64)
    ∧ (imm.toNat < 256 →
      exec (.shiSll e rd rs1 imm) s = s.writesReg e rd (a <<< (imm.toNat % 64))
      ∧ exec (.shiSrl e rd rs1 imm) s = s.writesReg e rd (a >>> (imm.toNat % 64))
      ∧ exec (.shiSra e rd rs1 imm) s = s.writesReg e rd (a.sshiftRight (imm.toNat % 64))
      ∧ exec (.shiRor e rd rs1 imm) s = s.writesReg e rd ((a >>> (imm.toNat % 64)) ||| (a <<< ((64 - imm.toNat % 64) % 64))))

/-- R400: the branches. A taken branch goes to pc + 4 × woff16, modulo 2^16, another to the next instruction; no register
changes. -/
def Obligations.BranchTargets : Prop :=
  ∀ (s : State) (e : EngineNo) (rs1 : BitVec 5) (woff : BitVec 16) (a : DWord),
    s.pilotReady e = true → a = (s.engine e).reg rs1 →
    exec (.bcondEqz e rs1 0 woff) s = s.branches e woff (decide (a = 0))
    ∧ exec (.bcondNez e rs1 0 woff) s = s.branches e woff (decide (a ≠ 0))
    ∧ exec (.bcondLtz e rs1 0 woff) s = s.branches e woff (decide (a.toInt < 0))
    ∧ exec (.bcondGez e rs1 0 woff) s = s.branches e woff (decide (0 ≤ a.toInt))
    ∧ exec (.bcondGtz e rs1 0 woff) s = s.branches e woff (decide (0 < a.toInt))
    ∧ exec (.bcondLez e rs1 0 woff) s = s.branches e woff (decide (a.toInt ≤ 0))
    ∧ exec (.bcondOdd e rs1 0 woff) s = s.branches e woff (decide (a.toNat % 2 = 1))
    ∧ exec (.bcondEven e rs1 0 woff) s = s.branches e woff (decide (a.toNat % 2 = 0))
    ∧ exec (.bcondAlways e 0 0 woff) s = s.branches e woff true

/-- R400: CALL, and JUMPR and CALLR with a target that is a multiple of 4: the target, modulo 2^16, and the return address
in rd. -/
def Obligations.JumpTargets : Prop :=
  ∀ (s : State) (e : EngineNo) (rd rs1 : BitVec 5) (imm : BitVec 16) (woff : BitVec 21) (pc target : BitVec 16),
    s.pilotReady e = true → pc = (s.engine e).pc →
    target = BitVec.ofInt 16 ((((s.engine e).reg rs1).toNat : Int) + imm.toInt) →
    exec (.call e rd woff) s = s.engineBecomes e (fun n =>
      { n.setG rd (BitVec.ofNat 64 (pc.toNat + 4)) with pc := BitVec.ofInt 16 ((pc.toNat : Int) + 4 * woff.toInt) })
    ∧ (target.toNat % 4 = 0 →
      exec (.jumpr e 0 rs1 imm) s = s.engineBecomes e (fun n => { n with pc := target })
      ∧ exec (.callr e rd rs1 imm) s = s.engineBecomes e (fun n =>
          { n.setG rd (BitVec.ofNat 64 (pc.toNat + 4)) with pc := target }))
    ∧ (target.toNat % 4 ≠ 0 →
      exec (.jumpr e 0 rs1 imm) s = .next (s.traps e 0x11 (some (target.toNat, 0))).flush
      ∧ exec (.callr e rd rs1 imm) s = .next (s.traps e 0x11 (some (target.toNat, 0))).flush)

/-- R402: the elementwise Sweep operations. A selected element has the result, modulo its width; an element that is not
selected keeps vd's previous value. -/
def Obligations.SweepElementwise : Prop :=
  ∀ (s : State) (e : EngineNo) (f : VFields) (w k : Nat) (x y : Nat → Nat) (sel : Nat → Bool),
    s.pilotReady e = true → (f.all = 1 → f.mask = 0) → w = 8 * 2 ^ f.elem.toNat → k = 64 / 2 ^ f.elem.toNat →
    (x = fun i => elemAt ((s.engine e).vec f.va) w i) → (y = fun i => elemAt ((s.engine e).vec f.vb) w i) →
    (sel = fun i => f.all == 1 || ((s.engine e).mask f.mask).getLsbD i) →
    s.lanesBecome e f.vd w k sel (fun i => x i + y i) (exec (.vadd e f) s)
    ∧ s.lanesBecome e f.vd w k sel (fun i => x i + 2 ^ w - y i) (exec (.vsub e f) s)
    ∧ s.lanesBecome e f.vd w k sel (fun i => x i * y i) (exec (.vmul e f) s)
    ∧ s.lanesBecome e f.vd w k sel (fun i => if elemInt w (x i) ≤ elemInt w (y i) then x i else y i) (exec (.vmin e f) s)
    ∧ s.lanesBecome e f.vd w k sel (fun i => if elemInt w (x i) ≤ elemInt w (y i) then y i else x i) (exec (.vmax e f) s)
    ∧ s.lanesBecome e f.vd w k sel (fun i => min (x i) (y i)) (exec (.vminu e f) s)
    ∧ s.lanesBecome e f.vd w k sel (fun i => max (x i) (y i)) (exec (.vmaxu e f) s)
    ∧ s.lanesBecome e f.vd w k sel (fun i => x i &&& y i) (exec (.vand e f) s)
    ∧ s.lanesBecome e f.vd w k sel (fun i => x i ||| y i) (exec (.vor e f) s)
    ∧ s.lanesBecome e f.vd w k sel (fun i => x i ^^^ y i) (exec (.vxor e f) s)
    ∧ s.lanesBecome e f.vd w k sel (fun i => x i &&& (2 ^ w - 1 - y i)) (exec (.vandn e f) s)
    ∧ s.lanesBecome e f.vd w k sel (fun i => x i <<< (y i % w)) (exec (.vsll e f) s)
    ∧ s.lanesBecome e f.vd w k sel (fun i => x i >>> (y i % w)) (exec (.vsrl e f) s)
    ∧ s.lanesBecome e f.vd w k sel (fun i => ((BitVec.ofNat w (x i)).sshiftRight (y i % w)).toNat) (exec (.vsra e f) s)

/-- R402: VSEL takes va where an element is selected and vb where it is not; VCOMPRESS packs the selected elements of va,
in ascending order, into the low elements of vd and clears the rest. -/
def Obligations.SweepSelection : Prop :=
  ∀ (s : State) (e : EngineNo) (f : VFields) (w k : Nat) (x y : Nat → Nat) (sel : Nat → Bool),
    s.pilotReady e = true → (f.all = 1 → f.mask = 0) → w = 8 * 2 ^ f.elem.toNat → k = 64 / 2 ^ f.elem.toNat →
    (x = fun i => elemAt ((s.engine e).vec f.va) w i) → (y = fun i => elemAt ((s.engine e).vec f.vb) w i) →
    (sel = fun i => f.all == 1 || ((s.engine e).mask f.mask).getLsbD i) →
    s.writesVec e f.vd w k (fun i => if sel i then x i else y i) (exec (.vsel e f) s)
    ∧ s.writesVec e f.vd w k (fun i => ((((List.range k).filter sel).map x)[i]?).getD 0) (exec (.vcompress e f) s)

/-- R402: the Sweep compares. Bit e of the destination mask is 1 where the comparison holds and the element is selected,
and 0 elsewhere. -/
def Obligations.SweepCompares : Prop :=
  ∀ (s : State) (e : EngineNo) (f : VFields) (w k : Nat) (x y : Nat → Nat) (sel : Nat → Bool),
    s.pilotReady e = true → (f.all = 1 → f.mask = 0) → f.vd.toNat < 8 → w = 8 * 2 ^ f.elem.toNat →
    k = 64 / 2 ^ f.elem.toNat →
    (x = fun i => elemAt ((s.engine e).vec f.va) w i) → (y = fun i => elemAt ((s.engine e).vec f.vb) w i) →
    (sel = fun i => f.all == 1 || ((s.engine e).mask f.mask).getLsbD i) →
    s.writesMask e (f.vd.setWidth 3) k (fun i => sel i && decide (x i = y i)) (exec (.vcmpeq e f) s)
    ∧ s.writesMask e (f.vd.setWidth 3) k (fun i => sel i && decide (x i ≠ y i)) (exec (.vcmpne e f) s)
    ∧ s.writesMask e (f.vd.setWidth 3) k (fun i => sel i && decide (elemInt w (x i) < elemInt w (y i))) (exec (.vcmplt e f) s)
    ∧ s.writesMask e (f.vd.setWidth 3) k (fun i => sel i && decide (x i < y i)) (exec (.vcmpltu e f) s)
    ∧ s.writesMask e (f.vd.setWidth 3) k (fun i => sel i && decide (elemInt w (x i) ≤ elemInt w (y i))) (exec (.vcmple e f) s)
    ∧ s.writesMask e (f.vd.setWidth 3) k (fun i => sel i && decide (x i ≤ y i)) (exec (.vcmpleu e f) s)

/-- R402: the reductions of the selected elements into rd; an empty selection gives 0. MIN and MAX compare and extend as
signed numbers, the others as unsigned ones, SUM modulo 2^64. -/
def Obligations.SweepReductions : Prop :=
  ∀ (s : State) (e : EngineNo) (rd rs1 rs2 : BitVec 5) (func : BitVec 11) (w k : Nat) (xs : List Nat),
    s.pilotReady e = true → rs1.toNat < 16 → func.getLsbD 10 = false → func.extractLsb' 4 4 = 0 →
    (func.getLsbD 3 = true → rs2 = 0) → rs2.toNat < 8 →
    w = 8 * 2 ^ (func.extractLsb' 8 2).toNat → k = 64 / 2 ^ (func.extractLsb' 8 2).toNat →
    xs = ((List.range k).filter fun i => func.getLsbD 3 || ((s.engine e).mask (rs2.setWidth 3)).getLsbD i).map
      (fun i => elemAt ((s.engine e).vec (rs1.setWidth 4)) w i) →
    exec (.vredSum e rd rs1 rs2 func) s = s.writesReg e rd (BitVec.ofNat 64 xs.sum)
    ∧ (xs = [] →
      exec (.vredMin e rd rs1 rs2 func) s = s.writesReg e rd 0 ∧ exec (.vredMax e rd rs1 rs2 func) s = s.writesReg e rd 0
      ∧ exec (.vredMinu e rd rs1 rs2 func) s = s.writesReg e rd 0 ∧ exec (.vredMaxu e rd rs1 rs2 func) s = s.writesReg e rd 0
      ∧ exec (.vredAnd e rd rs1 rs2 func) s = s.writesReg e rd 0 ∧ exec (.vredOr e rd rs1 rs2 func) s = s.writesReg e rd 0
      ∧ exec (.vredXor e rd rs1 rs2 func) s = s.writesReg e rd 0)
    ∧ (∀ x r, xs = x :: r →
      (∃ m : Nat, m ∈ xs ∧ (∀ j ∈ xs, elemInt w m ≤ elemInt w j)
        ∧ exec (.vredMin e rd rs1 rs2 func) s = s.writesReg e rd (BitVec.ofInt 64 (elemInt w m)))
      ∧ (∃ m : Nat, m ∈ xs ∧ (∀ j ∈ xs, elemInt w j ≤ elemInt w m)
        ∧ exec (.vredMax e rd rs1 rs2 func) s = s.writesReg e rd (BitVec.ofInt 64 (elemInt w m)))
      ∧ (∃ m : Nat, m ∈ xs ∧ (∀ j ∈ xs, m ≤ j) ∧ exec (.vredMinu e rd rs1 rs2 func) s = s.writesReg e rd (BitVec.ofNat 64 m))
      ∧ (∃ m : Nat, m ∈ xs ∧ (∀ j ∈ xs, j ≤ m) ∧ exec (.vredMaxu e rd rs1 rs2 func) s = s.writesReg e rd (BitVec.ofNat 64 m))
      ∧ exec (.vredAnd e rd rs1 rs2 func) s = s.writesReg e rd (BitVec.ofNat 64 (r.foldl (fun a b => a &&& b) x))
      ∧ exec (.vredOr e rd rs1 rs2 func) s = s.writesReg e rd (BitVec.ofNat 64 (r.foldl (fun a b => a ||| b) x))
      ∧ exec (.vredXor e rd rs1 rs2 func) s = s.writesReg e rd (BitVec.ofNat 64 (r.foldl (fun a b => a ^^^ b) x)))

/-- R402: the moves between the register files, at the width FUNC[9:8] names. -/
def Obligations.SweepMoves : Prop :=
  ∀ (s : State) (e : EngineNo) (rd rs1 rs2 : BitVec 5) (func : BitVec 11) (w k : Nat) (a : DWord),
    s.pilotReady e = true → func.getLsbD 10 = false → func.extractLsb' 3 5 = 0 →
    w = 8 * 2 ^ (func.extractLsb' 8 2).toNat → k = 64 / 2 ^ (func.extractLsb' 8 2).toNat → a = (s.engine e).reg rs1 →
    (rd.toNat < 16 → s.writesVec e (rd.setWidth 4) w k (fun _ => a.toNat % 2 ^ w) (exec (.vbcast e rd rs1 rs2 func) s))
    ∧ (rs1.toNat < 16 → exec (.vext e rd rs1 rs2 func) s = s.writesReg e rd
        (BitVec.ofNat 64 (elemAt ((s.engine e).vec (rs1.setWidth 4)) w (((s.engine e).reg rs2).toNat % k))))
    ∧ (rs1.toNat < 8 → exec (.mtog e rd rs1 rs2 func) s = s.writesReg e rd ((s.engine e).mask (rs1.setWidth 3)))
    ∧ (rd.toNat < 8 → exec (.gtom e rd rs1 rs2 func) s = s.engineBecomes e fun n => (n.setM (rd.setWidth 3) a).next)
    ∧ (rs1.toNat < 8 → exec (.mpopc e rd rs1 rs2 func) s = s.writesReg e rd
        (BitVec.ofNat 64 ((List.range 64).countP fun i => ((s.engine e).mask (rs1.setWidth 3)).getLsbD i)))

/-- R397: accesses of the local window are performed at once: a load writes the bytes of data memory at its offset, extended
as its mnemonic says, and a store writes them; nothing else of the block changes but the pc. -/
def Obligations.LocalAccesses : Prop :=
  ∀ (s : State) (e : EngineNo) (rd rs1 : BitVec 5) (size : BitVec 3) (off : BitVec 13) (a n o : Nat),
    s.ready = true → s.issues e = true → a = ((s.engine e).reg rs1 + off.signExtend 64).toNat →
    a = 0x00FD000000000000 + o →
    (size.toNat < 4 → n = 2 ^ size.toNat → o % n = 0 → o + n ≤ 0x40000 →
      exec (.ld e rd rs1 size off) s = s.goesOn (s.updEngine e fun g =>
        (g.setG rd ((BitVec.ofNat (8 * n) (bytesNat (memBytes g.dmem o n))).signExtend 64)).next)
      ∧ exec (.ldu e rd rs1 size off) s = s.goesOn (s.updEngine e fun g =>
        (g.setG rd (BitVec.ofNat 64 (bytesNat (memBytes g.dmem o n)))).next)
      ∧ exec (.st e rd rs1 size off) s = s.goesOn (s.updEngine e fun g =>
        { g with dmem := memPut g.dmem o (natBytes n (g.reg rd).toNat) }.next))
    ∧ (size = 0 → rd.toNat % 2 = 0 → o % 16 = 0 → o < 0x40000 →
      exec (.ldp e rd rs1 size off) s = s.goesOn (s.updEngine e fun g =>
        ((g.setG rd (BitVec.ofNat 64 (bytesNat (memBytes g.dmem o 8)))).setG (rd + 1)
          (BitVec.ofNat 64 (bytesNat (memBytes g.dmem (o + 8) 8)))).next)
      ∧ exec (.stp e rd rs1 size off) s = s.goesOn (s.updEngine e fun g =>
        { g with dmem := memPut g.dmem o (natBytes 8 (g.reg rd).toNat ++ natBytes 8 (g.reg (rd + 1)).toNat) }.next))
    ∧ (size = 0 → rd.toNat < 16 → o % 64 = 0 → o < 0x40000 →
      exec (.vld e rd rs1 size off) s = s.goesOn (s.updEngine e fun g =>
        (g.setV (rd.setWidth 4) (BitVec.ofNat 512 (bytesNat (memBytes g.dmem o 64)))).next)
      ∧ exec (.vst e rd rs1 size off) s = s.goesOn (s.updEngine e fun g =>
        { g with dmem := memPut g.dmem o (natBytes 64 (g.vec (rd.setWidth 4)).toNat) }.next))

/-- R397, R403, R404, R409: what raises LOCAL_FAULT and MISALIGNED, with the target logged: a local access that is not
naturally aligned, an atomic, LDR or STC in the local window, and one that is not aligned anywhere. -/
def Obligations.AddressTraps : Prop :=
  ∀ (s : State) (e : EngineNo) (rd rs1 rs2 : BitVec 5) (size : BitVec 3) (off : BitVec 13) (a b : Nat),
    s.ready = true → s.issues e = true → a = ((s.engine e).reg rs1 + off.signExtend 64).toNat →
    b = ((s.engine e).reg rs1).toNat →
    (size.toNat < 4 → 0x00FD000000000000 ≤ a → a < 0x00FD000000040000 → a % 2 ^ size.toNat ≠ 0 →
      exec (.ld e rd rs1 size off) s = s.goesOn (s.traps e 0x12 (some (a, 0)))
      ∧ exec (.ldu e rd rs1 size off) s = s.goesOn (s.traps e 0x12 (some (a, 0)))
      ∧ exec (.st e rd rs1 size off) s = s.goesOn (s.traps e 0x12 (some (a, 0))))
    ∧ (0x00FD000000000000 ≤ a → a < 0x00FD000000040000 → a % 16 ≠ 0 → rd.toNat % 2 = 0 →
      exec (.ldp e rd rs1 0 off) s = s.goesOn (s.traps e 0x12 (some (a, 0)))
      ∧ exec (.stp e rd rs1 0 off) s = s.goesOn (s.traps e 0x12 (some (a, 0))))
    ∧ (0x00FD000000000000 ≤ a → a < 0x00FD000000040000 → a % 64 ≠ 0 → rd.toNat < 16 →
      exec (.vld e rd rs1 0 off) s = s.goesOn (s.traps e 0x12 (some (a, 0)))
      ∧ exec (.vst e rd rs1 0 off) s = s.goesOn (s.traps e 0x12 (some (a, 0))))
    ∧ (b % 8 ≠ 0 → b < 0x00FD000000000000 →
      exec (.ldr e rd rs1 rs2 0) s = s.goesOn (s.traps e 0x11 (some (b, 0)))
      ∧ exec (.stc e rd rs1 rs2 0) s = s.goesOn (s.traps e 0x11 (some (b, 0)))
      ∧ exec (.farCas8 e rd rs1 rs2 0) s = s.goesOn (s.traps e 0x11 (some (b, 0)))
      ∧ exec (.farFadd e rd rs1 rs2 2) s = s.goesOn (s.traps e 0x11 (some (b, 0)))
      ∧ exec (.farSwap e rd rs1 rs2 3) s = s.goesOn (s.traps e 0x11 (some (b, 0)))
      ∧ exec (.farAnd e rd rs1 rs2 4) s = s.goesOn (s.traps e 0x11 (some (b, 0)))
      ∧ exec (.farOr e rd rs1 rs2 5) s = s.goesOn (s.traps e 0x11 (some (b, 0))))
    ∧ (b % 8 = 0 → 0x00FD000000000000 ≤ b → b < 0x00FD000000040000 →
      exec (.ldr e rd rs1 rs2 0) s = s.goesOn (s.traps e 0x12 (some (b, 0)))
      ∧ exec (.stc e rd rs1 rs2 0) s = s.goesOn (s.traps e 0x12 (some (b, 0)))
      ∧ exec (.farCas8 e rd rs1 rs2 0) s = s.goesOn (s.traps e 0x12 (some (b, 0)))
      ∧ exec (.farFadd e rd rs1 rs2 2) s = s.goesOn (s.traps e 0x12 (some (b, 0)))
      ∧ exec (.farSwap e rd rs1 rs2 3) s = s.goesOn (s.traps e 0x12 (some (b, 0)))
      ∧ exec (.farAnd e rd rs1 rs2 4) s = s.goesOn (s.traps e 0x12 (some (b, 0)))
      ∧ exec (.farOr e rd rs1 rs2 5) s = s.goesOn (s.traps e 0x12 (some (b, 0))))
    ∧ (rd.toNat % 2 = 0 → rs2.toNat % 2 = 0 → b % 16 ≠ 0 → b < 0x00FD000000000000 →
      exec (.farCas16 e rd rs1 rs2 1) s = s.goesOn (s.traps e 0x11 (some (b, 0))))

/-- R396, R403–R405: a load, an atomic, LDR or STC outside the local and unit windows leaves for the memory port: the engine
keeps what it asked for, goes to the next instruction and waits; no register changes yet. -/
def Obligations.PortLoadsIssue : Prop :=
  ∀ (s : State) (e : EngineNo) (rd rs1 rs2 : BitVec 5) (size : BitVec 3) (off : BitVec 13) (a b : Nat),
    s.ready = true → s.issues e = true → a = ((s.engine e).reg rs1 + off.signExtend 64).toNat →
    b = ((s.engine e).reg rs1).toNat →
    (a < 0x00FD000000000000 ∨ 0x00FF000000000000 ≤ a →
      (size.toNat < 4 →
        exec (.ld e rd rs1 size off) s = s.goesOn (s.asks e (.gpr rd (2 ^ size.toNat) true) a .load)
        ∧ exec (.ldu e rd rs1 size off) s = s.goesOn (s.asks e (.gpr rd (2 ^ size.toNat) false) a .load))
      ∧ (rd.toNat % 2 = 0 → exec (.ldp e rd rs1 0 off) s = s.goesOn (s.asks e (.pair rd) a .load))
      ∧ (rd.toNat < 16 → exec (.vld e rd rs1 0 off) s = s.goesOn (s.asks e (.vec (rd.setWidth 4)) a .load)))
    ∧ (b < 0x00FD000000000000 ∨ 0x00FF000000000000 ≤ b → b % 8 = 0 →
      exec (.ldr e rd rs1 rs2 0) s = s.goesOn (s.asks e (.resv rd) b .load)
      ∧ exec (.stc e rd rs1 rs2 0) s = s.goesOn (s.asks e (.cond rd ((s.engine e).reg rs2)) b .cond)
      ∧ exec (.farCas8 e rd rs1 rs2 0) s = s.goesOn (s.asks e
          (.atom .cas8 rd (BitVec.ofNat 512 (((s.engine e).reg rd).toNat + ((s.engine e).reg rs2).toNat * 2 ^ 64))) b .load)
      ∧ exec (.farFadd e rd rs1 rs2 2) s = s.goesOn (s.asks e (.atom .fadd rd (((s.engine e).reg rs2).zeroExtend 512)) b .load)
      ∧ exec (.farSwap e rd rs1 rs2 3) s = s.goesOn (s.asks e (.atom .swap rd (((s.engine e).reg rs2).zeroExtend 512)) b .load)
      ∧ exec (.farAnd e rd rs1 rs2 4) s = s.goesOn (s.asks e (.atom .and rd (((s.engine e).reg rs2).zeroExtend 512)) b .load)
      ∧ exec (.farOr e rd rs1 rs2 5) s = s.goesOn (s.asks e (.atom .or rd (((s.engine e).reg rs2).zeroExtend 512)) b .load))
    ∧ (b < 0x00FD000000000000 ∨ 0x00FF000000000000 ≤ b → b % 16 = 0 → rd.toNat % 2 = 0 → rs2.toNat % 2 = 0 →
      exec (.farCas16 e rd rs1 rs2 1) s = s.goesOn (s.asks e
        (.atom .cas16 rd (BitVec.ofNat 512 (((s.engine e).reg rd).toNat + ((s.engine e).reg (rd + 1)).toNat * 2 ^ 64
          + ((s.engine e).reg rs2).toNat * 2 ^ 128 + ((s.engine e).reg (rs2 + 1)).toNat * 2 ^ 192))) b .load))

/-- R80, R405: a store outside the windows, with its bytes in one line and an empty store buffer, opens an entry that holds
them; the engine goes to the next instruction. -/
def Obligations.StoreOpensEntry : Prop :=
  ∀ (s : State) (e : EngineNo) (rd rs1 : BitVec 5) (size : BitVec 3) (off : BitVec 13) (a : Nat),
    s.ready = true → s.issues e = true → (s.engine e).buffer = [] →
    a = ((s.engine e).reg rs1 + off.signExtend 64).toNat → a < 0x00FD000000000000 →
    (size.toNat < 4 → a % 64 + 2 ^ size.toNat ≤ 64 →
      exec (.st e rd rs1 size off) s =
        s.goesOn (s.opensEntry e a (2 ^ size.toNat) (((s.engine e).reg rd).toNat % 2 ^ (8 * 2 ^ size.toNat))))
    ∧ (rd.toNat % 2 = 0 → a % 64 + 16 ≤ 64 →
      exec (.stp e rd rs1 0 off) s =
        s.goesOn (s.opensEntry e a 16 (((s.engine e).reg rd).toNat + ((s.engine e).reg (rd + 1)).toNat * 2 ^ 64)))
    ∧ (rd.toNat < 16 → a % 64 = 0 →
      exec (.vst e rd rs1 0 off) s = s.goesOn (s.opensEntry e a 64 ((s.engine e).vec (rd.setWidth 4)).toNat))

/-- R84, R87, R404, R405: what the memory port's answers do: data is written to the register of the oldest access and the
engine waits for the next in flight, or goes on; poison raises POISON and the accesses issued after it have no effect; STC
writes its response code; a store that failed is dropped, counted and logged DEAD_STORE; and the port
retries what was answered DEFER. -/
def Obligations.PortAnswers : Prop :=
  ∀ (s : State) (e : EngineNo), s.ready = true →
    (∀ (l : Load) (r : List Load), (s.engine e).loads = l :: r →
      (∀ w, w = (if r = [] then PWait.none else PWait.load) → l.want = [] → (s.engine e).wait = .load →
        (l.dropped = false → l.bad = none →
          exec (.pilotLoadData e) s = s.goesOn (s.updEngine e fun n => { n with loads := r, wait := w }.takeData l))
        ∧ (∀ p, l.dropped = false → l.bad = some .poison →
          (pieces l.addr.toNat l.kind.size).find? (fun p => (aget l.got p.1).isNone) = some p →
          exec (.pilotLoadData e) s = s.goesOn ((s.updEngine e fun n =>
            { n with loads := r.map fun x => { x with dropped := true }, wait := w }).raiseExc e 0x20 l.pc
            (some (p.1 / 64 * 64, 0))))
        ∧ (l.dropped = true → exec (.pilotLoadData e) s = s.goesOn (s.updEngine e fun n => { n with loads := r, wait := w })))
      ∧ (∀ rd d c, (s.engine e).wait = .cond → l.kind = .cond rd d → (s.engine e).cond = some c →
        (c = .ok → exec (.conditionalStoreResponse e) s = s.goesOn ((s.updEngine e fun n =>
          { n with loads := r, cond := none, wait := .none }).updEngine e fun n => n.setG rd 0))
        ∧ (c = .resvFail → exec (.conditionalStoreResponse e) s = s.goesOn ((s.updEngine e fun n =>
          { n with loads := r, cond := none, wait := .none }).updEngine e fun n => n.setG rd 3))))
    ∧ (∀ (b : SbEntry) (r : List SbEntry) (c : Code), (s.engine e).buffer = b :: r → b.code = some c →
      (∀ x ∈ r, x.id ≠ b.id) →
      (c = .ok → exec (.pilotStoreResponse e) s = s.goesOn (s.updEngine e fun n => { n with buffer := r }))
      ∧ (c ≠ .ok → exec (.pilotStoreResponse e) s = s.goesOn
          (((s.updEngine e fun n => { n with buffer := r }).updEngine e fun n =>
            { n with
              failCode := if n.fails = 0 then c else n.failCode
              failLine := if n.fails = 0 then BitVec.ofNat 64 b.line else n.failLine
              fails := min (n.fails + 1) 1023 }).logE 0x3001 (srcEngine e) (lineAddr b.line) (e.val + c.bits.toNat * 2 ^ 16))))
    ∧ (∀ (b : SbEntry), (s.engine e).buffer = [b] → b.issued = false → b.closed = false →
      exec (.storeBufferAgeIssue e) s = s.goesOn ({ s with chron := max s.chron (b.opened + 256) }.updEngine e fun n =>
        { n with buffer := [{ b with closed := true }] }))
    ∧ exec (.pilotDeferRetry e) s = s.goesOn { s with atu := { s.atu with
        waiting := s.atu.waiting.map fun w => if w.src.engine = some e.val then { w with deferred := false } else w } }

/-- R86, R87, R119, R405: a fence makes every store-buffer entry begin to issue and the engine waits at it; once its stores
are performed an ofence completes, a pfence writes the status word it was given, and a dfence with an empty buffer writes
the failure record and clears it; each goes to the trace, where the trace selects it. -/
def Obligations.PilotFences : Prop :=
  ∀ (s : State) (e : EngineNo) (rd rs1 : BitVec 5) (lim : Nat), s.ready = true →
    lim = max 1 (field (s.reg 0x0100C0) 0 8) * 1000000 →
    (s.issues e = true →
      exec (.pilotOfence e 0 rs1 0) s = s.goesOn (s.updEngine e fun n =>
        { n with buffer := n.buffer.map SbEntry.close, wait := .fence 0 0 0 s.chron lim, fenceRes := none })
      ∧ (∀ level : BitVec 12, level.toNat < 3 → exec (.pilotPfence e rd rs1 level) s = s.goesOn (s.updEngine e fun n =>
        { n with buffer := n.buffer.map SbEntry.close, wait := .fence 1 level.toNat rd s.chron lim, fenceRes := none }))
      ∧ exec (.dfence e rd rs1 0) s = s.goesOn (s.updEngine e fun n =>
        { n with buffer := n.buffer.map SbEntry.close, wait := .fence 2 0 rd s.chron lim, fenceRes := none }))
    ∧ (∀ r level since t, (s.engine e).loads = [] → (s.engine e).buffer = [] →
      ((s.engine e).wait = .fence 0 level r since t →
        exec (.pilotFenceDone e) s = s.goesOn ((s.updEngine e fun n => { n.next with wait := .none, fenceRes := none }).tracePilot
          e 4 { since := since } .ok))
      ∧ (∀ v, (s.engine e).wait = .fence 1 level r since t → (s.engine e).fenceRes = some v →
        exec (.pilotFenceDone e) s = s.goesOn ((s.updEngine e fun n =>
          { n.next.setG r v with wait := .none, fenceRes := none }).tracePilot e 4 { since := since } .ok))
      ∧ ((s.engine e).wait = .fence 2 level r since t →
        exec (.pilotFenceDone e) s = s.goesOn ((s.updEngine e fun n =>
          { n.next.setG r n.failRecord with
            wait := .none, fenceRes := none, failCode := .ok, fails := 0, failLine := 0 }).tracePilot
          e 4 { since := since } .ok)))

/-- R407: what each CSR reads as, and the writes of ARITH and MSG_DST by CWR, CSET and CCLR. -/
def Obligations.ControlRegisters : Prop :=
  ∀ (s : State) (e : EngineNo) (rd rs1 : BitVec 5) (n : Engine) (a : DWord),
    s.ready = true → s.issues e = true → n = s.engine e → a = n.reg rs1 →
    (∀ (k : BitVec 12) (v : DWord),
      (k = 0x000 ∧ v = BitVec.ofNat 64 (e.val + n.phys * 2 ^ 8 + e.val / 8 * 2 ^ 16))
        ∨ (k = 0x001 ∧ v = BitVec.ofNat 64 s.chron) ∨ (k = 0x002 ∧ v = s.cfg.mode.bits.zeroExtend 64)
        ∨ (k = 0x003 ∧ v = n.arith) ∨ (k = 0x008 ∧ v = BitVec.ofNat 64 s.plg.wpl)
        ∨ (k = 0x009 ∧ v = BitVec.ofNat 64 s.plg.wpt) ∨ (k = 0x00A ∧ v = BitVec.ofNat 64 s.plg.wpv)
        ∨ (k = 0x010 ∧ n.msgs = [] ∧ v = 0)
        ∨ (k = 0x010 ∧ ∃ m r, n.msgs = m :: r ∧ v = BitVec.ofNat 64 (2 ^ 31 + m.1.toNat * 2 ^ 16 + m.2.length))
        ∨ (k = 0x011 ∧ v = n.msgDst) ∨ (k = 0x013 ∧ v = BitVec.ofNat 64 n.msgs.length) ∨ (k = 0x020 ∧ v = n.dmemCe) →
      exec (.crd e rd 0 k) s = s.goesOn (s.updEngine e fun n => (n.setG rd v).next))
    ∧ exec (.cwr e 0 rs1 0x003) s = s.goesOn (s.updEngine e fun n => { n with arith := a &&& 1 }.next)
    ∧ exec (.cset e 0 rs1 0x003) s = s.goesOn (s.updEngine e fun n => { n with arith := (n.arith ||| a) &&& 1 }.next)
    ∧ exec (.cclr e 0 rs1 0x003) s = s.goesOn (s.updEngine e fun n => { n with arith := (n.arith &&& ~~~a) &&& 1 }.next)
    ∧ exec (.cwr e 0 rs1 0x011) s = s.goesOn (s.updEngine e fun n => { n with msgDst := a &&& 0x3FFFF }.next)
    ∧ exec (.cset e 0 rs1 0x011) s = s.goesOn (s.updEngine e fun n => { n with msgDst := (n.msgDst ||| a) &&& 0x3FFFF }.next)
    ∧ exec (.cclr e 0 rs1 0x011) s = s.goesOn (s.updEngine e fun n =>
        { n with msgDst := (n.msgDst &&& ~~~a) &&& 0x3FFFF }.next)

/-- R406, R407: MSG_POP copies the oldest message and removes it; take copies the oldest descriptor of the inbox and makes
it the one in progress; post completes that one; wait and take wait on empty queues; halt stops the engine with EXIT. -/
def Obligations.PilotServices : Prop :=
  ∀ (s : State) (e : EngineNo) (rd rs1 : BitVec 5) (imm : BitVec 12) (n : Engine),
    s.ready = true → s.issues e = true → n = s.engine e →
    (n.msgs = [] → exec (.msgPop e rs1) s = s.goesOn (s.updEngine e Engine.next))
    ∧ (∀ m r, n.msgs = m :: r → n.msgDst.toNat + m.2.length ≤ 0x40000 →
      exec (.msgPop e rs1) s = s.goesOn (s.updEngine e fun n =>
        { n with msgs := r, dmem := memPut n.dmem n.msgDst.toNat m.2 }.next))
    ∧ (∀ m r, n.msgs = m :: r → 0x40000 < n.msgDst.toNat + m.2.length →
      exec (.msgPop e rs1) s = s.goesOn (s.traps e 0x12 (some (0x00FD000000000000 + n.msgDst.toNat, 0))))
    ∧ (n.loads = [] → n.buffer = [] → n.desc = none →
      (n.inbox = [] → imm.getLsbD 0 = true → exec (.take e rd rs1 imm) s = s.goesOn (s.updEngine e fun n => (n.setG rd 0).next))
      ∧ (n.inbox = [] → imm.getLsbD 0 = false →
        exec (.take e rd rs1 imm) s = s.goesOn (s.updEngine e fun n => { n with wait := .descriptor }))
      ∧ (∀ d r, n.inbox = d :: r → (n.reg rs1).toNat % 64 = 0 → (n.reg rs1).toNat + 64 ≤ 0x40000 →
        exec (.take e rd rs1 imm) s = s.goesOn (s.updEngine e fun n =>
          { n.setG rd 1 with desc := some d, svc := none, inbox := r, dmem := memPut n.dmem (n.reg rs1).toNat d.bytes }.next))
      ∧ exec (.post e rd rs1 imm) s = s.goesOn (s.traps e 0x30 none))
    ∧ (∀ d, n.loads = [] → n.buffer = [] → n.desc = some d →
      exec (.post e rd rs1 imm) s = s.goesOn ((s.updEngine e fun n => { n with desc := none, svc := none }.next).complete d
        ((n.reg rs1).setWidth 16) (n.reg rd))
      ∧ exec (.take e rd rs1 imm) s = s.goesOn (s.traps e 0x30 none))
    ∧ (n.inbox = [] → n.msgs = [] → exec (.wait e rd rs1 imm) s = s.goesOn (s.updEngine e fun n => { n with wait := .message }))
    ∧ (n.inbox ≠ [] ∨ n.msgs ≠ [] → exec (.wait e rd rs1 imm) s = s.goesOn (s.updEngine e Engine.next))
    ∧ exec (.halt e rd rs1 imm) s = s.goesOn (s.traps e 0x01 none)

/-- R399: words and fields that are illegal raise ILLEGAL, and the engine takes no effect of them. -/
def Obligations.IllegalForms : Prop :=
  ∀ (s : State) (e : EngineNo) (rd rs1 rs2 : BitVec 5) (imm : BitVec 16) (size : BitVec 3) (off : BitVec 13)
    (func : BitVec 11) (f : VFields) (w : Word) (csr : BitVec 12),
    s.ready = true → s.issues e = true →
    (w.toNat / 2 ^ 26 ∉ [1, 2, 3, 4, 5, 6, 7, 8, 9, 10, 0x10, 0x11, 0x12, 0x13, 0x14, 0x15, 0x16, 0x17, 0x18, 0x19, 0x20,
        0x26, 0x27, 0x28, 0x30, 0x32, 0x33, 0x38, 0x39, 0x3A] →
      exec (.illegalInstruction e w) s = s.goesOn (s.traps e 0x10 none))
    ∧ (4 ≤ size.toNat → exec (.ld e rd rs1 size off) s = s.goesOn (s.traps e 0x10 none)
      ∧ exec (.ldu e rd rs1 size off) s = s.goesOn (s.traps e 0x10 none)
      ∧ exec (.st e rd rs1 size off) s = s.goesOn (s.traps e 0x10 none))
    ∧ (rd.toNat % 2 = 1 → exec (.ldp e rd rs1 size off) s = s.goesOn (s.traps e 0x10 none)
      ∧ exec (.stp e rd rs1 size off) s = s.goesOn (s.traps e 0x10 none)
      ∧ exec (.farCas16 e rd rs1 rs2 func) s = s.goesOn (s.traps e 0x10 none))
    ∧ (16 ≤ rd.toNat → exec (.vld e rd rs1 size off) s = s.goesOn (s.traps e 0x10 none)
      ∧ exec (.vst e rd rs1 size off) s = s.goesOn (s.traps e 0x10 none))
    ∧ (func ≠ 0 → exec (.ldr e rd rs1 rs2 func) s = s.goesOn (s.traps e 0x10 none)
      ∧ exec (.stc e rd rs1 rs2 func) s = s.goesOn (s.traps e 0x10 none))
    ∧ (csr ∉ [0x003, 0x011, 0x012] → exec (.cwr e rd rs1 csr) s = s.goesOn (s.traps e 0x10 none)
      ∧ exec (.cset e rd rs1 csr) s = s.goesOn (s.traps e 0x10 none)
      ∧ exec (.cclr e rd rs1 csr) s = s.goesOn (s.traps e 0x10 none))
    ∧ (csr.toNat % 4 = 3 → exec (.pilotPfence e rd rs1 csr) s = s.goesOn (s.traps e 0x10 none))
    ∧ (rd ≠ 0 → exec (.jumpr e rd rs1 imm) s = .next ((s.traps e 0x10 none).flush))
    ∧ (rs1 ≠ 0 → exec (.movi e rd rs1 imm) s = .next ((s.traps e 0x10 none).flush))
    ∧ (rs2 ≠ 0 → exec (.clz e rd rs1 rs2) s = .next ((s.traps e 0x10 none).flush)
      ∧ exec (.bswap e rd rs1 rs2) s = .next ((s.traps e 0x10 none).flush))
    ∧ (256 ≤ imm.toNat → exec (.shiSll e rd rs1 imm) s = .next ((s.traps e 0x10 none).flush))
    ∧ (f.all = 1 → f.mask ≠ 0 → exec (.vadd e f) s = .next ((s.traps e 0x10 none).flush)
      ∧ exec (.vsel e f) s = .next ((s.traps e 0x10 none).flush)
      ∧ exec (.vcmpeq e f) s = .next ((s.traps e 0x10 none).flush))
    ∧ (8 ≤ f.vd.toNat → exec (.vcmplt e f) s = .next ((s.traps e 0x10 none).flush))

/-- R409: an exception stops the engine without an effect of the faulting instruction: the cause and the instruction's
address stand in PEA_EXC, the engine is on its way to HALTED, and its registers and memories are as before. -/
def Obligations.ExceptionsArePrecise : Prop :=
  ∀ (s : State) (e : EngineNo) (cause : BitVec 8) (log : Option (Nat × Nat)) (n : Engine),
    (s.engine e).state = .running → n = (s.traps e cause log).engine e →
    n.state = .stopping ∧ n.pendExc = some cause ∧ n.exc = (cause.zeroExtend 32 <<< 24) ||| (s.engine e).pc.zeroExtend 32
    ∧ n.pc = (s.engine e).pc ∧ n.g = (s.engine e).g ∧ n.v = (s.engine e).v ∧ n.m = (s.engine e).m
    ∧ n.dmem = (s.engine e).dmem ∧ n.imem = (s.engine e).imem ∧ n.buffer = (s.engine e).buffer
    ∧ (∀ x : EngineNo, x ≠ e → (s.traps e cause log).engine x = s.engine x)
    ∧ (s.traps e cause log).mem = s.mem
    ∧ (∀ addr code, log = some (addr, code) → (s.traps e cause log).logq = s.logq ++
        [⟨0x3004, BitVec.ofNat 64 addr, srcEngine e, BitVec.ofNat 64 (e.val + cause.toNat * 2 ^ 8 + code * 2 ^ 16)⟩])

/-! ### Host ports -/

/-- R55, R57, R62: a request with the fields R57 allows, at a port that takes it, in a mode that serves it, has its tag
recorded and joins the requests that wait, in order of arrival. -/
def Obligations.HostRequestsJoin : Prop :=
  ∀ (s : State) (q : HostReq), s.ready = true → s.portTakes q = true →
    (s.cfg.mode.serves = true → q.attr = 0 → q.addr.toNat % 64 = 0 →
      exec (.read q) s = s.goesOn (s.joins .read q) ∧ exec (.resvLd q) s = s.goesOn (s.joins .resvLd q)
      ∧ exec (.condSt q) s = s.goesOn (s.joins .condSt q))
    ∧ (s.cfg.mode.serves = true → q.attr.toNat % 128 = 0 → q.addr.toNat % 64 = 0 →
      exec (.write q) s = s.goesOn (s.joins .write q) ∧ exec (.writeFull q) s = s.goesOn (s.joins .writeFull q))
    ∧ (s.cfg.mode.serves = true → q.attr.toNat < 8 → q.addr.toNat % 8 = 0 →
      exec (.atomCas8 q) s = s.goesOn (s.joins (.atom .cas8) q) ∧ exec (.atomFadd q) s = s.goesOn (s.joins (.atom .fadd) q)
      ∧ exec (.atomSwap q) s = s.goesOn (s.joins (.atom .swap) q) ∧ exec (.atomAnd q) s = s.goesOn (s.joins (.atom .and) q)
      ∧ exec (.atomOr q) s = s.goesOn (s.joins (.atom .or) q))
    ∧ (s.cfg.mode.serves = true → q.attr.toNat < 8 → q.addr.toNat % 16 = 0 →
      exec (.atomCas16 q) s = s.goesOn (s.joins (.atom .cas16) q))
    ∧ (s.cfg.mode.serves = true → q.addr.toNat % 4096 = 0 → exec (.stageHint q) s = s.goesOn (s.joins .stageHint q))
    ∧ (s.cfg.mode ≠ .save → q.attr.toNat ≤ 4 →
      exec (.cfgRd q) s = s.goesOn (s.joins .cfgRd q) ∧ exec (.cfgWr q) s = s.goesOn (s.joins .cfgWr q))

/-- R86, R117, R118: an OFENCE is recorded with the tags of its port that have no answer; a PFENCE with its level, its stream
and the tags of its port's writes and fences that have none. -/
def Obligations.HostFencesRecorded : Prop :=
  ∀ (s : State) (q : HostReq) (p : Port), s.ready = true → s.portTakes q = true → s.cfg.mode.serves = true → q.addr = 0 →
    p = (s.shaken q.port).port q.port →
    (q.attr = 0 → exec (.ofence q) s = s.goesOn ((s.tagged .ofence q).updAtu fun a =>
      { a with ofences := a.ofences ++ [{ port := q.port, tag := q.tag, no := s.atu.nextNo
                                          waitOn := p.unanswered }] }))
    ∧ (q.attr.toNat < 8 → q.attr.toNat % 4 ≠ 3 → exec (.pfence q) s = s.goesOn ((s.tagged .pfence q).updAtu fun a =>
      { a with
        nextFence := s.atu.nextFence + 1
        fences := a.fences ++ [{
          id := s.atu.nextFence, owner := .host q.port q.tag
          stream := if q.attr.toNat < 4 then .port q.port else .label q.label
          level := q.attr.toNat % 4, arrived := s.chron, tmo := max 1 (field (s.reg 0x0C0010) 0 16) * 1000000
          no := s.atu.nextNo, limit := s.atu.nextCov, waitOn := p.unansweredWrites, target := none }] }))

/-- R62, R65, R167, R439: what a port does not serve: a tag in use is logged and dropped; a mode that does not serve the
opcode answers ERR_MODE; a reserved opcode is logged BAD_OPCODE and answered ERR_ACCESS. -/
def Obligations.HostRequestsRefused : Prop :=
  ∀ (s : State) (q : HostReq), s.ready = true → (s.port q.port).unacked = [] → s.acks q.port = true →
    ((aget ((s.shaken q.port).port q.port).tags q.tag.toNat).isSome = true →
      exec (.read q) s = s.goesOn ((((s.shaken q.port).count 1 0 q.port 1).logE 0x0201 (srcHost q.port) q.addr.toNat q.tag.toNat).event 0x020200 3)
      ∧ exec (.write q) s = s.goesOn
        ((((s.shaken q.port).count 1 0 q.port 1).logE 0x0201 (srcHost q.port) q.addr.toNat (q.tag.toNat + 2 ^ 16)).event 0x020200 3))
    ∧ ((aget ((s.shaken q.port).port q.port).tags q.tag.toNat).isSome = false →
      (s.cfg.mode.serves = false →
        exec (.read q) s = s.goesOn ((s.tagged .read q).respondCode q.port q.tag .errMode)
        ∧ exec (.write q) s = s.goesOn ((s.tagged .write q).respondCode q.port q.tag .errMode))
      ∧ (s.cfg.mode = .save → exec (.cfgRd q) s = s.goesOn ((s.tagged .cfgRd q).respondCode q.port q.tag .errMode))
      ∧ (∀ op : BitVec 4, 0xB ≤ op.toNat → s.cfg.mode ≠ .save →
        exec (.badOpcode op q) s = s.goesOn ((((s.tagged (.bad op) q).logE 0x0202 (srcHost q.port) q.addr.toNat
          (q.tag.toNat + op.toNat * 2 ^ 16)).event 0x020200 1).respondCode q.port q.tag .errAccess)))

/-- R54, R62, R66: an acknowledged response leaves the port and frees its tag, RS_ACK changes, and RS_REQ with it where another
response waits; a request held longer than its limit leaves
its slot and is answered DEFER with the hint of that moment. -/
def Obligations.HostResponses : Prop :=
  ∀ (s : State) (p : Fin 16) (tag : BitVec 12), s.ready = true →
    (∀ r rest, (s.port p).egress = r :: rest →
      exec (.hostResponseAck p) s = s.goesOn (((s.setPort p { s.port p with
        egress := rest, tags := adel (s.port p).tags r.tag.toNat, rsAck := !(s.port p).rsAck
        rsReq := if rest = [] then (s.port p).rsReq else !(s.port p).rsReq }).qOut (.hpxEgress p)).count 1 1 p 1))
    ∧ (∀ (h : Held) (l : Nat) (c : Nat), (s.port p).held = [h] → h.tag = tag → h.on = .leaf l → c = max s.chron (h.since + h.tmo) →
      ∃ hint : BitVec 16 × State, hint = State.leafHint { s with chron := c } l h.w.no false ∧
        exec (.holdTimeout p tag) s = s.goesOn (((hint.2.setPort p { hint.2.port p with
          held := (hint.2.port p).held.filter fun k => k.tag != tag }).event 0x020200 4).respondDefer p tag hint.1))

/-! ### TEL -/

/-- R475–R477, R479, R481, R484–R486, R492: what the registers of TEL do when a path writes or reads them. -/
def Obligations.TelemetryRegisters : Prop :=
  ∀ (s : State) (p : Path),
    (∀ v : DWord, s.takesReg p = true → s.modeRefuses 0x010008 (v.setWidth 32) = false →
      (s.tel.chrSetTaken = true → exec (.chrsetWrite p v) s = s.answers p .errAccess (s.lockViol p 0x010008))
      ∧ (s.tel.chrSetTaken = false → v = 0 → s.chron = 0 → exec (.chrsetWrite p v) s = s.answers p .ok s)
      ∧ (s.tel.chrSetTaken = false → v.toNat < s.chron → exec (.chrsetWrite p v) s =
          s.answers p .errAccess { s with tel := { s.tel with chrSetTaken := true } })
      ∧ (s.tel.chrSetTaken = false → v ≠ 0 → s.chron ≤ v.toNat → exec (.chrsetWrite p v) s = s.answers p .ok
          (({ s with chron := v.toNat, tel := { s.tel with chrSetTaken := true } }.setReg 0x010008 (v.setWidth 32)).setReg
            0x01000C (v.extractLsb' 32 32))))
    ∧ (∀ v : DWord, s.takesReg p = true →
      (s.tel.ptpFresh = false → exec (.ptpRefWrite p v) s = s.answers p .ok s)
      ∧ (∀ (t u : State) (ofs : Int) (lim : Nat), s.tel.ptpFresh = true →
        t = (s.setReg 0x010018 (v.setWidth 32)).setReg 0x01001C (v.extractLsb' 32 32) →
        ofs = (v - BitVec.ofNat 64 s.tel.ptpCap).toInt → lim = 1000 * max 1 (field (t.reg 0x010020) 1 15) →
        u = { t with tel := { s.tel with
          ptpFresh := false, ptpOfs := ofs, slewLeft := ofs, slewDiv := t.slewPeriods ofs, slewCount := 0 } } →
        (ofs.natAbs ≤ lim → exec (.ptpRefWrite p v) s = s.answers p .ok u)
        ∧ (lim < ofs.natAbs → exec (.ptpRefWrite p v) s = s.answers p .ok
          ((u.logE 0x0102 0x6001 0 (BitVec.ofInt 64 ofs).toNat).event 0x010100 8))))
    ∧ (∀ (k : Fin 512) (v w : Word), s.passes p (0x01A000 + 4 * k.val) v = true → w = s.newWord (0x01A000 + 4 * k.val) v →
      (counterListed (field w 16 8) (field w 8 8) (field w 0 8) = true → exec (.cselWrite p k v) s = s.answers p .ok
          { s with tel := { s.tel with counters := aput s.tel.counters k.val { sel := w } } })
      ∧ (counterListed (field w 16 8) (field w 8 8) (field w 0 8) = false →
          exec (.cselWrite p k v) s = s.answers p .ok (s.event 0x010100 9)))
    ∧ (s.passes p 0x010060 1 = true → exec (.counterSnap p) s = s.answers p .ok
        { s with tel := { s.tel with snapshot := s.tel.counters } })
    ∧ (s.passes p 0x010060 2 = true → exec (.counterClear p) s = s.answers p .ok
        { s with tel := { s.tel with
          counters := s.tel.counters.map fun x => (x.1, { x.2 with value := 0, wrap := false }) } })
    ∧ (∀ v, s.passes p 0x010044 v = true → exec (.logRdWrite p v) s = s.keepsWord p 0x010044 v)
    ∧ (∀ (k : Fin 1024) (e : LogEntry), s.takesReg p = true → e = agetD s.tel.log k.val ⟨0, 0, 0, 0, 0, 0⟩ →
      exec (.logLatchRead p k) s = s.reads p (BitVec.ofNat 32 e.chron)
        { s with tel := { s.tel with logLatch := (s.tel.logLatch.filter fun x => x.1 != p) ++ [(p, k.val, e)] } })
    ∧ (s.passes p 0x010084 1 = true →
      (bit (s.reg 0x010080) 31 = true → exec (.traceArm p) s = s.answers p .ok
        { s with tel := { s.tel with trace := { run := true, cfg := s.reg 0x010080 } } })
      ∧ (bit (s.reg 0x010080) 31 = false → exec (.traceArm p) s = s.answers p .ok s))
    ∧ (s.passes p 0x010084 2 = true → exec (.traceStop p) s = s.answers p .ok
        { s with tel := { s.tel with trace := { s.tel.trace with run := false, remaining := none } } })
    ∧ (∀ e, s.takesReg p = true → e = aget s.tel.trace.slots (field (s.reg 0x01008C) 0 12) →
      exec (.traceLatchRead p) s = s.reads p (match e with | some t => t.word 0 | none => 0)
        { s with tel := { s.tel with traceLatch := (s.tel.traceLatch.filter fun x => x.1 != p) ++ [(p, e)] } })
    ∧ (∀ ms, s.passes p 0x0100C4 1 = true → ms = field (s.reg 0x0100C0) 16 16 →
      (ms = 0 → exec (.lookoutKick p) s = s.answers p .ok s)
      ∧ (ms ≠ 0 → exec (.lookoutKick p) s = s.answers p .ok
          { s with tel := { s.tel with kickRun := true, lastKick := s.chron, kickMs := ms, firmware := {} } }))
    ∧ (∀ (v w : Word) (t : State), s.passes p 0x0100C0 v = true → w = s.newWord 0x0100C0 v → t = s.setReg 0x0100C0 w →
      (field w 16 16 = 0 → exec (.lkoCfgWrite p v) s = s.answers p .ok
        { t with tel := { s.tel with kickRun := false, firmware := {} } })
      ∧ (field w 16 16 ≠ 0 → field (s.reg 0x0100C0) 16 16 = 0 → exec (.lkoCfgWrite p v) s = s.answers p .ok
        { t with tel := { s.tel with
          kickRun := true, lastKick := s.chron, kickMs := field w 16 16, firmware := {} } })
      ∧ (field w 16 16 ≠ 0 → field (s.reg 0x0100C0) 16 16 ≠ 0 → exec (.lkoCfgWrite p v) s = s.answers p .ok t))

/-- R30–R32, R476, R486, R507: pace samples and the crossing of the limit (the mean rounded down: the model's choice, log
entry 66), the PTP_SYNC edge and the one that is too close to the last (measured from it: the model's choice, log entry 83), and the stages of the Lookout with
their entries in the log. -/
def Obligations.TelemetryEvents : Prop :=
  ∀ (s : State), s.ready = true →
    (∀ (m : Fin 8) (v : BitVec 12) (l : List (BitVec 12)) (mean lim : Nat) (old q : Pace),
      old = agetD s.tel.pace m.val {} → 15 ≤ old.samples.length →
      l = (old.samples ++ [v]).drop (old.samples.length - 15) →
      mean = (l.map fun x => x.toNat).sum / 16 → lim = field (s.reg 0x010820) 0 12 →
      q = { samples := l, pace := BitVec.ofNat 12 mean, max := BitVec.ofNat 12 (max old.max.toNat mean), armed := false } →
      (mean ≤ lim → exec (.paceSample m v) s = s.becomes { s with tel := { s.tel with
        pace := aput s.tel.pace m.val { q with armed := old.armed || decide (mean + 16 < lim) } } })
      ∧ (lim < mean → old.armed = true → bit (s.reg 0x010820) 12 = true →
        exec (.paceSample m v) s = s.becomes ({ s with tel := { s.tel with
          pace := aput s.tel.pace m.val q } }.logE 0x0101 0x6001 0 (mean + m.val * 2 ^ 16)))
      ∧ (bit (s.reg 0x010820) 12 = false → lim < mean → exec (.paceSample m v) s = s.becomes { s with tel := { s.tel with
        pace := aput s.tel.pace m.val { q with armed := old.armed } } }))
    ∧ (∀ close : Prop, (close ↔ ∃ t, s.pins.ptpEdgeAt = some t ∧ s.chron < t + 1000000) →
      (bit (s.reg 0x010020) 0 = true → ¬close → exec .ptpSyncEdge s = s.becomes { s with
        pins := { s.pins with ptpEdgeAt := some s.chron }, tel := { s.tel with ptpCap := s.chron, ptpFresh := true } })
      ∧ (bit (s.reg 0x010020) 0 = false ∨ close →
        exec .ptpSyncEdge s = s.becomes { s with pins := { s.pins with ptpEdgeAt := some s.chron } }))
    ∧ (∀ (e : EngineNo) (k l r since t : Nat) (g : BitVec 5), (s.engine e).wait = .fence k l g since t →
      (k = 0 ∧ r = 2 ∨ k = 2 ∧ r = 3) → (agetD s.tel.engines e.val {}).stage = 0 →
      exec (.lookoutWarn e (BitVec.ofNat 4 r)) s = s.goesOn (({ s with chron := max s.chron (since + t) }.setSubject e
        { stage := 1, since := max s.chron (since + t) + s.escNs, trigger := r }).logE 0x0104 (srcEngine e) 0
          (lookoutInfo 1 1 r 0)))
    ∧ (∀ (e : EngineNo) (v : Subject) (t : State), v = agetD s.tel.engines e.val {} → t = { s with chron := max s.chron v.since } →
      (v.stage = 1 → s.lookoutHolds e v.trigger = true → exec (.lookoutStop e) s = s.goesOn
        ((((t.abortUnits e).raiseExc e 0x40 (t.engine e).pc none).setSubject e
          { v with stage := 2, since := t.chron + s.escNs }).logE 0x0105 (srcEngine e) 0 (lookoutInfo 1 2 v.trigger 0)))
      ∧ (v.stage = 1 → s.lookoutHolds e v.trigger = false → exec (.lookoutStop e) s = s.goesOn (s.setSubject e {}))
      ∧ (v.stage = 2 → (s.engine e).state ≠ .halted → exec (.lookoutFail e) s = s.goesOn
        (((t.failEngine e).setSubject e {}).logE 0x0106 (srcEngine e) 0 (lookoutInfo 1 3 v.trigger 0)))
      ∧ (v.stage = 2 → (s.engine e).state = .halted → exec (.lookoutFail e) s = s.goesOn (s.setSubject e {})))
    ∧ (s.tel.kickRun = true → s.tel.firmware.stage = 0 → exec .firmwareKickTimeout s = s.goesOn
        ({ s with
          chron := max s.chron (s.tel.lastKick + s.tel.kickMs * 1000000)
          tel := { s.tel with
            firmware := { stage := 1, since := s.tel.lastKick + 2 * s.tel.kickMs * 1000000 } } }.logE 0x0104 0x6001 0 (lookoutInfo 3 1 0 0)))
    ∧ (s.tel.firmware.stage = 1 → exec .lookoutDr s = s.goesOn
        (({ s with
          chron := max s.chron s.tel.firmware.since
          tel := { s.tel with firmware := { s.tel.firmware with stage := 2 } } }.setCause 8).logE 0x0107 0x6001 0
            (lookoutInfo 3 2 0 0)))

/-! ### ATU and PLG -/

/-- R95, R99, R100, R113, R126: reservations that expire or are cleared, with those a read is still to place (the model's
choice, log entry 69), and the registers of the write path: the granule,
the dirty budget and the pins. -/
def Obligations.WritePathRegisters : Prop :=
  ∀ (s : State) (p : Path),
    (∀ (who : ResvId) (r : Resv), s.ready = true → s.atu.resv.find? (fun x => x.who == who) = some r →
      exec (.reservationExpire who) s = s.goesOn { s with
        chron := max s.chron (r.placed + r.life)
        atu := { s.atu with
          resv := s.atu.resv.filter fun x => x.who != who
          resvPend := s.atu.resvPend.filter fun x => x.who != who } })
    ∧ (s.passes p 0x05000C 1 = true →
      exec (.reservationClearAll p) s = s.answers p .ok { s with atu := { s.atu with resv := [], resvPend := [] } })
    ∧ (∀ v w, s.passes p 0x050000 v = true → w = s.newWord 0x050000 v →
      (field w 0 3 = field (s.reg 0x050000) 0 3 → exec (.atuRcfgWrite p v) s = s.answers p .ok (s.setReg 0x050000 w))
      ∧ (field w 0 3 ≠ field (s.reg 0x050000) 0 3 → exec (.atuRcfgWrite p v) s = s.answers p .ok
          ((s.setReg 0x050000 w).updAtu fun a => { a with resv := [], resvPend := [] })))
    ∧ (∀ v, s.passes p 0x0C0004 v = true → exec (.plgBudgetWrite p v) s = s.answers p .ok
        (s.setReg 0x0C0004 (s.newWord 0x0C0004 v)).plgRefresh)
    ∧ (∀ k : Fin 3, s.passes p 0x0C0070 (BitVec.ofNat 32 (2 ^ (9 + k.val))) = true →
      exec (.pinSet p k) s = s.answers p .ok { s with plg := { s.plg with
        pins := aput s.plg.pins (k.val + 1) (max s.plg.a s.plg.w) } }.plgRefresh)
    ∧ (∀ k : Fin 3, s.passes p 0x0C0070 (BitVec.ofNat 32 (2 ^ (17 + k.val))) = true →
      exec (.pinClr p k) s = s.answers p .ok { s with plg := { s.plg with pins := adel s.plg.pins (k.val + 1) } }.plgRefresh)

/-- R108–R110, R112, R118, R122, R170: drain issues the entry at I, reads its 64 lines, and completes, repeats or gives up
the entry by the deep port's answer; an entry whose leaf is not present counts as drained; drain stalls, a fence times out, and the Anchor releases its pins. -/
def Obligations.DrainAndAnchor : Prop :=
  ∀ (s : State), s.ready = true →
    (∀ (x : LogRec) (q : Plg), s.drainRuns = true → s.plg.drains.length < 1024 → s.plg.i < s.plg.w →
      (∀ d ∈ s.plg.drains, d.retryAt = none ∧ d.leaf ≠ x.leaf) → aget s.plg.ring s.plg.i = some x →
      q = (if s.plg.markOf x.leaf = some s.plg.i then s.plg.unmark x.leaf else s.plg) →
      (s.leafState x.leaf = 0 → exec .drainIssue s = s.goesOn (({ s with plg := { q with
          i := s.plg.i + 1, drains := q.drains ++ [({ idx := s.plg.i, leaf := x.leaf } : Drain)] } }.qIn .plgDrain x.leaf).drainReads
        s.plg.i x.leaf))
      ∧ (s.leafState x.leaf ≠ 0 → exec .drainIssue s = s.goesOn ({ s with plg := { q with i := s.plg.i + 1 } }.credit s.plg.i)))
    ∧ (∀ (d : Drain) (idx : DWord), s.plg.drains.find? (fun d => d.idx == idx.toNat) = some d →
      (d.result = some true → s.leafCode d.leaf = 1 ∨ s.dirtyRoom (s.map.act.leafMapUnit d.leaf) = true → exec (.drainComplete idx) s = s.goesOn
        ((((s.updBwr fun b => { b with
          vaultTimes := (b.vaultTimes.filter fun t => decide (s.chron < t + 1000000)) ++ [s.chron] }).setLeafCode d.leaf 1).credit
            idx.toNat).qOut .plgDrain))
      ∧ (d.result = some false → s.cfg.mode ≠ .save → exec (.drainComplete idx) s = s.goesOn (s.updPlg fun p => { p with
          drains := p.drains.map fun x =>
            if x.idx = idx.toNat then { x with result := none, retryAt := some (s.chron + 1000000) } else x }))
      ∧ (d.result = some false → s.cfg.mode = .save →
        s.leafCode d.leaf = 2 ∨ s.dirtyRoom (s.map.act.leafMapUnit d.leaf) = true → exec (.drainComplete idx) s = s.goesOn
          ((s.saveLeafFails idx.toNat d.leaf).qOut .plgDrain))
      ∧ (∀ at_, d.retryAt = some at_ → s.drainRuns = true →
        exec (.drainReissue idx) s = s.goesOn (({ s with chron := max s.chron at_ }.updPlg fun p => { p with
          drains := p.drains.map fun (x : Drain) => if x.idx = idx.toNat then { idx := x.idx, leaf := x.leaf } else x }).drainReads
            idx.toNat d.leaf)))
    ∧ (s.plg.d < s.plg.w → s.plg.stalled = false → exec .drainStall s = s.goesOn
        ((({ s with
          chron := max s.chron (s.plg.lastDone + max 1 (field (s.reg 0x0C0000) 4 16) * 1000000)
          plg := { s.plg with stalled := true } }).logE 0x0C01 0x600C 0 0).event 0x0C0100 4))
    ∧ (∀ (f g : PFence) (t : State), s.atu.fences.find? (fun x => x.id == f.id) = some f → s.bareSave = false →
      t = { s with chron := max s.chron (f.arrived + f.tmo) } → g = t.takeTarget f →
      (t.fenceMet g = false → exec (.fenceTimeout f.id) s = s.goesOn (((t.logE 0x0C02
        (match f.owner with | .host p _ => srcHost p | .engine e => srcEngine e) 0 (g.target.getD 0)).event 0x0C0100 5).endFence
          g true))
      ∧ (t.fenceMet g = true → exec (.fenceTimeout f.id) s = s.goesOn (t.endFence g false)))
    ∧ (∀ (since : Nat) (t : State) (r : Nat × State), s.plg.holdSince = some since →
      t = { s with chron := max s.chron (since + max 1 (field (s.reg 0x0C000C) 0 16) * 1000000) } →
      r = t.releasePins [0, 1, 2, 3] → r.1 ≠ 0 → exec .anchorReleased s = s.goesOn
        ((r.2.logE 0x0C04 0x600C 0 (s.plg.a % 2 ^ 32 + r.1 * 2 ^ 32)).event 0x0C0100 3))

/-! ### TWN -/

/-- R14, R130, R135–R138, R152: the frames of the data lanes. What leaves the mirror-out queue is sent, once it can be sealed
(the model's choice, log entry 73); a MIRROR frame of the Reach's epoch, or one that answers a FETCH, has its lines written; an
earlier one is fenced, a later one waits, and one for no Reach of ours is logged; a forwarded write is performed, deferred,
refused or waits. -/
def Obligations.DataFrames : Prop :=
  ∀ (s : State), s.ready = true →
    (∀ (lane : Fin 2) (m : MirrorItem) (r : List MirrorItem), s.twn.link = 2 → (s.lane lane.val).retry.length < s.window →
      s.twn.out = m :: r → s.laneOf m.reach = lane.val →
      (∀ (t : BitVec 12) (l : Nat) (p : Bool) (op : BitVec 4) (k : BitVec 64) (d : Line) (e : Word) (o : OutFrame),
        m = .fwd t l p op k d e → o = fwdFrame t l p op k d e →
        (s.canSeal o.frame = true → exec (.mirrorFrameSend lane) s =
          s.goesOn (((s.updTwn fun w => { w with out := r }).qOut .twnOut).sendFrame lane.val o))
        ∧ (s.canSeal o.frame = false → exec (.mirrorFrameSend lane) s = s.goesOn s))
      ∧ (∀ (l : Nat) (d : Line) (p : Bool) (e : Word) (q : Option Nat) (rs rf : Bool) (id : Nat) (x : List MirrorItem × List MirrorItem)
          (o : OutFrame), m = .line l d p e q rs rf id → x = takeItems m [l] r → o = mirrorFrame (m :: x.1) →
        s.canSeal o.frame = true → exec (.mirrorFrameSend lane) s = s.goesOn (((m :: x.1).foldl (fun t _ => t.qOut .twnOut)
          (s.updTwn fun w => { w with
            out := x.2
            lastResync := if rs then (if lane.val = 0 then ((s.lane lane.val).nextSeq, w.lastResync.2)
              else (w.lastResync.1, (s.lane lane.val).nextSeq)) else w.lastResync })).sendFrame lane.val o)))
    ∧ (∀ (f g : Frame) (a t : State) (leaf r b : Nat), s.cfg.mode.serves = true → f.typ = 1 → g.typ = 1 →
      s.arrive f = (.take g, a) → t = a.qIn .twnIn g.arg0.toNat → leaf = bitsOf g.arg0.toNat 24 34 → r = reachOfLeaf leaf →
      b = g.lane.toNat →
      (t.reachState r = 0 ∨ t.map.act.dataLeaves ≤ leaf → exec (.mirror f) s = s.goesOut
        (((t.logE 0x0D03 0x5000 0 (r + b * 2 ^ 16)).event 0x0D0100 5).accepted b))
      ∧ (t.reachState r ≠ 0 → leaf < t.map.act.dataLeaves →
        (∀ x, t.answersFetch g = true → x = t.mirrorLines b (g.flags.getLsbD 3) true 0 (frameLines g) → x.2.1 = true →
          exec (.mirror f) s = s.goesOut (x.2.2.accepted b))
        ∧ (t.answersFetch g = false →
          (g.epoch ≠ t.reachEpoch r → epochEarlier g.epoch (t.reachEpoch r) = false →
            exec (.mirror f) s = s.goesOut (t.frameWaits b g 0 true))
          ∧ (g.epoch ≠ t.reachEpoch r → epochEarlier g.epoch (t.reachEpoch r) = true →
            exec (.mirror f) s = s.goesOut ((t.fenceFrame r g.epoch).accepted b))
          ∧ (g.epoch = t.reachEpoch r → t.reachState r = 1 → exec (.mirror f) s = s.goesOut ((t.fenceFrame r g.epoch).accepted b))
          ∧ (∀ u x, g.epoch = t.reachEpoch r → t.reachState r ≠ 1 →
            u = (if g.flags.getLsbD 3 then t.updTwn fun w => { w with resyncSeen := true } else t) →
            x = u.mirrorLines b (g.flags.getLsbD 3) (g.flags.getLsbD 2) 0 (frameLines g) → x.2.1 = true →
            exec (.mirror f) s = s.goesOut (x.2.2.accepted b)))))
    ∧ (∀ (f g : Frame) (a t : State) (line r b : Nat) (ftag : BitVec 12), s.cfg.mode.serves = true → f.typ = 2 → g.typ = 2 →
      s.arrive f = (.take g, a) → t = a.qIn .twnIn g.arg0.toNat → line = bitsOf g.arg0.toNat 0 40 → r = reachOfLine line →
      ftag = BitVec.ofNat 12 (bitsOf g.arg0.toNat 40 12) → b = g.lane.toNat →
      (t.reachState r = 0 ∨ t.map.act.dataLeaves ≤ leafOfLine line →
        exec (.fwdWr f) s = s.goesOut ((t.pushFwdAck ftag line .errOwner 0 false).accepted b))
      ∧ (t.reachState r ≠ 0 → leafOfLine line < t.map.act.dataLeaves →
        (g.epoch ≠ t.reachEpoch r → epochEarlier g.epoch (t.reachEpoch r) = false →
          exec (.fwdWr f) s = s.goesOut (t.frameWaits b g 0 true))
        ∧ (g.epoch = t.reachEpoch r ∨ epochEarlier g.epoch (t.reachEpoch r) = true → t.reachState r = 2 →
          exec (.fwdWr f) s = s.goesOut ((t.pushFwdAck ftag line .defer 0 false).accepted b))
        ∧ (g.epoch ≠ t.reachEpoch r → epochEarlier g.epoch (t.reachEpoch r) = true → t.reachState r ≠ 2 →
          exec (.fwdWr f) s = s.goesOut ((t.pushFwdAck ftag line .errFenced 0 false).accepted b))
        ∧ (g.epoch = t.reachEpoch r → t.reachState r ≠ 2 →
          (∀ u, t.forwardedWrite b g = some u →
            (u.jobOut (fun j => j.ftag == some ftag) = false → exec (.fwdWr f) s = s.goesOut (u.accepted b))
            ∧ (u.jobOut (fun j => j.ftag == some ftag) = true → exec (.fwdWr f) s = s.goesOut (u.frameWaits b g 1 false)))
          ∧ (t.forwardedWrite b g = none → exec (.fwdWr f) s = s.goesOut (t.noteBudgetHold.frameWaits b g 0 true)))))
    ∧ (∀ (lane : Fin 2) (f : Frame) (t k : Nat), (s.lane lane.val).waiting = some (f, t, k) →
      (f.typ = 2 ∧ k = 1 → exec (.mirrorFrameResume lane) s = s.goesOn s)
      ∧ (¬(f.typ = 2 ∧ k = 1) → exec (.mirrorFrameResume lane) s = s.goesOut (s.dataFrame lane.val f k)))
    ∧ exec .fwdTableAdmit s = s.goesOn (s.pass State.hostCfg fun _ => true)

/-- R129, R133, R135, R138, R142–R147, R151–R153, R175, R372: what each frame of the control lane does once it has arrived in
its turn. -/
def Obligations.ControlFrames : Prop :=
  ∀ (s a t : State) (f g : Frame) (r : Nat), s.ready = true → s.arrive f = (.take g, a) → t = a.receives s.chron g →
    r = bitsOf g.arg0.toNat 0 16 →
    (∀ x (ftag : BitVec 12), f.typ = 6 → ftag = BitVec.ofNat 12 (field g.arg1 16 12) →
      t.twn.forwards.find? (fun x => x.ftag == ftag) = some x →
      (field g.arg1 12 4 = 0 → exec (.fwdAck f) s = s.replies
        (((t.updTwn fun w => { w with forwards := w.forwards.filter fun y => y.ftag != ftag }).setFwdFate ftag
          (.forwardAcked g.arg0.toNat (bit g.arg1 11))).answerForward x .ok))
      ∧ (∀ c : Code, c ≠ .ok → field g.arg1 12 4 = c.bits.toNat → exec (.fwdAck f) s = s.replies
        (((t.updTwn fun w => { w with forwards := w.forwards.filter fun y => y.ftag != ftag }).updAtu fun w => { w with
          covered := w.covered.filter fun y => y.fate != .forwarded ftag }).answerForward x c)))
    ∧ (f.typ = 3 → g.flags = 0 → bit g.arg1 0 = false → bit g.arg1 1 = false → exec (.beat f) s = s.replies
        (((t.updTwn fun w => { w with
          peerWpv := bytesNat (g.payload.take 8)
          peerWpl := bytesNat ((g.payload.drop 8).take 8) }).laneAck 0 (g.arg0.extractLsb' 0 32)).laneAck 1
            (g.arg0.extractLsb' 32 32)))
    ∧ (∀ w h, f.typ = 4 → t.twn.link = 1 → w = bytesNat ((g.payload.drop 24).take 8) →
      h = { node := g.arg0, reaches := g.arg1.toNat % 65536, image := BitVec.ofNat 64 (bytesNat (g.payload.take 8))
            peerImage := BitVec.ofNat 64 (bytesNat ((g.payload.drop 8).take 8))
            t0Top := BitVec.ofNat 64 (bytesNat ((g.payload.drop 16).take 8))
            auth := w.testBit 0, anchor := w.testBit 1, stale := w.testBit 2 } →
      (t.helloFits h = true → exec (.hello f) s = s.replies
        (t.updTwn fun x => { x with hello := some h, peerImage := h.image }))
      ∧ (t.helloFits h = false → exec (.hello f) s = s.replies ((t.event 0x0D0100 8).linkDown 6)))
    ∧ (∀ (e : DWord) (u : State), f.typ = 5 → f.flags = 0 → bitsOf g.arg0.toNat 16 16 = 1 →
      e = BitVec.ofNat 64 (bytesNat (g.payload.take 8)) →
      u = t.updMap (fun m => { m with twinTable := aputD m.twinTable r e 0 }) →
      (t.twn.link = 1 → exec (.ownTable f) s = s.replies (u.updTwn fun w => { w with tableIn := w.tableIn + 1 }).comeUp)
      ∧ (t.twn.link = 2 → exec (.ownTable f) s = s.replies (u.resolve r e).noteSplit))
    ∧ (f.typ = 5 → f.flags = 1 → serialLater g.epoch (t.reachEpoch r) = true → t.reachState r = 2 →
      exec (.ownHandover f) s = s.replies (((t.setReach r (mkReach g.epoch 1 false true)).updMap fun m => { m with
        twinTable := aputD m.twinTable r (mkReach g.epoch 2 true true) 0 }).pushOwn 2 g.epoch r 1 []))
    ∧ (f.typ = 5 → f.flags = 2 → (t.twn.handover.any fun h => h.reach == r && h.sent && h.epoch == g.epoch) = true →
      exec (.ownAck f) s = s.replies (((t.updTwn fun w => { w with
        handover := w.handover.filter fun h => h.reach != r }).updMap fun m => { m with
          twinTable := aputD m.twinTable r (mkReach g.epoch 1 false true) 0 }).event 0x0D0100 10))
    ∧ (f.typ = 5 → f.flags = 3 → bitsOf g.arg0.toNat 16 16 = 1 → epochEarlier (t.reachEpoch r) g.epoch = true →
      r < t.map.act.reaches → r < t.map.act.carveBase → exec (.ownTake f) s = s.replies
        (((t.setReach r (mkReach g.epoch 2 (t.reachFwd r) false)).updMap fun m => { m with
          unresolved := m.unresolved.filter (· != r), twinTable := aputD m.twinTable r (mkReach g.epoch 1 false false) 0 }).missReach
            r))
    ∧ (∀ u, f.typ = 5 → f.flags = 4 → u = t.dropFrames r g.epoch →
      (t.reachState r ≠ 1 → exec (.ownFence f) s = s.replies u)
      ∧ (t.reachState r = 1 → t.reachEpoch r = g.epoch → exec (.ownFence f) s = s.replies (u.unresolve r).noteSplit)
      ∧ (t.reachState r = 1 → serialLater g.epoch (t.reachEpoch r) = true → exec (.ownFence f) s = s.replies
        (((((u.setReach r (mkReach g.epoch 2 (t.reachFwd r) false)).updMap fun m => { m with
          unresolved := m.unresolved.filter (· != r)
          twinTable := aputD m.twinTable r (mkReach g.epoch 1 false false) 0 }).missReach r).logE 0x0D06 0x5000 0
            (r + g.epoch.toNat * 2 ^ 32)).event 0x0D0100 4)))
    ∧ (f.typ = 5 → f.flags = 5 → exec (.ownSyncDone f) s = s.replies (t.updTwn fun w => { w with
        syncIn := some (BitVec.ofNat 32 (bytesNat (g.payload.take 4)),
          BitVec.ofNat 32 (bytesNat ((g.payload.drop 4).take 4))) }).syncCheck)
    ∧ (∀ leaf v w, f.typ = 7 → f.flags = 0 → g.flags = 0 → leaf = bitsOf g.arg0.toNat 0 34 → leaf = bitsOf f.arg0.toNat 0 34 →
      v = s.admitAs (.fetch leaf) (field (s.reg 0x0D0008) 28 4) 64 → w = t.admitAs (.fetch leaf) (field (t.reg 0x0D0008) 28 4) 64 →
      (s.fetchable leaf = true → v.1 = none → exec (.fetch f) s = s.goesOn v.2)
      ∧ (s.fetchable leaf = true → v.1 ≠ none → s.leafRoom leaf = false → exec (.fetch f) s = s.goesOn s)
      ∧ (s.fetchable leaf = true → v.1 ≠ none → s.leafRoom leaf = true → t.fetchable leaf = true →
        exec (.fetch f) s = s.replies (w.2.readLeaf leaf false (field g.arg1 0 12) (w.1.getD .normal)))
      ∧ (s.fetchable leaf = false → t.fetchable leaf = false → exec (.fetch f) s = s.replies
          (t.ctrlPush (ctrlFrame 7 1 0 (BitVec.ofNat 64 leaf) (BitVec.ofNat 32 (field g.arg1 0 12)) []))))
    ∧ (∀ leaf, f.typ = 7 → f.flags = 1 → g.flags = 1 → aget t.twn.fetches (field g.arg1 0 12) = some leaf →
      exec (.fetchNak f) s = s.replies (((t.updTwn fun w => { w with
        fetches := adel w.fetches (field g.arg1 0 12) }).updVlt fun v => { v with
          demands := v.demands.map fun d => if d.leaf = leaf then { d with inFlight := false, fetched := true } else d }).healFails
            leaf))
    ∧ (∀ e, f.typ = 8 → e = field g.arg1 0 6 →
      (s.msgRoom (field f.arg1 0 6) = true → exec (.ctrl f) s = s.replies (t.updEngine e fun n =>
        { n with msgs := n.msgs ++ [(BitVec.ofNat 6 (bitsOf g.arg0.toNat 0 6), g.payload)] }))
      ∧ (s.msgRoom (field f.arg1 0 6) = false → exec (.ctrl f) s = s.goesOn s))

/-- R130, R138–R142: the link's timers. A BEAT goes out when one is due or its time has come; a HELLO is sent again; a lane
goes back to its oldest frame; silence and an epoch that never comes take the link down. -/
def Obligations.LinkTimers : Prop :=
  ∀ (s : State), s.ready = true →
    (s.twn.link ≠ 0 → s.twn.beatDue = true → exec .heartbeat s = s.goesOn s.sendBeat)
    ∧ (s.twn.link ≠ 0 → s.twn.beatDue = false → exec .heartbeat s =
        s.goesOn { s with chron := max s.chron (s.twn.lastBeat + max 1 (field s.twn.lcfg 16 8) * 1000) }.sendBeat)
    ∧ (s.twn.link = 1 → s.twn.hello = none ∨ s.twn.helloAcked = false → exec .helloResend s =
        s.goesOn { s with chron := max s.chron (s.twn.lastHello + 100000) }.sendHello)
    ∧ (∀ (lane : Fin 2) (f : Frame) (t k line : Nat), (s.lane lane.val).waiting = some (f, t, k) →
      line = (if f.typ = 1 then bitsOf f.arg0.toNat 24 34 * 64 else bitsOf f.arg0.toNat 0 40) →
      ¬(f.typ = 2 ∧ k = 1) → f.epoch ≠ s.reachEpoch (reachOfLine line) → epochEarlier f.epoch (s.reachEpoch (reachOfLine line)) = false →
      exec (.epochWait lane) s = s.goesOn ({ s with chron := max s.chron (t + 1000000) }.linkDown 4))
    ∧ (∀ lane : Fin 3, s.twn.link ≠ 0 → (s.lane lane.val).retry ≠ [] →
      exec (.retryTimeout lane) s = s.goesOn ({ s with
        chron := max s.chron (max (s.lane lane.val).oldestAt (s.lane lane.val).busyAt
          + max 1 (field (s.reg 0x0D0008) 16 8) * 1000) }.goBack lane.val))
    ∧ (s.twn.link ≠ 0 → exec .silentTimeout s = s.goesOn ({ s with
        chron := max s.chron (s.twn.lastControl
          + max (field s.twn.lcfg 0 16) (2 * max 1 (field s.twn.lcfg 16 8)) * 1000) }.linkDown 1))

/-- R140, R142, R144, R145, R148, R149, R151: the firmware's controls of the link, the handover and the grant, and the
Resync's walk. -/
def Obligations.TwinFirmware : Prop :=
  ∀ (s : State) (p : Path),
    (∀ k, s.passes p 0x0D000C 1 = true → bit (s.reg 0x0D0000) 31 = true → s.twn.link = 0 → k = s.sessionSlot →
      ((s.keySlot k).fresh = true → s.boundSlot k = false → exec (.twnUp p) s = s.answers p .ok
        ((s.setKeySlot k { s.keySlot k with fresh := false }).updTwn fun t => { t with
          link := 1, lcfg := s.reg 0x0D0004, lsel := field (s.reg 0x0D0000) 4 4, staleRd := bit (s.reg 0x0D0000) 29
          lanes := [{}, {}, {}], splitBrain := false, lastControl := s.chron, lastBeat := s.chron, tableIn := 0
          tableOut := false }).sendHello)
      ∧ ((s.keySlot k).fresh = false ∨ s.boundSlot k = true → exec (.twnUp p) s =
          s.answers p .ok ((s.logE 0x0B03 0x600B 0 k).event 0x0B0300 7)))
    ∧ (s.passes p 0x0D000C 1 = true → bit (s.reg 0x0D0000) 31 = false ∨ s.twn.link ≠ 0 → exec (.twnUp p) s = s.answers p .ok s)
    ∧ (s.passes p 0x0D000C 2 = true → exec (.twnDown p) s = s.answers p .ok (s.linkDown 5))
    ∧ (s.passes p 0x0D000C 4 = true → exec (.twnFull p) s = s.answers p .ok { s with twn := { s.twn with fullReq := true } })
    ∧ (∀ (reach : BitVec 16) (r : Nat), s.passes p 0x0D0014 (0x80000000 ||| reach.setWidth 32) = true → r = reach.toNat →
      (s.twn.link = 2 → s.reachState r = 1 → s.reachInStep r = true → s.map.unresolved.contains r = false →
        exec (.twnHover p reach) s = s.answers p .ok ((s.setReach r (mkReach (s.reachEpoch r + 1) 2 true true)).updTwn fun t =>
          { t with handover := t.handover ++ [{ reach := r, epoch := s.reachEpoch r + 1 }] }))
      ∧ (s.twn.link ≠ 2 ∨ s.reachState r ≠ 1 ∨ s.reachInStep r = false ∨ s.map.unresolved.contains r = true →
        exec (.twnHover p reach) s = s.answers p .ok (s.event 0x0D0100 11)))
    ∧ (∀ (reach : BitVec 16) (h : Handover), s.ready = true →
      s.twn.handover.find? (fun x => x.reach == reach.toNat && !x.sent) = some h → s.twn.out = [] →
      (∀ l ∈ s.twn.lanes, l.retry = []) → exec (.handoverSend reach) s = s.goesOut
        ((s.pushOwn 1 h.epoch reach.toNat 1 []).updTwn fun t => { t with
          handover := t.handover.map fun x => if x.reach = reach.toNat then { x with sent := true } else x }))
    ∧ (∀ (r : Nat) (e : Word) (u : State), s.passes p 0x0D003C 1 = true → field (s.reg 0x0D0030) 0 16 = r →
      field (s.reg 0x0D0034) 0 17 = 1 → e = s.reg 0x0D0038 → s.twn.link ≠ 2 →
      u = (((s.setReach r (mkReach e 1 false false)).updMap fun m => { m with
        unresolved := m.unresolved.filter (· != r) }).joinCopy r).missReach r →
      (r < s.map.act.reaches → r < s.map.act.carveBase → s.reachState r = 1 ∨ s.reachState r = 2 →
        serialLater e (s.reachEpoch r) = true → exec (.twnGrantGo p) s = s.answers p .ok
          ((((u.updTwn fun t => { t with handover := t.handover.filter fun h => h.reach != r }).eventIf
            (s.twn.handover.any fun h => h.reach == r) 0x0D0100 11).updTwn fun t => { t with grantPend := some (1, 0, e) }).sendCtrl))
      ∧ (serialLater e (s.reachEpoch r) = false → exec (.twnGrantGo p) s = s.answers p .ok
          (s.updTwn fun t => { t with grantPend := some (0, 1, e) }).sendCtrl))
    ∧ (∀ a j e, s.ready = true → s.twn.grantPend = some (a, j, e) → a < 2 ^ 16 → j < 2 ^ 16 →
      exec .grantDone s = s.goesOn ((s.updTwn fun t => { t with
        grantPend := none, grantRes := BitVec.ofNat 32 (j * 2 ^ 16 + a) }).event 0x0D0100 9))
    ∧ (∀ (r next : Resync), s.ready = true → s.twn.link = 2 → s.twn.resync = some r → r.walked = false →
      next = { r with reaches := [], leaf := 0, walk := r.walk + 1 } →
      (aget s.plg.pins 0 = none → exec .resyncLeafCopy s = s.goesOn s.restartFull)
      ∧ ((aget s.plg.pins 0).isSome = true → (∀ x ∈ s.twn.reading, x.resync = false) →
        ((∀ q ∈ s.toCopy, q ∈ r.done) →
          (s.plg.w ≤ r.walk → exec .resyncLeafCopy s = s.goesOn (((s.localReaches.foldl (fun t q => t.setInStep q true) s).updMap
            fun m => { m with copySet := [] }).updTwn fun t => { t with
              resync := some { r with reaches := [], leaf := 0, walked := true } }))
          ∧ (r.walk < s.plg.w → aget s.plg.ring r.walk = none →
            exec .resyncLeafCopy s = s.goesOn (s.updTwn fun t => { t with resync := some next }).pin0)
          ∧ (∀ x, r.walk < s.plg.w → aget s.plg.ring r.walk = some x → s.reachState (reachOfLeaf x.leaf) ≠ 1 →
            exec .resyncLeafCopy s = s.goesOn (s.updTwn fun t => { t with resync := some next }).pin0))
        ∧ (∀ (q : Nat) (l : List Nat) (c : Bool × State), s.toCopy.filter (fun q => !r.done.contains q) = q :: l →
          r.reaches = [] → q * 2 ^ 18 < s.map.act.dataLeaves → s.leafRoom (q * 2 ^ 18) = true →
          s.leafState (q * 2 ^ 18) = 0 → c = s.copyLeaf (q * 2 ^ 18) →
          (c.1 = true → exec .resyncLeafCopy s = s.goesOn (c.2.updTwn fun t => { t with
            resync := some { r with reaches := [q], leaf := 1 } }))
          ∧ (c.1 = false → exec .resyncLeafCopy s = s.goesOn c.2))))

/-! ### VLT -/

/-- R165–R171: the power-fail warning enters Save, or freezes a block that has nothing to save; the metadata, its flush, the
superblock and the end of Save follow in that order, and a dirty unit is written behind. -/
def Obligations.SaveSequence : Prop :=
  ∀ (s : State), s.ready = true →
    (∀ u : State, u = { s with cfg := { s.cfg with pfWarn := true } } →
      (s.cfg.frozen = true ∨ s.cfg.mode = .save → exec .pfWarn s = s.goesOn u)
      ∧ (s.cfg.frozen = false → s.cfg.mode ≠ .save →
        s.cfg.mode.early = false ∨ (s.cfg.mode = .sighting ∧ s.vlt.running = true) → exec .pfWarn s = s.goesOn u.enterSave)
      ∧ (s.cfg.frozen = false → s.cfg.mode = .reset ∨ (s.cfg.mode = .sighting ∧ s.vlt.running = false) →
        exec .pfWarn s = s.goesOn ({ u.dropVault with cfg := { s.cfg with
          pfWarn := true, frozen := true, noSave := true, saveDonePin := true } }.updVlt fun v => { v with phase := .saved })))
    ∧ (s.cfg.mode = .save → s.vaultOn = true → s.plg.d = s.plg.w → s.plg.drains = [] → s.quiesced = true →
      s.vlt.writing = [] → s.vlt.phase = .drain → exec (.saveMetaWrite ()) s = s.goesOn
        ({ s with vlt := { s.vlt with phase := .metaOut, dirty := [], waits := [] } }.beginStep .saveUnits
          ((s.vlt.dirty ++ s.vlt.waits).map (fun u => (u, 1)) ++ [(3, 64), (2, 1)])))
    ∧ (s.cfg.mode = .save → s.stepOver .saveFlush = true → exec (.saveFirstFlushDone ()) s = s.goesOn
        (s.superStep .saveSuper (if s.vlt.failedNow = 0 then 2 else 3) s.vlt.failedNow
          (min 0xFFFFFFFF ((s.chron - s.vlt.saveStart) / 1000))))
    ∧ (s.cfg.mode = .save → s.cfg.saveDonePin = false →
      (s.vaultOn = true → s.stepOver .saveLast = true → exec (.saveDone ()) s = s.goesOn (s.finishSave true))
      ∧ (s.vaultOn = false → s.quiesced = true → exec (.saveDone ()) s = s.goesOn (s.finishSave false)))
    ∧ (∀ (unit level : Nat), s.vaultOn = true → s.vlt.dirty.contains unit = true → s.vlt.writing.contains unit = false →
      s.vlt.running = true →
      (s.cfg.mode.serves = true ∧ s.dti.down = false ∧ level = 3)
        ∨ (s.cfg.mode = .save ∧ (s.vlt.phase = .quiesce ∨ s.vlt.phase = .drain) ∧ level = 1) →
      exec (.vaultMetaWriteback unit) s = s.goesOn
        ({ s with vlt := { s.vlt with
          dirty := s.vlt.dirty.filter (· != unit), writing := insertNat s.vlt.writing unit } }.dpPush
          { op := 1, tgt := false, unit := BitVec.ofNat 48 (s.vbase + unit), sb := s.unitSideband unit (s.unitBytes unit)
            data := s.unitBytes unit, owner := .vaultMeta unit, level := level }))

/-- R172–R176, R179, R180, R437: the end of Sighting, the superblocks and the metadata of Restore, the start of service, and
the refill of leaves. -/
def Obligations.RestoreSequence : Prop :=
  ∀ (s : State) (p : Path), s.ready = true →
    (s.sightedAll = true →
      (s.vaultOn = true → exec .sightingComplete s = s.goesOn ({ s with
        cfg := { s.cfg with sightingComplete := true }, vlt := { s.vlt with phase := .metaIn } }.beginStep .superRead [(0, 2)]))
      ∧ (s.vaultOn = false → exec .sightingComplete s = s.goesOn
        { s with cfg := { s.cfg with sightingComplete := true } }.emptyImage))
    ∧ (∀ (j : VltJob) (x y : Super), s.vlt.job = some j → j.step = .superRead → x = readSuper (j.unit 0) → y = readSuper (j.unit 1) →
      (∀ w, j.failed = some w → exec (.restoreSuperblockRead () ()) s = s.goesOn (s.vaultInvalid w.1 w.2))
      ∧ (s.stepOver .superRead = true →
        (x.hasMagic = false → y.hasMagic = false → exec (.restoreSuperblockRead () ()) s = s.goesOn
          { s with vlt := { s.vlt with phase := .waitInit, job := none } })
        ∧ (x.hasMagic = true ∨ y.hasMagic = true → x.valid = false → y.valid = false →
          exec (.restoreSuperblockRead () ()) s = s.goesOn (s.vaultInvalid 1 0))
        ∧ (∀ (second : Bool) (c : Super) (t : State),
          (second = true ∧ c = y ∧ y.valid = true ∧ (x.valid = true → x.gen < y.gen))
            ∨ (second = false ∧ c = x ∧ x.valid = true ∧ (y.valid = true → y.gen ≤ x.gen)) →
          t = s.updVlt (fun v => { v with onMedium := some (second, BitVec.ofNat 64 c.gen) }) →
          (s.superFits c = false → exec (.restoreSuperblockRead () ()) s = s.goesOn (t.vaultInvalid 2 0))
          ∧ (∀ u, s.superFits c = true → u = t.updVlt (fun v => { v with
              sbState := BitVec.ofNat 2 c.state, slot := second, gen := BitVec.ofNat 64 c.gen
              lastSave := BitVec.ofNat 32 c.saveUs, chosenRunning := c.state == 1 }) →
            (c.state ≠ 1 → exec (.restoreSuperblockRead () ()) s = s.goesOn u.readMeta)
            ∧ (c.state = 1 → exec (.restoreSuperblockRead () ()) s = s.goesOn
              ((u.logE 0x0F03 0x600F 0 c.gen).event 0x0F0100 2).readMeta)))))
    ∧ (∀ j : VltJob, s.vlt.job = some j → j.step = .metaRead ∨ j.step = .logRead →
      (∀ w, j.failed = some w → exec (.restoreMetadataRead ()) s = s.goesOn (s.vaultInvalid w.1 w.2))
      ∧ (s.stepOver .logRead = true → exec (.restoreMetadataRead ()) s = s.goesOn ((s.applyMeta j).superStep .runSuper 1 0 0)))
    ∧ (∀ eager : Bool, s.cfg.sightingComplete = true → s.cfg.restoreBegun = false → s.cfg.mode = .sighting →
      s.cfg.frozen = false → s.vaultOn = false ∨ s.stepOver .runFlush = true →
      (eager = true ↔ s.map.act.stageSize * 2 ^ 20 < s.map.act.restoreMap + 64 * 2 ^ 20) →
      exec (.restoreServiceStart ()) s = s.goesOn ({ s with
          cfg := { s.cfg with restoreBegun := true }
          vlt := { s.vlt with phase := .refill, eager := eager, lazyRun := !eager, job := none } }.eventIf eager 0x0F0100 8).reeval)
    ∧ (s.passes p 0x0F0008 1 = true → exec (.vltInit p) s = s.answers p .ok
        ((s.emptyImage.newestSuper.updVlt fun v => { v with phase := .metaIn }).beginStep .initUnits [(2, s.map.act.metaEnd - 2)]))
    ∧ (∀ ls, s.passes p 0x0F0008 2 = true →
      ls = (s.map.absent.filter fun x => x.2 == 2 && (s.sourceOf x.1).isNone).map (fun x => x.1) → ls ≠ [] →
      exec (.vltRelease p) s = s.answers p .ok (((((ls.foldl (fun t l => (t.poisonLeaf l).setLeaf l 0) s).updVlt fun v =>
        { v with
          failed := satAdd v.failed ls.length
          demands := v.demands.filter fun d => !ls.contains d.leaf }).logE 0x0F04 0x600F 0 ls.length).event 0x0F0100 7).event
            0x0F0100 5).restoreDone)
    ∧ (∀ l, s.map.restoring = true → s.cfg.mode.serves = true →
      (s.vlt.demands.filter fun d => !d.demand && d.inFlight).length < field (s.reg 0x0F0004) 8 8 → s.nextLeaf = some l →
      (l < s.map.walk → exec .backgroundRefill s = s.goesOn (s.startRefill l false))
      ∧ (s.map.walk ≤ l → s.eagerReady l = false → exec .backgroundRefill s = s.goesOn (s.eagerAsk l)))
    ∧ (∀ (l : Nat) (d : Demand), s.demandOf l = some d → d.inFlight = true → s.leafState l ≠ 0 →
      (d.source = 0 → exec (.leafRefillDone l) s = s.goesOn
        (((List.range 64).foldl (fun t i => t.refillLine (l * 64 + i) none false) s).leafPresent l 0))
      ∧ (d.source = 3 → exec (.leafRefillDone l) s = s.goesOn ((s.poisonLeaf l).leafPresent l 3))
      ∧ (∀ data sb, d.source = 1 → d.arrived = some (true, data, sb) → s.leafOpens l data sb = true →
        exec (.leafRefillDone l) s = s.goesOn (((List.range 64).foldl (fun t i =>
          t.refillLine (l * 64 + i) (some (lineOf data i)) false) (s.cphJob 1 l)).leafPresent l 1))
      ∧ (∀ data sb, d.source = 1 → d.arrived = some (false, data, sb) →
        (s.twinInStep (reachOfLeaf l) = false ∨ d.fetched = true → exec (.leafRefillDone l) s = s.goesOn (s.loseLeaf l))
        ∧ (s.twinInStep (reachOfLeaf l) = true → d.fetched = false →
          exec (.leafRefillDone l) s = s.goesOn (s.refillFrom l d.demand .twin))))

/-! ### CHS and RPM -/

/-- R194, R195, R199, R203, R204, R209, R268: a decision hands an item to the command edge and changes the mode as R195 says;
the edge launches the command whose slot has come, or DES; the oldest burst returns; the scheduler's registers. -/
def Obligations.SchedulerCommands : Prop :=
  ∀ (s : State) (p : Path),
    (∀ (c : Sub) (q : SubState) (d : Item × RW × Bool), s.ready = true → s.cfg.saveDonePin = false → q = s.sub c.val →
      q.slotRoom = true → d = s.decision c.val →
      (q.pause = true → d = (.hold .pause, q.mode, false))
      ∧ (d.2.1 = q.mode → exec (.chsDecide c) s = s.goesOn
        (((s.setSub c.val q).count 2 11 c.val 0).handOver c.val d.1))
      ∧ (d.2.1 ≠ q.mode → exec (.chsDecide c) s = s.goesOn
        ((((s.setSub c.val { q with mode := d.2.1, batch := if d.2.1 = .wr then 0 else q.batch }).count 2 11 c.val 1).eventIf
          d.2.2 (chsPage (c.val / 2) + 0x200) 4).handOver c.val d.1)))
    ∧ (∀ (c : Sub) (q : SubState) (slot : Nat) (t : State), s.ready = true → s.cfg.saveDonePin = false → q = s.sub c.val →
      slot = q.slot + 1 → (∀ l, q.hist.getLast? = some l → l.slot + l.op.cycles ≤ slot) →
      t = s.setSub c.val { q with slot := slot, idle := if q.rq.isEmpty then q.idle + 1 else 0 } →
      ((t.sub c.val).slotReg = [] → exec (.commandLaunch c) s = s.goesOn (t.classDes c.val slot))
      ∧ (∀ k op l id why r, (t.sub c.val).slotReg = (k, .cmd op l id why) :: r →
        (slot < k + 2 → exec (.commandLaunch c) s = s.goesOn (t.classDes c.val slot))
        ∧ (k + 2 ≤ slot → (t.tim c.val).allows (t.sub c.val).hist op l slot = true →
          exec (.commandLaunch c) s = s.goesOn (t.launch c.val slot op l id why))
        ∧ (k + 2 ≤ slot → (t.tim c.val).allows (t.sub c.val).hist op l slot = false → exec (.commandLaunch c) s = s.goesOn
          ((t.classDes c.val slot).event (chsPage (c.val / 2) + 0x200) 5))))
    ∧ (∀ (c : Sub) (r : ReadReturn) (b : Burst) (t : State) (ch : Fin 16), s.ready = true →
      (s.sub c.val).bursts.find? (fun b => !(s.sub c.val).awaitsReplay b) = some b → ch = Fin.ofNat 16 (c.val / 2) →
      t = (((s.setSub c.val { s.sub c.val with
        bursts := dropFirst (s.sub c.val).bursts fun x => x == b }).qThrough (.eccReturn ch) b.entry.line).trackDqs
          b.entry.loc r.moved).count 2 (if b.discard then 1 else 2) c.val b.slots →
      (b.discard = true → exec (.readDataReturn c r) s = s.goesOn t)
      ∧ (∀ x, b.discard = false → r.tweakMiss = false → r.coreFault = none → b.entry.dest = .sounding false →
        x = t.eccRead b.entry.loc b.entry.line b.line b.pois r.err (srcOf b.entry.who) (t.writesBack b.entry.dest) →
        exec (.readDataReturn c r) s = s.goesOn x.2)
      ∧ (∀ i k x, b.discard = false → r.tweakMiss = false → r.coreFault = none → b.entry.dest = .drain i k →
        x = t.eccRead b.entry.loc b.entry.line b.line b.pois r.err (srcOf b.entry.who) (t.writesBack b.entry.dest) →
        exec (.readDataReturn c r) s = s.goesOn (x.2.deliver b.entry.dest b.entry.line (x.1.1.getD 0) x.1.1.isNone
          b.entry.level b.entry.reserved)))
    ∧ (∀ (ch : Fin 16) (v : Word), s.passes p (chsPage ch.val) v = true →
      exec (.chsCfgWrite p ch v) s = s.keepsWord p (chsPage ch.val) v)
    ∧ (∀ (ch : Fin 16) (v : Word), s.passes p (chsPage ch.val + 4) v = true →
      exec (.chsWmWrite p ch v) s = s.keepsWord p (chsPage ch.val + 4) v)
    ∧ (∀ (ch : Fin 16) (n : Fin 8) (v : Word), s.passes p (chsPage ch.val + 0x100 + 4 * n.val) v = true →
      exec (.chsTimWrite p ch n v) s = s.keepsWord p (chsPage ch.val + 0x100 + 4 * n.val) v)

/-- R212, R213, R216, R219, R221, R223, R228: a tREFI tick, the thermal poll after POLL_MS and the three failed readings that
force the hot rate, the clearing of the row trackers, and the pause granted once every rank is pulled in. -/
def Obligations.RefreshCommands : Prop :=
  ∀ (s : State) (p : Path),
    (∀ v, s.passes p 0x070000 v = true → exec (.rpmCfgWrite p v) s = s.keepsWord p 0x070000 v)
    ∧ (∀ (c : Sub) (cs : Fin 4) (t u : State) (r : RpmSub) (d : Int), s.ready = true → s.cfg.saveDonePin = false →
      s.cfg.mode ≠ .reset → bit (s.reg (chsPage (c.val / 2))) 31 = true →
      t = { s with chron := max s.chron (s.nextTick c.val cs.val) } → r = t.rpmSub c.val → d = r.debtOf cs.val →
      (s.csen c.val cs.val = true → u = (t.setRpm c.val { r with
          ticked := aput r.ticked cs.val t.chron, limits := aput r.limits cs.val (t.postpone, t.pullin)
          refiAt := aput r.refiAt cs.val (t.refi (c.val / 2))
          off := r.off.filter (· != cs.val) }).setDebt c.val cs.val (d + 1) →
        (d + 1 < t.postpone → exec (.refreshTick c cs) s = s.goesOn
          (if u.refDue c.val cs.val && !t.refDue c.val cs.val then u.event 0x070300 1 else u))
        ∧ (t.postpone ≤ d + 1 → (t.sub c.val).pause = true →
          ∃ x : State, (x = u ∨ x = u.event 0x070300 1) ∧ exec (.refreshTick c cs) s = s.goesOn
            (((x.setSub c.val { x.sub c.val with pause := false }).logE 0x0703 0x6007 0 (infoCs c.val 0)).event 0x070300 4)))
      ∧ (s.csen c.val cs.val = false → s.counts c.val cs.val = true → exec (.refreshTick c cs) s = s.goesOn
        (t.setRpm c.val { r with
          ticked := aput r.ticked cs.val t.chron, off := insertNat r.off cs.val, debt := adel r.debt cs.val
          limits := adel r.limits cs.val, targeted := r.targeted.filter fun g => g.loc.cs != cs.val })))
    ∧ (∀ (ch : Fin 16) (t u : State) (old : Thermal), s.ready = true →
      t = { s with chron := max s.chron ((s.therm ch.val).polled + max 1 (field (s.reg 0x070004) 0 8) * 1000000) } →
      old = { s.therm ch.val with polled := t.chron } →
      u = (t.setTherm ch.val old).updSgt (fun g => { g with i3c := insertNat g.i3c ch.val }) →
      (s.sgt.sbBusy = true → s.sgt.sbAfterPoll = false → field s.sgt.sbCmd 24 4 = ch.val →
        ∀ l, exec (.thermalPoll ch l) s = s.goesOn s)
      ∧ (s.sgt.sbBusy = false → ∀ l, none ∈ l →
        ((u.therm ch.val).bad + 1 ≠ 3 → exec (.thermalPoll ch l) s = s.goesOn
          (u.setTherm ch.val { u.therm ch.val with bad := min 3 ((u.therm ch.val).bad + 1), good := 0 }))
        ∧ ((u.therm ch.val).bad + 1 = 3 → exec (.thermalPoll ch l) s = s.goesOn
          (((u.setTherm ch.val { u.therm ch.val with bad := 3, good := 0, hot := true, byFail := true }).logE 0x0702 0x6007 0
            (ch.val * 2 ^ 32)).event 0x070300 6)))
      ∧ (s.sgt.sbBusy = false → ∀ v : Byte,
        exec (.thermalPoll ch [some v]) s = s.goesOn (u.goodReading ch.val v).coolDown))
    ∧ (∀ (ch : Fin 16) (n : Nat), s.ready = true → n = (if (s.therm ch.val).hot then 16000000 else 32000000) →
      exec (.trackerClear ch) s = s.goesOn
        ({ s with chron := max s.chron ((s.chron + n - 1) / n * n) }.clearTrackers ch.val))
    ∧ (∀ c : Sub, s.ready = true → (s.sub c.val).pause = false → s.inOutage c.val = false → s.sgt.phase = .track →
      (s.sub c.val).parityPre = [] → (s.sub c.val).replayPend = [] → (s.resightNow c).isSome = true →
      (s.pulledIn c.val = false → exec (.pauseGrant c) s = s.goesOn (s.askPause c.val))
      ∧ (s.pulledIn c.val = true → exec (.pauseGrant c) s = s.goesOn
        (((s.setSub c.val { s.sub c.val with pause := true }).pauseServed c.val).closeRows c.val)))

/-! ### SGT -/

/-- R233, R234, R235, R240, R248, R251: DISCOVER and START with what they refuse, the steps of Sighting with their retries,
the re-sights firmware asks for, and the sideband with its poll first and its timeout. -/
def Obligations.SightingCommands : Prop :=
  ∀ (s : State) (p : Path),
    (∀ hubs, s.takesReg p = true →
      (s.sightClosed = true → exec (.sgtDiscover p hubs) s = s.answers p .errMode s)
      ∧ (s.sightClosed = false → popFault hubs = none → exec (.sgtDiscover p hubs) s = s.answers p .ok
        { s with sgt := { s.sgt with
          hubs := hubs, asked := true, pop := popWord hubs, discovered := true, i3c := List.range 16 } })
      ∧ (∀ ch k, s.sightClosed = false → popFault hubs = some (ch, k) → exec (.sgtDiscover p hubs) s = s.answers p .ok
        (({ s with sgt := { s.sgt with
          hubs := hubs, asked := true, pop := popWord hubs, discovered := false, i3c := List.range 16 } }.logE
            0x0801 0x6008 0 (k + ch * 2 ^ 32)).event 0x080100 3)))
    ∧ (s.passes p 0x080010 0x80000000 = true →
      (s.sightClosed = true → exec (.sgtStart p) s = s.answers p .errMode s)
      ∧ (s.sightClosed = false → s.cfg.mode = .sighting → s.sgt.phase = .train →
        exec (.sgtStart p) s = s.answers p .ok s)
      ∧ (s.sightClosed = false → s.sgt.phase ≠ .train → s.startFits = false →
        exec (.sgtStart p) s = s.answers p .ok (s.event 0x080100 4))
      ∧ (∀ l, s.sightClosed = false → s.sgt.phase ≠ .train → s.startFits = true →
        s.timingAt (field (s.reg 0x080000) 0 4) = some l → exec (.sgtStart p) s = s.answers p .ok
          ((((s.writeTiming l).updCfg fun c => { c with startAccepted := true, sightDone := false }).beginSighting.updSgt fun g =>
            { g with started := s.chron, fallbacks := 0 }).reeval)))
    ∧ (∀ (v w : Word) (c : Sub), s.passes p 0x080010 ((v &&& 0x000F1300) ||| 0x20000000) = true →
      w = s.newWord 0x080010 ((v &&& 0x000F1300) ||| 0x20000000) →
      (s.sgt.phase = .track ∨ s.sgt.phase = .outage) → c = Fin.ofNat 32 (2 * field w 16 4 + field w 12 1) → s.csServes c (field w 8 2) = true →
      exec (.sgtResight p v) s = s.answers p .ok (s.askResight c (field w 8 2) true true false none))
    ∧ (∀ (v w : Word), s.passes p 0x080010 ((v &&& 0x000F1300) ||| 0x30000000) = true →
      w = s.newWord 0x080010 ((v &&& 0x000F1300) ||| 0x30000000) →
      (s.sgt.phase = .track ∨ s.sgt.phase = .outage) → exec (.sgtResightFull p v) s = s.answers p .ok (s.startOutage (field w 16 4) 3))
    ∧ (∀ (r : StepResult) (key : Nat), s.ready = true → s.cfg.frozen = false → s.sgt.phase = .train → s.stepRuns r = true →
      key = scopeKey (stepScope r.step.toNat) r.channel.val r.sub.val r.unit.val →
      (r.pass = true → s.windowsMet r.channel.val r.step.toNat (r.sub.val, r.unit.val) r.results = true →
        exec (.sightStepDone r) s = s.goesOn ((s.stepPasses r key).stepSettled r.channel.val))
      ∧ (r.pass = false ∨ s.windowsMet r.channel.val r.step.toNat (r.sub.val, r.unit.val) r.results = false → r.step ≠ 1 → agetD s.sgt.retries key 0 < field (s.reg 0x080000) 8 2 →
        exec (.sightStepDone r) s = s.goesOn { s with sgt := { s.sgt with
          retries := aput s.sgt.retries key (agetD s.sgt.retries key 0 + 1) } }))
    ∧ (∀ (v w : Word), s.passes p 0x080030 (v ||| 0x80000000) = true → w = s.newWord 0x080030 (v ||| 0x80000000) →
      s.sgt.sbBusy = false →
      (s.sidebandRefused w = true → exec (.sidebandCmdGo p v) s = s.answers p .ok
        ((s.setReg 0x080030 (w &&& 0x7FFFFFFF)).updSgt fun g => { g with sbResult := 4 }))
      ∧ (s.sidebandRefused w = false → exec (.sidebandCmdGo p v) s = s.answers p .ok
        ((s.setReg 0x080030 (w &&& 0x7FFFFFFF)).updSgt fun g => { g with
          sbBusy := true, sbCmd := w, sbSince := s.chron
          sbAfterPoll := s.sgt.discovered && bit s.sgt.pop (field w 24 4) && decide ((s.therm (field w 24 4)).polled
            + max 1 (field (s.reg 0x070004) 0 8) * 1000000 ≤ s.chron) })))
    ∧ (∀ (r : BitVec 3) (data : Word) (t : State), s.ready = true → s.sgt.sbBusy = true → s.sgt.sbAfterPoll = false →
      (s.chron ≤ s.sgt.sbSince + 3000000 → r ≠ 3 → t = { s with sgt := { s.sgt with
          i3c := insertNat s.sgt.i3c (field s.sgt.sbCmd 24 4), sbBusy := false, sbResult := r } } →
        (r ≠ 0 → exec (.sidebandDone r data) s = s.goesOn t)
        ∧ (r = 0 → bit s.sgt.sbCmd 30 = true → exec (.sidebandDone r data) s = s.goesOn t)
        ∧ (r = 0 → bit s.sgt.sbCmd 30 = false → exec (.sidebandDone r data) s = s.goesOn
          (t.setReg 0x080034 (putField (s.reg 0x080034) 0 (8 * (field s.sgt.sbCmd 28 2 + 1)) data.toNat))))
      ∧ (s.sgt.sbSince + 3000000 < s.chron ∨ r = 3 → exec (.sidebandDone r data) s = s.goesOn
        { s with chron := max s.chron (s.sgt.sbSince + 3000000)
                 sgt := { s.sgt with
                   i3c := insertNat s.sgt.i3c (field s.sgt.sbCmd 24 4), sbBusy := false, sbResult := 3 } }))

/-- R197, R223, R238, R245, R247–R251: the events of a sighted interface: a CA parity error, a drift sample, a re-sight that is
due, its interval, and its chunks with their retry and the channel re-sight that follows. -/
def Obligations.InterfaceEvents : Prop :=
  ∀ (s : State) (c : Sub) (q : SubState), s.ready = true → q = s.sub c.val →
    (s.inOutage c.val = false → (s.sub (2 * (c.val / 2))).lastParity = none →
      (s.sub (2 * (c.val / 2) + 1)).lastParity = none → exec (.caParity c) s = s.goesOn ((s.setSub c.val { q with
        pause := false, parityPre := List.range s.chipSelects
        replayPend := q.replayPend ++ q.replay.filter fun x => decide (q.slot ≤ x.slot + 64)
          && !q.replayPend.any fun y => y.op == x.op && y.loc == x.loc
        lastParity := some s.chron }).logE 0x0802 0x6008 0 (infoCs c.val 0)))
    ∧ (∀ counts drifts t, s.sgt.phase = .track → s.cfg.mode.serves = true → q.pause = false → s.inOutage c.val = false →
      q.parityPre = [] → q.replayPend = [] →
      t = { s with chron := max s.chron (agetD s.sgt.sampled c.val 0 + max 1 (field (s.reg 0x080008) 0 8) * 1000000) } →
      (t.pulledIn c.val = false → exec (.oscSample c counts drifts) s = s.goesOn (t.askPause c.val))
      ∧ (∀ u, t.pulledIn c.val = true →
        u = ((t.pauseServed c.val).updSgt fun g => { g with sampled := aput g.sampled c.val t.chron }).closeRows c.val →
        exec (.oscSample c counts drifts) s = s.goesOn (((List.range 4).filter (u.csServes c)).foldl (fun x cs =>
          (((x.sends c.val .mpc cs).sends c.val .mrr cs).sends c.val .mrr cs).sampleCs c cs (counts.getD cs 0)
            (drifts.getD cs 0)) u)))
    ∧ (∀ (cs : Fin 4) (r : Resight), s.sgt.resights.find? (fun r => r.sub == c && r.cs == cs.val && !r.due) = some r →
      exec (.resightDue c cs) s = s.goesOn (({ s with
        chron := max s.chron (r.since + r.defer * 1000000)
        sgt := { s.sgt with resights := s.sgt.resights.map fun (x : Resight) =>
          if x.sub = c ∧ x.cs = cs.val then { x with due := true } else x } }).event 0x080100 1))
    ∧ (∀ (cs : Fin 4) (k : Nat) (temp : Byte), s.resightedAt c cs.val = some (k, temp) → field (s.reg 0x080008) 8 8 ≠ 0 →
      s.sgt.phase = .track → s.csServes c cs.val = true → exec (.resightInterval c cs) s = s.goesOn
        ({ s with chron := max s.chron (k + field (s.reg 0x080008) 8 8 * 1000000000) }.askResight c cs.val true true false none))
    ∧ (∀ (r : Resight) (l rest) (t u : State), q.pause = true → s.resightOrder c = r :: rest →
      t = s.setSub c.val { q with pause := false } →
      u = (t.chunkResults r l).writeModes (c.val / 2) (c.val % 2) r.cs →
      (r.chunks ≤ r.chunk + 1 → exec (.resightChunk c true l) s = s.goesOn ((u.noteResight r).resightOver r 0))
      ∧ (r.chunk + 1 < r.chunks → exec (.resightChunk c true l) s = s.goesOn (u.updSgt fun g =>
        { g with resights := g.resights.map fun (x : Resight) =>
            if x.sub = r.sub ∧ x.cs = r.cs then { x with chunk := x.chunk + 1, failed := false } else x }))
      ∧ (r.failed = false → exec (.resightChunk c false l) s = s.goesOn (t.updSgt fun g =>
        { g with resights := g.resights.map fun (x : Resight) =>
            if x.sub = r.sub ∧ x.cs = r.cs then { x with failed := true } else x }))
      ∧ (∀ n : Nat, ∀ y : State, r.failed = true → n = (if r.rdTrack ∧ r.chunk < 8 then 0xC else 0xD) →
        y = ((t.resightOver r 2).logE 0x0805 0x6008 0 (n + infoCs c.val r.cs)).event 0x080100 7 →
        (r.whole = false → exec (.resightChunk c false l) s = s.goesOn (y.startOutage (c.val / 2) 1))
        ∧ (r.whole = true → exec (.resightChunk c false l) s = s.goesOn (y.csFails (c.val / 2) n (c.val % 2, r.cs)))))

/-! ### ECC and SND -/

/-- R270, R277–R280, R282, R284, R286, R290: firmware's ECC commands with their result codes, the marks, the sparing copy,
the heal table, and Sounding's passes and reads. -/
def Obligations.EccCommands : Prop :=
  ∀ (s : State) (p : Path),
    (∀ (v w : Word) (l : Loc), s.passes p 0x090010 (eccWord 1 v) = true → w = s.newWord 0x090010 (eccWord 1 v) →
      s.ecc.cmdBusy = false → l = s.cmdLoc w →
      (s.rowFits l = false → exec (.eccRetireRow p v) s = s.answers p .ok (s.cmdResult 1))
      ∧ (s.rowFits l = true → (∃ m ∈ s.ecc.moves, m.row = rowKey l) →
        exec (.eccRetireRow p v) s = s.answers p .ok (s.cmdResult 1))
      ∧ (∀ k, s.rowFits l = true → (∀ m ∈ s.ecc.moves, m.row ≠ rowKey l) → s.freePool = some k →
        exec (.eccRetireRow p v) s = s.answers p .ok { s with ecc := { s.ecc with
          moves := s.ecc.moves ++ [{ row := rowKey l, slot := k, addr := 0, byCmd := true, todo := s.rowTier (rowKey l) }]
          cmdBusy := true, cmdRes := 0 } })
      ∧ (∀ t, s.rowFits l = true → (∀ m ∈ s.ecc.moves, m.row ≠ rowKey l) → s.freePool = none →
        t = (s.logE 0x0907 0x6009 0 (infoLoc (rowKey l))).event 0x090300 4 →
        (t.sgt.sppr.contains (rowKey l) = false → exec (.eccRetireRow p v) s = s.answers p .ok
          ((({ t with sgt := { t.sgt with sppr := t.sgt.sppr ++ [rowKey l] } }.dirtyMirror)).cmdResult 0))
        ∧ (t.sgt.sppr.contains (rowKey l) = true → exec (.eccRetireRow p v) s = s.answers p .ok
          ((t.countBank (rowKey l)).cmdResult 3))))
    ∧ (∀ (v w : Word) (l : Loc), s.passes p 0x090010 (eccWord 2 v) = true → w = s.newWord 0x090010 (eccWord 2 v) →
      s.ecc.cmdBusy = false → l = s.cmdLoc w →
      (s.canMark l.sub l.cs (field w 0 4) = true → exec (.eccMarkDev p v) s = s.answers p .ok
        ((s.markDevice l.sub l.cs (field w 0 4)).cmdResult 0))
      ∧ (s.canMark l.sub l.cs (field w 0 4) = false → exec (.eccMarkDev p v) s = s.answers p .ok (s.cmdResult 1)))
    ∧ (∀ (v w : Word) (l : Loc), s.passes p 0x090010 (eccWord 3 v) = true → w = s.newWord 0x090010 (eccWord 3 v) →
      s.ecc.cmdBusy = false → l = s.cmdLoc w →
      (s.cmdFits l = true → s.bankTaken (l.sub.val / 2) l.rank (bankNo l) = false →
        exec (.eccSpareBank p v) s = s.answers p .ok
          (State.cmdStarted (s.spareBank (l.sub.val / 2) l.rank (bankNo l) true) s.ecc.migrations.length))
      ∧ (s.bankTaken (l.sub.val / 2) l.rank (bankNo l) = true →
        exec (.eccSpareBank p v) s = s.answers p .ok (s.cmdResult 1)))
    ∧ (∀ (v w : Word) (l : Loc), s.passes p 0x090010 (eccWord 4 v) = true → w = s.newWord 0x090010 (eccWord 4 v) →
      s.ecc.cmdBusy = false → l = s.cmdLoc w →
      (s.cmdFits l = true → (agetD s.ecc.rankFail (2 * (l.sub.val / 2)) 0).testBit l.rank = false →
        exec (.eccSpareRank p v) s = s.answers p .ok
          (State.cmdStarted (s.spareRank (l.sub.val / 2) l.rank true) s.ecc.migrations.length))
      ∧ (s.cmdFits l = false → exec (.eccSpareRank p v) s = s.answers p .ok (s.cmdResult 1)))
    ∧ (∀ (v : Word) (n : Nat) (e : EngineNo), s.passes p 0x090010 (eccWord 5 v) = true → s.ecc.cmdBusy = false →
      n = field (s.reg 0x090014) 24 6 →
      (32 ≤ n → exec (.eccRetirePe p v) s = s.answers p .ok (s.cmdResult 1))
      ∧ (n = e.val → (s.engine n).state ≠ .failed → exec (.eccRetirePe p v) s = s.answers p .ok
        ((s.failEngine e).cmdResult (if (s.spareEngine e).isNone then 2 else 0))))
    ∧ (∀ (c : Sub) (v : Word), s.passes p (0x090100 + 4 * c.val) v = true → exec (.eccMarkWrite p c v) s =
        s.answers p .ok (s.markWrite c.val (s.newWord (0x090100 + 4 * c.val) v)))
    ∧ (∀ (ch : Fin 16) (g : Migration) (t : State), s.ready = true → s.cfg.mode.serves = true →
      s.ecc.migrations.find? (fun g => g.ch.val == ch.val) = some g → aget s.ecc.copying ch.val = none →
      (s.grantOf (.internal .snd) 0).isSome = true → t = { s with chron := max s.chron (agetD s.ecc.copiedAt ch.val 0 + s.copyNs) } →
      (∀ u, (∀ x ∈ t.copyLines g, t.rowHeld x.1 = false ∧ t.copyRuns x.1 = false) → t.askAll (t.copyLines g) = some u →
        exec (.spareCopy ch) s = s.goesOn { u with
          ecc := { u.ecc with
            copiedAt := aput u.ecc.copiedAt ch.val t.chron
            copying := aput u.ecc.copying ch.val ((t.copyLines g).map (·.1)) }
          atu := { u.atu with locks := u.atu.locks ++ (t.copyLines g).map (·.1) } })
      ∧ ((∃ x ∈ t.copyLines g, t.rowHeld x.1 = true ∨ t.copyRuns x.1 = true) → exec (.spareCopy ch) s = s.goesOn s)
      ∧ (t.askAll (t.copyLines g) = none → exec (.spareCopy ch) s = s.goesOn s))
    ∧ (∀ (leaf id : Nat) (h : Heal), s.ready = true → s.healOf leaf = some h →
      exec (.healTimeout leaf) s = s.goesOn
        ({ s with chron := max s.chron (h.since + max 1 (field (s.reg 0x090008) 0 16) * 1000000) }.healFails leaf)
      ∧ (h.fetched = false → h.wpl ≤ s.plg.wpt → s.twinInStep (reachOfLeaf leaf) = true → id = s.twn.nextFetch % 4096 →
        exec (.wqHealFetch leaf) s = s.goesOn ((({ s with
          ecc := { s.ecc with heals := s.ecc.heals.map fun (x : Heal) => if x.leaf = leaf then { x with fetched := true } else x }
          twn := { s.twn with fetches := aput s.twn.fetches id leaf, nextFetch := (id + 1) % 4096 } }).ctrlPush
            (ctrlFrame 7 0 0 (BitVec.ofNat 64 leaf) (BitVec.ofNat 32 id) [])))))
    ∧ (∀ (t : State), s.ready = true → t = { s with chron := max s.chron (s.ecc.passStart + s.sndPeriod) } →
      bit (t.reg 0x0A0000) 31 = true → (∀ c ∈ t.sndSubs, (t.sndLines c : Int) ≤ t.sndAt c) →
      exec .soundingPassStart s = s.goesOn (t.updEcc fun e => { e with
        passStart := t.chron, sndCfg := t.reg 0x0A0000, rowCe := [], posCount := []
        sndPos := t.sndSubs.foldl (fun l c => aput l c (t.sndAt c - t.sndLines c)) e.sndPos }))
    ∧ (∀ (t : State), s.ready = true → t = { s with chron := max s.chron (s.ecc.passStart + s.sndPeriod) } →
      bit (t.reg 0x0A0000) 31 = false → exec .soundingPassStart s = s.goesOn (t.updEcc fun e => { e with
        passStart := t.chron, sndCfg := t.reg 0x0A0000, rowCe := [], posCount := []
        sndPos := t.sndSubs.foldl (fun l c => aput l c 0) e.sndPos }))
    ∧ (∀ c : Sub, s.ready = true → s.cfg.mode.serves = true → (s.sub c.val).offer = none →
      (∀ t, s.ecc.probe = none → bit (s.reg 0x0A0000) 31 = true → t = s.noteDue c.val → (t.sub c.val).offer = none →
        exec (.soundingRead c ()) s = s.goesOn (t.soundStep c.val (t.ecc.sndDue.contains c.val)))
      ∧ (∀ line t, s.ecc.probe = some line → bit (s.reg 0x0A0000) 31 = false → s.subOf line = c →
        t = { s with ecc := { s.ecc with probe := none } } →
        (s.deadLine line = true ∨ s.leafState (leafOfLine line) ≠ 0 →
          exec (.soundingRead c ()) s = s.goesOn (t.probeResult 4))
        ∧ (s.deadLine line = false → s.leafState (leafOfLine line) = 0 → s.writeEntry line = none →
          exec (.soundingRead c ()) s = s.goesOn
            (t.soundOffer c.val (t.soundEntry c.val (t.locOf line) line (.sounding true) false)))))

/-! ### BWR, DTI and CPH -/

/-- R297, R300, R301, R304: the window and its slots give credit and the requests that wait are tried again, those of class
15 first; a commit is checked against the deliverable figure. -/
def Obligations.BandwidthCommands : Prop :=
  ∀ (s : State) (p : Path),
    (s.ready = true → exec .bwrWindow s =
      s.goesOn ({ s with chron := max s.chron s.nextBoundary }.bwrBoundary.pass State.hostCfg fun w => w.cls == some 15))
    ∧ (∀ k b, s.ready = true → s.bwr.slot < 63 → k = s.bwr.slot + 1 →
      b = (if k = 48 then { s.bwr with pool := s.bwr.pool + s.bwr.credit.sum, credit := List.replicate 16 0 } else s.bwr) →
      exec .bwrSlot s = s.goesOn ({ s with
        chron := max s.chron (s.bwr.start + k * s.bwr.act.window / 64)
        bwr := Bwr.giveSlot { b with slot := k } k }.pass State.hostCfg fun w => w.cls == some 15))
    ∧ (∀ set f need, s.passes p 0x06000C 1 = true → set = s.bwrShadow → f = s.figures set → need = f.2.1 + set.min.sum →
      (need ≤ f.1 → exec (.bwrCommit p) s = s.answers p .ok
        { s with bwr := { s.bwr with need := need, have_ := f.1, pend := some set } })
      ∧ (f.1 < need → exec (.bwrCommit p) s = s.answers p .ok
        ({ s with bwr := { s.bwr with need := need, have_ := f.1 } }.event 0x060300 2)))
    ∧ (s.passes p 0x060010 1 = true → exec (.bwrChartCommit p) s = s.answers p .ok
        { s with bwr := { s.bwr with chartPend := true } })

/-- R316, R317, R321, R327, R329, R331–R333: fills, slots and seals of the deep tier, and the deep port's commands, beats,
completions and timeouts. -/
def Obligations.DeepTierCommands : Prop :=
  ∀ (s : State) (p : Path), s.ready = true →
    (∀ f r k t u, s.fillsRun = true → s.dti.inFlight.length < s.fillMax → s.fillOrder = f :: r →
      s.takeSlot f.seg = (some k, t) →
      (∀ x, t.admitAs (.fill f.seg f.sub) t.fillClass 64 = (some x, u) → exec .fillIssue s = s.goesOn (u.startFill f k))
      ∧ (t.admitAs (.fill f.seg f.sub) t.fillClass 64 = (none, u) → exec .fillIssue s = s.goesOn u))
    ∧ (∀ k v, aget s.dti.slots k = some v → s.evicting k v = true → v.readers = 0 → exec (.slotEvict k) s = s.goesOn
        ({ s with dti := { s.dti with slots := adel s.dti.slots k } }.fillIssue))
    ∧ (∀ (g k : Nat) (f : Fill) (data : List Byte) (side : BitVec 256), k < 512 → s.dti.fill g k = some f →
      (∀ plain, f.arrived = some (true, data, side) → (s.seg g).slot ≠ 0 → s.openSub g k data side = some plain →
        f.refetch = false → exec (.fillComplete (g * 512 + k)) s = s.goesOn
          (((((List.range 64).foldl (fun t i =>
            t.stageWrite (t.map.act.stageLine ((s.seg g).slot - 1) k i) (lineOf plain i) false) (s.cphJob 4 (segIndex g k))).updDti
              fun d => { d with
                fills := mapIf d.fills (fun x => x.isFor g k) fun x => { x with arrived := none, staged := true } }).landFills).count 9 0 0 1))
      ∧ (f.arrived = some (false, data, side) → f.refetch = false → exec (.fillComplete (g * 512 + k)) s = s.goesOn
        ((s.updDti fun d => { d with
            fills := mapIf d.fills (fun x => x.isFor f.seg f.sub) fun x => { x with refetch := true, arrived := none } }).dpPush
              { op := 0, tgt := true, unit := s.subUnit f.seg f.sub, owner := .fill f.seg f.sub (s.seg f.seg).gen, level := 1 }))
      ∧ (f.arrived = some (false, data, side) → f.refetch = true → s.dirtyRoom (s.map.act.segUnit g) = true →
        exec (.fillComplete (g * 512 + k)) s = s.goesOn (s.loseSegment f.seg f.sub)))
    ∧ (∀ (g : Nat) (l : Seal), s.dti.seals.find? (fun l => l.seg == g) = some l → l.writesLeft = 0 →
      (l.flushLeft = 3 → exec (.sealFlush g) s = s.goesOn ((({ s with dti := { s.dti with
          seals := s.dti.seals.map fun (x : Seal) => if x.seg = g then { x with flushLeft := 2 } else x } }).dpPush
            { op := 2, tgt := false, unit := 0, owner := .sealFlush g (s.seg g).gen, level := 4 }).dpPush
            { op := 2, tgt := true, unit := 0, owner := .sealFlush g (s.seg g).gen, level := 4 }))
      ∧ (l.flushLeft = 0 → s.dirtyRoom (s.map.act.segUnit g) = true → exec (.sealDone g) s = s.goesOn
        (((s.changeSeg g { s.seg g with state := 1, reseal := false, stamp := s.chron }).sealEnds l 0 0).refillWaiters g)))
    ∧ (∀ (g : Nat) (gen : Word), s.passes p 0x0E0038 1 = true → g = field (s.reg 0x0E0030) 0 31 → gen = s.reg 0x0E0034 →
      (s.map.act.t1Segs ≤ g → exec (.dtiPubGo p) s = s.answers p .ok
        ({ s with dti := { s.dti with pubRes := true } }.event 0x0E0300 8))
      ∧ (g < s.map.act.t1Segs → (s.seg g).stateOf ≠ 3 → serialLater gen (s.seg g).gen = true → s.vlt.zeroFill = false →
        exec (.dtiPubGo p) s = s.answers p .ok ((((((s.noteSeg g).discardFills g).evictSeg g).changeSeg g
          { state := 1, reseal := false, slot := 0, gen := gen, stamp := s.chron, ok := true }).updDti fun d =>
            { d with pubRes := false }).refillWaiters g)))
    ∧ (∀ c id, s.nextCommand = some c → s.dti.freeId = some id → s.dti.down = false → s.bareSave = false → s.cfg.saveDonePin = false →
      exec .dpCommandIssue s = s.goesOn ((s.qOut .dtiCmd).updDti fun d => { d with
        rstream := if c.op = 0 then dropFirst d.rstream (· == c) else d.rstream
        wstream := if c.op = 0 then d.wstream else dropFirst d.wstream (· == c)
        lastWrite := c.op != 0
        out := d.out ++ [{ id := id, cmd := c, since := s.chron }] }))
    ∧ (∀ (id : BitVec 12) (beat : BitVec 6) (data : Line), exec (.dpReadBeat id beat data) s = s.goesOn (s.updDti fun d =>
        { d with out := d.out.map fun (o : DpOut) =>
            if o.id = id ∧ o.cmd.op = 0 ∧ o.beats.length = beat.toNat then { o with beats := o.beats ++ [data] } else o }))
    ∧ (∀ (id : BitVec 12) (stat : BitVec 3) (sb : BitVec 256),
      (s.dti.quarantine.contains id = true → exec (.dpCompletion id stat sb) s = s.goesOn
        (s.updDti fun d => { d with quarantine := d.quarantine.filter (· != id) }))
      ∧ (∀ o t, s.dti.quarantine.contains id = false → s.dti.out.find? (fun o => o.id == id) = some o →
        t = (s.updDti fun d => { d with out := d.out.filter fun x => x.id != id }).noteRead o →
        (stat = 0 → exec (.dpCompletion id stat sb) s = s.goesOn (t.dpDeliver o.cmd 0 (o.beats.flatMap lineBytes) sb))
        ∧ (stat ≠ 0 → exec (.dpCompletion id stat sb) s = s.goesOn (t.dpFails o.cmd stat.toNat)))
      ∧ (∀ (o : DpOut) (t : State), s.dti.out.find? (fun o => o.id == id) = some o →
        t = ({ s with chron := max s.chron (o.since + s.dpLimit o.cmd) }.updDti fun d => { d with
          out := d.out.filter fun x => x.id != id, quarantine := d.quarantine ++ [id] }) →
        exec (.dpTimeout id) s = s.goesOn
          (((((t.logE 0x0E05 0x600E o.cmd.unit.toNat ((if o.cmd.tgt then 1 else 0) + o.cmd.op.toNat * 16 + id.toNat * 256)).event
            0x0E0300 2).checkDown).dpFails o.cmd 3).failQueued)))
    ∧ (s.passes p 0x0E0040 1 = true → exec (.portReset p) s = s.answers p .ok
        (({ s with dti := { s.dti with quarantine := [], down := false } }.clearCause 0x40).reeval))

/-- R345: the key port answers by the first row that applies: BAD_OP, ZERO, a load in Save, to a bound slot that has held a
key, to the session slot while the link is not DOWN, of equal halves, and else the slot is loaded. A refusal leaves the slot
and logs KEY_REJ; a slot that has held a key says so until the next reset, zeroed or not. -/
def Obligations.KeyPortAnswers : Prop :=
  ∀ (s : State) (slot : Fin 64) (key : BitVec 512) (refused : BitVec 3 → State) (bound session : Prop), s.ready = true →
    refused = (fun code => ((s.logE 0x0B02 0x600B 0 (slot.val + code.toNat * 2 ^ 8)).event 0x0B0300 5).updCph fun c =>
      { c with answer := some (slot, code) }) →
    (bound ↔ s.locked = true ∧ (s.keySlot slot).spent = true ∧ (slot.val = field (s.reg 0x0B0000) 0 6
      ∨ slot.val = field (s.reg 0x0F0000) 16 6 ∨ slot.val = field (s.reg 0x0E0000) 16 6)) →
    (session ↔ slot.val = field (s.reg 0x0D0000) 16 6 ∧ s.twn.link ≠ 0) →
    exec (.keyBadOp slot) s = s.goesOn (refused 4)
    ∧ exec (.keyZero slot) s = s.goesOn ((s.zeroSlot slot).updCph fun c => { c with answer := some (slot, 0) })
    ∧ (s.cfg.mode = .save → exec (.load256 slot key) s = s.goesOn (refused 5) ∧ exec (.load512 slot key) s = s.goesOn (refused 5))
    ∧ (s.cfg.mode ≠ .save → bound →
      exec (.load256 slot key) s = s.goesOn (refused 1) ∧ exec (.load512 slot key) s = s.goesOn (refused 1))
    ∧ (s.cfg.mode ≠ .save → ¬bound → session →
      exec (.load256 slot key) s = s.goesOn (refused 2) ∧ exec (.load512 slot key) s = s.goesOn (refused 2))
    ∧ (s.cfg.mode ≠ .save → ¬bound → ¬session →
      exec (.load256 slot key) s = s.goesOn (((s.setKeySlot slot
        { key := (key.extractLsb' 0 256).setWidth 512, loaded := true, wide := false, fresh := true, spent := true }).event
          0x0B0300 4).updCph fun c => { c with answer := some (slot, 0) })
      ∧ (key.extractLsb' 0 256 = key.extractLsb' 256 256 → exec (.load512 slot key) s = s.goesOn (refused 3))
      ∧ (key.extractLsb' 0 256 ≠ key.extractLsb' 256 256 → exec (.load512 slot key) s = s.goesOn (((s.setKeySlot slot
        { key := key, loaded := true, wide := true, fresh := true, spent := true }).event 0x0B0300 4).updCph fun c =>
          { c with answer := some (slot, 0) })))
    ∧ (keysRise s.cph.slots = true → ((s.zeroSlot slot).keySlot slot).loaded = false ∧ ((s.zeroSlot slot).keySlot slot).key = 0
      ∧ ((s.zeroSlot slot).keySlot slot).spent = (s.keySlot slot).spent
      ∧ ∀ k : Fin 64, k ≠ slot → (s.zeroSlot slot).keySlot k = s.keySlot k)

/-- R354–R359: the zeroing of a slot through CPH_KZERO, the known-answer runs of a core, and the end of a key job. -/
def Obligations.KeyCommands : Prop :=
  ∀ (s : State) (p : Path) (slot : Fin 64), s.ready = true →
    (s.passes p 0x0B0008 (0x80000000 ||| BitVec.ofNat 32 slot.val) = true →
      exec (.cphKzero p slot) s = s.answers p .ok (s.zeroSlot slot))
    ∧ (∀ (core : Fin 38) (now : Nat) (t : State), s.cph.cores[core.val]? = some .active →
      now = max s.chron (s.cph.lastKat + max 1 (field (s.reg 0x0B0004) 24 8) * 1000000) →
      t = { s with chron := now, cph := { s.cph with lastKat := now } } →
      exec (.coreKat core true) s = s.goesOn t ∧ exec (.coreKat core false) s = s.goesOn (t.coreFails core))
    ∧ (∀ j r, s.cph.contexts = [] → s.cph.jobs = j :: r →
      (j.aborted = true → exec .keyJobDone s = s.goesOn (s.jobEnds 1))
      ∧ (j.aborted = false → j.handed = true → s.unitOut 27 = false →
        exec .keyJobDone s = s.goesOn (s.jobEnds (if (aget s.sua.faults 27).isSome then 2 else j.code)))
      ∧ (j.aborted = false → j.handed = true → s.unitOut 27 = true → exec .keyJobDone s = s.goesOn s))

/-! ### PEA -/

/-- R366, R367, R368, R371, R372, R395, R439: START, STOP, LOAD and RESET with what refuses them, the image stream with its
header and digest, and the end of a stop. -/
def Obligations.EngineControl : Prop :=
  ∀ (s : State) (p : Path) (e : EngineNo),
    (s.passes p (peaPage e) 1 = true →
      (s.cfg.mode.serves = false → exec (.peaStart p e) s = s.answers p .errMode s)
      ∧ (s.cfg.mode.serves = true → (s.engine e).state = .loaded ∨ (s.engine e).state = .halted →
        exec (.peaStart p e) s = s.answers p .ok (s.updEngine e fun n => { n with
          state := .running, wait := .none, pc := n.entry
          g := (List.replicate 32 0).set 25 0x00FD000000040000, v := List.replicate 16 0, m := List.replicate 8 0
          arith := 0, failCode := .ok, fails := 0, failLine := 0 }))
      ∧ (s.cfg.mode.serves = true → (s.engine e).state = .stopped →
        exec (.peaStart p e) s = s.answers p .ok (s.updEngine e fun n => { n with state := .running }))
      ∧ (s.cfg.mode.serves = true → (s.engine e).state ≠ .loaded → (s.engine e).state ≠ .halted →
        (s.engine e).state ≠ .stopped → exec (.peaStart p e) s = s.answers p .ok (s.event (peaPage e + 0x200) 2)))
    ∧ (s.passes p (peaPage e) 2 = true →
      ((s.engine e).state = .running → exec (.peaStop p e) s = s.answers p .ok (s.stopEngine e))
      ∧ ((s.engine e).state ≠ .running → exec (.peaStop p e) s = s.answers p .ok (s.event (peaPage e + 0x200) 2)))
    ∧ (s.passes p (peaPage e) 4 = true →
      (s.cfg.mode = .save → exec (.peaLoad p e) s = s.answers p .errMode s)
      ∧ (s.cfg.mode ≠ .save → (s.engine e).state ∈ [EState.empty, .loaded, .stopped, .halted, .rejected] →
        exec (.peaLoad p e) s = s.answers p .ok ((s.abandonEngine e).updEngine e fun n => { n with
          state := .loading, image := [], imem := [], dmem := [], loads := [], wait := .none, pendExc := none, cond := none
          fenceRes := none, svc := none }))
      ∧ (s.cfg.mode ≠ .save → (s.engine e).state ∉ [EState.empty, .loaded, .stopped, .halted, .rejected] →
        exec (.peaLoad p e) s = s.answers p .ok (s.event (peaPage e + 0x200) 2)))
    ∧ (s.passes p (peaPage e) 8 = true →
      ((s.engine e).state = .failed → exec (.peaReset p e) s = s.answers p .ok (s.event (peaPage e + 0x200) 2))
      ∧ ((s.engine e).state ≠ .failed →
        exec (.peaReset p e) s = s.answers p .ok ((s.abandonEngine e).updEngine e fun n => { n with
          state := .empty, image := [], imem := [], dmem := [], loads := [], wait := .none, pendExc := none, cond := none
          fenceRes := none, svc := none })))
    ∧ (∀ (v : Word) (n : Engine) (img : List Byte) (ilen dlen entry : Nat) (t : State),
      s.passes p (peaPage e + 0x100) v = true → s.cfg.mode ≠ .save → n = s.engine e → img = n.image ++ natBytes 4 v.toNat →
      (ilen, dlen, entry) = imageHead img →
      (n.state ≠ .loading → exec (.peaImg p e v) s = s.answers p .errAccess (s.logE 0x3002 (srcInt (0x30 + e.val / 8)) 0 e.val))
      ∧ (n.state = .loading → img.length < 16 →
        exec (.peaImg p e v) s = s.answers p .ok (s.setEngine e { n with image := img }))
      ∧ (n.state = .loading → img.length = 16 →
        ilen % 4 ≠ 0 ∨ ilen = 0 ∨ 65536 < ilen ∨ dlen % 4 ≠ 0 ∨ 262144 < dlen ∨ entry % 4 ≠ 0 ∨ ilen ≤ entry →
        exec (.peaImg p e v) s = s.answers p .ok (((s.setEngine e { n with state := .rejected, image := [] }).logE 0x3002
          (srcInt (0x30 + e.val / 8)) 0 e.val).event (peaPage e + 0x200) 0))
      ∧ (n.state = .loading → img.length = 16 → badHead img = false →
        exec (.peaImg p e v) s = s.answers p .ok (s.setEngine e { n with image := img, entry := BitVec.ofNat 16 entry }))
      ∧ (n.state = .loading → 16 < img.length → t = s.setEngine e (if n.image.length - 16 < ilen
          then { n with image := img, imem := memPut n.imem (n.image.length - 16) (natBytes 4 v.toNat) }
          else { n with image := img, dmem := memPut n.dmem (n.image.length - 16 - ilen) (natBytes 4 v.toNat) }) →
        exec (.peaImg p e v) s = s.answers p .ok (if img.length = 16 + ilen + dlen then t.checkImage e img else t)))
    ∧ (∀ (img : List Byte) (dg : List Word) (t : State), dg = digestWords img →
      t = (s.updEngine e fun n => { n with digest := dg }).updEngine e (fun n => { n with state := .loaded, image := [] }) →
      (bit (s.reg (peaPage e + 0x40)) 0 = true → dg = s.digestWanted e → s.checkImage e img = t)
      ∧ (bit (s.reg (peaPage e + 0x40)) 0 = false → s.locked = false → s.checkImage e img = t))
    ∧ (s.ready = true → (s.engine e).state = .stopping → (s.engine e).loads = [] →
      (∀ b ∈ (s.engine e).buffer, b.issued = true) →
      (∀ c, (s.engine e).pendExc = some c → exec (.stopDone e) s = s.goesOn
        ((s.updEngine e fun n => { n with state := .halted, pendExc := none }).event (peaPage e + 0x200) 1))
      ∧ ((s.engine e).pendExc = none → exec (.stopDone e) s = s.goesOn
        ((s.updEngine e fun n => { n with state := .stopped }).event (peaPage e + 0x200) 3)))

/-! ### SUA and the shared units -/

/-- R375, R376, R377, R379, R380, R381: a request word joins the waiters, moves its priority or is withdrawn, a release ends
a grant, internal requests and their deadlines, the window's boundary, and a grant held too long. -/
def Obligations.ArbiterCommands : Prop :=
  ∀ (s : State) (u : Fin 6), s.ready = true →
    (∀ (e : EngineNo) (prio : BitVec 4) (t : State),
      t = s.updEngine e (fun n => { n with prio := aput n.prio u prio.toNat }) →
      ((t.heldInst e u).isSome = true → exec (.suaRequest e u prio) s = s.goesOn t)
      ∧ (t.heldInst e u = none → t.waits (.engine e) u = false → exec (.suaRequest e u prio) s = s.goesOn
        ((t.updSua fun x => { x with asks := x.asks ++
          [{ who := .engine e, unit := u, prio := prio.toNat, since := s.chron }] }).arbitrate u))
      ∧ (t.heldInst e u = none → t.waits (.engine e) u = true → exec (.suaRequest e u prio) s = s.goesOn
        ((t.updSua fun x => { x with asks := x.asks.map fun (a : Ask) =>
          if a.who = (.engine e) ∧ a.unit = u then { a with prio := prio.toNat } else a }).arbitrate u)))
    ∧ (∀ (e : EngineNo),
      (s.waits (.engine e) u = true → exec (.suaWithdraw e u) s = s.goesOn
        ((s.updSua fun x => { x with asks := x.asks.filter fun a => !(a.who == .engine e && a.unit == u) }).arbitrate u))
      ∧ (s.waits (.engine e) u = false → exec (.suaWithdraw e u) s = s.goesOn s)
      ∧ (s.grantOf (.engine e) u = none → exec (.suaRelease e u) s = s.goesOn s)
      ∧ (∀ g, s.grantOf (.engine e) u = some g →
        (s.busyInst g.inst = true → exec (.suaRelease e u) s = s.goesOn s)
        ∧ (s.busyInst g.inst = false → exec (.suaRelease e u) s = s.goesOn (s.endGrant g))))
    ∧ (∀ who : Internal, internalAsks who u = true → s.waits (.internal who) u = false →
      s.grantOf (.internal who) u = none → s.cfg.mode ≠ .save →
      (who = .twn → exec (.suaInternalRequest who u) s = s.goesOn
        ((s.event 0x340300 1).ask { who := .internal .twn, unit := u, prio := 0, since := s.chron, due := true }))
      ∧ (who ≠ .twn → exec (.suaInternalRequest who u) s = s.goesOn
        (s.ask { who := .internal who, unit := u, prio := 0, since := s.chron, due := false })))
    ∧ (∀ (who : Internal) (a : Ask), s.sua.asks.find? (fun a => a.who == .internal who && a.unit == u.val && !a.due) = some a →
      exec (.suaRequestDue who u) s = s.goesOn (((({ s with chron := max s.chron (s.deadline a) } : State).updSua fun x =>
        { x with asks := x.asks.map fun (b : Ask) =>
            if b.who = (.internal who) ∧ b.unit = u then { b with due := true } else b }).event 0x340300 1).arbitrate u))
    ∧ (∀ w, w = max 1 s.sua.winUs * 1000 → exec .suaWindow s = s.goesOn ((List.range 6).foldl (fun t k => t.arbitrate k)
        ({ s with chron := max s.chron ((s.chron / w + 1) * w)
                  sua := { s.sua with counts := [], winUs := field (s.reg 0x340000) 0 16 } } : State)))
    ∧ (∀ (inst : Fin 28) (g : Grant), s.sua.grants.find? (fun g => g.inst == inst.val && !g.longLogged) = some g →
      exec (.longHold inst) s = s.goesOn (((({ s with chron := max s.chron (g.since + s.holdTime) } : State).updSua fun x =>
        { x with grants := x.grants.map fun (k : Grant) =>
            if k.inst = inst then { k with longLogged := true } else k }).logE 0x3401 0x6034 0
          (inst + g.who.code * 2 ^ 8)).event 0x340300 0))

/-- R42, R45, R327, R382, R383, R384: a Mover channel its engine holds starts a copy, fill or seal, or refuses it with CODE
ERR_ACCESS, moves nothing and records a destination in Tier 1 or in the carve region; it is aborted, and ends once its lines
are performed; a deep-port slot starts its command or refuses it. -/
def Obligations.MoverAndSlots : Prop :=
  ∀ (s : State) (e : EngineNo) (i : Nat), s.ready = true →
    (s.heldInst e 0 = some i → s.busyInst i = false →
      (∀ m : Move, bitsOf (s.unitReg i 0).toNat 0 2 = 0 → m = s.moveAsked i e 0 →
        (m.len ≠ 0 → m.len < 2 ^ 26 → m.src % 64 = 0 → s.badDest m.dst m.len = false →
          rangesMeet m.src m.dst m.len = false → exec (.mvCopy e) s = s.goesOn ((s.unitBusy i).setMove m))
        ∧ (∀ t, t = s.setUnitReg i 0x30 (BitVec.ofNat 64 (2 ^ 62 + Code.errAccess.bits.toNat * 2 ^ 58)) →
          (m.len = 0 ∨ 2 ^ 26 ≤ m.len ∨ m.src % 64 ≠ 0 ∨ rangesMeet m.src m.dst m.len = true →
            exec (.mvCopy e) s = s.goesOn t)
          ∧ (m.len ≠ 0 → m.len < 2 ^ 26 → m.src % 64 = 0 → rangesMeet m.src m.dst m.len = false →
            s.badDest m.dst m.len = true → exec (.mvCopy e) s = s.goesOn (t.noteDest e m.dst m.len))))
      ∧ (∀ m : Move, bitsOf (s.unitReg i 0).toNat 0 2 = 1 → m = s.moveAsked i e 1 →
        (m.len ≠ 0 → m.len < 2 ^ 26 → s.badDest m.dst m.len = false →
          exec (.mvFill e) s = s.goesOn ((s.unitBusy i).setMove m))
        ∧ (∀ t, t = s.setUnitReg i 0x30 (BitVec.ofNat 64 (2 ^ 62 + Code.errAccess.bits.toNat * 2 ^ 58)) →
          (m.len = 0 ∨ 2 ^ 26 ≤ m.len → exec (.mvFill e) s = s.goesOn t)
          ∧ (m.len ≠ 0 → m.len < 2 ^ 26 → s.badDest m.dst m.len = true →
            exec (.mvFill e) s = s.goesOn (t.noteDest e m.dst m.len))))
      ∧ (∀ m : Move, bitsOf (s.unitReg i 0).toNat 0 2 = 2 → m = s.moveAsked i e 2 →
        (∀ d t, s.heldInst e 1 = some d → s.busyInst d = false → badSeal m.src m.len = false →
          bitsOf m.dst 31 32 = 0 → s.sealStart (bitsOf m.dst 0 31) i d (m.dst.testBit 63) = (true, t) →
          exec (.mvSeal e) s = s.goesOn (((t.unitBusy i).unitBusy d).setMove m))
        ∧ (s.heldInst e 1 = none ∨ m.src % 2 ^ 21 ≠ 0 ∨ m.len ≠ 32768 →
          exec (.mvSeal e) s = s.goesOn (s.setUnitReg i 0x30 (BitVec.ofNat 64 (2 ^ 62 + Code.errAccess.bits.toNat * 2 ^ 58))))))
    ∧ (∀ m, s.heldInst e 0 = some i → s.moveOf i = some m → (∀ l ∈ s.dti.seals, l.chan ≠ i) →
      exec (.mvAbort e) s = s.goesOn (s.unitEnds i 0x30 ((s.moveDone m).stat64 false false (s.moveCode m))))
    ∧ (∀ (ch : Fin 8) (m : Move) (t : State), s.moveOf ch = some m → (∀ l ∈ s.dti.seals, l.chan ≠ ch.val) →
      m.handed = true → t = s.setMove m → t.unitOut ch = false →
      exec (.moverDone ch) s = s.goesOn (t.unitEnds ch 0x30 ((t.moveDone m).stat64 false true (t.moveCode m))))
    ∧ (∀ (unit buf base : Nat) (tgt : Bool) (t : State) (m : Nat → Bool → Move), s.heldInst e 1 = some i → s.busyInst i = false →
      unit = (s.unitReg i 8).toNat → buf = (s.unitReg i 0x10).toNat → tgt = (s.unitReg i 0).getLsbD 4 →
      m = (fun op b =>
        { inst := i, engine := e, op := op, src := unit, dst := buf, len := if tgt then 1 else 0, pat := 0, handed := b
          cmd := s.dti.nextCmd }) →
      base = (s.reg 0x34000C).toNat * 2 ^ 32 + (s.reg 0x340008).toNat →
      ((unit < base ∨ base + (s.reg 0x340010).toNat ≤ unit) →
        t = (s.setUnitReg i 0x20 (BitVec.ofNat 64 (2 ^ 62 + Code.errAccess.bits.toNat * 2 ^ 58))).event 0x340300 2 →
        (bitsOf (s.unitReg i 0).toNat 0 2 = 0 → exec (.slotDpRead e) s = s.goesOn t)
        ∧ (bitsOf (s.unitReg i 0).toNat 0 2 = 1 → exec (.slotDpWrite e) s = s.goesOn t)
        ∧ (bitsOf (s.unitReg i 0).toNat 0 2 = 2 → exec (.slotDpFlush e) s = s.goesOn t))
      ∧ (base ≤ unit → unit < base + (s.reg 0x340010).toNat →
        (bitsOf (s.unitReg i 0).toNat 0 2 = 0 → buf % 4096 = 0 →
          exec (.slotDpRead e) s = s.goesOn (((s.unitBusy i).setMove (m 0 true)).dpPush
              { op := 0, tgt := tgt, unit := BitVec.ofNat 48 unit, owner := .slot i s.dti.nextCmd, level := 4 }))
        ∧ (bitsOf (s.unitReg i 0).toNat 0 2 = 1 → buf % 4096 = 0 →
          exec (.slotDpWrite e) s = s.goesOn ((s.unitBusy i).setMove (m 1 false)))
        ∧ (bitsOf (s.unitReg i 0).toNat 0 2 = 2 →
          exec (.slotDpFlush e) s = s.goesOn (((s.unitBusy i).setMove (m 2 true)).dpPush
              { op := 2, tgt := tgt, unit := BitVec.ofNat 48 unit, owner := .slot i s.dti.nextCmd, level := 4 }))))

/-- R153, R347, R349, R353, R385, R386: the probe of a line, a re-sight asked through its unit, a message on the control
lane, and the key port's jobs with their codes. -/
def Obligations.ProbeAndKeyJobs : Prop :=
  ∀ (s : State) (e : EngineNo) (i : Nat), s.ready = true → s.busyInst i = false →
    (s.heldInst e 2 = some i → ∀ (a : DWord),
      (∀ pa, s.region a.toNat = .t0 pa → s.leafState (leafOfLine (pa / 64)) = 0 →
        exec (.sdProbe e a) s = s.goesOn ((s.unitBusy 24).updEcc fun x => { x with probe := some (pa / 64) }))
      ∧ (∀ pa, s.region a.toNat = .t0 pa → s.leafState (leafOfLine (pa / 64)) ≠ 0 →
        exec (.sdProbe e a) s = s.goesOn (s.setUnitReg 24 8 4))
      ∧ (s.region a.toNat = .unmapped → exec (.sdProbe e a) s = s.goesOn (s.setUnitReg 24 8 4)))
    ∧ (s.heldInst e 3 = some i → ∀ (v : Word) (c : Sub) (cs : Nat), c = Fin.ofNat 32 (2 * bitsOf v.toNat 16 4 + bitsOf v.toNat 12 1) →
      cs = bitsOf v.toNat 8 2 →
      (bitsOf v.toNat 0 2 = 0 ∨ s.csServes c cs = false → exec (.sgReq e v) s = s.goesOn (s.setUnitReg 25 8 3))
      ∧ (bitsOf v.toNat 0 2 ≠ 0 → s.csServes c cs = true → (∀ r ∈ s.sgt.resights, ¬(r.sub = c ∧ r.cs = cs)) →
        exec (.sgReq e v) s = s.goesOn ((s.unitBusy 25).askResight c cs (v.getLsbD 0) (v.getLsbD 1) false (some e))))
    ∧ (s.heldInst e 4 = some i → ∀ n a dest old, n = bitsOf (s.unitReg 26 0x10).toNat 0 9 → a = bitsOf (s.unitReg 26 8).toNat 0 18 →
      dest = bitsOf (s.unitReg 26 0).toNat 0 6 → old = (s.unitReg 26 0x20).toNat % 65536 →
      (s.twn.link ≠ 2 ∨ n = 0 ∨ 256 < n ∨ 2 ^ 18 < a + n →
        exec (.bcGo e) s = s.goesOn (s.setUnitReg 26 0x20 (BitVec.ofNat 64 old)))
      ∧ (s.twn.link = 2 → n ≠ 0 → n ≤ 256 → a + n ≤ 2 ^ 18 → exec (.bcGo e) s = s.goesOn
        (((s.unitBusy 26).setUnitReg 26 0x20 (BitVec.ofNat 64 (2 ^ 31 + old))).ctrlPush (ctrlFrame 8 0 0 (BitVec.ofNat 64 e.val)
          (BitVec.ofNat 32 dest) (memBytes (s.engine e).dmem a n)) (some e)).sendCtrl))
    ∧ (s.heldInst e 5 = some i → ∀ (k : Fin 64) (iv aad aadLen src dst len : Nat), k.val = bitsOf (s.unitReg 27 0).toNat 8 6 →
      iv = (s.unitReg 27 8).toNat % 2 ^ 32 + (s.unitReg 27 0x10).toNat % 2 ^ 32 * 2 ^ 32
        + (s.unitReg 27 0x18).toNat % 2 ^ 32 * 2 ^ 64 →
      aad = (s.unitReg 27 0x20).toNat → aadLen = (s.unitReg 27 0x28).toNat → src = (s.unitReg 27 0x30).toNat →
      dst = (s.unitReg 27 0x38).toNat → len = (s.unitReg 27 0x40).toNat →
      (bitsOf (s.unitReg 27 0).toNat 0 2 = 0 →
        (s.boundSlot k = true ∨ k.val = s.sessionSlot →
          exec (.kjZero e) s = s.goesOn (s.setUnitReg 27 0x60 (BitVec.ofNat 64 (2 ^ 30 + 2))))
        ∧ (s.boundSlot k = false → k.val ≠ s.sessionSlot →
          exec (.kjZero e) s = s.goesOn ((s.zeroSlot k).setUnitReg 27 0x60 (BitVec.ofNat 64 (2 ^ 30)))))
      ∧ (∀ op : BitVec 2, op ≠ 0 → bitsOf (s.unitReg 27 0).toNat 0 2 = op.toNat → ∀ t,
        ((1 ≤ iv / 2 ^ 92 ∧ iv / 2 ^ 92 ≤ 3) ∨ 4096 < aadLen ∨ aad % 64 ≠ 0
            ∨ (op ≠ 3 ∧ (len % 16 ≠ 0 ∨ len = 0 ∨ 4096 < len ∨ src % 64 ≠ 0 ∨ dst % 64 ≠ 0)) →
          t = s.setUnitReg 27 0x60 (BitVec.ofNat 64 (2 ^ 30 + 2)) → (op = 1 → exec (.kjGcmEnc e) s = s.goesOn t)
          ∧ (op = 2 → exec (.kjGcmDec e) s = s.goesOn t) ∧ (op = 3 → exec (.kjGmac e) s = s.goesOn t))
        ∧ (iv / 2 ^ 92 = 0 ∨ 3 < iv / 2 ^ 92 → aadLen ≤ 4096 → aad % 64 = 0 →
          op = 3 ∨ (len % 16 = 0 ∧ len ≠ 0 ∧ len ≤ 4096 ∧ src % 64 = 0 ∧ dst % 64 = 0) →
          (s.keySlot k).loaded = true → t = ((s.unitBusy 27).updCph fun c => { c with jobs := c.jobs ++
            [{ engine := e, op := op, slot := k, key := (s.keySlot k).key, iv := iv, aad := aad, aadLen := aadLen, src := src,
               dst := dst, len := len, tag := s.kjTag }] }).qIn (.cphJob 5) iv → (op = 1 → exec (.kjGcmEnc e) s = s.goesOn t)
          ∧ (op = 2 → exec (.kjGcmDec e) s = s.goesOn t) ∧ (op = 3 → exec (.kjGmac e) s = s.goesOn t))))

/-! ### DRE -/

/-- R432: a write of DRE_SQ_CFG is refused where it changes CQ, LOC or LOG2SIZE while EN is 1, sets LOG2SIZE outside 6–16,
or sets EN while the named completion ring is not enabled; any other leaves its word, and EN from 0 to 1 sets the head and
the tail to 0 and clears FAULT. -/
def Obligations.SubmissionRingConfig : Prop :=
  ∀ (s : State) (p : Path) (q : Fin 64) (v w old : Word) (changed badSize noRing : Prop),
    s.passes p (sqPage q + 8) v = true → w = s.newWord (sqPage q + 8) v → old = s.reg (sqPage q + 8) →
    (changed ↔ bit old 31 = true ∧ (field old 16 6 ≠ field w 16 6 ∨ bit old 15 ≠ bit w 15 ∨ field old 0 5 ≠ field w 0 5)) →
    (badSize ↔ field w 0 5 < 6 ∨ 16 < field w 0 5) →
    (noRing ↔ bit w 31 = true ∧ bit (s.reg (cqPage (field w 16 6) + 8)) 31 = false) →
    (changed ∨ badSize ∨ noRing → exec (.dreSqCfgWrite p q v) s = s.answers p .ok (s.event 0x030100 5))
    ∧ (¬changed → ¬badSize → ¬noRing →
      (bit old 31 = false → bit w 31 = true → exec (.dreSqCfgWrite p q v) s = s.answers p .ok
        (((s.setReg (sqPage q + 8) w).setReg (sqPage q + 0x0C) 0).setSq q
          { head := 0, fault := false, fetched := [], nextFetch := 0, open_ := (s.sq q).open_, gen := (s.sq q).gen + 1 }))
      ∧ (bit old 31 = bit w 31 → exec (.dreSqCfgWrite p q v) s = s.answers p .ok (s.setReg (sqPage q + 8) w))
      ∧ (bit old 31 = true → bit w 31 = false → exec (.dreSqCfgWrite p q v) s = s.answers p .ok
        ((s.setReg (sqPage q + 8) w).setSq q
          { s.sq q with fetched := [], nextFetch := (s.sq q).head, gen := (s.sq q).gen + 1 })))

/-- R413, R414, R416, R417, R420, R427, R433: doorbells and the configuration of rings with what refuses them, the
fetch turn, a dispatch with its checks, coalesced and masked messages, and the host-memory port's answers and timeouts. -/
def Obligations.RingCommands : Prop :=
  ∀ (s : State) (p : Path) (q : Fin 64),
    (∀ v w, s.passes p (sqPage q + 0x0C) v = true → w = s.newWord (sqPage q + 0x0C) v →
      (2 ^ field (s.reg (sqPage q + 8)) 0 5 ≤ field w 0 16 → exec (.sqDoorbell p q v) s = s.answers p .ok
        ((s.logE 0x0301 0x6003 0 (q.val + field w 0 16 * 2 ^ 16)).event 0x030100 1))
      ∧ (field w 0 16 < 2 ^ field (s.reg (sqPage q + 8)) 0 5 → exec (.sqDoorbell p q v) s = s.answers p .ok
        (s.setReg (sqPage q + 0x0C) (BitVec.ofNat 32 (field w 0 16)))))
    ∧ (∀ v w n h, s.passes p (cqPage q + 0x0C) v = true → w = s.newWord (cqPage q + 0x0C) v →
      n = 2 ^ field (s.reg (cqPage q + 8)) 0 5 → h = field (s.reg (cqPage q + 0x0C)) 0 16 →
      (n ≤ field w 0 16 ∨ ringDist h (s.cq q).tail n < ringDist h (field w 0 16) n →
        exec (.cqDoorbell p q v) s = s.answers p .ok
          (((s.logE 0x0301 0x6003 0 (q.val + 2 ^ 8 + field w 0 16 * 2 ^ 16)).event 0x030100 1).flushCompl q))
      ∧ (field w 0 16 < n → ringDist h (field w 0 16) n ≤ ringDist h (s.cq q).tail n →
        exec (.cqDoorbell p q v) s = s.answers p .ok
          ((s.setReg (cqPage q + 0x0C) (BitVec.ofNat 32 (field w 0 16))).flushCompl q)))
    ∧ (∀ v w old (refused : Prop), s.passes p (cqPage q + 8) v = true → w = s.newWord (cqPage q + 8) v → old = s.reg (cqPage q + 8) →
      (refused ↔ (bit old 31 = true ∧ (old ^^^ w) &&& 0x9F ≠ 0) ∨ field w 0 5 < 6 ∨ 16 < field w 0 5
          ∨ (bit w 31 = false ∧ bit old 31 = true ∧ s.cqNamed q = true)) →
      (refused → exec (.dreCqCfgWrite p q v) s = s.answers p .ok (s.event 0x030100 5))
      ∧ (¬refused → bit old 31 = true ∨ bit w 31 = false →
        exec (.dreCqCfgWrite p q v) s = s.answers p .ok (s.setReg (cqPage q + 8) w))
      ∧ (¬refused → bit old 31 = false → bit w 31 = true →
        exec (.dreCqCfgWrite p q v) s = s.answers p .ok ((((s.setReg (cqPage q + 8) w).setReg (cqPage q + 0x0C) 0).setCq q
          { reserved := (s.cq q).reserved, waiting := (s.cq q).waiting, gen := (s.cq q).gen + 1 }).flushCompl q)))
    ∧ (∀ v w, s.passes p (vecPage q + 0x0C) v = true → w = s.newWord (vecPage q + 0x0C) v →
      (bit w 0 = true ∨ q.val ∉ s.dre.pending ∨ s.cfg.mode = .save → exec (.dreVecCtlWrite p q v) s = s.answers p .ok (s.setReg (vecPage q + 0x0C) w))
      ∧ (bit w 0 = false → q.val ∈ s.dre.pending → s.cfg.mode ≠ .save → exec (.dreVecCtlWrite p q v) s = s.answers p .ok
        (((s.setReg (vecPage q + 0x0C) w).updDre fun d => { d with pending := d.pending.filter (· != q.val) }).sendMsg q)))
    ∧ (s.ready = true → s.dreRuns = false → exec .descriptorFetch s = s.goesOn s ∧ exec (.descriptorDispatch q) s = s.goesOn s)
    ∧ (s.ready = true → s.dreRuns = true →
      (((List.range 64).map fun i => (s.dre.turn + i) % 64).find? s.ringFetchable = some q.val → exec .descriptorFetch s = s.goesOn
        ((List.range (max 1 (field (s.reg (sqPage q + 8)) 8 4))).foldl (fun t _ => t.fetchNext q)
          (s.updDre fun d => { d with turn := (q.val + 1) % 64 })))
      ∧ (∀ d n, bit (s.reg (sqPage q + 8)) 31 = true → (s.sq q).fetched.find? (fun d => d.slot == (s.sq q).head) = some d →
        n = field (s.reg (sqPage q + 8)) 16 6 → bit (s.reg (cqPage n + 8)) 31 = true → (s.cq n).fault = false →
        s.cqFree n ≠ 0 →
        (∀ st x, s.descCheck d.bytes = some st → x = s.takeHead q d false →
          exec (.descriptorDispatch q) s = s.goesOn (x.2.complete x.1 st 0))
        ∧ (∀ x, s.descCheck d.bytes = none → (d.bytes.getD 1 0).getLsbD 7 = false ∨ (s.sq q).open_ = [] → x = s.takeHead q d true →
          (descService d.bytes = none → exec (.descriptorDispatch q) s = s.goesOn
            (x.2.updDre fun y => { y with dtiWork := y.dtiWork ++ [x.1] }))
          ∧ (∀ svc e, descService d.bytes = some svc → s.pickEngine svc = some e →
            exec (.descriptorDispatch q) s = s.goesOn (x.2.updEngine e fun n => { n with inbox := n.inbox ++ [x.1] })))))
    ∧ (∀ o, s.ready = true → (s.cq q).oldest = some o → field (s.reg (cqPage q + 8)) 8 8 ≠ 0 →
      field (s.reg (cqPage q + 8)) 16 8 ≠ 0 → s.cfg.mode ≠ .save → exec (.irqCoalesceTimeout q) s = s.goesOn
        (State.ringMsg { s with chron := max s.chron (o + field (s.reg (cqPage q + 8)) 8 8 * 1000) } q))
    ∧ (∀ (tag : Byte) (stat : BitVec 2) (data : Line), s.ready = true →
      (s.dre.hmpQuar.contains tag = true → exec (.hmpResponse tag stat data) s = s.goesOn
        (s.updDre fun d => { d with hmpQuar := d.hmpQuar.filter (· != tag) }))
      ∧ (∀ o t, s.dre.hmp.find? (fun o => o.tag == tag) = some o →
        t = s.updDre (fun d => { d with hmp := d.hmp.filter fun x => x.tag != tag }) → s.dre.hmpQuar.contains tag = false →
        exec (.hmpResponse tag stat data) s = s.goesOn (t.hmpDone o stat.toNat data))
      ∧ (∀ o, s.dre.hmp.find? (fun o => o.tag == tag) = some o → exec (.hmpTimeout tag) s = s.goesOn
        (State.hmpDone (State.event { s with
            chron := max s.chron (o.since + max 1 (field (s.reg 0x030000) 0 16) * 1000)
            dre := { s.dre with hmp := s.dre.hmp.filter (fun x => x.tag != tag), hmpQuar := s.dre.hmpQuar ++ [tag] } }
          0x030100 4) o 1 0)))

/-- R323, R326, R421–R425: what the descriptors of DTI and of the built-in services do: a staging, a Course refused or
started with its list, an abort, and COPY, FILL, SCAN, CHECKSUM, SEAL, COMMIT, the snapshots, VSYNC, PROBE and USER. -/
def Obligations.ServiceDescriptors : Prop :=
  ∀ (s : State), s.ready = true →
    (∀ (q : Fin 64) d, s.dtiDesc q 1 = some d → exec (.descStage q) s = s.goesOn (((s.dtiTake d).updDti fun x => { x with
        stages := x.stages ++ [⟨d, (natsFrom ((dget d.bytes 16 8 - 0x0010000000000000) / 4096) (dget d.bytes 24 4)).map
          (fun i => (i / 512, i % 512)), 0, false⟩] }).stageStep))
    ∧ (∀ (q : Fin 64) d no total, s.dtiDesc q 2 = some d → s.freeCourse = some no →
      total = (s.dti.courses.map fun c => c.ahead + 1).sum + dget d.bytes 28 1 + 1 →
      (s.usable / 2 < total → exec (.descCourse q) s = s.goesOn ((s.dtiTake d).complete d 8 0))
      ∧ (∀ l m x c lines t u, total ≤ s.usable / 2 → l = dget d.bytes 16 8 → m = (l % 64 + 4 * dget d.bytes 24 4 + 63) / 64 →
        s.unitReads 0x600E (l / 64 * 64) m = (.got x, lines, t) →
        t.pay (listInst q) t.fillClass (List.replicate m 1) = (true, u) →
        c = ({ no := no, d := d, list := listWords lines (l % 64) (dget d.bytes 24 4), ahead := dget d.bytes 28 1
               cfill := dget d.bytes 30 2, byPort := (dget d.bytes 32 2).testBit 15, port := bitsOf (dget d.bytes 32 2) 8 4
               who := bitsOf (dget d.bytes 32 2) 0 6 } : Course) →
        exec (.descCourse q) s = s.goesOn
          ((((u.spend (listInst q)).dtiTake d).updDti fun x => { x with courses := x.courses ++ [c] }).courseOne no)))
    ∧ (∀ (q : Fin 64) d t hit, s.dtiDesc q 3 = some d → t = s.dtiTake d → hit = lowestCourse (t.dti.courses.filter fun c =>
        c.d.sq.val == dget d.bytes 16 1 && dget c.d.bytes 4 2 == dget d.bytes 18 2) →
      (hit = none → exec (.descCourseAbort q) s = s.goesOn (t.complete d 0x12 0))
      ∧ (∀ c, hit = some c → exec (.descCourseAbort q) s = s.goesOn ((t.courseEnds c 9).complete d 0 0)))
    ∧ (∀ (e : EngineNo) d t, s.svcDesc e (isSnap 0) = some (d, t) → exec (.descSnapshotTake e) s = s.goesOn
        ((t.setPin (dget d.bytes 41 1) t.plg.w).svcPost e d 0 (BitVec.ofNat 64 t.plg.w)))
    ∧ (∀ (e : EngineNo) d t, s.svcDesc e (isSnap 2) = some (d, t) → exec (.descSnapshotDrop e) s = s.goesOn
        ((t.clearPin (dget d.bytes 41 1)).svcPost e d 0 0))
    ∧ (∀ (e : EngineNo) d t, s.svcDesc e (isSnap 1) = some (d, t) →
      (aget t.plg.pins (dget d.bytes 41 1) = none → exec (.descSnapshotCopy e) s = s.goesOn (t.svcPost e d 0x11 0))
      ∧ (∀ x u v y, aget t.plg.pins (dget d.bytes 41 1) = some x → t.svcPhase e = 0 → t.svcUnits e d.bytes = (true, u) →
        u.pay (svcInst e) u.moverClass (List.replicate (lineParts (dget d.bytes 32 8) (dget d.bytes 24 4)).length 2) = (true, v) →
        y = v.bulkCopy e (dget d.bytes 16 8) (dget d.bytes 32 8) (dget d.bytes 24 4) → y.1.wait = false →
        exec (.descSnapshotCopy e) s = s.goesOn (((y.2.spend (svcInst e)).setSvc e
          { phase := 1, status := y.1.status.getD 0, result := BitVec.ofNat 64 y.2.plg.w }).svcFinish e d)))
    ∧ (∀ (e : EngineNo) d t, s.svcDesc e (isOp 0x17) = some (d, t) →
      (d.wpl ≤ t.plg.wpv → exec (.descVsync e) s = s.goesOn (t.svcPost e d 0 (BitVec.ofNat 64 d.wpl)))
      ∧ (t.plg.wpv < d.wpl → d.at_ + max 1 (field (t.reg 0x0C0010) 0 16) * 1000000 ≤ t.chron →
        exec (.descVsync e) s = s.goesOn (t.svcPost e d 0x0E 0))
      ∧ (t.plg.wpv < d.wpl → t.chron < d.at_ + max 1 (field (t.reg 0x0C0010) 0 16) * 1000000 →
        exec (.descVsync e) s = s.goesOn t))
    ∧ (∀ (e : EngineNo) d t ok u n, s.svcDesc e (isOp 0x18) = some (d, t) → t.svcUnits e d.bytes = (ok, u) →
      n = (dget d.bytes 24 4 + 63) / 64 →
      (ok = false ∨ u.busyInst 24 = true → exec (.descProbe e) s = s.goesOn u)
      ∧ (ok = true → u.busyInst 24 = false → (t.engine e).svc = none →
        exec (.descProbe e) s = s.goesOn (u.probeNext e d { phase := 0 } n))
      ∧ (∀ r res, ok = true → u.busyInst 24 = false → (t.engine e).svc = some r → r.phase ≠ 0 → (t.heldInst e 2).isSome = true →
        res = (t.unitReg 24 8).toNat →
        (res.testBit 2 = true → exec (.descProbe e) s = s.goesOn (u.probeNext e d { r with done := r.done + 1 } (n - (r.done + 1))))
        ∧ (res.testBit 2 = false → exec (.descProbe e) s = s.goesOn (u.probeNext e d { r with
          done := r.done + 1, result := r.result + 1, pois := r.pois + (if res % 4 = 0 then 0 else 1) } (n - (r.done + 1))))))
    ∧ (∀ (e : EngineNo) (status : BitVec 16) (result : DWord) d t, s.svcDesc e (isOp 0x20) = some (d, t) →
      exec (.descUser e status result) s = s.goesOn (t.svcPost e d status result))
    ∧ (∀ (e : EngineNo) d t u y, s.svcDesc e (isOp 0x12) = some (d, t) → t.svcPhase e = 0 →
      t.svcUnits e d.bytes = (true, u) → y = u.bulkCopy e (dget d.bytes 16 8) (dget d.bytes 32 8) (dget d.bytes 24 4) → y.1.wait = false →
      exec (.descCopy e) s = s.goesOn ((y.2.setSvc e
        { phase := 1, status := y.1.status.getD 0, result := BitVec.ofNat 64 (y.1.bytes % 2 ^ 32 + y.1.pois * 2 ^ 32) }).svcFinish e d))
    ∧ (∀ (e : EngineNo) d t u y, s.svcDesc e (isOp 0x13) = some (d, t) → t.svcPhase e = 0 →
      t.svcUnits e d.bytes = (true, u) → y = u.bulkFill e (dget d.bytes 32 8) (dget d.bytes 24 4) ((d.bytes.drop 40).take 8) → y.1.wait = false →
      exec (.descFill e) s = s.goesOn ((y.2.setSvc e
        { phase := 1, status := y.1.status.getD 0, result := BitVec.ofNat 64 (y.1.bytes % 2 ^ 32 + y.1.pois * 2 ^ 32) }).svcFinish e d))
    ∧ (∀ (e : EngineNo) d t x lines u w uns hits, s.svcDesc e (isOp 0x11) = some (d, t) → (t.engine e).svc = none →
      t.svcRead e (dget d.bytes 16 8) ((dget d.bytes 24 4 + 63) / 64) [] = (.got x, lines, u) →
      w = 2 ^ bitsOf (dget d.bytes 48 1) 0 2 → uns = (dget d.bytes 48 1).testBit 2 →
      hits = ((List.range (dget d.bytes 24 4 / w)).map fun i =>
          ((((lines.flatMap lineBytes).take (dget d.bytes 24 4)).drop (w * i)).take w)).filter
        (fun b => scanMeets (dget d.bytes 49 1) (scanValue (8 * w) (bytesNat b) uns)
          (scanValue (8 * w) (dget d.bytes 40 8 % 2 ^ (8 * w)) uns)) →
      ∀ res : List (List Byte) → DWord,
      (∀ l, res l = BitVec.ofInt 64 (scanAgg (dget d.bytes 50 1) (l.map fun b => scanValue (8 * w) (bytesNat b) uns))) →
      (dget d.bytes 32 8 = 0 → exec (.descScan e) s = s.goesOn ((u.setSvc e { phase := 1, result := res hits }).svcFinish e d))
      ∧ (∀ y, dget d.bytes 32 8 ≠ 0 → y = u.bulkBytes e (dget d.bytes 32 8) hits.flatten → y.1.wait = false →
        exec (.descScan e) s = s.goesOn
          ((y.2.setSvc e { phase := 1, status := y.1.status.getD 0, result := res (hits.take (y.1.bytes / w)) }).svcFinish e d)))
    ∧ (∀ (e : EngineNo) d t a x lines h u, s.svcDesc e (isOp 0x15) = some (d, t) → t.svcPhase e = 0 → a = dget d.bytes 16 8 →
      t.svcUnits e d.bytes = (true, h) →
      h.svcRead e (a / 64 * 64) ((a % 64 + dget d.bytes 24 4 + 63) / 64) (h.svcGot e) = (.got x, lines, u) →
      ∀ data, data = ((lines.flatMap lineBytes).drop (a % 64)).take (dget d.bytes 24 4) →
      (dget d.bytes 28 1 = 0 → exec (.descChecksum e) s = s.goesOn
        ((u.setSvc e { phase := 1, result := (crc32c data).setWidth 64 }).svcFinish e d))
      ∧ (dget d.bytes 28 1 ≠ 0 → (u.keySlot (dget d.bytes 29 1)).loaded = false → exec (.descChecksum e) s = s.goesOn
        ((u.setSvc e { phase := 1, status := 0x10 }).svcFinish e d))
      ∧ (∀ k y, dget d.bytes 28 1 ≠ 0 → k = u.keySlot (dget d.bytes 29 1) → k.loaded = true →
        y = (u.cphJob 5 (dget d.bytes 40 12)).bulkBytes e (dget d.bytes 32 8)
          ((beBytes 16 (gcmTag (k1 k.key) (dget d.bytes 40 12) (data.map (·.toNat)) [])).map (BitVec.ofNat 8)) →
        y.1.wait = false → exec (.descChecksum e) s = s.goesOn ((y.2.setSvc e { phase := 1, status := y.1.status.getD 0 }).svcFinish e d)))
    ∧ (∀ (e : EngineNo) d t u, s.svcDesc e (isOp 0x14) = some (d, t) →
      (t.svcPhase e = 0 → (t.setSvc e { phase := 0 }).svcUnits e d.bytes = (false, u) → exec (.descSeal e) s = s.goesOn u)
      ∧ (∀ m v, t.svcPhase e = 0 → (t.setSvc e { phase := 0 }).svcUnits e d.bytes = (true, u) → u.heldInst e 0 = some m →
        v = (((u.setUnitReg m 8 (BitVec.ofNat 64 (dget d.bytes 16 8))).setUnitReg m 0x10 (BitVec.ofNat 64
          (bitsOf (dget d.bytes 24 4) 0 31 + if (dget d.bytes 24 4).testBit 31 then 2 ^ 63 else 0))).setUnitReg m 0x18 32768).moverGo
            m e 2 →
        (v.busyInst m = true → exec (.descSeal e) s = s.goesOn (v.setSvc e { phase := 1 }))
        ∧ (v.busyInst m = false → exec (.descSeal e) s = s.goesOn (v.svcPost e d 8 0)))
      ∧ (∀ m, t.svcPhase e ≠ 0 → t.heldInst e 0 = some m → t.busyInst m = false → bitsOf (t.unitReg m 0x30).toNat 58 4 = 0 →
        exec (.descSeal e) s = s.goesOn ((t.sealNotice e (bitsOf (dget d.bytes 24 4) 0 31)).svcPost e d 0
          ((t.seg (bitsOf (dget d.bytes 24 4) 0 31)).gen.setWidth 64))))
    ∧ (∀ (e : EngineNo) s0 d t, (true, s0) = (if (s.engine e).state = .running ∧ (s.engine e).desc = none
        then s.redoReplay e else (true, s)) →
      s0.svcDesc e (isOp 0x10) = some (d, t) →
      (∀ x targets data u st, t.svcPhase e = 0 → t.commitRead e d.bytes = (.got x, targets, data, u) →
        targets.findSome? u.commitCheck = some st → exec (.descCommit e) s = s.goesOn (u.svcPost e d st 0))
      ∧ (∀ x targets data u v y, t.svcPhase e = 0 → t.commitRead e d.bytes = (.got x, targets, data, u) →
        targets.findSome? u.commitCheck = none → u.redoFits e = true → u.commitReady (u.redoAt e :: targets) = (true, v) →
        u.svcPay e ((targets.length + 7) / 8 + targets.length + 1) = (true, y) →
        exec (.descCommit e) s = s.goesOn ((y.redoWrite e targets data).setSvc e { phase := 1 }))
      ∧ (∀ n y w u, t.svcPhase e = 1 → n = (t.redoRead e).length →
        t.pay (svcInst e) (t.engineClass e) (List.replicate (1 + (n + 7) / 8 + 2 * n) 1) = (true, y) →
        y.svcFence e (dget d.bytes 34 1) = (some w, u) →
        (w.getLsbD 7 = true → exec (.descCommit e) s = s.goesOn (u.svcPost e d 0x0E w))
        ∧ (w.getLsbD 7 = false → exec (.descCommit e) s = s.goesOn
          (((u.redoRead e).foldl (fun v x => v.svcStore e x.1 x.2) (u.spend (svcInst e))).setSvc e { phase := 2 })))
      ∧ (∀ y w u, 2 ≤ t.svcPhase e → t.pay (svcInst e) (t.engineClass e) [1] = (true, y) →
        y.svcFence e (dget d.bytes 34 1) = (some w, u) →
        (w.getLsbD 7 = true → exec (.descCommit e) s = s.goesOn (u.svcPost e d 0x0E w))
        ∧ (w.getLsbD 7 = false →
          exec (.descCommit e) s = s.goesOn (((u.spend (svcInst e)).redoRetire e).svcPost e d 0 w))))

/-! ### Protected queues -/

/-- R18–R21, R486: a packet enters a queue with its notice and leaves it once count and parity fit; where the pointer copies
differ, or the notice does not fit, no pointer moves, and the queue is recovered before anything else goes on. An idle item
keeps a queue's producer alive; one silent for four idle intervals is logged and its queue restarts empty with the queue's own
action; a second time within one second sets the Dead Reckoning cause. Which half of the header each parity bit of a notice
covers, and that every queue of R21 has idle items, are the model's choices (log entry 65). -/
def Obligations.QueueGuards : Prop :=
  ∀ (s : State) (q : Queue), s.ready = true →
    (∀ (g : QGuard) (h : Nat), g = s.guard q →
      (g.agrees = false → s.qIn q h = s.withGuard q { g with bad := true } ∧ s.qOut q = s.withGuard q { g with bad := true })
      ∧ (g.agrees = true → s.qIn q h = s.withGuard q { g with
        tail := g.tail + 1, tailGray := gray (g.tail + 1), notice := (g.notice + 1) % 64, lastSeen := s.chron
        notices := g.notices ++ [(h, noticeOf (g.notice + 1) h)] })
      ∧ (∀ b r, g.agrees = true → g.notices = (h, b) :: r →
        (b = noticeOf (g.seen + 1) h → s.qOut q = s.withGuard q { g with
          head := g.head + 1, headGray := gray (g.head + 1), notices := r, seen := (g.seen + 1) % 64 })
        ∧ (b ≠ noticeOf (g.seen + 1) h → s.qOut q = s.withGuard q { g with bad := true })))
    ∧ (∀ g : QGuard, s.guards = [(q, g)] → g.bad = true → s.round = (s.queueMismatch q).fabricRound.deepRound.unitRound)
    ∧ (∀ n, n = max s.chron ((s.guard q).lastSeen + s.idleInterval) → exec (.idleItem q) s = s.goesOn
      (({ s with chron := n } : State).withGuard q { s.guard q with lastSeen := n, idle := noticeOf (s.guard q).notice 0 }))
    ∧ (∀ (src : BitVec 16) (n : Nat) (t : State), src = srcInt (queuePage q) →
      n = max s.chron ((s.guard q).lastSeen + 4 * s.idleInterval) →
      t = ((({ s with chron := n } : State).logE 0x0103 src 0 (2 + 2 ^ 8 + queueId q * 2 ^ 16)).updTel fun x => { x with
        queues := (x.queues.filter fun y => y.1 != q) ++ [(q, { since := n })] }) →
      ((∀ k, s.silentSince q = some k → k + 1000000000 < n) → exec (.queueSilent q) s = s.goesOn (t.queueMismatch q))
      ∧ (∀ k, s.silentSince q = some k → n ≤ k + 1000000000 → exec (.queueSilent q) s = s.goesOn
        (((t.queueMismatch q).setCause 8).logE 0x0107 src 0 (2 + 2 * 2 ^ 8 + queueId q * 2 ^ 16)))
      ∧ ∀ u, u = (t.logE 0x0008 src 0 (queueId q)).qRestart q →
        (q = .plgMark → t.queueMismatch q = u.markMismatch) ∧ (q = .dtiCmd → t.queueMismatch q = u.commandMismatch)
        ∧ (q = .plgDrain → t.queueMismatch q = u.drainMismatch) ∧ (q = .twnOut → t.queueMismatch q = u.outMismatch)
        ∧ (q = .twnIn → t.queueMismatch q = u.inMismatch) ∧ (∀ k, q = .cphJob k → t.queueMismatch q = u.jobMismatch k.val)
        ∧ (∀ k, q = .hpxIngress k → t.queueMismatch q = u.ingressMismatch k)
        ∧ (∀ k, q = .hpxEgress k → t.queueMismatch q = u.egressMismatch k)
        ∧ (∀ k, q = .chsRead k → t.queueMismatch q = u.readMismatch k)
        ∧ (∀ k, q = .chsWrite k → t.queueMismatch q = u.writeMismatch k)
        ∧ (∀ k, q = .eccReturn k → t.queueMismatch q = u.returnMismatch k)
        ∧ (∀ k, q = .dreFetch k → t.queueMismatch q = u.fetchMismatch k))

/-! ### CFG, MAP and the registers -/

/-- R46, R48, R95, R443, R445, R449, R452, R456: MAP_COMMIT checks the candidate map and may lower the dirty budget, a
Reach entry is read and written at the index, which a refused write leaves where it is, CFG_MODECTL starts a Save or sets
and clears Dead Reckoning causes, and the lock is taken. -/
def Obligations.ConfigCommands : Prop :=
  ∀ (s : State) (p : Path),
    (s.passes p 0x040040 1 = true →
      (s.candidate.check ≠ 0 → s.map.act.committed = false → exec (.mapCommit p) s = s.answers p .ok
        ({ s with map := { s.map with commitErr := BitVec.ofNat 4 s.candidate.check } }.event 0x040048 5))
      ∧ (∀ t : State, s.candidate.check = 0 →
        t = { s with map := { s.map with act := s.candidate, commitErr := 0 } }.carveUnm.event 0x040048 4 →
        (t.budget ≤ 2 ^ (t.map.act.logEntries - 1) → exec (.mapCommit p) s = s.answers p .ok t)
        ∧ (t.map.act.committed = true → 2 ^ (t.map.act.logEntries - 1) < t.budget → exec (.mapCommit p) s = s.answers p .ok
          (((t.setReg 0x0C0004 (BitVec.ofNat 32 (2 ^ (t.map.act.logEntries - 1)))).event 0x0C0100 6).plgRefresh))))
    ∧ (s.takesReg p = true → exec (.reachEntryRead p) s = s.reads p ((s.reachEntry).setWidth 32)
        (s.setLatch p 0x040058 { s.latch p 0x040058 with hi := some ((s.reachEntry).extractLsb' 32 32) }))
    ∧ (∀ (v : DWord) (r : Nat) (t u : State), s.takesReg p = true → r = field (s.reg 0x040050) 0 16 →
      (v.setWidth 32 ^^^ s.view 0x040058) &&& (regSpec 0x040058).elim 0 RegSpec.rsv = 0 →
      (v.extractLsb' 32 32 ^^^ s.view 0x04005C) &&& (regSpec 0x04005C).elim 0 RegSpec.rsv = 0 →
      s.modeRefuses 0x040058 (v.setWidth 32) = false →
      (∀ k, (regSpec 0x040058) = some k → s.violates k 0x040058 (v.setWidth 32) = false) →
      s.violates (hiSpec 0x040058) 0x04005C (v.extractLsb' 32 32) = false →
      (s.reachRefused r v = true → exec (.reachEntryWrite p v) s = s.answers p .ok (s.event 0x040048 3))
      ∧ (s.reachRefused r v = false →
        t = s.setReach r (mkReach (v.extractLsb' 32 32) (bitsOf v.toNat 0 2) (v.getLsbD 6) (s.reachInStep r)) →
        u = (if bitsOf v.toNat 0 2 = 1 then t else t.missReach r) →
        exec (.reachEntryWrite p v) s = s.answers p .ok (State.reachStep (if u.twn.link = 2 then
          { u with twn := { u.twn with pendTable := insertNat u.twn.pendTable r } } else u))))
    ∧ (bit (s.reg 0x040050) 31 = false → s.reachStep = s)
    ∧ (bit (s.reg 0x040050) 31 = true →
      s.reachStep = s.setReg 0x040050 (putField (s.reg 0x040050) 0 16 (field (s.reg 0x040050) 0 16 + 1)))
    ∧ (s.passes p 0x000048 0x80000000 = true → exec (.modeSave p) s = s.answers p .ok s.pfWarn)
    ∧ (s.passes p 0x000048 0x40000000 = true → exec (.drEnter p) s = s.answers p .ok (s.setCause 9))
    ∧ (∀ bits : BitVec 10, s.passes p 0x000048 (bits.setWidth 32) = true → exec (.drAck p bits) s = s.answers p .ok
        (State.reeval { s with cfg := { s.cfg with drCause := s.cfg.drCause &&& ~~~(bits &&& 0x327) } }))
    ∧ (∀ v, s.passes p 0x000044 v = true → exec (.cfgModecfgWrite p v) s = s.keepsWord p 0x000044 v)
    ∧ (s.passes p 0x000004 1 = true → exec (.cfgLock p) s = s.answers p .ok
        ((s.setReg 0x000004 (s.newWord 0x000004 1)).updCfg fun c => { c with lockTaken := true }))

/-- R451–R454, R456, R457, R459–R463: a register write that passes its checks, those that are refused and logged, and one that
changes reserved bits, which stay after the lock and are a test control before it, while the rest is written; status
words read, cleared and cleared on read; marked pairs; bit aliases; the data ports and the burst window. -/
def Obligations.RegisterAccesses : Prop :=
  ∀ (s : State) (p : Path) (off : BitVec 24) (v : Word), s.takesReg p = true →
    (off.toNat % 4 ≠ 0 → exec (.registerWrite p off v) s = s.answers p .errAccess (s.regAccess p off.toNat 2))
    ∧ (off.toNat % 4 = 0 → regSpec off.toNat = none →
      exec (.registerWrite p off v) s = s.answers p .errAccess (s.regUndef p off.toNat 2))
    ∧ (∀ r, off.toNat % 4 = 0 → regSpec off.toNat = some r → dataPort off.toNat = none → isStsClr off.toNat = false →
      r.pair = false → isPairHi off.toNat = false →
      (s.modeRefuses off.toNat v = true → exec (.registerWrite p off v) s = s.answers p .errMode s)
      ∧ (s.modeRefuses off.toNat v = false → s.locked = true → (v ^^^ s.view off.toNat) &&& r.lk ≠ 0 →
        exec (.registerWrite p off v) s = s.answers p .errAccess (s.lockViol p off.toNat)))
    ∧ (∀ c u, off.toNat % 4 = 0 → s.passes p off.toNat v = true → s.effect off.toNat (s.newWord off.toNat v) = (c, u) →
      exec (.registerWrite p off v) s = s.answers p c u)
    ∧ (∀ r t c u, off.toNat % 4 = 0 → regSpec off.toNat = some r → dataPort off.toNat = none → isStsClr off.toNat = false →
      r.pair = false → isPairHi off.toNat = false → s.modeRefuses off.toNat v = false → s.violates r off.toNat v = false →
      s.markRefuses off.toNat v = false → s.rangeRefuses off.toNat v = none → (v ^^^ s.view off.toNat) &&& r.rsv ≠ 0 →
      t = (if s.locked then s.rsvdWrite p off.toNat else
        { s.setReg off.toNat ((s.reg off.toNat &&& ~~~r.rsv) ||| (v &&& r.rsv)) with testCtl := true }) →
      t.effect off.toNat (t.newWord off.toNat v) = (c, u) → exec (.registerWrite p off v) s = s.answers p c u)
    ∧ (off.toNat = 0x000010 → s.passes p 0x000010 v = true → exec (.registerWrite p off v) s = s.keepsWord p 0x000010 v)
    ∧ (isStsClr off.toNat = true → (regSpec off.toNat).isSome = true → exec (.stsClr p off v) s = s.answers p .ok
        (match aget s.sts (off.toNat - 4) with
          | none => s
          | some c => { s with sts := aput s.sts (off.toNat - 4) (c.clear v) }))
    ∧ (off.toNat ∈ [0x000050, 0x010100, 0x020200, 0x030100, 0x040048, 0x050010, 0x060300, 0x070300, 0x080100, 0x090300,
        0x0A0100, 0x0B0300, 0x0C0100, 0x0D0100, 0x0E0300, 0x0F0100, 0x340300] →
      (bit (s.reg 0x000008) 0 = false → exec (.stsCorRead p off) s = s.reads p (agetD s.sts off.toNat {}).word s)
      ∧ (∀ c, bit (s.reg 0x000008) 0 = true → aget s.sts off.toNat = some c → exec (.stsCorRead p off) s =
        s.reads p c.word { s with sts := aput s.sts off.toNat { c with bits := 0 } }))
    ∧ (isPairLo off.toNat = true → off.toNat % 8 = 0 → off.toNat < 0x011000 ∨ 0x01B020 ≤ off.toNat →
      exec (.pairLoRead p off) s = s.reads p (s.view off.toNat)
        (s.setLatch p off.toNat { s.latch p off.toNat with hi := some (s.view (off.toNat + 4)) }))
    ∧ (∀ (q : Fin 64) (lo : Word) (t : State), off.toNat = sqPage q + 4 → lo = (s.latch p (sqPage q)).lo.getD (s.view (sqPage q)) →
      t = s.setLatch p (sqPage q) { s.latch p (sqPage q) with lo := none } →
      (bit (s.reg (sqPage q + 8)) 31 = true → exec (.pairHiWrite p off v) s = s.answers p .ok (t.event 0x030100 5))
      ∧ (bit (s.reg (sqPage q + 8)) 31 = false →
        (lo ^^^ s.view (sqPage q)) &&& (regSpec (sqPage q)).elim 0 RegSpec.rsv = 0 →
        (v ^^^ s.view (sqPage q + 4)) &&& (regSpec (sqPage q + 4)).elim 0 RegSpec.rsv = 0 →
        exec (.pairHiWrite p off v) s = s.answers p .ok
          ((t.setReg (sqPage q) (s.newWord (sqPage q) lo)).setReg (sqPage q + 4) (s.newWord (sqPage q + 4) v))))
    ∧ (∀ (a : BitVec 26) (o i : Nat), 0x2000000 ≤ a.toNat → a.toNat % 4 = 0 → o = (a.toNat - 0x2000000) / 128 * 4 →
      i = a.toNat / 4 % 32 →
      (regSpec o = none → exec (.aliasWrite p a v) s = s.answers p .errAccess (s.regUndef p a.toNat 2))
      ∧ ((regSpec o).isSome = true →
        exec (.aliasRead p a) s = s.reads p (if (s.peek4 p o).getLsbD i then 1 else 0) s)
      ∧ (∀ r w, regSpec o = some r → r.pair = false → isPairHi o = false → dataPort o = none → r.wo.getLsbD i = false →
        r.sqc.getLsbD i = false → r.w1p.getLsbD i = false → r.rw.getLsbD i = true →
        w = (if v.getLsbD 0 then s.view o ||| BitVec.ofNat 32 (2 ^ i) else s.view o &&& ~~~(BitVec.ofNat 32 (2 ^ i))) →
        s.passes p o w = true → ∀ c u, s.effect o (s.newWord o w) = (c, u) →
        exec (.aliasWrite p a v) s = s.answers p c u))
    ∧ (∀ (n t : Nat), n = (if p = .chain then 1 else 0) → t = 4 * field (s.reg (0x20 + 0x10 * n)) 2 22 →
      (0x20 ≤ t ∧ t ≤ 0x3C → exec (.dpDataAccess p (some v)) s = s.answers p .errAccess ((s.regAccess p t 2).dpAdvance n .errAccess))
      ∧ (∀ c u, t < 0x20 ∨ 0x3C < t → s.passes p t v = true → s.effect t (s.newWord t v) = (c, u) →
        exec (.dpDataAccess p (some v)) s = s.answers p c (u.dpAdvance n c))
      ∧ (t < 0x20 ∨ 0x3C < t → (regSpec t).isSome = true → exec (.dpDataAccess p none) s =
        s.reads p (s.peek4 p t) ((s.readEffect p t).dpAdvance n .ok))
      ∧ (∀ wr c d u, s.burst p wr = (c, d, u) → exec (.dpBurst p wr) s =
        s.goesOn (u.answered p c (if wr.isSome then 0 else d))))

/-! ### The management chain -/

/-- R465–R467: a frame whose CHECK or length is wrong is logged and dropped, whatever it is; a response and a request for
another block go on; a READ, WRITE, PING and SETADDR of this block are performed and answered, and a broadcast
WRITE is performed and goes on. -/
def Obligations.ChainFrames : Prop :=
  ∀ (s : State) (f : List Byte), s.ready = true → s.pins.selftestDone = true →
    (∀ u, u = (s.logE 0x0005 0x4000 0 (chainByte f 0 + chainByte f 1 * 2 ^ 8)).event 0x000050 4 →
      chainCheck f = false ∨ (chainReserved f = false ∧ f.length ≠ chainLength f) →
      exec (.mcRead f) s = s.goesOn u ∧ exec (.mcWrite f) s = s.goesOn u ∧ exec (.mcSetaddr f) s = s.goesOn u
      ∧ exec (.mcPing f) s = s.goesOn u ∧ exec (.mcForward f) s = s.goesOn u ∧ exec (.mcCrc f) s = s.goesOn u)
    ∧ (chainCheck f = true → chainReserved f = false → f.length = chainLength f →
      (chainDir f = true → exec (.mcForward f) s = s.goesOn (s.mcSend f))
      ∧ (chainDir f = false → chainAddr f = 0x7E → chainCmd f ≠ 2 → exec (.mcForward f) s = s.goesOn
        (((s.logE 0x0006 0x4000 0 (chainByte f 0 + chainByte f 1 * 2 ^ 8)).event 0x000050 5).mcSend f))
      ∧ (∀ a v c u, chainDir f = false → chainAddr f = 0x7E → chainCmd f = 2 → chainSize f = 2 → a = chainOffset f → a % 4 = 0 →
        a < 0x1000000 → v = BitVec.ofNat 32 (bytesNat ((f.drop 7).take 4)) → s.passes .chain a v = true →
        s.effect a (s.newWord a v) = (c, u) → exec (.mcWrite f) s = s.goesOn ((u.answered .chain c 0).mcSend f))
      ∧ (chainDir f = false → chainAddr f ≠ 0x7E → s.mcMine f = false → exec (.mcForward f) s = s.goesOn (s.mcSend f))
      ∧ (chainDir f = false → chainAddr f ≠ 0x7E → s.mcMine f = true →
        (chainCmd f = 4 → exec (.mcPing f) s = s.goesOn (s.mcRespond f .ok (natBytes 4 (s.view 0).toNat)))
        ∧ (∀ n, chainCmd f = 3 → n = chainByte f 7 % 128 →
          (s.cfg.chainAddr = 0x7F → n < 0x40 → exec (.mcSetaddr f) s = s.goesOn
            ((((s.updCfg fun c => { c with chainAddr := BitVec.ofNat 7 n }).event 0x000050 6).mcRespond f .ok []).updCfg fun c =>
              { c with enumOut := true }))
          ∧ (s.cfg.chainAddr ≠ 0x7F ∨ 0x40 ≤ n → exec (.mcSetaddr f) s = s.goesOn (s.mcRespond f .errAccess [])))
        ∧ (∀ a, chainCmd f = 1 → chainSize f = 2 → a = chainOffset f → a % 4 = 0 → a < 0x1000000 → dataPort a = none →
          (regSpec a).isSome = true → exec (.mcRead f) s = s.goesOn (((s.readEffect .chain a).answered .chain .ok
            (BitVec.ofNat 512 ((s.peek4 .chain a).toNat <<< (8 * (a % 64))))).mcRespond f .ok (natBytes 4 (s.peek4 .chain a).toNat)))
        ∧ (∀ a v c u, chainCmd f = 2 → chainSize f = 2 → a = chainOffset f → a % 4 = 0 → a < 0x1000000 →
          v = BitVec.ofNat 32 (bytesNat ((f.drop 7).take 4)) → s.passes .chain a v = true →
          s.effect a (s.newWord a v) = (c, u) →
          exec (.mcWrite f) s = s.goesOn ((u.answered .chain c 0).mcRespond f c []))))
    ∧ (∀ code data, ∃ r : List Byte, s.mcRespond f code data = s.updCfg (fun c => { c with mcOut := r })
      ∧ r.length = 8 + data.length ∧ r.take 4 = [BitVec.ofNat 8 (128 + s.cfg.chainAddr.toNat), f.getD 1 0, f.getD 2 0,
        BitVec.ofNat 8 code.bits.toNat] ∧ r.drop (4 + data.length) = natBytes 4 (crc32c (r.take (4 + data.length))).toNat)

/-! ### The board -/

/-- R440, R506, R507, R509, R512–R514: the reset input, the self-test's end, and the instructions of the test access port:
EXTEST, SCAN and fuse programming reset the block, keys with it. The reset leaves the straps, the test access port and what
stands outside the block, the modules in the DIMM slots; the last PTP_SYNC edge is forgotten. -/
def Obligations.BoardCommands : Prop :=
  ∀ (s r : State),
    r = { State.reset with
      pending := s.pending, freeCtr := s.freeCtr
      cfg := { mode := .reset, resetHeld := true, enumIn := s.cfg.enumIn }
      sgt := { State.reset.sgt with hubs := s.sgt.hubs, asked := s.sgt.asked }
      pins := { s.pins with selftestDone := false, ptpEdgeAt := none } } →
    exec .rstNAssert s = .next r
    ∧ (∀ edgeSync : BitVec 20,
      (s.cfg.resetHeld = true → exec (.rstNRelease edgeSync) s = .next
        { s with cfg := { s.cfg with resetHeld := false }, pins := { s.pins with edgeSync := edgeSync } })
      ∧ (s.cfg.resetHeld = false → exec (.rstNRelease edgeSync) s = .next s))
    ∧ (s.ready = true → s.pins.selftestDone = true → ∀ l k, exec (.powerUpSelftestDone l k) s = s.goesOn s)
    ∧ (s.ready = true → s.pins.selftestDone = false → exec (.powerUpSelftestDone [] []) s =
        s.goesOn (s.updPins fun x => { x with selftestDone := true }))
    ∧ (s.ready = true → s.pins.selftestDone = false → ∀ e : EngineNo, exec (.powerUpSelftestDone [e.castLE (by omega)] []) s =
        s.goesOn ((s.failEngine e).updPins fun x => { x with selftestDone := true }))
    ∧ exec .bypass s = .next (s.updPins fun p => { p with tap := .bypass, tapData := [false] })
    ∧ (∃ l : List Bool, exec .idcode s = .next (s.updPins fun p => { p with tap := .idcode, tapData := true :: l }) ∧ l.length = 31)
    ∧ (∀ cells, exec (.samplePreload cells) s = .next (s.updPins fun p =>
        { p with tap := .samplePreload, tapData := (List.range 2384).map cells.getLsbD, cells := cells }))
    ∧ (∀ cells, exec (.extest cells) s = .next (r.updPins fun p =>
        { p with tap := .extest, tapData := (List.range 2384).map cells.getLsbD, cells := cells }))
    ∧ (∀ mbist, exec (.ijtag mbist false) s = .next (s.updPins fun p => { p with tap := .ijtag, tapData := [Config.testChain 0] })
      ∧ exec (.ijtag mbist true) s = .next (r.updPins fun p => { p with tap := .ijtag, tapData := [Config.testChain 0] }))
    ∧ exec .scan s = .next (r.updPins fun p => { p with tap := .scan, tapData := [Config.testChain 0] })

/-! ### The whole block -/

/-- A step with a command in front is that command's effect with the rest of the queue; with an empty queue it is one period
of REFCLK (DESIGN CHOICE of the model, log entry 1), in which the time and its slew move on (R474, R476) and the
counters of time take it (R478). -/
def Obligations.StepRunsFrontCommand : Prop :=
  ∀ s : State,
    (∀ c rest, step { s with pending := c :: rest } = exec c { s with pending := rest })
    ∧ (s.pending = [] → s.cfg.resetHeld = true → step s = .next s)
    ∧ (s.pending = [] → s.cfg.resetHeld = false →
      (s.tel.slewLeft = 0 → step s = s.becomes { s with chron := s.chron + 10 })
      ∧ (s.tel.slewLeft ≠ 0 → s.tel.slewCount + 1 < s.tel.slewDiv →
        step s = s.becomes { s with chron := s.chron + 10, tel := { s.tel with slewCount := s.tel.slewCount + 1 } })
      ∧ (0 < s.tel.slewLeft → s.tel.slewDiv ≤ s.tel.slewCount + 1 →
        step s = s.becomes { s with chron := s.chron + 11, tel := { s.tel with slewCount := 0, slewLeft := s.tel.slewLeft - 1 } })
      ∧ (s.tel.slewLeft < 0 → s.tel.slewDiv ≤ s.tel.slewCount + 1 →
        step s = s.becomes { s with chron := s.chron + 9, tel := { s.tel with slewCount := 0, slewLeft := s.tel.slewLeft + 1 } }))

/-- R440, R506: after reset the block is in mode Reset with every register at its reset value, no command waiting, no Dead
Reckoning cause, no key loaded, the Log empty, the link down, no reservation, every Reach unmapped, engines that are EMPTY, and
memory with nothing listed; it takes commands, and nothing is left to record. -/
def Obligations.StateAfterReset : Prop :=
  State.reset.ready = true ∧ State.reset.recorded = true ∧ State.reset.pending = [] ∧ State.reset.cfg.mode = .reset
    ∧ State.reset.cfg.drCause = 0 ∧ State.reset.locked = false ∧ State.reset.cfg.chainAddr = 0x7F ∧ State.reset.chron = 0
    ∧ (∀ off, State.reset.reg off = regReset off) ∧ (∀ e : EngineNo, (State.reset.engine e).state = .empty)
    ∧ (∀ k, (State.reset.keySlot k).loaded = false) ∧ State.reset.plg.w = 0 ∧ State.reset.plg.a = 0 ∧ State.reset.twn.link = 0
    ∧ State.reset.atu.resv = [] ∧ (∀ r, State.reset.reach r = 0) ∧ Memory.wf State.reset.mem = true
    ∧ State.reset.view 0x000044 = 0x80000000

/-- The soundness of the model's own bookkeeping (DESIGN CHOICE, log entry 2): whatever runs, a step leaves no event and no
log entry of a command unrecorded (R454, R481: recorded as it happens), so every reader sees them. -/
def Obligations.StepsRecordEverything : Prop :=
  ∀ s t : State, s.recorded = true → step s = .next t → t.recorded = true

/-- The queue of waiting commands is the senders': no command changes it, and each step takes exactly the one in front. -/
def Obligations.CommandsLeaveTheQueue : Prop :=
  (∀ (c : Instr) (s t : State), exec c s = .next t → t.pending = s.pending)
    ∧ (∀ s t : State, step s = .next t → t.pending = s.pending.drop 1)

/-- R440, R458: every command is executed, whatever the state: none faults and none is refused, a write that changes reserved
bits before CFG_LOCK among them; while the reset input is held, no command but the board's has an effect, and each leaves the
queue of those that wait. -/
def Obligations.EveryCommandCompletes : Prop :=
  ∀ (c : Instr) (s : State),
    (∃ t, exec c s = .next t ∧ t.pending = s.pending)
    ∧ (s.cfg.resetHeld = true → boardRow c = false → exec c s = .next s)
    ∧ (∀ p v t, s.ready = true → s.reaches p = true → s.locked = false → c = .registerWrite p 0x000010 v →
      (v ^^^ s.view 0x000010) &&& (regSpec 0x000010).elim 0 RegSpec.rsv ≠ 0 →
      t = { s.setReg 0x000010 ((s.reg 0x000010 &&& ~~~((regSpec 0x000010).elim 0 RegSpec.rsv)) |||
        (v &&& (regSpec 0x000010).elim 0 RegSpec.rsv)) with testCtl := true } →
      exec c s = s.answers p .ok (t.setReg 0x000010 (t.newWord 0x000010 v)))

/-- R454: SEQ advances by one, modulo 256, in a handshake with one or more of the register's events, which set their bits
and keep its value; a clear leaves SEQ, has no effect with a sequence ahead of it, and else clears each masked bit whose
latest event lies at or before its sequence; it is answered OK; an event of its own handshake is recorded after it. -/
def Obligations.StatusWords : Prop :=
  (∀ (s : State) (sts : Nat) (l : List Nat), l = (s.evts.filter fun e => e.sts == sts).map (fun e => e.bit) →
      (l = [] → aget s.recordEvts.sts sts = aget s.sts sts)
      ∧ (l ≠ [] → aget s.recordEvts.sts sts = some ((agetD s.sts sts {}).record l)))
    ∧ (∀ (c : StsCell) (l : List Nat) (b : Nat), b < 24 →
      (c.record l).seq = c.seq + 1 ∧ ((c.record l).bits.getLsbD b = (decide (b ∈ l) || c.bits.getLsbD b))
      ∧ (b ∈ l → aget (c.record l).last b = some (c.seq + 1)) ∧ (b ∉ l → aget (c.record l).last b = aget c.last b))
    ∧ (∀ (c : StsCell) (v : Word) (q : BitVec 8) (b : Nat), b < 24 → q = v.extractLsb' 24 8 →
      (c.clear v).seq = c.seq ∧ (c.clear v).last = c.last
      ∧ (128 ≤ (c.seq - q).toNat → c.clear v = c)
      ∧ (v.getLsbD b = false → (c.clear v).bits.getLsbD b = c.bits.getLsbD b)
      ∧ (∀ k, (∀ j, (b, j) ∈ c.last ↔ j = k) → (c.seq - q).toNat < 128 → v.getLsbD b = true →
        (c.clear v).bits.getLsbD b = (decide (128 ≤ (q - k).toNat) && c.bits.getLsbD b)))
    ∧ (∀ (s : State) (p : Path) (off : BitVec 24) (v : Word) (c : StsCell), s.takesReg p = true →
      isStsClr off.toNat = true → (regSpec off.toNat).isSome = true → aget s.sts (off.toNat - 4) = some c →
      exec (.stsClr p off v) s = s.answers p .ok { s with sts := aput s.sts (off.toNat - 4) (c.clear v) })
end

