-- ==== Sys2Proof/Laws/Exec.lean ====
section
/-! SUPPORT. Every command has its meaning: one equation per arm of the dispatch, for a proof to cite in place of the whole
match. -/

namespace Sys2Proof.Machine

variable (s : State)

@[simp] theorem exec_read (q : HostReq) : exec (.read q) s = execRead q s := rfl
@[simp] theorem exec_write (q : HostReq) : exec (.write q) s = execWrite q s := rfl
@[simp] theorem exec_writeFull (q : HostReq) : exec (.writeFull q) s = execWriteFull q s := rfl
@[simp] theorem exec_atomCas8 (q : HostReq) : exec (.atomCas8 q) s = execAtomCas8 q s := rfl
@[simp] theorem exec_atomCas16 (q : HostReq) : exec (.atomCas16 q) s = execAtomCas16 q s := rfl
@[simp] theorem exec_atomFadd (q : HostReq) : exec (.atomFadd q) s = execAtomFadd q s := rfl
@[simp] theorem exec_atomSwap (q : HostReq) : exec (.atomSwap q) s = execAtomSwap q s := rfl
@[simp] theorem exec_atomAnd (q : HostReq) : exec (.atomAnd q) s = execAtomAnd q s := rfl
@[simp] theorem exec_atomOr (q : HostReq) : exec (.atomOr q) s = execAtomOr q s := rfl
@[simp] theorem exec_resvLd (q : HostReq) : exec (.resvLd q) s = execResvLd q s := rfl
@[simp] theorem exec_condSt (q : HostReq) : exec (.condSt q) s = execCondSt q s := rfl
@[simp] theorem exec_ofence (q : HostReq) : exec (.ofence q) s = execOfence q s := rfl
@[simp] theorem exec_pfence (q : HostReq) : exec (.pfence q) s = execPfence q s := rfl
@[simp] theorem exec_stageHint (q : HostReq) : exec (.stageHint q) s = execStageHint q s := rfl
@[simp] theorem exec_cfgRd (q : HostReq) : exec (.cfgRd q) s = execCfgRd q s := rfl
@[simp] theorem exec_cfgWr (q : HostReq) : exec (.cfgWr q) s = execCfgWr q s := rfl
@[simp] theorem exec_hostResponseAck (port : Fin 16) : exec (.hostResponseAck port) s = execHostResponseAck port s := rfl
@[simp] theorem exec_holdTimeout (port : Fin 16) (tag : BitVec 12) :
    exec (.holdTimeout port tag) s = execHoldTimeout port tag s := rfl
@[simp] theorem exec_idleItem (q : Queue) : exec (.idleItem q) s = execIdleItem q s := rfl
@[simp] theorem exec_queueSilent (q : Queue) : exec (.queueSilent q) s = execQueueSilent q s := rfl
@[simp] theorem exec_paceSample (m : Fin 8) (pace : BitVec 12) : exec (.paceSample m pace) s = execPaceSample m pace s := rfl
@[simp] theorem exec_pilotStoreResponse (e : EngineNo) : exec (.pilotStoreResponse e) s = execPilotStoreResponse e s := rfl
@[simp] theorem exec_storeBufferAgeIssue (e : EngineNo) :
    exec (.storeBufferAgeIssue e) s = execStoreBufferAgeIssue e s := rfl
@[simp] theorem exec_reservationExpire (who : ResvId) : exec (.reservationExpire who) s = execReservationExpire who s := rfl
@[simp] theorem exec_reservationClearAll (p : Path) : exec (.reservationClearAll p) s = execReservationClearAll p s := rfl
@[simp] theorem exec_atuRcfgWrite (p : Path) (v : Word) : exec (.atuRcfgWrite p v) s = execAtuRcfgWrite p v s := rfl
@[simp] theorem exec_drainIssue : exec (.drainIssue) s = execDrainIssue s := rfl
@[simp] theorem exec_drainComplete (idx : DWord) : exec (.drainComplete idx) s = execDrainComplete idx s := rfl
@[simp] theorem exec_drainReissue (idx : DWord) : exec (.drainReissue idx) s = execDrainReissue idx s := rfl
@[simp] theorem exec_drainStall : exec (.drainStall) s = execDrainStall s := rfl
@[simp] theorem exec_fenceTimeout (id : Nat) : exec (.fenceTimeout id) s = execFenceTimeout id s := rfl
@[simp] theorem exec_plgBudgetWrite (p : Path) (v : Word) : exec (.plgBudgetWrite p v) s = execPlgBudgetWrite p v s := rfl
@[simp] theorem exec_pinSet (p : Path) (k : Fin 3) : exec (.pinSet p k) s = execPinSet p k s := rfl
@[simp] theorem exec_pinClr (p : Path) (k : Fin 3) : exec (.pinClr p k) s = execPinClr p k s := rfl
@[simp] theorem exec_anchorReleased : exec (.anchorReleased) s = execAnchorReleased s := rfl
@[simp] theorem exec_mirrorFrameSend (lane : Fin 2) : exec (.mirrorFrameSend lane) s = execMirrorFrameSend lane s := rfl
@[simp] theorem exec_mirror (f : Frame) : exec (.mirror f) s = execMirror f s := rfl
@[simp] theorem exec_mirrorFrameResume (lane : Fin 2) :
    exec (.mirrorFrameResume lane) s = execMirrorFrameResume lane s := rfl
@[simp] theorem exec_fwdWr (f : Frame) : exec (.fwdWr f) s = execFwdWr f s := rfl
@[simp] theorem exec_fwdAck (f : Frame) : exec (.fwdAck f) s = execFwdAck f s := rfl
@[simp] theorem exec_fwdTableAdmit : exec (.fwdTableAdmit) s = execFwdTableAdmit s := rfl
@[simp] theorem exec_beat (f : Frame) : exec (.beat f) s = execBeat f s := rfl
@[simp] theorem exec_heartbeat : exec (.heartbeat) s = execHeartbeat s := rfl
@[simp] theorem exec_hello (f : Frame) : exec (.hello f) s = execHello f s := rfl
@[simp] theorem exec_helloResend : exec (.helloResend) s = execHelloResend s := rfl
@[simp] theorem exec_ownTable (f : Frame) : exec (.ownTable f) s = execOwnTable f s := rfl
@[simp] theorem exec_ownHandover (f : Frame) : exec (.ownHandover f) s = execOwnHandover f s := rfl
@[simp] theorem exec_ownAck (f : Frame) : exec (.ownAck f) s = execOwnAck f s := rfl
@[simp] theorem exec_ownTake (f : Frame) : exec (.ownTake f) s = execOwnTake f s := rfl
@[simp] theorem exec_ownFence (f : Frame) : exec (.ownFence f) s = execOwnFence f s := rfl
@[simp] theorem exec_ownSyncDone (f : Frame) : exec (.ownSyncDone f) s = execOwnSyncDone f s := rfl
@[simp] theorem exec_fetch (f : Frame) : exec (.fetch f) s = execFetch f s := rfl
@[simp] theorem exec_fetchNak (f : Frame) : exec (.fetchNak f) s = execFetchNak f s := rfl
@[simp] theorem exec_ctrl (f : Frame) : exec (.ctrl f) s = execCtrl f s := rfl
@[simp] theorem exec_epochWait (lane : Fin 2) : exec (.epochWait lane) s = execEpochWait lane s := rfl
@[simp] theorem exec_retryTimeout (lane : Fin 3) : exec (.retryTimeout lane) s = execRetryTimeout lane s := rfl
@[simp] theorem exec_silentTimeout : exec (.silentTimeout) s = execSilentTimeout s := rfl
@[simp] theorem exec_twnUp (p : Path) : exec (.twnUp p) s = execTwnUp p s := rfl
@[simp] theorem exec_twnDown (p : Path) : exec (.twnDown p) s = execTwnDown p s := rfl
@[simp] theorem exec_twnFull (p : Path) : exec (.twnFull p) s = execTwnFull p s := rfl
@[simp] theorem exec_twnHover (p : Path) (reach : BitVec 16) : exec (.twnHover p reach) s = execTwnHover p reach s := rfl
@[simp] theorem exec_handoverSend (reach : BitVec 16) : exec (.handoverSend reach) s = execHandoverSend reach s := rfl
@[simp] theorem exec_twnGrantGo (p : Path) : exec (.twnGrantGo p) s = execTwnGrantGo p s := rfl
@[simp] theorem exec_grantDone : exec (.grantDone) s = execGrantDone s := rfl
@[simp] theorem exec_resyncLeafCopy : exec (.resyncLeafCopy) s = execResyncLeafCopy s := rfl
@[simp] theorem exec_pfWarn : exec (.pfWarn) s = execPfWarn s := rfl
@[simp] theorem exec_saveMetaWrite (event : Unit) : exec (.saveMetaWrite event) s = execSaveMetaWrite event s := rfl
@[simp] theorem exec_saveFirstFlushDone (event : Unit) :
    exec (.saveFirstFlushDone event) s = execSaveFirstFlushDone event s := rfl
@[simp] theorem exec_saveDone (event : Unit) : exec (.saveDone event) s = execSaveDone event s := rfl
@[simp] theorem exec_vaultMetaWriteback (unit : Nat) :
    exec (.vaultMetaWriteback unit) s = execVaultMetaWriteback unit s := rfl
@[simp] theorem exec_restoreSuperblockRead (event event2 : Unit) :
    exec (.restoreSuperblockRead event event2) s = execRestoreSuperblockRead event event2 s := rfl
@[simp] theorem exec_restoreMetadataRead (event : Unit) :
    exec (.restoreMetadataRead event) s = execRestoreMetadataRead event s := rfl
@[simp] theorem exec_restoreServiceStart (event : Unit) :
    exec (.restoreServiceStart event) s = execRestoreServiceStart event s := rfl
@[simp] theorem exec_vltInit (p : Path) : exec (.vltInit p) s = execVltInit p s := rfl
@[simp] theorem exec_vltRelease (p : Path) : exec (.vltRelease p) s = execVltRelease p s := rfl
@[simp] theorem exec_backgroundRefill : exec (.backgroundRefill) s = execBackgroundRefill s := rfl
@[simp] theorem exec_leafRefillDone (leaf : Nat) : exec (.leafRefillDone leaf) s = execLeafRefillDone leaf s := rfl
@[simp] theorem exec_sightingComplete : exec (.sightingComplete) s = execSightingComplete s := rfl
@[simp] theorem exec_chsDecide (c : Sub) : exec (.chsDecide c) s = execChsDecide c s := rfl
@[simp] theorem exec_commandLaunch (c : Sub) : exec (.commandLaunch c) s = execCommandLaunch c s := rfl
@[simp] theorem exec_readDataReturn (c : Sub) (r : ReadReturn) :
    exec (.readDataReturn c r) s = execReadDataReturn c r s := rfl
@[simp] theorem exec_chsCfgWrite (p : Path) (ch : Fin 16) (v : Word) :
    exec (.chsCfgWrite p ch v) s = execChsCfgWrite p ch v s := rfl
@[simp] theorem exec_chsWmWrite (p : Path) (ch : Fin 16) (v : Word) :
    exec (.chsWmWrite p ch v) s = execChsWmWrite p ch v s := rfl
@[simp] theorem exec_chsTimWrite (p : Path) (ch : Fin 16) (n : Fin 8) (v : Word) :
    exec (.chsTimWrite p ch n v) s = execChsTimWrite p ch n v s := rfl
@[simp] theorem exec_refreshTick (c : Sub) (cs : Fin 4) : exec (.refreshTick c cs) s = execRefreshTick c cs s := rfl
@[simp] theorem exec_thermalPoll (ch : Fin 16) (readings : List (Option Byte)) :
    exec (.thermalPoll ch readings) s = execThermalPoll ch readings s := rfl
@[simp] theorem exec_trackerClear (ch : Fin 16) : exec (.trackerClear ch) s = execTrackerClear ch s := rfl
@[simp] theorem exec_pauseGrant (c : Sub) : exec (.pauseGrant c) s = execPauseGrant c s := rfl
@[simp] theorem exec_rpmCfgWrite (p : Path) (v : Word) : exec (.rpmCfgWrite p v) s = execRpmCfgWrite p v s := rfl
@[simp] theorem exec_sgtDiscover (p : Path) (hubs : List SpdModule) :
    exec (.sgtDiscover p hubs) s = execSgtDiscover p hubs s := rfl
@[simp] theorem exec_sgtStart (p : Path) : exec (.sgtStart p) s = execSgtStart p s := rfl
@[simp] theorem exec_sgtResight (p : Path) (v : Word) : exec (.sgtResight p v) s = execSgtResight p v s := rfl
@[simp] theorem exec_sgtResightFull (p : Path) (v : Word) : exec (.sgtResightFull p v) s = execSgtResightFull p v s := rfl
@[simp] theorem exec_sightStepDone (r : StepResult) : exec (.sightStepDone r) s = execSightStepDone r s := rfl
@[simp] theorem exec_sidebandCmdGo (p : Path) (v : Word) : exec (.sidebandCmdGo p v) s = execSidebandCmdGo p v s := rfl
@[simp] theorem exec_sidebandDone (result : BitVec 3) (data : Word) :
    exec (.sidebandDone result data) s = execSidebandDone result data s := rfl
@[simp] theorem exec_caParity (c : Sub) : exec (.caParity c) s = execCaParity c s := rfl
@[simp] theorem exec_oscSample (c : Sub) (counts : List (BitVec 16)) (drifts : List (BitVec 8)) :
    exec (.oscSample c counts drifts) s = execOscSample c counts drifts s := rfl
@[simp] theorem exec_resightDue (c : Sub) (cs : Fin 4) : exec (.resightDue c cs) s = execResightDue c cs s := rfl
@[simp] theorem exec_resightInterval (c : Sub) (cs : Fin 4) :
    exec (.resightInterval c cs) s = execResightInterval c cs s := rfl
@[simp] theorem exec_resightChunk (c : Sub) (pass : Bool) (results : List (Nat × Word)) :
    exec (.resightChunk c pass results) s = execResightChunk c pass results s := rfl
@[simp] theorem exec_soundingPassStart : exec (.soundingPassStart) s = execSoundingPassStart s := rfl
@[simp] theorem exec_soundingRead (c : Sub) (event : Unit) :
    exec (.soundingRead c event) s = execSoundingRead c event s := rfl
@[simp] theorem exec_eccRetireRow (p : Path) (v : Word) : exec (.eccRetireRow p v) s = execEccRetireRow p v s := rfl
@[simp] theorem exec_eccMarkDev (p : Path) (v : Word) : exec (.eccMarkDev p v) s = execEccMarkDev p v s := rfl
@[simp] theorem exec_eccSpareBank (p : Path) (v : Word) : exec (.eccSpareBank p v) s = execEccSpareBank p v s := rfl
@[simp] theorem exec_eccSpareRank (p : Path) (v : Word) : exec (.eccSpareRank p v) s = execEccSpareRank p v s := rfl
@[simp] theorem exec_eccRetirePe (p : Path) (v : Word) : exec (.eccRetirePe p v) s = execEccRetirePe p v s := rfl
@[simp] theorem exec_eccMarkWrite (p : Path) (c : Sub) (v : Word) :
    exec (.eccMarkWrite p c v) s = execEccMarkWrite p c v s := rfl
@[simp] theorem exec_spareCopy (ch : Fin 16) : exec (.spareCopy ch) s = execSpareCopy ch s := rfl
@[simp] theorem exec_wqHealFetch (leaf : Nat) : exec (.wqHealFetch leaf) s = execWqHealFetch leaf s := rfl
@[simp] theorem exec_healTimeout (leaf : Nat) : exec (.healTimeout leaf) s = execHealTimeout leaf s := rfl
@[simp] theorem exec_bwrWindow : exec (.bwrWindow) s = execBwrWindow s := rfl
@[simp] theorem exec_bwrSlot : exec (.bwrSlot) s = execBwrSlot s := rfl
@[simp] theorem exec_bwrCommit (p : Path) : exec (.bwrCommit p) s = execBwrCommit p s := rfl
@[simp] theorem exec_bwrChartCommit (p : Path) : exec (.bwrChartCommit p) s = execBwrChartCommit p s := rfl
@[simp] theorem exec_fillIssue : exec (.fillIssue) s = execFillIssue s := rfl
@[simp] theorem exec_slotEvict (slot : Nat) : exec (.slotEvict slot) s = execSlotEvict slot s := rfl
@[simp] theorem exec_fillComplete (sb : Nat) : exec (.fillComplete sb) s = execFillComplete sb s := rfl
@[simp] theorem exec_sealFlush (seg : Nat) : exec (.sealFlush seg) s = execSealFlush seg s := rfl
@[simp] theorem exec_sealDone (seg : Nat) : exec (.sealDone seg) s = execSealDone seg s := rfl
@[simp] theorem exec_dtiPubGo (p : Path) : exec (.dtiPubGo p) s = execDtiPubGo p s := rfl
@[simp] theorem exec_dpCommandIssue : exec (.dpCommandIssue) s = execDpCommandIssue s := rfl
@[simp] theorem exec_dpReadBeat (id : BitVec 12) (beat : BitVec 6) (data : Line) :
    exec (.dpReadBeat id beat data) s = execDpReadBeat id beat data s := rfl
@[simp] theorem exec_dpCompletion (id : BitVec 12) (stat : BitVec 3) (sb : BitVec 256) :
    exec (.dpCompletion id stat sb) s = execDpCompletion id stat sb s := rfl
@[simp] theorem exec_dpTimeout (id : BitVec 12) : exec (.dpTimeout id) s = execDpTimeout id s := rfl
@[simp] theorem exec_portReset (p : Path) : exec (.portReset p) s = execPortReset p s := rfl
@[simp] theorem exec_load256 (slot : Fin 64) (key : BitVec 512) : exec (.load256 slot key) s = execLoad256 slot key s := rfl
@[simp] theorem exec_load512 (slot : Fin 64) (key : BitVec 512) : exec (.load512 slot key) s = execLoad512 slot key s := rfl
@[simp] theorem exec_keyZero (slot : Fin 64) : exec (.keyZero slot) s = execKeyZero slot s := rfl
@[simp] theorem exec_keyBadOp (slot : Fin 64) : exec (.keyBadOp slot) s = execKeyBadOp slot s := rfl
@[simp] theorem exec_cphKzero (p : Path) (slot : Fin 64) : exec (.cphKzero p slot) s = execCphKzero p slot s := rfl
@[simp] theorem exec_coreKat (core : Fin 38) (pass : Bool) : exec (.coreKat core pass) s = execCoreKat core pass s := rfl
@[simp] theorem exec_peaStart (p : Path) (e : EngineNo) : exec (.peaStart p e) s = execPeaStart p e s := rfl
@[simp] theorem exec_peaStop (p : Path) (e : EngineNo) : exec (.peaStop p e) s = execPeaStop p e s := rfl
@[simp] theorem exec_peaLoad (p : Path) (e : EngineNo) : exec (.peaLoad p e) s = execPeaLoad p e s := rfl
@[simp] theorem exec_peaReset (p : Path) (e : EngineNo) : exec (.peaReset p e) s = execPeaReset p e s := rfl
@[simp] theorem exec_peaImg (p : Path) (e : EngineNo) (v : Word) : exec (.peaImg p e v) s = execPeaImg p e v s := rfl
@[simp] theorem exec_stopDone (e : EngineNo) : exec (.stopDone e) s = execStopDone e s := rfl
@[simp] theorem exec_suaRequest (e : EngineNo) (u : Fin 6) (prio : BitVec 4) :
    exec (.suaRequest e u prio) s = execSuaRequest e u prio s := rfl
@[simp] theorem exec_suaWithdraw (e : EngineNo) (u : Fin 6) : exec (.suaWithdraw e u) s = execSuaWithdraw e u s := rfl
@[simp] theorem exec_suaRelease (e : EngineNo) (u : Fin 6) : exec (.suaRelease e u) s = execSuaRelease e u s := rfl
@[simp] theorem exec_suaInternalRequest (who : Internal) (u : Fin 6) :
    exec (.suaInternalRequest who u) s = execSuaInternalRequest who u s := rfl
@[simp] theorem exec_suaRequestDue (who : Internal) (u : Fin 6) :
    exec (.suaRequestDue who u) s = execSuaRequestDue who u s := rfl
@[simp] theorem exec_suaWindow : exec (.suaWindow) s = execSuaWindow s := rfl
@[simp] theorem exec_longHold (inst : Fin 28) : exec (.longHold inst) s = execLongHold inst s := rfl
@[simp] theorem exec_mvCopy (e : EngineNo) : exec (.mvCopy e) s = execMvCopy e s := rfl
@[simp] theorem exec_mvFill (e : EngineNo) : exec (.mvFill e) s = execMvFill e s := rfl
@[simp] theorem exec_mvSeal (e : EngineNo) : exec (.mvSeal e) s = execMvSeal e s := rfl
@[simp] theorem exec_mvAbort (e : EngineNo) : exec (.mvAbort e) s = execMvAbort e s := rfl
@[simp] theorem exec_moverDone (ch : Fin 8) : exec (.moverDone ch) s = execMoverDone ch s := rfl
@[simp] theorem exec_slotDpRead (e : EngineNo) : exec (.slotDpRead e) s = execSlotDpRead e s := rfl
@[simp] theorem exec_slotDpWrite (e : EngineNo) : exec (.slotDpWrite e) s = execSlotDpWrite e s := rfl
@[simp] theorem exec_slotDpFlush (e : EngineNo) : exec (.slotDpFlush e) s = execSlotDpFlush e s := rfl
@[simp] theorem exec_sdProbe (e : EngineNo) (addr : DWord) : exec (.sdProbe e addr) s = execSdProbe e addr s := rfl
@[simp] theorem exec_sgReq (e : EngineNo) (v : Word) : exec (.sgReq e v) s = execSgReq e v s := rfl
@[simp] theorem exec_bcGo (e : EngineNo) : exec (.bcGo e) s = execBcGo e s := rfl
@[simp] theorem exec_kjZero (e : EngineNo) : exec (.kjZero e) s = execKjZero e s := rfl
@[simp] theorem exec_kjGcmEnc (e : EngineNo) : exec (.kjGcmEnc e) s = execKjGcmEnc e s := rfl
@[simp] theorem exec_kjGcmDec (e : EngineNo) : exec (.kjGcmDec e) s = execKjGcmDec e s := rfl
@[simp] theorem exec_kjGmac (e : EngineNo) : exec (.kjGmac e) s = execKjGmac e s := rfl
@[simp] theorem exec_keyJobDone : exec (.keyJobDone) s = execKeyJobDone s := rfl
@[simp] theorem exec_add (e : EngineNo) (rd rs1 rs2 : BitVec 5) : exec (.add e rd rs1 rs2) s = execAdd e rd rs1 rs2 s := rfl
@[simp] theorem exec_sub (e : EngineNo) (rd rs1 rs2 : BitVec 5) : exec (.sub e rd rs1 rs2) s = execSub e rd rs1 rs2 s := rfl
@[simp] theorem exec_and (e : EngineNo) (rd rs1 rs2 : BitVec 5) : exec (.and e rd rs1 rs2) s = execAnd e rd rs1 rs2 s := rfl
@[simp] theorem exec_or (e : EngineNo) (rd rs1 rs2 : BitVec 5) : exec (.or e rd rs1 rs2) s = execOr e rd rs1 rs2 s := rfl
@[simp] theorem exec_xor (e : EngineNo) (rd rs1 rs2 : BitVec 5) : exec (.xor e rd rs1 rs2) s = execXor e rd rs1 rs2 s := rfl
@[simp] theorem exec_sll (e : EngineNo) (rd rs1 rs2 : BitVec 5) : exec (.sll e rd rs1 rs2) s = execSll e rd rs1 rs2 s := rfl
@[simp] theorem exec_srl (e : EngineNo) (rd rs1 rs2 : BitVec 5) : exec (.srl e rd rs1 rs2) s = execSrl e rd rs1 rs2 s := rfl
@[simp] theorem exec_sra (e : EngineNo) (rd rs1 rs2 : BitVec 5) : exec (.sra e rd rs1 rs2) s = execSra e rd rs1 rs2 s := rfl
@[simp] theorem exec_cmplt (e : EngineNo) (rd rs1 rs2 : BitVec 5) :
    exec (.cmplt e rd rs1 rs2) s = execCmplt e rd rs1 rs2 s := rfl
@[simp] theorem exec_cmpltu (e : EngineNo) (rd rs1 rs2 : BitVec 5) :
    exec (.cmpltu e rd rs1 rs2) s = execCmpltu e rd rs1 rs2 s := rfl
@[simp] theorem exec_mul (e : EngineNo) (rd rs1 rs2 : BitVec 5) : exec (.mul e rd rs1 rs2) s = execMul e rd rs1 rs2 s := rfl
@[simp] theorem exec_mulhu (e : EngineNo) (rd rs1 rs2 : BitVec 5) :
    exec (.mulhu e rd rs1 rs2) s = execMulhu e rd rs1 rs2 s := rfl
@[simp] theorem exec_divu (e : EngineNo) (rd rs1 rs2 : BitVec 5) :
    exec (.divu e rd rs1 rs2) s = execDivu e rd rs1 rs2 s := rfl
@[simp] theorem exec_remu (e : EngineNo) (rd rs1 rs2 : BitVec 5) :
    exec (.remu e rd rs1 rs2) s = execRemu e rd rs1 rs2 s := rfl
@[simp] theorem exec_div (e : EngineNo) (rd rs1 rs2 : BitVec 5) : exec (.div e rd rs1 rs2) s = execDiv e rd rs1 rs2 s := rfl
@[simp] theorem exec_rem (e : EngineNo) (rd rs1 rs2 : BitVec 5) : exec (.rem e rd rs1 rs2) s = execRem e rd rs1 rs2 s := rfl
@[simp] theorem exec_min (e : EngineNo) (rd rs1 rs2 : BitVec 5) : exec (.min e rd rs1 rs2) s = execMin e rd rs1 rs2 s := rfl
@[simp] theorem exec_max (e : EngineNo) (rd rs1 rs2 : BitVec 5) : exec (.max e rd rs1 rs2) s = execMax e rd rs1 rs2 s := rfl
@[simp] theorem exec_minu (e : EngineNo) (rd rs1 rs2 : BitVec 5) :
    exec (.minu e rd rs1 rs2) s = execMinu e rd rs1 rs2 s := rfl
@[simp] theorem exec_maxu (e : EngineNo) (rd rs1 rs2 : BitVec 5) :
    exec (.maxu e rd rs1 rs2) s = execMaxu e rd rs1 rs2 s := rfl
@[simp] theorem exec_clz (e : EngineNo) (rd rs1 rs2 : BitVec 5) : exec (.clz e rd rs1 rs2) s = execClz e rd rs1 rs2 s := rfl
@[simp] theorem exec_ctz (e : EngineNo) (rd rs1 rs2 : BitVec 5) : exec (.ctz e rd rs1 rs2) s = execCtz e rd rs1 rs2 s := rfl
@[simp] theorem exec_popc (e : EngineNo) (rd rs1 rs2 : BitVec 5) :
    exec (.popc e rd rs1 rs2) s = execPopc e rd rs1 rs2 s := rfl
@[simp] theorem exec_bswap (e : EngineNo) (rd rs1 rs2 : BitVec 5) :
    exec (.bswap e rd rs1 rs2) s = execBswap e rd rs1 rs2 s := rfl
@[simp] theorem exec_crc (e : EngineNo) (rd rs1 rs2 : BitVec 5) : exec (.crc e rd rs1 rs2) s = execCrc e rd rs1 rs2 s := rfl
@[simp] theorem exec_cmpeq (e : EngineNo) (rd rs1 rs2 : BitVec 5) :
    exec (.cmpeq e rd rs1 rs2) s = execCmpeq e rd rs1 rs2 s := rfl
@[simp] theorem exec_cmple (e : EngineNo) (rd rs1 rs2 : BitVec 5) :
    exec (.cmple e rd rs1 rs2) s = execCmple e rd rs1 rs2 s := rfl
@[simp] theorem exec_cmpleu (e : EngineNo) (rd rs1 rs2 : BitVec 5) :
    exec (.cmpleu e rd rs1 rs2) s = execCmpleu e rd rs1 rs2 s := rfl
@[simp] theorem exec_addi (e : EngineNo) (rd rs1 : BitVec 5) (imm : BitVec 16) :
    exec (.addi e rd rs1 imm) s = execAddi e rd rs1 imm s := rfl
@[simp] theorem exec_andi (e : EngineNo) (rd rs1 : BitVec 5) (imm : BitVec 16) :
    exec (.andi e rd rs1 imm) s = execAndi e rd rs1 imm s := rfl
@[simp] theorem exec_ori (e : EngineNo) (rd rs1 : BitVec 5) (imm : BitVec 16) :
    exec (.ori e rd rs1 imm) s = execOri e rd rs1 imm s := rfl
@[simp] theorem exec_xori (e : EngineNo) (rd rs1 : BitVec 5) (imm : BitVec 16) :
    exec (.xori e rd rs1 imm) s = execXori e rd rs1 imm s := rfl
@[simp] theorem exec_cmplti (e : EngineNo) (rd rs1 : BitVec 5) (imm : BitVec 16) :
    exec (.cmplti e rd rs1 imm) s = execCmplti e rd rs1 imm s := rfl
@[simp] theorem exec_cmpltui (e : EngineNo) (rd rs1 : BitVec 5) (imm : BitVec 16) :
    exec (.cmpltui e rd rs1 imm) s = execCmpltui e rd rs1 imm s := rfl
@[simp] theorem exec_shiSll (e : EngineNo) (rd rs1 : BitVec 5) (imm : BitVec 16) :
    exec (.shiSll e rd rs1 imm) s = execShiSll e rd rs1 imm s := rfl
@[simp] theorem exec_shiSrl (e : EngineNo) (rd rs1 : BitVec 5) (imm : BitVec 16) :
    exec (.shiSrl e rd rs1 imm) s = execShiSrl e rd rs1 imm s := rfl
@[simp] theorem exec_shiSra (e : EngineNo) (rd rs1 : BitVec 5) (imm : BitVec 16) :
    exec (.shiSra e rd rs1 imm) s = execShiSra e rd rs1 imm s := rfl
@[simp] theorem exec_shiRor (e : EngineNo) (rd rs1 : BitVec 5) (imm : BitVec 16) :
    exec (.shiRor e rd rs1 imm) s = execShiRor e rd rs1 imm s := rfl
@[simp] theorem exec_shin (e : EngineNo) (rd rs1 : BitVec 5) (imm : BitVec 16) :
    exec (.shin e rd rs1 imm) s = execShin e rd rs1 imm s := rfl
@[simp] theorem exec_movi (e : EngineNo) (rd rs1 : BitVec 5) (imm : BitVec 16) :
    exec (.movi e rd rs1 imm) s = execMovi e rd rs1 imm s := rfl
@[simp] theorem exec_ld (e : EngineNo) (rd rs1 : BitVec 5) (size : BitVec 3) (off : BitVec 13) :
    exec (.ld e rd rs1 size off) s = execLd e rd rs1 size off s := rfl
@[simp] theorem exec_ldu (e : EngineNo) (rd rs1 : BitVec 5) (size : BitVec 3) (off : BitVec 13) :
    exec (.ldu e rd rs1 size off) s = execLdu e rd rs1 size off s := rfl
@[simp] theorem exec_st (e : EngineNo) (rd rs1 : BitVec 5) (size : BitVec 3) (off : BitVec 13) :
    exec (.st e rd rs1 size off) s = execSt e rd rs1 size off s := rfl
@[simp] theorem exec_ldp (e : EngineNo) (rd rs1 : BitVec 5) (size : BitVec 3) (off : BitVec 13) :
    exec (.ldp e rd rs1 size off) s = execLdp e rd rs1 size off s := rfl
@[simp] theorem exec_stp (e : EngineNo) (rd rs1 : BitVec 5) (size : BitVec 3) (off : BitVec 13) :
    exec (.stp e rd rs1 size off) s = execStp e rd rs1 size off s := rfl
@[simp] theorem exec_vld (e : EngineNo) (rd rs1 : BitVec 5) (size : BitVec 3) (off : BitVec 13) :
    exec (.vld e rd rs1 size off) s = execVld e rd rs1 size off s := rfl
@[simp] theorem exec_vst (e : EngineNo) (rd rs1 : BitVec 5) (size : BitVec 3) (off : BitVec 13) :
    exec (.vst e rd rs1 size off) s = execVst e rd rs1 size off s := rfl
@[simp] theorem exec_pilotLoadData (e : EngineNo) : exec (.pilotLoadData e) s = execPilotLoadData e s := rfl
@[simp] theorem exec_pilotDeferRetry (e : EngineNo) : exec (.pilotDeferRetry e) s = execPilotDeferRetry e s := rfl
@[simp] theorem exec_ldr (e : EngineNo) (rd rs1 rs2 : BitVec 5) (func : BitVec 11) :
    exec (.ldr e rd rs1 rs2 func) s = execLdr e rd rs1 rs2 func s := rfl
@[simp] theorem exec_stc (e : EngineNo) (rd rs1 rs2 : BitVec 5) (func : BitVec 11) :
    exec (.stc e rd rs1 rs2 func) s = execStc e rd rs1 rs2 func s := rfl
@[simp] theorem exec_farCas8 (e : EngineNo) (rd rs1 rs2 : BitVec 5) (func : BitVec 11) :
    exec (.farCas8 e rd rs1 rs2 func) s = execFarCas8 e rd rs1 rs2 func s := rfl
@[simp] theorem exec_farCas16 (e : EngineNo) (rd rs1 rs2 : BitVec 5) (func : BitVec 11) :
    exec (.farCas16 e rd rs1 rs2 func) s = execFarCas16 e rd rs1 rs2 func s := rfl
@[simp] theorem exec_farFadd (e : EngineNo) (rd rs1 rs2 : BitVec 5) (func : BitVec 11) :
    exec (.farFadd e rd rs1 rs2 func) s = execFarFadd e rd rs1 rs2 func s := rfl
@[simp] theorem exec_farSwap (e : EngineNo) (rd rs1 rs2 : BitVec 5) (func : BitVec 11) :
    exec (.farSwap e rd rs1 rs2 func) s = execFarSwap e rd rs1 rs2 func s := rfl
@[simp] theorem exec_farAnd (e : EngineNo) (rd rs1 rs2 : BitVec 5) (func : BitVec 11) :
    exec (.farAnd e rd rs1 rs2 func) s = execFarAnd e rd rs1 rs2 func s := rfl
@[simp] theorem exec_farOr (e : EngineNo) (rd rs1 rs2 : BitVec 5) (func : BitVec 11) :
    exec (.farOr e rd rs1 rs2 func) s = execFarOr e rd rs1 rs2 func s := rfl
@[simp] theorem exec_bcondEqz (e : EngineNo) (rs1 : BitVec 5) (z : BitVec 1) (woff : BitVec 16) :
    exec (.bcondEqz e rs1 z woff) s = execBcondEqz e rs1 z woff s := rfl
@[simp] theorem exec_bcondNez (e : EngineNo) (rs1 : BitVec 5) (z : BitVec 1) (woff : BitVec 16) :
    exec (.bcondNez e rs1 z woff) s = execBcondNez e rs1 z woff s := rfl
@[simp] theorem exec_bcondLtz (e : EngineNo) (rs1 : BitVec 5) (z : BitVec 1) (woff : BitVec 16) :
    exec (.bcondLtz e rs1 z woff) s = execBcondLtz e rs1 z woff s := rfl
@[simp] theorem exec_bcondGez (e : EngineNo) (rs1 : BitVec 5) (z : BitVec 1) (woff : BitVec 16) :
    exec (.bcondGez e rs1 z woff) s = execBcondGez e rs1 z woff s := rfl
@[simp] theorem exec_bcondGtz (e : EngineNo) (rs1 : BitVec 5) (z : BitVec 1) (woff : BitVec 16) :
    exec (.bcondGtz e rs1 z woff) s = execBcondGtz e rs1 z woff s := rfl
@[simp] theorem exec_bcondLez (e : EngineNo) (rs1 : BitVec 5) (z : BitVec 1) (woff : BitVec 16) :
    exec (.bcondLez e rs1 z woff) s = execBcondLez e rs1 z woff s := rfl
@[simp] theorem exec_bcondOdd (e : EngineNo) (rs1 : BitVec 5) (z : BitVec 1) (woff : BitVec 16) :
    exec (.bcondOdd e rs1 z woff) s = execBcondOdd e rs1 z woff s := rfl
@[simp] theorem exec_bcondEven (e : EngineNo) (rs1 : BitVec 5) (z : BitVec 1) (woff : BitVec 16) :
    exec (.bcondEven e rs1 z woff) s = execBcondEven e rs1 z woff s := rfl
@[simp] theorem exec_bcondAlways (e : EngineNo) (rs1 : BitVec 5) (z : BitVec 1) (woff : BitVec 16) :
    exec (.bcondAlways e rs1 z woff) s = execBcondAlways e rs1 z woff s := rfl
@[simp] theorem exec_call (e : EngineNo) (rd : BitVec 5) (woff : BitVec 21) :
    exec (.call e rd woff) s = execCall e rd woff s := rfl
@[simp] theorem exec_jumpr (e : EngineNo) (rd rs1 : BitVec 5) (imm : BitVec 16) :
    exec (.jumpr e rd rs1 imm) s = execJumpr e rd rs1 imm s := rfl
@[simp] theorem exec_callr (e : EngineNo) (rd rs1 : BitVec 5) (imm : BitVec 16) :
    exec (.callr e rd rs1 imm) s = execCallr e rd rs1 imm s := rfl
@[simp] theorem exec_vadd (e : EngineNo) (f : VFields) : exec (.vadd e f) s = execVadd e f s := rfl
@[simp] theorem exec_vsub (e : EngineNo) (f : VFields) : exec (.vsub e f) s = execVsub e f s := rfl
@[simp] theorem exec_vmul (e : EngineNo) (f : VFields) : exec (.vmul e f) s = execVmul e f s := rfl
@[simp] theorem exec_vmin (e : EngineNo) (f : VFields) : exec (.vmin e f) s = execVmin e f s := rfl
@[simp] theorem exec_vmax (e : EngineNo) (f : VFields) : exec (.vmax e f) s = execVmax e f s := rfl
@[simp] theorem exec_vminu (e : EngineNo) (f : VFields) : exec (.vminu e f) s = execVminu e f s := rfl
@[simp] theorem exec_vmaxu (e : EngineNo) (f : VFields) : exec (.vmaxu e f) s = execVmaxu e f s := rfl
@[simp] theorem exec_vand (e : EngineNo) (f : VFields) : exec (.vand e f) s = execVand e f s := rfl
@[simp] theorem exec_vor (e : EngineNo) (f : VFields) : exec (.vor e f) s = execVor e f s := rfl
@[simp] theorem exec_vxor (e : EngineNo) (f : VFields) : exec (.vxor e f) s = execVxor e f s := rfl
@[simp] theorem exec_vandn (e : EngineNo) (f : VFields) : exec (.vandn e f) s = execVandn e f s := rfl
@[simp] theorem exec_vsll (e : EngineNo) (f : VFields) : exec (.vsll e f) s = execVsll e f s := rfl
@[simp] theorem exec_vsrl (e : EngineNo) (f : VFields) : exec (.vsrl e f) s = execVsrl e f s := rfl
@[simp] theorem exec_vsra (e : EngineNo) (f : VFields) : exec (.vsra e f) s = execVsra e f s := rfl
@[simp] theorem exec_vsel (e : EngineNo) (f : VFields) : exec (.vsel e f) s = execVsel e f s := rfl
@[simp] theorem exec_vcompress (e : EngineNo) (f : VFields) : exec (.vcompress e f) s = execVcompress e f s := rfl
@[simp] theorem exec_vcmpeq (e : EngineNo) (f : VFields) : exec (.vcmpeq e f) s = execVcmpeq e f s := rfl
@[simp] theorem exec_vcmpne (e : EngineNo) (f : VFields) : exec (.vcmpne e f) s = execVcmpne e f s := rfl
@[simp] theorem exec_vcmplt (e : EngineNo) (f : VFields) : exec (.vcmplt e f) s = execVcmplt e f s := rfl
@[simp] theorem exec_vcmpltu (e : EngineNo) (f : VFields) : exec (.vcmpltu e f) s = execVcmpltu e f s := rfl
@[simp] theorem exec_vcmple (e : EngineNo) (f : VFields) : exec (.vcmple e f) s = execVcmple e f s := rfl
@[simp] theorem exec_vcmpleu (e : EngineNo) (f : VFields) : exec (.vcmpleu e f) s = execVcmpleu e f s := rfl
@[simp] theorem exec_vredSum (e : EngineNo) (rd rs1 rs2 : BitVec 5) (func : BitVec 11) :
    exec (.vredSum e rd rs1 rs2 func) s = execVredSum e rd rs1 rs2 func s := rfl
@[simp] theorem exec_vredMin (e : EngineNo) (rd rs1 rs2 : BitVec 5) (func : BitVec 11) :
    exec (.vredMin e rd rs1 rs2 func) s = execVredMin e rd rs1 rs2 func s := rfl
@[simp] theorem exec_vredMax (e : EngineNo) (rd rs1 rs2 : BitVec 5) (func : BitVec 11) :
    exec (.vredMax e rd rs1 rs2 func) s = execVredMax e rd rs1 rs2 func s := rfl
@[simp] theorem exec_vredMinu (e : EngineNo) (rd rs1 rs2 : BitVec 5) (func : BitVec 11) :
    exec (.vredMinu e rd rs1 rs2 func) s = execVredMinu e rd rs1 rs2 func s := rfl
@[simp] theorem exec_vredMaxu (e : EngineNo) (rd rs1 rs2 : BitVec 5) (func : BitVec 11) :
    exec (.vredMaxu e rd rs1 rs2 func) s = execVredMaxu e rd rs1 rs2 func s := rfl
@[simp] theorem exec_vredAnd (e : EngineNo) (rd rs1 rs2 : BitVec 5) (func : BitVec 11) :
    exec (.vredAnd e rd rs1 rs2 func) s = execVredAnd e rd rs1 rs2 func s := rfl
@[simp] theorem exec_vredOr (e : EngineNo) (rd rs1 rs2 : BitVec 5) (func : BitVec 11) :
    exec (.vredOr e rd rs1 rs2 func) s = execVredOr e rd rs1 rs2 func s := rfl
@[simp] theorem exec_vredXor (e : EngineNo) (rd rs1 rs2 : BitVec 5) (func : BitVec 11) :
    exec (.vredXor e rd rs1 rs2 func) s = execVredXor e rd rs1 rs2 func s := rfl
@[simp] theorem exec_vbcast (e : EngineNo) (rd rs1 rs2 : BitVec 5) (func : BitVec 11) :
    exec (.vbcast e rd rs1 rs2 func) s = execVbcast e rd rs1 rs2 func s := rfl
@[simp] theorem exec_vext (e : EngineNo) (rd rs1 rs2 : BitVec 5) (func : BitVec 11) :
    exec (.vext e rd rs1 rs2 func) s = execVext e rd rs1 rs2 func s := rfl
@[simp] theorem exec_mtog (e : EngineNo) (rd rs1 rs2 : BitVec 5) (func : BitVec 11) :
    exec (.mtog e rd rs1 rs2 func) s = execMtog e rd rs1 rs2 func s := rfl
@[simp] theorem exec_gtom (e : EngineNo) (rd rs1 rs2 : BitVec 5) (func : BitVec 11) :
    exec (.gtom e rd rs1 rs2 func) s = execGtom e rd rs1 rs2 func s := rfl
@[simp] theorem exec_mpopc (e : EngineNo) (rd rs1 rs2 : BitVec 5) (func : BitVec 11) :
    exec (.mpopc e rd rs1 rs2 func) s = execMpopc e rd rs1 rs2 func s := rfl
@[simp] theorem exec_pilotOfence (e : EngineNo) (rd rs1 : BitVec 5) (imm : BitVec 12) :
    exec (.pilotOfence e rd rs1 imm) s = execPilotOfence e rd rs1 imm s := rfl
@[simp] theorem exec_pilotPfence (e : EngineNo) (rd rs1 : BitVec 5) (imm : BitVec 12) :
    exec (.pilotPfence e rd rs1 imm) s = execPilotPfence e rd rs1 imm s := rfl
@[simp] theorem exec_dfence (e : EngineNo) (rd rs1 : BitVec 5) (imm : BitVec 12) :
    exec (.dfence e rd rs1 imm) s = execDfence e rd rs1 imm s := rfl
@[simp] theorem exec_pilotFenceDone (e : EngineNo) : exec (.pilotFenceDone e) s = execPilotFenceDone e s := rfl
@[simp] theorem exec_crd (e : EngineNo) (rd rs1 : BitVec 5) (imm : BitVec 12) :
    exec (.crd e rd rs1 imm) s = execCrd e rd rs1 imm s := rfl
@[simp] theorem exec_cwr (e : EngineNo) (rd rs1 : BitVec 5) (imm : BitVec 12) :
    exec (.cwr e rd rs1 imm) s = execCwr e rd rs1 imm s := rfl
@[simp] theorem exec_cset (e : EngineNo) (rd rs1 : BitVec 5) (imm : BitVec 12) :
    exec (.cset e rd rs1 imm) s = execCset e rd rs1 imm s := rfl
@[simp] theorem exec_cclr (e : EngineNo) (rd rs1 : BitVec 5) (imm : BitVec 12) :
    exec (.cclr e rd rs1 imm) s = execCclr e rd rs1 imm s := rfl
@[simp] theorem exec_msgPop (e : EngineNo) (rs1 : BitVec 5) : exec (.msgPop e rs1) s = execMsgPop e rs1 s := rfl
@[simp] theorem exec_take (e : EngineNo) (rd rs1 : BitVec 5) (imm : BitVec 12) :
    exec (.take e rd rs1 imm) s = execTake e rd rs1 imm s := rfl
@[simp] theorem exec_post (e : EngineNo) (rd rs1 : BitVec 5) (imm : BitVec 12) :
    exec (.post e rd rs1 imm) s = execPost e rd rs1 imm s := rfl
@[simp] theorem exec_wait (e : EngineNo) (rd rs1 : BitVec 5) (imm : BitVec 12) :
    exec (.wait e rd rs1 imm) s = execWait e rd rs1 imm s := rfl
@[simp] theorem exec_halt (e : EngineNo) (rd rs1 : BitVec 5) (imm : BitVec 12) :
    exec (.halt e rd rs1 imm) s = execHalt e rd rs1 imm s := rfl
@[simp] theorem exec_sqDoorbell (p : Path) (q : Fin 64) (v : Word) :
    exec (.sqDoorbell p q v) s = execSqDoorbell p q v s := rfl
@[simp] theorem exec_cqDoorbell (p : Path) (q : Fin 64) (v : Word) :
    exec (.cqDoorbell p q v) s = execCqDoorbell p q v s := rfl
@[simp] theorem exec_descriptorFetch : exec (.descriptorFetch) s = execDescriptorFetch s := rfl
@[simp] theorem exec_descriptorDispatch (q : Fin 64) : exec (.descriptorDispatch q) s = execDescriptorDispatch q s := rfl
@[simp] theorem exec_descStage (q : Fin 64) : exec (.descStage q) s = execDescStage q s := rfl
@[simp] theorem exec_descCourse (q : Fin 64) : exec (.descCourse q) s = execDescCourse q s := rfl
@[simp] theorem exec_descCourseAbort (q : Fin 64) : exec (.descCourseAbort q) s = execDescCourseAbort q s := rfl
@[simp] theorem exec_descCommit (e : EngineNo) : exec (.descCommit e) s = execDescCommit e s := rfl
@[simp] theorem exec_descScan (e : EngineNo) : exec (.descScan e) s = execDescScan e s := rfl
@[simp] theorem exec_descCopy (e : EngineNo) : exec (.descCopy e) s = execDescCopy e s := rfl
@[simp] theorem exec_descFill (e : EngineNo) : exec (.descFill e) s = execDescFill e s := rfl
@[simp] theorem exec_descSeal (e : EngineNo) : exec (.descSeal e) s = execDescSeal e s := rfl
@[simp] theorem exec_descChecksum (e : EngineNo) : exec (.descChecksum e) s = execDescChecksum e s := rfl
@[simp] theorem exec_descSnapshotTake (e : EngineNo) : exec (.descSnapshotTake e) s = execDescSnapshotTake e s := rfl
@[simp] theorem exec_descSnapshotCopy (e : EngineNo) : exec (.descSnapshotCopy e) s = execDescSnapshotCopy e s := rfl
@[simp] theorem exec_descSnapshotDrop (e : EngineNo) : exec (.descSnapshotDrop e) s = execDescSnapshotDrop e s := rfl
@[simp] theorem exec_descVsync (e : EngineNo) : exec (.descVsync e) s = execDescVsync e s := rfl
@[simp] theorem exec_descProbe (e : EngineNo) : exec (.descProbe e) s = execDescProbe e s := rfl
@[simp] theorem exec_descUser (e : EngineNo) (status : BitVec 16) (result : DWord) :
    exec (.descUser e status result) s = execDescUser e status result s := rfl
@[simp] theorem exec_irqCoalesceTimeout (q : Fin 64) : exec (.irqCoalesceTimeout q) s = execIrqCoalesceTimeout q s := rfl
@[simp] theorem exec_hmpResponse (tag : BitVec 8) (stat : BitVec 2) (data : Line) :
    exec (.hmpResponse tag stat data) s = execHmpResponse tag stat data s := rfl
@[simp] theorem exec_hmpTimeout (tag : BitVec 8) : exec (.hmpTimeout tag) s = execHmpTimeout tag s := rfl
@[simp] theorem exec_dreSqCfgWrite (p : Path) (q : Fin 64) (v : Word) :
    exec (.dreSqCfgWrite p q v) s = execDreSqCfgWrite p q v s := rfl
@[simp] theorem exec_dreCqCfgWrite (p : Path) (q : Fin 64) (v : Word) :
    exec (.dreCqCfgWrite p q v) s = execDreCqCfgWrite p q v s := rfl
@[simp] theorem exec_dreVecCtlWrite (p : Path) (vec : Fin 64) (v : Word) :
    exec (.dreVecCtlWrite p vec v) s = execDreVecCtlWrite p vec v s := rfl
@[simp] theorem exec_mapCommit (p : Path) : exec (.mapCommit p) s = execMapCommit p s := rfl
@[simp] theorem exec_reachEntryRead (p : Path) : exec (.reachEntryRead p) s = execReachEntryRead p s := rfl
@[simp] theorem exec_reachEntryWrite (p : Path) (v : DWord) :
    exec (.reachEntryWrite p v) s = execReachEntryWrite p v s := rfl
@[simp] theorem exec_modeSave (p : Path) : exec (.modeSave p) s = execModeSave p s := rfl
@[simp] theorem exec_drEnter (p : Path) : exec (.drEnter p) s = execDrEnter p s := rfl
@[simp] theorem exec_drAck (p : Path) (bits : BitVec 10) : exec (.drAck p bits) s = execDrAck p bits s := rfl
@[simp] theorem exec_cfgModecfgWrite (p : Path) (v : Word) : exec (.cfgModecfgWrite p v) s = execCfgModecfgWrite p v s := rfl
@[simp] theorem exec_cfgLock (p : Path) : exec (.cfgLock p) s = execCfgLock p s := rfl
@[simp] theorem exec_stsClr (p : Path) (off : BitVec 24) (v : Word) : exec (.stsClr p off v) s = execStsClr p off v s := rfl
@[simp] theorem exec_stsCorRead (p : Path) (off : BitVec 24) : exec (.stsCorRead p off) s = execStsCorRead p off s := rfl
@[simp] theorem exec_pairLoRead (p : Path) (off : BitVec 24) : exec (.pairLoRead p off) s = execPairLoRead p off s := rfl
@[simp] theorem exec_pairHiWrite (p : Path) (off : BitVec 24) (v : Word) :
    exec (.pairHiWrite p off v) s = execPairHiWrite p off v s := rfl
@[simp] theorem exec_aliasRead (p : Path) (off : BitVec 26) : exec (.aliasRead p off) s = execAliasRead p off s := rfl
@[simp] theorem exec_aliasWrite (p : Path) (off : BitVec 26) (v : Word) :
    exec (.aliasWrite p off v) s = execAliasWrite p off v s := rfl
@[simp] theorem exec_dpDataAccess (p : Path) (wr : Option Word) :
    exec (.dpDataAccess p wr) s = execDpDataAccess p wr s := rfl
@[simp] theorem exec_dpBurst (p : Path) (wr : Option Line) : exec (.dpBurst p wr) s = execDpBurst p wr s := rfl
@[simp] theorem exec_registerWrite (p : Path) (off : BitVec 24) (v : Word) :
    exec (.registerWrite p off v) s = execRegisterWrite p off v s := rfl
@[simp] theorem exec_mcRead (frame : List Byte) : exec (.mcRead frame) s = execMcRead frame s := rfl
@[simp] theorem exec_mcWrite (frame : List Byte) : exec (.mcWrite frame) s = execMcWrite frame s := rfl
@[simp] theorem exec_mcSetaddr (frame : List Byte) : exec (.mcSetaddr frame) s = execMcSetaddr frame s := rfl
@[simp] theorem exec_mcPing (frame : List Byte) : exec (.mcPing frame) s = execMcPing frame s := rfl
@[simp] theorem exec_mcForward (frame : List Byte) : exec (.mcForward frame) s = execMcForward frame s := rfl
@[simp] theorem exec_mcCrc (frame : List Byte) : exec (.mcCrc frame) s = execMcCrc frame s := rfl
@[simp] theorem exec_chrsetWrite (p : Path) (v : DWord) : exec (.chrsetWrite p v) s = execChrsetWrite p v s := rfl
@[simp] theorem exec_ptpSyncEdge : exec (.ptpSyncEdge) s = execPtpSyncEdge s := rfl
@[simp] theorem exec_ptpRefWrite (p : Path) (v : DWord) : exec (.ptpRefWrite p v) s = execPtpRefWrite p v s := rfl
@[simp] theorem exec_cselWrite (p : Path) (k : Fin 512) (v : Word) : exec (.cselWrite p k v) s = execCselWrite p k v s := rfl
@[simp] theorem exec_counterSnap (p : Path) : exec (.counterSnap p) s = execCounterSnap p s := rfl
@[simp] theorem exec_counterClear (p : Path) : exec (.counterClear p) s = execCounterClear p s := rfl
@[simp] theorem exec_logRdWrite (p : Path) (v : Word) : exec (.logRdWrite p v) s = execLogRdWrite p v s := rfl
@[simp] theorem exec_logLatchRead (p : Path) (slot : Fin 1024) :
    exec (.logLatchRead p slot) s = execLogLatchRead p slot s := rfl
@[simp] theorem exec_traceArm (p : Path) : exec (.traceArm p) s = execTraceArm p s := rfl
@[simp] theorem exec_traceStop (p : Path) : exec (.traceStop p) s = execTraceStop p s := rfl
@[simp] theorem exec_traceLatchRead (p : Path) : exec (.traceLatchRead p) s = execTraceLatchRead p s := rfl
@[simp] theorem exec_lookoutWarn (e : EngineNo) (trigger : BitVec 4) :
    exec (.lookoutWarn e trigger) s = execLookoutWarn e trigger s := rfl
@[simp] theorem exec_lookoutStop (e : EngineNo) : exec (.lookoutStop e) s = execLookoutStop e s := rfl
@[simp] theorem exec_lookoutFail (e : EngineNo) : exec (.lookoutFail e) s = execLookoutFail e s := rfl
@[simp] theorem exec_lookoutKick (p : Path) : exec (.lookoutKick p) s = execLookoutKick p s := rfl
@[simp] theorem exec_firmwareKickTimeout : exec (.firmwareKickTimeout) s = execFirmwareKickTimeout s := rfl
@[simp] theorem exec_lookoutDr : exec (.lookoutDr) s = execLookoutDr s := rfl
@[simp] theorem exec_lkoCfgWrite (p : Path) (v : Word) : exec (.lkoCfgWrite p v) s = execLkoCfgWrite p v s := rfl
@[simp] theorem exec_rstNAssert : exec (.rstNAssert) s = execRstNAssert s := rfl
@[simp] theorem exec_rstNRelease (edgeSync : BitVec 20) : exec (.rstNRelease edgeSync) s = execRstNRelease edgeSync s := rfl
@[simp] theorem exec_powerUpSelftestDone (engines : List (Fin 34)) (cores : List (Fin 38)) :
    exec (.powerUpSelftestDone engines cores) s = execPowerUpSelftestDone engines cores s := rfl
@[simp] theorem exec_bypass : exec (.bypass) s = execBypass s := rfl
@[simp] theorem exec_idcode : exec (.idcode) s = execIdcode s := rfl
@[simp] theorem exec_samplePreload (cells : BitVec 2384) : exec (.samplePreload cells) s = execSamplePreload cells s := rfl
@[simp] theorem exec_extest (cells : BitVec 2384) : exec (.extest cells) s = execExtest cells s := rfl
@[simp] theorem exec_ijtag (mbist fuse : Bool) : exec (.ijtag mbist fuse) s = execIjtag mbist fuse s := rfl
@[simp] theorem exec_scan : exec (.scan) s = execScan s := rfl
@[simp] theorem exec_badOpcode (op : BitVec 4) (q : HostReq) : exec (.badOpcode op q) s = execBadOpcode op q s := rfl
@[simp] theorem exec_illegalInstruction (e : EngineNo) (w : Word) :
    exec (.illegalInstruction e w) s = execIllegalInstruction e w s := rfl
@[simp] theorem exec_conditionalStoreResponse (e : EngineNo) :
    exec (.conditionalStoreResponse e) s = execConditionalStoreResponse e s := rfl

end Sys2Proof.Machine
end

