-- ==== Sys2Proof/Laws/State.lean ====
section
/-! SUPPORT. What the updates of the state change and leave: one lemma for each field of each update. -/

namespace Sys2Proof.Machine

@[simp] theorem State.updCfg_pending (s : State) (f : Cfg → Cfg) : (s.updCfg f).pending = s.pending := rfl
@[simp] theorem State.updCfg_chron (s : State) (f : Cfg → Cfg) : (s.updCfg f).chron = s.chron := rfl
@[simp] theorem State.updCfg_evts (s : State) (f : Cfg → Cfg) : (s.updCfg f).evts = s.evts := rfl
@[simp] theorem State.updCfg_logq (s : State) (f : Cfg → Cfg) : (s.updCfg f).logq = s.logq := rfl
@[simp] theorem State.updCfg_testCtl (s : State) (f : Cfg → Cfg) : (s.updCfg f).testCtl = s.testCtl := rfl
@[simp] theorem State.updCfg_freeCtr (s : State) (f : Cfg → Cfg) : (s.updCfg f).freeCtr = s.freeCtr := rfl
@[simp] theorem State.updCfg_regs (s : State) (f : Cfg → Cfg) : (s.updCfg f).regs = s.regs := rfl
@[simp] theorem State.updCfg_sts (s : State) (f : Cfg → Cfg) : (s.updCfg f).sts = s.sts := rfl
@[simp] theorem State.updCfg_tel (s : State) (f : Cfg → Cfg) : (s.updCfg f).tel = s.tel := rfl
@[simp] theorem State.updCfg_ports (s : State) (f : Cfg → Cfg) : (s.updCfg f).ports = s.ports := rfl
@[simp] theorem State.updCfg_guards (s : State) (f : Cfg → Cfg) : (s.updCfg f).guards = s.guards := rfl
@[simp] theorem State.updCfg_atu (s : State) (f : Cfg → Cfg) : (s.updCfg f).atu = s.atu := rfl
@[simp] theorem State.updCfg_map (s : State) (f : Cfg → Cfg) : (s.updCfg f).map = s.map := rfl
@[simp] theorem State.updCfg_plg (s : State) (f : Cfg → Cfg) : (s.updCfg f).plg = s.plg := rfl
@[simp] theorem State.updCfg_twn (s : State) (f : Cfg → Cfg) : (s.updCfg f).twn = s.twn := rfl
@[simp] theorem State.updCfg_vlt (s : State) (f : Cfg → Cfg) : (s.updCfg f).vlt = s.vlt := rfl
@[simp] theorem State.updCfg_subs (s : State) (f : Cfg → Cfg) : (s.updCfg f).subs = s.subs := rfl
@[simp] theorem State.updCfg_rpm (s : State) (f : Cfg → Cfg) : (s.updCfg f).rpm = s.rpm := rfl
@[simp] theorem State.updCfg_thermal (s : State) (f : Cfg → Cfg) : (s.updCfg f).thermal = s.thermal := rfl
@[simp] theorem State.updCfg_rpmTrig (s : State) (f : Cfg → Cfg) : (s.updCfg f).rpmTrig = s.rpmTrig := rfl
@[simp] theorem State.updCfg_rpmRfm (s : State) (f : Cfg → Cfg) : (s.updCfg f).rpmRfm = s.rpmRfm := rfl
@[simp] theorem State.updCfg_sgt (s : State) (f : Cfg → Cfg) : (s.updCfg f).sgt = s.sgt := rfl
@[simp] theorem State.updCfg_ecc (s : State) (f : Cfg → Cfg) : (s.updCfg f).ecc = s.ecc := rfl
@[simp] theorem State.updCfg_bwr (s : State) (f : Cfg → Cfg) : (s.updCfg f).bwr = s.bwr := rfl
@[simp] theorem State.updCfg_dti (s : State) (f : Cfg → Cfg) : (s.updCfg f).dti = s.dti := rfl
@[simp] theorem State.updCfg_cph (s : State) (f : Cfg → Cfg) : (s.updCfg f).cph = s.cph := rfl
@[simp] theorem State.updCfg_engines (s : State) (f : Cfg → Cfg) : (s.updCfg f).engines = s.engines := rfl
@[simp] theorem State.updCfg_sua (s : State) (f : Cfg → Cfg) : (s.updCfg f).sua = s.sua := rfl
@[simp] theorem State.updCfg_dre (s : State) (f : Cfg → Cfg) : (s.updCfg f).dre = s.dre := rfl
@[simp] theorem State.updCfg_pins (s : State) (f : Cfg → Cfg) : (s.updCfg f).pins = s.pins := rfl
@[simp] theorem State.updCfg_mem (s : State) (f : Cfg → Cfg) : (s.updCfg f).mem = s.mem := rfl
@[simp] theorem State.updCfg_poison (s : State) (f : Cfg → Cfg) : (s.updCfg f).poison = s.poison := rfl
@[simp] theorem State.updCfg_cfg (s : State) (f : Cfg → Cfg) : (s.updCfg f).cfg = f s.cfg := rfl
@[simp] theorem State.updTel_pending (s : State) (f : Tel → Tel) : (s.updTel f).pending = s.pending := rfl
@[simp] theorem State.updTel_chron (s : State) (f : Tel → Tel) : (s.updTel f).chron = s.chron := rfl
@[simp] theorem State.updTel_evts (s : State) (f : Tel → Tel) : (s.updTel f).evts = s.evts := rfl
@[simp] theorem State.updTel_logq (s : State) (f : Tel → Tel) : (s.updTel f).logq = s.logq := rfl
@[simp] theorem State.updTel_testCtl (s : State) (f : Tel → Tel) : (s.updTel f).testCtl = s.testCtl := rfl
@[simp] theorem State.updTel_freeCtr (s : State) (f : Tel → Tel) : (s.updTel f).freeCtr = s.freeCtr := rfl
@[simp] theorem State.updTel_regs (s : State) (f : Tel → Tel) : (s.updTel f).regs = s.regs := rfl
@[simp] theorem State.updTel_sts (s : State) (f : Tel → Tel) : (s.updTel f).sts = s.sts := rfl
@[simp] theorem State.updTel_cfg (s : State) (f : Tel → Tel) : (s.updTel f).cfg = s.cfg := rfl
@[simp] theorem State.updTel_ports (s : State) (f : Tel → Tel) : (s.updTel f).ports = s.ports := rfl
@[simp] theorem State.updTel_guards (s : State) (f : Tel → Tel) : (s.updTel f).guards = s.guards := rfl
@[simp] theorem State.updTel_atu (s : State) (f : Tel → Tel) : (s.updTel f).atu = s.atu := rfl
@[simp] theorem State.updTel_map (s : State) (f : Tel → Tel) : (s.updTel f).map = s.map := rfl
@[simp] theorem State.updTel_plg (s : State) (f : Tel → Tel) : (s.updTel f).plg = s.plg := rfl
@[simp] theorem State.updTel_twn (s : State) (f : Tel → Tel) : (s.updTel f).twn = s.twn := rfl
@[simp] theorem State.updTel_vlt (s : State) (f : Tel → Tel) : (s.updTel f).vlt = s.vlt := rfl
@[simp] theorem State.updTel_subs (s : State) (f : Tel → Tel) : (s.updTel f).subs = s.subs := rfl
@[simp] theorem State.updTel_rpm (s : State) (f : Tel → Tel) : (s.updTel f).rpm = s.rpm := rfl
@[simp] theorem State.updTel_thermal (s : State) (f : Tel → Tel) : (s.updTel f).thermal = s.thermal := rfl
@[simp] theorem State.updTel_rpmTrig (s : State) (f : Tel → Tel) : (s.updTel f).rpmTrig = s.rpmTrig := rfl
@[simp] theorem State.updTel_rpmRfm (s : State) (f : Tel → Tel) : (s.updTel f).rpmRfm = s.rpmRfm := rfl
@[simp] theorem State.updTel_sgt (s : State) (f : Tel → Tel) : (s.updTel f).sgt = s.sgt := rfl
@[simp] theorem State.updTel_ecc (s : State) (f : Tel → Tel) : (s.updTel f).ecc = s.ecc := rfl
@[simp] theorem State.updTel_bwr (s : State) (f : Tel → Tel) : (s.updTel f).bwr = s.bwr := rfl
@[simp] theorem State.updTel_dti (s : State) (f : Tel → Tel) : (s.updTel f).dti = s.dti := rfl
@[simp] theorem State.updTel_cph (s : State) (f : Tel → Tel) : (s.updTel f).cph = s.cph := rfl
@[simp] theorem State.updTel_engines (s : State) (f : Tel → Tel) : (s.updTel f).engines = s.engines := rfl
@[simp] theorem State.updTel_sua (s : State) (f : Tel → Tel) : (s.updTel f).sua = s.sua := rfl
@[simp] theorem State.updTel_dre (s : State) (f : Tel → Tel) : (s.updTel f).dre = s.dre := rfl
@[simp] theorem State.updTel_pins (s : State) (f : Tel → Tel) : (s.updTel f).pins = s.pins := rfl
@[simp] theorem State.updTel_mem (s : State) (f : Tel → Tel) : (s.updTel f).mem = s.mem := rfl
@[simp] theorem State.updTel_poison (s : State) (f : Tel → Tel) : (s.updTel f).poison = s.poison := rfl
@[simp] theorem State.updTel_tel (s : State) (f : Tel → Tel) : (s.updTel f).tel = f s.tel := rfl
@[simp] theorem State.updAtu_pending (s : State) (f : Atu → Atu) : (s.updAtu f).pending = s.pending := rfl
@[simp] theorem State.updAtu_chron (s : State) (f : Atu → Atu) : (s.updAtu f).chron = s.chron := rfl
@[simp] theorem State.updAtu_evts (s : State) (f : Atu → Atu) : (s.updAtu f).evts = s.evts := rfl
@[simp] theorem State.updAtu_logq (s : State) (f : Atu → Atu) : (s.updAtu f).logq = s.logq := rfl
@[simp] theorem State.updAtu_testCtl (s : State) (f : Atu → Atu) : (s.updAtu f).testCtl = s.testCtl := rfl
@[simp] theorem State.updAtu_freeCtr (s : State) (f : Atu → Atu) : (s.updAtu f).freeCtr = s.freeCtr := rfl
@[simp] theorem State.updAtu_regs (s : State) (f : Atu → Atu) : (s.updAtu f).regs = s.regs := rfl
@[simp] theorem State.updAtu_sts (s : State) (f : Atu → Atu) : (s.updAtu f).sts = s.sts := rfl
@[simp] theorem State.updAtu_cfg (s : State) (f : Atu → Atu) : (s.updAtu f).cfg = s.cfg := rfl
@[simp] theorem State.updAtu_tel (s : State) (f : Atu → Atu) : (s.updAtu f).tel = s.tel := rfl
@[simp] theorem State.updAtu_ports (s : State) (f : Atu → Atu) : (s.updAtu f).ports = s.ports := rfl
@[simp] theorem State.updAtu_guards (s : State) (f : Atu → Atu) : (s.updAtu f).guards = s.guards := rfl
@[simp] theorem State.updAtu_map (s : State) (f : Atu → Atu) : (s.updAtu f).map = s.map := rfl
@[simp] theorem State.updAtu_plg (s : State) (f : Atu → Atu) : (s.updAtu f).plg = s.plg := rfl
@[simp] theorem State.updAtu_twn (s : State) (f : Atu → Atu) : (s.updAtu f).twn = s.twn := rfl
@[simp] theorem State.updAtu_vlt (s : State) (f : Atu → Atu) : (s.updAtu f).vlt = s.vlt := rfl
@[simp] theorem State.updAtu_subs (s : State) (f : Atu → Atu) : (s.updAtu f).subs = s.subs := rfl
@[simp] theorem State.updAtu_rpm (s : State) (f : Atu → Atu) : (s.updAtu f).rpm = s.rpm := rfl
@[simp] theorem State.updAtu_thermal (s : State) (f : Atu → Atu) : (s.updAtu f).thermal = s.thermal := rfl
@[simp] theorem State.updAtu_rpmTrig (s : State) (f : Atu → Atu) : (s.updAtu f).rpmTrig = s.rpmTrig := rfl
@[simp] theorem State.updAtu_rpmRfm (s : State) (f : Atu → Atu) : (s.updAtu f).rpmRfm = s.rpmRfm := rfl
@[simp] theorem State.updAtu_sgt (s : State) (f : Atu → Atu) : (s.updAtu f).sgt = s.sgt := rfl
@[simp] theorem State.updAtu_ecc (s : State) (f : Atu → Atu) : (s.updAtu f).ecc = s.ecc := rfl
@[simp] theorem State.updAtu_bwr (s : State) (f : Atu → Atu) : (s.updAtu f).bwr = s.bwr := rfl
@[simp] theorem State.updAtu_dti (s : State) (f : Atu → Atu) : (s.updAtu f).dti = s.dti := rfl
@[simp] theorem State.updAtu_cph (s : State) (f : Atu → Atu) : (s.updAtu f).cph = s.cph := rfl
@[simp] theorem State.updAtu_engines (s : State) (f : Atu → Atu) : (s.updAtu f).engines = s.engines := rfl
@[simp] theorem State.updAtu_sua (s : State) (f : Atu → Atu) : (s.updAtu f).sua = s.sua := rfl
@[simp] theorem State.updAtu_dre (s : State) (f : Atu → Atu) : (s.updAtu f).dre = s.dre := rfl
@[simp] theorem State.updAtu_pins (s : State) (f : Atu → Atu) : (s.updAtu f).pins = s.pins := rfl
@[simp] theorem State.updAtu_mem (s : State) (f : Atu → Atu) : (s.updAtu f).mem = s.mem := rfl
@[simp] theorem State.updAtu_poison (s : State) (f : Atu → Atu) : (s.updAtu f).poison = s.poison := rfl
@[simp] theorem State.updAtu_atu (s : State) (f : Atu → Atu) : (s.updAtu f).atu = f s.atu := rfl
@[simp] theorem State.updMap_pending (s : State) (f : MapState → MapState) : (s.updMap f).pending = s.pending := rfl
@[simp] theorem State.updMap_chron (s : State) (f : MapState → MapState) : (s.updMap f).chron = s.chron := rfl
@[simp] theorem State.updMap_evts (s : State) (f : MapState → MapState) : (s.updMap f).evts = s.evts := rfl
@[simp] theorem State.updMap_logq (s : State) (f : MapState → MapState) : (s.updMap f).logq = s.logq := rfl
@[simp] theorem State.updMap_testCtl (s : State) (f : MapState → MapState) : (s.updMap f).testCtl = s.testCtl := rfl
@[simp] theorem State.updMap_freeCtr (s : State) (f : MapState → MapState) : (s.updMap f).freeCtr = s.freeCtr := rfl
@[simp] theorem State.updMap_regs (s : State) (f : MapState → MapState) : (s.updMap f).regs = s.regs := rfl
@[simp] theorem State.updMap_sts (s : State) (f : MapState → MapState) : (s.updMap f).sts = s.sts := rfl
@[simp] theorem State.updMap_cfg (s : State) (f : MapState → MapState) : (s.updMap f).cfg = s.cfg := rfl
@[simp] theorem State.updMap_tel (s : State) (f : MapState → MapState) : (s.updMap f).tel = s.tel := rfl
@[simp] theorem State.updMap_ports (s : State) (f : MapState → MapState) : (s.updMap f).ports = s.ports := rfl
@[simp] theorem State.updMap_guards (s : State) (f : MapState → MapState) : (s.updMap f).guards = s.guards := rfl
@[simp] theorem State.updMap_atu (s : State) (f : MapState → MapState) : (s.updMap f).atu = s.atu := rfl
@[simp] theorem State.updMap_plg (s : State) (f : MapState → MapState) : (s.updMap f).plg = s.plg := rfl
@[simp] theorem State.updMap_twn (s : State) (f : MapState → MapState) : (s.updMap f).twn = s.twn := rfl
@[simp] theorem State.updMap_vlt (s : State) (f : MapState → MapState) : (s.updMap f).vlt = s.vlt := rfl
@[simp] theorem State.updMap_subs (s : State) (f : MapState → MapState) : (s.updMap f).subs = s.subs := rfl
@[simp] theorem State.updMap_rpm (s : State) (f : MapState → MapState) : (s.updMap f).rpm = s.rpm := rfl
@[simp] theorem State.updMap_thermal (s : State) (f : MapState → MapState) : (s.updMap f).thermal = s.thermal := rfl
@[simp] theorem State.updMap_rpmTrig (s : State) (f : MapState → MapState) : (s.updMap f).rpmTrig = s.rpmTrig := rfl
@[simp] theorem State.updMap_rpmRfm (s : State) (f : MapState → MapState) : (s.updMap f).rpmRfm = s.rpmRfm := rfl
@[simp] theorem State.updMap_sgt (s : State) (f : MapState → MapState) : (s.updMap f).sgt = s.sgt := rfl
@[simp] theorem State.updMap_ecc (s : State) (f : MapState → MapState) : (s.updMap f).ecc = s.ecc := rfl
@[simp] theorem State.updMap_bwr (s : State) (f : MapState → MapState) : (s.updMap f).bwr = s.bwr := rfl
@[simp] theorem State.updMap_dti (s : State) (f : MapState → MapState) : (s.updMap f).dti = s.dti := rfl
@[simp] theorem State.updMap_cph (s : State) (f : MapState → MapState) : (s.updMap f).cph = s.cph := rfl
@[simp] theorem State.updMap_engines (s : State) (f : MapState → MapState) : (s.updMap f).engines = s.engines := rfl
@[simp] theorem State.updMap_sua (s : State) (f : MapState → MapState) : (s.updMap f).sua = s.sua := rfl
@[simp] theorem State.updMap_dre (s : State) (f : MapState → MapState) : (s.updMap f).dre = s.dre := rfl
@[simp] theorem State.updMap_pins (s : State) (f : MapState → MapState) : (s.updMap f).pins = s.pins := rfl
@[simp] theorem State.updMap_mem (s : State) (f : MapState → MapState) : (s.updMap f).mem = s.mem := rfl
@[simp] theorem State.updMap_poison (s : State) (f : MapState → MapState) : (s.updMap f).poison = s.poison := rfl
@[simp] theorem State.updMap_map (s : State) (f : MapState → MapState) : (s.updMap f).map = f s.map := rfl
@[simp] theorem State.updPlg_pending (s : State) (f : Plg → Plg) : (s.updPlg f).pending = s.pending := rfl
@[simp] theorem State.updPlg_chron (s : State) (f : Plg → Plg) : (s.updPlg f).chron = s.chron := rfl
@[simp] theorem State.updPlg_evts (s : State) (f : Plg → Plg) : (s.updPlg f).evts = s.evts := rfl
@[simp] theorem State.updPlg_logq (s : State) (f : Plg → Plg) : (s.updPlg f).logq = s.logq := rfl
@[simp] theorem State.updPlg_testCtl (s : State) (f : Plg → Plg) : (s.updPlg f).testCtl = s.testCtl := rfl
@[simp] theorem State.updPlg_freeCtr (s : State) (f : Plg → Plg) : (s.updPlg f).freeCtr = s.freeCtr := rfl
@[simp] theorem State.updPlg_regs (s : State) (f : Plg → Plg) : (s.updPlg f).regs = s.regs := rfl
@[simp] theorem State.updPlg_sts (s : State) (f : Plg → Plg) : (s.updPlg f).sts = s.sts := rfl
@[simp] theorem State.updPlg_cfg (s : State) (f : Plg → Plg) : (s.updPlg f).cfg = s.cfg := rfl
@[simp] theorem State.updPlg_tel (s : State) (f : Plg → Plg) : (s.updPlg f).tel = s.tel := rfl
@[simp] theorem State.updPlg_ports (s : State) (f : Plg → Plg) : (s.updPlg f).ports = s.ports := rfl
@[simp] theorem State.updPlg_guards (s : State) (f : Plg → Plg) : (s.updPlg f).guards = s.guards := rfl
@[simp] theorem State.updPlg_atu (s : State) (f : Plg → Plg) : (s.updPlg f).atu = s.atu := rfl
@[simp] theorem State.updPlg_map (s : State) (f : Plg → Plg) : (s.updPlg f).map = s.map := rfl
@[simp] theorem State.updPlg_twn (s : State) (f : Plg → Plg) : (s.updPlg f).twn = s.twn := rfl
@[simp] theorem State.updPlg_vlt (s : State) (f : Plg → Plg) : (s.updPlg f).vlt = s.vlt := rfl
@[simp] theorem State.updPlg_subs (s : State) (f : Plg → Plg) : (s.updPlg f).subs = s.subs := rfl
@[simp] theorem State.updPlg_rpm (s : State) (f : Plg → Plg) : (s.updPlg f).rpm = s.rpm := rfl
@[simp] theorem State.updPlg_thermal (s : State) (f : Plg → Plg) : (s.updPlg f).thermal = s.thermal := rfl
@[simp] theorem State.updPlg_rpmTrig (s : State) (f : Plg → Plg) : (s.updPlg f).rpmTrig = s.rpmTrig := rfl
@[simp] theorem State.updPlg_rpmRfm (s : State) (f : Plg → Plg) : (s.updPlg f).rpmRfm = s.rpmRfm := rfl
@[simp] theorem State.updPlg_sgt (s : State) (f : Plg → Plg) : (s.updPlg f).sgt = s.sgt := rfl
@[simp] theorem State.updPlg_ecc (s : State) (f : Plg → Plg) : (s.updPlg f).ecc = s.ecc := rfl
@[simp] theorem State.updPlg_bwr (s : State) (f : Plg → Plg) : (s.updPlg f).bwr = s.bwr := rfl
@[simp] theorem State.updPlg_dti (s : State) (f : Plg → Plg) : (s.updPlg f).dti = s.dti := rfl
@[simp] theorem State.updPlg_cph (s : State) (f : Plg → Plg) : (s.updPlg f).cph = s.cph := rfl
@[simp] theorem State.updPlg_engines (s : State) (f : Plg → Plg) : (s.updPlg f).engines = s.engines := rfl
@[simp] theorem State.updPlg_sua (s : State) (f : Plg → Plg) : (s.updPlg f).sua = s.sua := rfl
@[simp] theorem State.updPlg_dre (s : State) (f : Plg → Plg) : (s.updPlg f).dre = s.dre := rfl
@[simp] theorem State.updPlg_pins (s : State) (f : Plg → Plg) : (s.updPlg f).pins = s.pins := rfl
@[simp] theorem State.updPlg_mem (s : State) (f : Plg → Plg) : (s.updPlg f).mem = s.mem := rfl
@[simp] theorem State.updPlg_poison (s : State) (f : Plg → Plg) : (s.updPlg f).poison = s.poison := rfl
@[simp] theorem State.updPlg_plg (s : State) (f : Plg → Plg) : (s.updPlg f).plg = f s.plg := rfl
@[simp] theorem State.updTwn_pending (s : State) (f : Twn → Twn) : (s.updTwn f).pending = s.pending := rfl
@[simp] theorem State.updTwn_chron (s : State) (f : Twn → Twn) : (s.updTwn f).chron = s.chron := rfl
@[simp] theorem State.updTwn_evts (s : State) (f : Twn → Twn) : (s.updTwn f).evts = s.evts := rfl
@[simp] theorem State.updTwn_logq (s : State) (f : Twn → Twn) : (s.updTwn f).logq = s.logq := rfl
@[simp] theorem State.updTwn_testCtl (s : State) (f : Twn → Twn) : (s.updTwn f).testCtl = s.testCtl := rfl
@[simp] theorem State.updTwn_freeCtr (s : State) (f : Twn → Twn) : (s.updTwn f).freeCtr = s.freeCtr := rfl
@[simp] theorem State.updTwn_regs (s : State) (f : Twn → Twn) : (s.updTwn f).regs = s.regs := rfl
@[simp] theorem State.updTwn_sts (s : State) (f : Twn → Twn) : (s.updTwn f).sts = s.sts := rfl
@[simp] theorem State.updTwn_cfg (s : State) (f : Twn → Twn) : (s.updTwn f).cfg = s.cfg := rfl
@[simp] theorem State.updTwn_tel (s : State) (f : Twn → Twn) : (s.updTwn f).tel = s.tel := rfl
@[simp] theorem State.updTwn_ports (s : State) (f : Twn → Twn) : (s.updTwn f).ports = s.ports := rfl
@[simp] theorem State.updTwn_guards (s : State) (f : Twn → Twn) : (s.updTwn f).guards = s.guards := rfl
@[simp] theorem State.updTwn_atu (s : State) (f : Twn → Twn) : (s.updTwn f).atu = s.atu := rfl
@[simp] theorem State.updTwn_map (s : State) (f : Twn → Twn) : (s.updTwn f).map = s.map := rfl
@[simp] theorem State.updTwn_plg (s : State) (f : Twn → Twn) : (s.updTwn f).plg = s.plg := rfl
@[simp] theorem State.updTwn_vlt (s : State) (f : Twn → Twn) : (s.updTwn f).vlt = s.vlt := rfl
@[simp] theorem State.updTwn_subs (s : State) (f : Twn → Twn) : (s.updTwn f).subs = s.subs := rfl
@[simp] theorem State.updTwn_rpm (s : State) (f : Twn → Twn) : (s.updTwn f).rpm = s.rpm := rfl
@[simp] theorem State.updTwn_thermal (s : State) (f : Twn → Twn) : (s.updTwn f).thermal = s.thermal := rfl
@[simp] theorem State.updTwn_rpmTrig (s : State) (f : Twn → Twn) : (s.updTwn f).rpmTrig = s.rpmTrig := rfl
@[simp] theorem State.updTwn_rpmRfm (s : State) (f : Twn → Twn) : (s.updTwn f).rpmRfm = s.rpmRfm := rfl
@[simp] theorem State.updTwn_sgt (s : State) (f : Twn → Twn) : (s.updTwn f).sgt = s.sgt := rfl
@[simp] theorem State.updTwn_ecc (s : State) (f : Twn → Twn) : (s.updTwn f).ecc = s.ecc := rfl
@[simp] theorem State.updTwn_bwr (s : State) (f : Twn → Twn) : (s.updTwn f).bwr = s.bwr := rfl
@[simp] theorem State.updTwn_dti (s : State) (f : Twn → Twn) : (s.updTwn f).dti = s.dti := rfl
@[simp] theorem State.updTwn_cph (s : State) (f : Twn → Twn) : (s.updTwn f).cph = s.cph := rfl
@[simp] theorem State.updTwn_engines (s : State) (f : Twn → Twn) : (s.updTwn f).engines = s.engines := rfl
@[simp] theorem State.updTwn_sua (s : State) (f : Twn → Twn) : (s.updTwn f).sua = s.sua := rfl
@[simp] theorem State.updTwn_dre (s : State) (f : Twn → Twn) : (s.updTwn f).dre = s.dre := rfl
@[simp] theorem State.updTwn_pins (s : State) (f : Twn → Twn) : (s.updTwn f).pins = s.pins := rfl
@[simp] theorem State.updTwn_mem (s : State) (f : Twn → Twn) : (s.updTwn f).mem = s.mem := rfl
@[simp] theorem State.updTwn_poison (s : State) (f : Twn → Twn) : (s.updTwn f).poison = s.poison := rfl
@[simp] theorem State.updTwn_twn (s : State) (f : Twn → Twn) : (s.updTwn f).twn = f s.twn := rfl
@[simp] theorem State.updVlt_pending (s : State) (f : Vlt → Vlt) : (s.updVlt f).pending = s.pending := rfl
@[simp] theorem State.updVlt_chron (s : State) (f : Vlt → Vlt) : (s.updVlt f).chron = s.chron := rfl
@[simp] theorem State.updVlt_evts (s : State) (f : Vlt → Vlt) : (s.updVlt f).evts = s.evts := rfl
@[simp] theorem State.updVlt_logq (s : State) (f : Vlt → Vlt) : (s.updVlt f).logq = s.logq := rfl
@[simp] theorem State.updVlt_testCtl (s : State) (f : Vlt → Vlt) : (s.updVlt f).testCtl = s.testCtl := rfl
@[simp] theorem State.updVlt_freeCtr (s : State) (f : Vlt → Vlt) : (s.updVlt f).freeCtr = s.freeCtr := rfl
@[simp] theorem State.updVlt_regs (s : State) (f : Vlt → Vlt) : (s.updVlt f).regs = s.regs := rfl
@[simp] theorem State.updVlt_sts (s : State) (f : Vlt → Vlt) : (s.updVlt f).sts = s.sts := rfl
@[simp] theorem State.updVlt_cfg (s : State) (f : Vlt → Vlt) : (s.updVlt f).cfg = s.cfg := rfl
@[simp] theorem State.updVlt_tel (s : State) (f : Vlt → Vlt) : (s.updVlt f).tel = s.tel := rfl
@[simp] theorem State.updVlt_ports (s : State) (f : Vlt → Vlt) : (s.updVlt f).ports = s.ports := rfl
@[simp] theorem State.updVlt_guards (s : State) (f : Vlt → Vlt) : (s.updVlt f).guards = s.guards := rfl
@[simp] theorem State.updVlt_atu (s : State) (f : Vlt → Vlt) : (s.updVlt f).atu = s.atu := rfl
@[simp] theorem State.updVlt_map (s : State) (f : Vlt → Vlt) : (s.updVlt f).map = s.map := rfl
@[simp] theorem State.updVlt_plg (s : State) (f : Vlt → Vlt) : (s.updVlt f).plg = s.plg := rfl
@[simp] theorem State.updVlt_twn (s : State) (f : Vlt → Vlt) : (s.updVlt f).twn = s.twn := rfl
@[simp] theorem State.updVlt_subs (s : State) (f : Vlt → Vlt) : (s.updVlt f).subs = s.subs := rfl
@[simp] theorem State.updVlt_rpm (s : State) (f : Vlt → Vlt) : (s.updVlt f).rpm = s.rpm := rfl
@[simp] theorem State.updVlt_thermal (s : State) (f : Vlt → Vlt) : (s.updVlt f).thermal = s.thermal := rfl
@[simp] theorem State.updVlt_rpmTrig (s : State) (f : Vlt → Vlt) : (s.updVlt f).rpmTrig = s.rpmTrig := rfl
@[simp] theorem State.updVlt_rpmRfm (s : State) (f : Vlt → Vlt) : (s.updVlt f).rpmRfm = s.rpmRfm := rfl
@[simp] theorem State.updVlt_sgt (s : State) (f : Vlt → Vlt) : (s.updVlt f).sgt = s.sgt := rfl
@[simp] theorem State.updVlt_ecc (s : State) (f : Vlt → Vlt) : (s.updVlt f).ecc = s.ecc := rfl
@[simp] theorem State.updVlt_bwr (s : State) (f : Vlt → Vlt) : (s.updVlt f).bwr = s.bwr := rfl
@[simp] theorem State.updVlt_dti (s : State) (f : Vlt → Vlt) : (s.updVlt f).dti = s.dti := rfl
@[simp] theorem State.updVlt_cph (s : State) (f : Vlt → Vlt) : (s.updVlt f).cph = s.cph := rfl
@[simp] theorem State.updVlt_engines (s : State) (f : Vlt → Vlt) : (s.updVlt f).engines = s.engines := rfl
@[simp] theorem State.updVlt_sua (s : State) (f : Vlt → Vlt) : (s.updVlt f).sua = s.sua := rfl
@[simp] theorem State.updVlt_dre (s : State) (f : Vlt → Vlt) : (s.updVlt f).dre = s.dre := rfl
@[simp] theorem State.updVlt_pins (s : State) (f : Vlt → Vlt) : (s.updVlt f).pins = s.pins := rfl
@[simp] theorem State.updVlt_mem (s : State) (f : Vlt → Vlt) : (s.updVlt f).mem = s.mem := rfl
@[simp] theorem State.updVlt_poison (s : State) (f : Vlt → Vlt) : (s.updVlt f).poison = s.poison := rfl
@[simp] theorem State.updVlt_vlt (s : State) (f : Vlt → Vlt) : (s.updVlt f).vlt = f s.vlt := rfl
@[simp] theorem State.updSgt_pending (s : State) (f : Sgt → Sgt) : (s.updSgt f).pending = s.pending := rfl
@[simp] theorem State.updSgt_chron (s : State) (f : Sgt → Sgt) : (s.updSgt f).chron = s.chron := rfl
@[simp] theorem State.updSgt_evts (s : State) (f : Sgt → Sgt) : (s.updSgt f).evts = s.evts := rfl
@[simp] theorem State.updSgt_logq (s : State) (f : Sgt → Sgt) : (s.updSgt f).logq = s.logq := rfl
@[simp] theorem State.updSgt_testCtl (s : State) (f : Sgt → Sgt) : (s.updSgt f).testCtl = s.testCtl := rfl
@[simp] theorem State.updSgt_freeCtr (s : State) (f : Sgt → Sgt) : (s.updSgt f).freeCtr = s.freeCtr := rfl
@[simp] theorem State.updSgt_regs (s : State) (f : Sgt → Sgt) : (s.updSgt f).regs = s.regs := rfl
@[simp] theorem State.updSgt_sts (s : State) (f : Sgt → Sgt) : (s.updSgt f).sts = s.sts := rfl
@[simp] theorem State.updSgt_cfg (s : State) (f : Sgt → Sgt) : (s.updSgt f).cfg = s.cfg := rfl
@[simp] theorem State.updSgt_tel (s : State) (f : Sgt → Sgt) : (s.updSgt f).tel = s.tel := rfl
@[simp] theorem State.updSgt_ports (s : State) (f : Sgt → Sgt) : (s.updSgt f).ports = s.ports := rfl
@[simp] theorem State.updSgt_guards (s : State) (f : Sgt → Sgt) : (s.updSgt f).guards = s.guards := rfl
@[simp] theorem State.updSgt_atu (s : State) (f : Sgt → Sgt) : (s.updSgt f).atu = s.atu := rfl
@[simp] theorem State.updSgt_map (s : State) (f : Sgt → Sgt) : (s.updSgt f).map = s.map := rfl
@[simp] theorem State.updSgt_plg (s : State) (f : Sgt → Sgt) : (s.updSgt f).plg = s.plg := rfl
@[simp] theorem State.updSgt_twn (s : State) (f : Sgt → Sgt) : (s.updSgt f).twn = s.twn := rfl
@[simp] theorem State.updSgt_vlt (s : State) (f : Sgt → Sgt) : (s.updSgt f).vlt = s.vlt := rfl
@[simp] theorem State.updSgt_subs (s : State) (f : Sgt → Sgt) : (s.updSgt f).subs = s.subs := rfl
@[simp] theorem State.updSgt_rpm (s : State) (f : Sgt → Sgt) : (s.updSgt f).rpm = s.rpm := rfl
@[simp] theorem State.updSgt_thermal (s : State) (f : Sgt → Sgt) : (s.updSgt f).thermal = s.thermal := rfl
@[simp] theorem State.updSgt_rpmTrig (s : State) (f : Sgt → Sgt) : (s.updSgt f).rpmTrig = s.rpmTrig := rfl
@[simp] theorem State.updSgt_rpmRfm (s : State) (f : Sgt → Sgt) : (s.updSgt f).rpmRfm = s.rpmRfm := rfl
@[simp] theorem State.updSgt_ecc (s : State) (f : Sgt → Sgt) : (s.updSgt f).ecc = s.ecc := rfl
@[simp] theorem State.updSgt_bwr (s : State) (f : Sgt → Sgt) : (s.updSgt f).bwr = s.bwr := rfl
@[simp] theorem State.updSgt_dti (s : State) (f : Sgt → Sgt) : (s.updSgt f).dti = s.dti := rfl
@[simp] theorem State.updSgt_cph (s : State) (f : Sgt → Sgt) : (s.updSgt f).cph = s.cph := rfl
@[simp] theorem State.updSgt_engines (s : State) (f : Sgt → Sgt) : (s.updSgt f).engines = s.engines := rfl
@[simp] theorem State.updSgt_sua (s : State) (f : Sgt → Sgt) : (s.updSgt f).sua = s.sua := rfl
@[simp] theorem State.updSgt_dre (s : State) (f : Sgt → Sgt) : (s.updSgt f).dre = s.dre := rfl
@[simp] theorem State.updSgt_pins (s : State) (f : Sgt → Sgt) : (s.updSgt f).pins = s.pins := rfl
@[simp] theorem State.updSgt_mem (s : State) (f : Sgt → Sgt) : (s.updSgt f).mem = s.mem := rfl
@[simp] theorem State.updSgt_poison (s : State) (f : Sgt → Sgt) : (s.updSgt f).poison = s.poison := rfl
@[simp] theorem State.updSgt_sgt (s : State) (f : Sgt → Sgt) : (s.updSgt f).sgt = f s.sgt := rfl
@[simp] theorem State.updEcc_pending (s : State) (f : Ecc → Ecc) : (s.updEcc f).pending = s.pending := rfl
@[simp] theorem State.updEcc_chron (s : State) (f : Ecc → Ecc) : (s.updEcc f).chron = s.chron := rfl
@[simp] theorem State.updEcc_evts (s : State) (f : Ecc → Ecc) : (s.updEcc f).evts = s.evts := rfl
@[simp] theorem State.updEcc_logq (s : State) (f : Ecc → Ecc) : (s.updEcc f).logq = s.logq := rfl
@[simp] theorem State.updEcc_testCtl (s : State) (f : Ecc → Ecc) : (s.updEcc f).testCtl = s.testCtl := rfl
@[simp] theorem State.updEcc_freeCtr (s : State) (f : Ecc → Ecc) : (s.updEcc f).freeCtr = s.freeCtr := rfl
@[simp] theorem State.updEcc_regs (s : State) (f : Ecc → Ecc) : (s.updEcc f).regs = s.regs := rfl
@[simp] theorem State.updEcc_sts (s : State) (f : Ecc → Ecc) : (s.updEcc f).sts = s.sts := rfl
@[simp] theorem State.updEcc_cfg (s : State) (f : Ecc → Ecc) : (s.updEcc f).cfg = s.cfg := rfl
@[simp] theorem State.updEcc_tel (s : State) (f : Ecc → Ecc) : (s.updEcc f).tel = s.tel := rfl
@[simp] theorem State.updEcc_ports (s : State) (f : Ecc → Ecc) : (s.updEcc f).ports = s.ports := rfl
@[simp] theorem State.updEcc_guards (s : State) (f : Ecc → Ecc) : (s.updEcc f).guards = s.guards := rfl
@[simp] theorem State.updEcc_atu (s : State) (f : Ecc → Ecc) : (s.updEcc f).atu = s.atu := rfl
@[simp] theorem State.updEcc_map (s : State) (f : Ecc → Ecc) : (s.updEcc f).map = s.map := rfl
@[simp] theorem State.updEcc_plg (s : State) (f : Ecc → Ecc) : (s.updEcc f).plg = s.plg := rfl
@[simp] theorem State.updEcc_twn (s : State) (f : Ecc → Ecc) : (s.updEcc f).twn = s.twn := rfl
@[simp] theorem State.updEcc_vlt (s : State) (f : Ecc → Ecc) : (s.updEcc f).vlt = s.vlt := rfl
@[simp] theorem State.updEcc_subs (s : State) (f : Ecc → Ecc) : (s.updEcc f).subs = s.subs := rfl
@[simp] theorem State.updEcc_rpm (s : State) (f : Ecc → Ecc) : (s.updEcc f).rpm = s.rpm := rfl
@[simp] theorem State.updEcc_thermal (s : State) (f : Ecc → Ecc) : (s.updEcc f).thermal = s.thermal := rfl
@[simp] theorem State.updEcc_rpmTrig (s : State) (f : Ecc → Ecc) : (s.updEcc f).rpmTrig = s.rpmTrig := rfl
@[simp] theorem State.updEcc_rpmRfm (s : State) (f : Ecc → Ecc) : (s.updEcc f).rpmRfm = s.rpmRfm := rfl
@[simp] theorem State.updEcc_sgt (s : State) (f : Ecc → Ecc) : (s.updEcc f).sgt = s.sgt := rfl
@[simp] theorem State.updEcc_bwr (s : State) (f : Ecc → Ecc) : (s.updEcc f).bwr = s.bwr := rfl
@[simp] theorem State.updEcc_dti (s : State) (f : Ecc → Ecc) : (s.updEcc f).dti = s.dti := rfl
@[simp] theorem State.updEcc_cph (s : State) (f : Ecc → Ecc) : (s.updEcc f).cph = s.cph := rfl
@[simp] theorem State.updEcc_engines (s : State) (f : Ecc → Ecc) : (s.updEcc f).engines = s.engines := rfl
@[simp] theorem State.updEcc_sua (s : State) (f : Ecc → Ecc) : (s.updEcc f).sua = s.sua := rfl
@[simp] theorem State.updEcc_dre (s : State) (f : Ecc → Ecc) : (s.updEcc f).dre = s.dre := rfl
@[simp] theorem State.updEcc_pins (s : State) (f : Ecc → Ecc) : (s.updEcc f).pins = s.pins := rfl
@[simp] theorem State.updEcc_mem (s : State) (f : Ecc → Ecc) : (s.updEcc f).mem = s.mem := rfl
@[simp] theorem State.updEcc_poison (s : State) (f : Ecc → Ecc) : (s.updEcc f).poison = s.poison := rfl
@[simp] theorem State.updEcc_ecc (s : State) (f : Ecc → Ecc) : (s.updEcc f).ecc = f s.ecc := rfl
@[simp] theorem State.updBwr_pending (s : State) (f : Bwr → Bwr) : (s.updBwr f).pending = s.pending := rfl
@[simp] theorem State.updBwr_chron (s : State) (f : Bwr → Bwr) : (s.updBwr f).chron = s.chron := rfl
@[simp] theorem State.updBwr_evts (s : State) (f : Bwr → Bwr) : (s.updBwr f).evts = s.evts := rfl
@[simp] theorem State.updBwr_logq (s : State) (f : Bwr → Bwr) : (s.updBwr f).logq = s.logq := rfl
@[simp] theorem State.updBwr_testCtl (s : State) (f : Bwr → Bwr) : (s.updBwr f).testCtl = s.testCtl := rfl
@[simp] theorem State.updBwr_freeCtr (s : State) (f : Bwr → Bwr) : (s.updBwr f).freeCtr = s.freeCtr := rfl
@[simp] theorem State.updBwr_regs (s : State) (f : Bwr → Bwr) : (s.updBwr f).regs = s.regs := rfl
@[simp] theorem State.updBwr_sts (s : State) (f : Bwr → Bwr) : (s.updBwr f).sts = s.sts := rfl
@[simp] theorem State.updBwr_cfg (s : State) (f : Bwr → Bwr) : (s.updBwr f).cfg = s.cfg := rfl
@[simp] theorem State.updBwr_tel (s : State) (f : Bwr → Bwr) : (s.updBwr f).tel = s.tel := rfl
@[simp] theorem State.updBwr_ports (s : State) (f : Bwr → Bwr) : (s.updBwr f).ports = s.ports := rfl
@[simp] theorem State.updBwr_guards (s : State) (f : Bwr → Bwr) : (s.updBwr f).guards = s.guards := rfl
@[simp] theorem State.updBwr_atu (s : State) (f : Bwr → Bwr) : (s.updBwr f).atu = s.atu := rfl
@[simp] theorem State.updBwr_map (s : State) (f : Bwr → Bwr) : (s.updBwr f).map = s.map := rfl
@[simp] theorem State.updBwr_plg (s : State) (f : Bwr → Bwr) : (s.updBwr f).plg = s.plg := rfl
@[simp] theorem State.updBwr_twn (s : State) (f : Bwr → Bwr) : (s.updBwr f).twn = s.twn := rfl
@[simp] theorem State.updBwr_vlt (s : State) (f : Bwr → Bwr) : (s.updBwr f).vlt = s.vlt := rfl
@[simp] theorem State.updBwr_subs (s : State) (f : Bwr → Bwr) : (s.updBwr f).subs = s.subs := rfl
@[simp] theorem State.updBwr_rpm (s : State) (f : Bwr → Bwr) : (s.updBwr f).rpm = s.rpm := rfl
@[simp] theorem State.updBwr_thermal (s : State) (f : Bwr → Bwr) : (s.updBwr f).thermal = s.thermal := rfl
@[simp] theorem State.updBwr_rpmTrig (s : State) (f : Bwr → Bwr) : (s.updBwr f).rpmTrig = s.rpmTrig := rfl
@[simp] theorem State.updBwr_rpmRfm (s : State) (f : Bwr → Bwr) : (s.updBwr f).rpmRfm = s.rpmRfm := rfl
@[simp] theorem State.updBwr_sgt (s : State) (f : Bwr → Bwr) : (s.updBwr f).sgt = s.sgt := rfl
@[simp] theorem State.updBwr_ecc (s : State) (f : Bwr → Bwr) : (s.updBwr f).ecc = s.ecc := rfl
@[simp] theorem State.updBwr_dti (s : State) (f : Bwr → Bwr) : (s.updBwr f).dti = s.dti := rfl
@[simp] theorem State.updBwr_cph (s : State) (f : Bwr → Bwr) : (s.updBwr f).cph = s.cph := rfl
@[simp] theorem State.updBwr_engines (s : State) (f : Bwr → Bwr) : (s.updBwr f).engines = s.engines := rfl
@[simp] theorem State.updBwr_sua (s : State) (f : Bwr → Bwr) : (s.updBwr f).sua = s.sua := rfl
@[simp] theorem State.updBwr_dre (s : State) (f : Bwr → Bwr) : (s.updBwr f).dre = s.dre := rfl
@[simp] theorem State.updBwr_pins (s : State) (f : Bwr → Bwr) : (s.updBwr f).pins = s.pins := rfl
@[simp] theorem State.updBwr_mem (s : State) (f : Bwr → Bwr) : (s.updBwr f).mem = s.mem := rfl
@[simp] theorem State.updBwr_poison (s : State) (f : Bwr → Bwr) : (s.updBwr f).poison = s.poison := rfl
@[simp] theorem State.updBwr_bwr (s : State) (f : Bwr → Bwr) : (s.updBwr f).bwr = f s.bwr := rfl
@[simp] theorem State.updDti_pending (s : State) (f : Dti → Dti) : (s.updDti f).pending = s.pending := rfl
@[simp] theorem State.updDti_chron (s : State) (f : Dti → Dti) : (s.updDti f).chron = s.chron := rfl
@[simp] theorem State.updDti_evts (s : State) (f : Dti → Dti) : (s.updDti f).evts = s.evts := rfl
@[simp] theorem State.updDti_logq (s : State) (f : Dti → Dti) : (s.updDti f).logq = s.logq := rfl
@[simp] theorem State.updDti_testCtl (s : State) (f : Dti → Dti) : (s.updDti f).testCtl = s.testCtl := rfl
@[simp] theorem State.updDti_freeCtr (s : State) (f : Dti → Dti) : (s.updDti f).freeCtr = s.freeCtr := rfl
@[simp] theorem State.updDti_regs (s : State) (f : Dti → Dti) : (s.updDti f).regs = s.regs := rfl
@[simp] theorem State.updDti_sts (s : State) (f : Dti → Dti) : (s.updDti f).sts = s.sts := rfl
@[simp] theorem State.updDti_cfg (s : State) (f : Dti → Dti) : (s.updDti f).cfg = s.cfg := rfl
@[simp] theorem State.updDti_tel (s : State) (f : Dti → Dti) : (s.updDti f).tel = s.tel := rfl
@[simp] theorem State.updDti_ports (s : State) (f : Dti → Dti) : (s.updDti f).ports = s.ports := rfl
@[simp] theorem State.updDti_guards (s : State) (f : Dti → Dti) : (s.updDti f).guards = s.guards := rfl
@[simp] theorem State.updDti_atu (s : State) (f : Dti → Dti) : (s.updDti f).atu = s.atu := rfl
@[simp] theorem State.updDti_map (s : State) (f : Dti → Dti) : (s.updDti f).map = s.map := rfl
@[simp] theorem State.updDti_plg (s : State) (f : Dti → Dti) : (s.updDti f).plg = s.plg := rfl
@[simp] theorem State.updDti_twn (s : State) (f : Dti → Dti) : (s.updDti f).twn = s.twn := rfl
@[simp] theorem State.updDti_vlt (s : State) (f : Dti → Dti) : (s.updDti f).vlt = s.vlt := rfl
@[simp] theorem State.updDti_subs (s : State) (f : Dti → Dti) : (s.updDti f).subs = s.subs := rfl
@[simp] theorem State.updDti_rpm (s : State) (f : Dti → Dti) : (s.updDti f).rpm = s.rpm := rfl
@[simp] theorem State.updDti_thermal (s : State) (f : Dti → Dti) : (s.updDti f).thermal = s.thermal := rfl
@[simp] theorem State.updDti_rpmTrig (s : State) (f : Dti → Dti) : (s.updDti f).rpmTrig = s.rpmTrig := rfl
@[simp] theorem State.updDti_rpmRfm (s : State) (f : Dti → Dti) : (s.updDti f).rpmRfm = s.rpmRfm := rfl
@[simp] theorem State.updDti_sgt (s : State) (f : Dti → Dti) : (s.updDti f).sgt = s.sgt := rfl
@[simp] theorem State.updDti_ecc (s : State) (f : Dti → Dti) : (s.updDti f).ecc = s.ecc := rfl
@[simp] theorem State.updDti_bwr (s : State) (f : Dti → Dti) : (s.updDti f).bwr = s.bwr := rfl
@[simp] theorem State.updDti_cph (s : State) (f : Dti → Dti) : (s.updDti f).cph = s.cph := rfl
@[simp] theorem State.updDti_engines (s : State) (f : Dti → Dti) : (s.updDti f).engines = s.engines := rfl
@[simp] theorem State.updDti_sua (s : State) (f : Dti → Dti) : (s.updDti f).sua = s.sua := rfl
@[simp] theorem State.updDti_dre (s : State) (f : Dti → Dti) : (s.updDti f).dre = s.dre := rfl
@[simp] theorem State.updDti_pins (s : State) (f : Dti → Dti) : (s.updDti f).pins = s.pins := rfl
@[simp] theorem State.updDti_mem (s : State) (f : Dti → Dti) : (s.updDti f).mem = s.mem := rfl
@[simp] theorem State.updDti_poison (s : State) (f : Dti → Dti) : (s.updDti f).poison = s.poison := rfl
@[simp] theorem State.updDti_dti (s : State) (f : Dti → Dti) : (s.updDti f).dti = f s.dti := rfl
@[simp] theorem State.updCph_pending (s : State) (f : Cph → Cph) : (s.updCph f).pending = s.pending := rfl
@[simp] theorem State.updCph_chron (s : State) (f : Cph → Cph) : (s.updCph f).chron = s.chron := rfl
@[simp] theorem State.updCph_evts (s : State) (f : Cph → Cph) : (s.updCph f).evts = s.evts := rfl
@[simp] theorem State.updCph_logq (s : State) (f : Cph → Cph) : (s.updCph f).logq = s.logq := rfl
@[simp] theorem State.updCph_testCtl (s : State) (f : Cph → Cph) : (s.updCph f).testCtl = s.testCtl := rfl
@[simp] theorem State.updCph_freeCtr (s : State) (f : Cph → Cph) : (s.updCph f).freeCtr = s.freeCtr := rfl
@[simp] theorem State.updCph_regs (s : State) (f : Cph → Cph) : (s.updCph f).regs = s.regs := rfl
@[simp] theorem State.updCph_sts (s : State) (f : Cph → Cph) : (s.updCph f).sts = s.sts := rfl
@[simp] theorem State.updCph_cfg (s : State) (f : Cph → Cph) : (s.updCph f).cfg = s.cfg := rfl
@[simp] theorem State.updCph_tel (s : State) (f : Cph → Cph) : (s.updCph f).tel = s.tel := rfl
@[simp] theorem State.updCph_ports (s : State) (f : Cph → Cph) : (s.updCph f).ports = s.ports := rfl
@[simp] theorem State.updCph_guards (s : State) (f : Cph → Cph) : (s.updCph f).guards = s.guards := rfl
@[simp] theorem State.updCph_atu (s : State) (f : Cph → Cph) : (s.updCph f).atu = s.atu := rfl
@[simp] theorem State.updCph_map (s : State) (f : Cph → Cph) : (s.updCph f).map = s.map := rfl
@[simp] theorem State.updCph_plg (s : State) (f : Cph → Cph) : (s.updCph f).plg = s.plg := rfl
@[simp] theorem State.updCph_twn (s : State) (f : Cph → Cph) : (s.updCph f).twn = s.twn := rfl
@[simp] theorem State.updCph_vlt (s : State) (f : Cph → Cph) : (s.updCph f).vlt = s.vlt := rfl
@[simp] theorem State.updCph_subs (s : State) (f : Cph → Cph) : (s.updCph f).subs = s.subs := rfl
@[simp] theorem State.updCph_rpm (s : State) (f : Cph → Cph) : (s.updCph f).rpm = s.rpm := rfl
@[simp] theorem State.updCph_thermal (s : State) (f : Cph → Cph) : (s.updCph f).thermal = s.thermal := rfl
@[simp] theorem State.updCph_rpmTrig (s : State) (f : Cph → Cph) : (s.updCph f).rpmTrig = s.rpmTrig := rfl
@[simp] theorem State.updCph_rpmRfm (s : State) (f : Cph → Cph) : (s.updCph f).rpmRfm = s.rpmRfm := rfl
@[simp] theorem State.updCph_sgt (s : State) (f : Cph → Cph) : (s.updCph f).sgt = s.sgt := rfl
@[simp] theorem State.updCph_ecc (s : State) (f : Cph → Cph) : (s.updCph f).ecc = s.ecc := rfl
@[simp] theorem State.updCph_bwr (s : State) (f : Cph → Cph) : (s.updCph f).bwr = s.bwr := rfl
@[simp] theorem State.updCph_dti (s : State) (f : Cph → Cph) : (s.updCph f).dti = s.dti := rfl
@[simp] theorem State.updCph_engines (s : State) (f : Cph → Cph) : (s.updCph f).engines = s.engines := rfl
@[simp] theorem State.updCph_sua (s : State) (f : Cph → Cph) : (s.updCph f).sua = s.sua := rfl
@[simp] theorem State.updCph_dre (s : State) (f : Cph → Cph) : (s.updCph f).dre = s.dre := rfl
@[simp] theorem State.updCph_pins (s : State) (f : Cph → Cph) : (s.updCph f).pins = s.pins := rfl
@[simp] theorem State.updCph_mem (s : State) (f : Cph → Cph) : (s.updCph f).mem = s.mem := rfl
@[simp] theorem State.updCph_poison (s : State) (f : Cph → Cph) : (s.updCph f).poison = s.poison := rfl
@[simp] theorem State.updCph_cph (s : State) (f : Cph → Cph) : (s.updCph f).cph = f s.cph := rfl
@[simp] theorem State.updSua_pending (s : State) (f : Sua → Sua) : (s.updSua f).pending = s.pending := rfl
@[simp] theorem State.updSua_chron (s : State) (f : Sua → Sua) : (s.updSua f).chron = s.chron := rfl
@[simp] theorem State.updSua_evts (s : State) (f : Sua → Sua) : (s.updSua f).evts = s.evts := rfl
@[simp] theorem State.updSua_logq (s : State) (f : Sua → Sua) : (s.updSua f).logq = s.logq := rfl
@[simp] theorem State.updSua_testCtl (s : State) (f : Sua → Sua) : (s.updSua f).testCtl = s.testCtl := rfl
@[simp] theorem State.updSua_freeCtr (s : State) (f : Sua → Sua) : (s.updSua f).freeCtr = s.freeCtr := rfl
@[simp] theorem State.updSua_regs (s : State) (f : Sua → Sua) : (s.updSua f).regs = s.regs := rfl
@[simp] theorem State.updSua_sts (s : State) (f : Sua → Sua) : (s.updSua f).sts = s.sts := rfl
@[simp] theorem State.updSua_cfg (s : State) (f : Sua → Sua) : (s.updSua f).cfg = s.cfg := rfl
@[simp] theorem State.updSua_tel (s : State) (f : Sua → Sua) : (s.updSua f).tel = s.tel := rfl
@[simp] theorem State.updSua_ports (s : State) (f : Sua → Sua) : (s.updSua f).ports = s.ports := rfl
@[simp] theorem State.updSua_guards (s : State) (f : Sua → Sua) : (s.updSua f).guards = s.guards := rfl
@[simp] theorem State.updSua_atu (s : State) (f : Sua → Sua) : (s.updSua f).atu = s.atu := rfl
@[simp] theorem State.updSua_map (s : State) (f : Sua → Sua) : (s.updSua f).map = s.map := rfl
@[simp] theorem State.updSua_plg (s : State) (f : Sua → Sua) : (s.updSua f).plg = s.plg := rfl
@[simp] theorem State.updSua_twn (s : State) (f : Sua → Sua) : (s.updSua f).twn = s.twn := rfl
@[simp] theorem State.updSua_vlt (s : State) (f : Sua → Sua) : (s.updSua f).vlt = s.vlt := rfl
@[simp] theorem State.updSua_subs (s : State) (f : Sua → Sua) : (s.updSua f).subs = s.subs := rfl
@[simp] theorem State.updSua_rpm (s : State) (f : Sua → Sua) : (s.updSua f).rpm = s.rpm := rfl
@[simp] theorem State.updSua_thermal (s : State) (f : Sua → Sua) : (s.updSua f).thermal = s.thermal := rfl
@[simp] theorem State.updSua_rpmTrig (s : State) (f : Sua → Sua) : (s.updSua f).rpmTrig = s.rpmTrig := rfl
@[simp] theorem State.updSua_rpmRfm (s : State) (f : Sua → Sua) : (s.updSua f).rpmRfm = s.rpmRfm := rfl
@[simp] theorem State.updSua_sgt (s : State) (f : Sua → Sua) : (s.updSua f).sgt = s.sgt := rfl
@[simp] theorem State.updSua_ecc (s : State) (f : Sua → Sua) : (s.updSua f).ecc = s.ecc := rfl
@[simp] theorem State.updSua_bwr (s : State) (f : Sua → Sua) : (s.updSua f).bwr = s.bwr := rfl
@[simp] theorem State.updSua_dti (s : State) (f : Sua → Sua) : (s.updSua f).dti = s.dti := rfl
@[simp] theorem State.updSua_cph (s : State) (f : Sua → Sua) : (s.updSua f).cph = s.cph := rfl
@[simp] theorem State.updSua_engines (s : State) (f : Sua → Sua) : (s.updSua f).engines = s.engines := rfl
@[simp] theorem State.updSua_dre (s : State) (f : Sua → Sua) : (s.updSua f).dre = s.dre := rfl
@[simp] theorem State.updSua_pins (s : State) (f : Sua → Sua) : (s.updSua f).pins = s.pins := rfl
@[simp] theorem State.updSua_mem (s : State) (f : Sua → Sua) : (s.updSua f).mem = s.mem := rfl
@[simp] theorem State.updSua_poison (s : State) (f : Sua → Sua) : (s.updSua f).poison = s.poison := rfl
@[simp] theorem State.updSua_sua (s : State) (f : Sua → Sua) : (s.updSua f).sua = f s.sua := rfl
@[simp] theorem State.updDre_pending (s : State) (f : Dre → Dre) : (s.updDre f).pending = s.pending := rfl
@[simp] theorem State.updDre_chron (s : State) (f : Dre → Dre) : (s.updDre f).chron = s.chron := rfl
@[simp] theorem State.updDre_evts (s : State) (f : Dre → Dre) : (s.updDre f).evts = s.evts := rfl
@[simp] theorem State.updDre_logq (s : State) (f : Dre → Dre) : (s.updDre f).logq = s.logq := rfl
@[simp] theorem State.updDre_testCtl (s : State) (f : Dre → Dre) : (s.updDre f).testCtl = s.testCtl := rfl
@[simp] theorem State.updDre_freeCtr (s : State) (f : Dre → Dre) : (s.updDre f).freeCtr = s.freeCtr := rfl
@[simp] theorem State.updDre_regs (s : State) (f : Dre → Dre) : (s.updDre f).regs = s.regs := rfl
@[simp] theorem State.updDre_sts (s : State) (f : Dre → Dre) : (s.updDre f).sts = s.sts := rfl
@[simp] theorem State.updDre_cfg (s : State) (f : Dre → Dre) : (s.updDre f).cfg = s.cfg := rfl
@[simp] theorem State.updDre_tel (s : State) (f : Dre → Dre) : (s.updDre f).tel = s.tel := rfl
@[simp] theorem State.updDre_ports (s : State) (f : Dre → Dre) : (s.updDre f).ports = s.ports := rfl
@[simp] theorem State.updDre_guards (s : State) (f : Dre → Dre) : (s.updDre f).guards = s.guards := rfl
@[simp] theorem State.updDre_atu (s : State) (f : Dre → Dre) : (s.updDre f).atu = s.atu := rfl
@[simp] theorem State.updDre_map (s : State) (f : Dre → Dre) : (s.updDre f).map = s.map := rfl
@[simp] theorem State.updDre_plg (s : State) (f : Dre → Dre) : (s.updDre f).plg = s.plg := rfl
@[simp] theorem State.updDre_twn (s : State) (f : Dre → Dre) : (s.updDre f).twn = s.twn := rfl
@[simp] theorem State.updDre_vlt (s : State) (f : Dre → Dre) : (s.updDre f).vlt = s.vlt := rfl
@[simp] theorem State.updDre_subs (s : State) (f : Dre → Dre) : (s.updDre f).subs = s.subs := rfl
@[simp] theorem State.updDre_rpm (s : State) (f : Dre → Dre) : (s.updDre f).rpm = s.rpm := rfl
@[simp] theorem State.updDre_thermal (s : State) (f : Dre → Dre) : (s.updDre f).thermal = s.thermal := rfl
@[simp] theorem State.updDre_rpmTrig (s : State) (f : Dre → Dre) : (s.updDre f).rpmTrig = s.rpmTrig := rfl
@[simp] theorem State.updDre_rpmRfm (s : State) (f : Dre → Dre) : (s.updDre f).rpmRfm = s.rpmRfm := rfl
@[simp] theorem State.updDre_sgt (s : State) (f : Dre → Dre) : (s.updDre f).sgt = s.sgt := rfl
@[simp] theorem State.updDre_ecc (s : State) (f : Dre → Dre) : (s.updDre f).ecc = s.ecc := rfl
@[simp] theorem State.updDre_bwr (s : State) (f : Dre → Dre) : (s.updDre f).bwr = s.bwr := rfl
@[simp] theorem State.updDre_dti (s : State) (f : Dre → Dre) : (s.updDre f).dti = s.dti := rfl
@[simp] theorem State.updDre_cph (s : State) (f : Dre → Dre) : (s.updDre f).cph = s.cph := rfl
@[simp] theorem State.updDre_engines (s : State) (f : Dre → Dre) : (s.updDre f).engines = s.engines := rfl
@[simp] theorem State.updDre_sua (s : State) (f : Dre → Dre) : (s.updDre f).sua = s.sua := rfl
@[simp] theorem State.updDre_pins (s : State) (f : Dre → Dre) : (s.updDre f).pins = s.pins := rfl
@[simp] theorem State.updDre_mem (s : State) (f : Dre → Dre) : (s.updDre f).mem = s.mem := rfl
@[simp] theorem State.updDre_poison (s : State) (f : Dre → Dre) : (s.updDre f).poison = s.poison := rfl
@[simp] theorem State.updDre_dre (s : State) (f : Dre → Dre) : (s.updDre f).dre = f s.dre := rfl
@[simp] theorem State.updPins_pending (s : State) (f : Pins → Pins) : (s.updPins f).pending = s.pending := rfl
@[simp] theorem State.updPins_chron (s : State) (f : Pins → Pins) : (s.updPins f).chron = s.chron := rfl
@[simp] theorem State.updPins_evts (s : State) (f : Pins → Pins) : (s.updPins f).evts = s.evts := rfl
@[simp] theorem State.updPins_logq (s : State) (f : Pins → Pins) : (s.updPins f).logq = s.logq := rfl
@[simp] theorem State.updPins_testCtl (s : State) (f : Pins → Pins) : (s.updPins f).testCtl = s.testCtl := rfl
@[simp] theorem State.updPins_freeCtr (s : State) (f : Pins → Pins) : (s.updPins f).freeCtr = s.freeCtr := rfl
@[simp] theorem State.updPins_regs (s : State) (f : Pins → Pins) : (s.updPins f).regs = s.regs := rfl
@[simp] theorem State.updPins_sts (s : State) (f : Pins → Pins) : (s.updPins f).sts = s.sts := rfl
@[simp] theorem State.updPins_cfg (s : State) (f : Pins → Pins) : (s.updPins f).cfg = s.cfg := rfl
@[simp] theorem State.updPins_tel (s : State) (f : Pins → Pins) : (s.updPins f).tel = s.tel := rfl
@[simp] theorem State.updPins_ports (s : State) (f : Pins → Pins) : (s.updPins f).ports = s.ports := rfl
@[simp] theorem State.updPins_guards (s : State) (f : Pins → Pins) : (s.updPins f).guards = s.guards := rfl
@[simp] theorem State.updPins_atu (s : State) (f : Pins → Pins) : (s.updPins f).atu = s.atu := rfl
@[simp] theorem State.updPins_map (s : State) (f : Pins → Pins) : (s.updPins f).map = s.map := rfl
@[simp] theorem State.updPins_plg (s : State) (f : Pins → Pins) : (s.updPins f).plg = s.plg := rfl
@[simp] theorem State.updPins_twn (s : State) (f : Pins → Pins) : (s.updPins f).twn = s.twn := rfl
@[simp] theorem State.updPins_vlt (s : State) (f : Pins → Pins) : (s.updPins f).vlt = s.vlt := rfl
@[simp] theorem State.updPins_subs (s : State) (f : Pins → Pins) : (s.updPins f).subs = s.subs := rfl
@[simp] theorem State.updPins_rpm (s : State) (f : Pins → Pins) : (s.updPins f).rpm = s.rpm := rfl
@[simp] theorem State.updPins_thermal (s : State) (f : Pins → Pins) : (s.updPins f).thermal = s.thermal := rfl
@[simp] theorem State.updPins_rpmTrig (s : State) (f : Pins → Pins) : (s.updPins f).rpmTrig = s.rpmTrig := rfl
@[simp] theorem State.updPins_rpmRfm (s : State) (f : Pins → Pins) : (s.updPins f).rpmRfm = s.rpmRfm := rfl
@[simp] theorem State.updPins_sgt (s : State) (f : Pins → Pins) : (s.updPins f).sgt = s.sgt := rfl
@[simp] theorem State.updPins_ecc (s : State) (f : Pins → Pins) : (s.updPins f).ecc = s.ecc := rfl
@[simp] theorem State.updPins_bwr (s : State) (f : Pins → Pins) : (s.updPins f).bwr = s.bwr := rfl
@[simp] theorem State.updPins_dti (s : State) (f : Pins → Pins) : (s.updPins f).dti = s.dti := rfl
@[simp] theorem State.updPins_cph (s : State) (f : Pins → Pins) : (s.updPins f).cph = s.cph := rfl
@[simp] theorem State.updPins_engines (s : State) (f : Pins → Pins) : (s.updPins f).engines = s.engines := rfl
@[simp] theorem State.updPins_sua (s : State) (f : Pins → Pins) : (s.updPins f).sua = s.sua := rfl
@[simp] theorem State.updPins_dre (s : State) (f : Pins → Pins) : (s.updPins f).dre = s.dre := rfl
@[simp] theorem State.updPins_mem (s : State) (f : Pins → Pins) : (s.updPins f).mem = s.mem := rfl
@[simp] theorem State.updPins_poison (s : State) (f : Pins → Pins) : (s.updPins f).poison = s.poison := rfl
@[simp] theorem State.updPins_pins (s : State) (f : Pins → Pins) : (s.updPins f).pins = f s.pins := rfl
@[simp] theorem State.setPort_pending (s : State) (p : Nat) (v : Port) : (s.setPort p v).pending = s.pending := rfl
@[simp] theorem State.setPort_chron (s : State) (p : Nat) (v : Port) : (s.setPort p v).chron = s.chron := rfl
@[simp] theorem State.setPort_evts (s : State) (p : Nat) (v : Port) : (s.setPort p v).evts = s.evts := rfl
@[simp] theorem State.setPort_logq (s : State) (p : Nat) (v : Port) : (s.setPort p v).logq = s.logq := rfl
@[simp] theorem State.setPort_testCtl (s : State) (p : Nat) (v : Port) : (s.setPort p v).testCtl = s.testCtl := rfl
@[simp] theorem State.setPort_freeCtr (s : State) (p : Nat) (v : Port) : (s.setPort p v).freeCtr = s.freeCtr := rfl
@[simp] theorem State.setPort_regs (s : State) (p : Nat) (v : Port) : (s.setPort p v).regs = s.regs := rfl
@[simp] theorem State.setPort_sts (s : State) (p : Nat) (v : Port) : (s.setPort p v).sts = s.sts := rfl
@[simp] theorem State.setPort_cfg (s : State) (p : Nat) (v : Port) : (s.setPort p v).cfg = s.cfg := rfl
@[simp] theorem State.setPort_tel (s : State) (p : Nat) (v : Port) : (s.setPort p v).tel = s.tel := rfl
@[simp] theorem State.setPort_guards (s : State) (p : Nat) (v : Port) : (s.setPort p v).guards = s.guards := rfl
@[simp] theorem State.setPort_atu (s : State) (p : Nat) (v : Port) : (s.setPort p v).atu = s.atu := rfl
@[simp] theorem State.setPort_map (s : State) (p : Nat) (v : Port) : (s.setPort p v).map = s.map := rfl
@[simp] theorem State.setPort_plg (s : State) (p : Nat) (v : Port) : (s.setPort p v).plg = s.plg := rfl
@[simp] theorem State.setPort_twn (s : State) (p : Nat) (v : Port) : (s.setPort p v).twn = s.twn := rfl
@[simp] theorem State.setPort_vlt (s : State) (p : Nat) (v : Port) : (s.setPort p v).vlt = s.vlt := rfl
@[simp] theorem State.setPort_subs (s : State) (p : Nat) (v : Port) : (s.setPort p v).subs = s.subs := rfl
@[simp] theorem State.setPort_rpm (s : State) (p : Nat) (v : Port) : (s.setPort p v).rpm = s.rpm := rfl
@[simp] theorem State.setPort_thermal (s : State) (p : Nat) (v : Port) : (s.setPort p v).thermal = s.thermal := rfl
@[simp] theorem State.setPort_rpmTrig (s : State) (p : Nat) (v : Port) : (s.setPort p v).rpmTrig = s.rpmTrig := rfl
@[simp] theorem State.setPort_rpmRfm (s : State) (p : Nat) (v : Port) : (s.setPort p v).rpmRfm = s.rpmRfm := rfl
@[simp] theorem State.setPort_sgt (s : State) (p : Nat) (v : Port) : (s.setPort p v).sgt = s.sgt := rfl
@[simp] theorem State.setPort_ecc (s : State) (p : Nat) (v : Port) : (s.setPort p v).ecc = s.ecc := rfl
@[simp] theorem State.setPort_bwr (s : State) (p : Nat) (v : Port) : (s.setPort p v).bwr = s.bwr := rfl
@[simp] theorem State.setPort_dti (s : State) (p : Nat) (v : Port) : (s.setPort p v).dti = s.dti := rfl
@[simp] theorem State.setPort_cph (s : State) (p : Nat) (v : Port) : (s.setPort p v).cph = s.cph := rfl
@[simp] theorem State.setPort_engines (s : State) (p : Nat) (v : Port) : (s.setPort p v).engines = s.engines := rfl
@[simp] theorem State.setPort_sua (s : State) (p : Nat) (v : Port) : (s.setPort p v).sua = s.sua := rfl
@[simp] theorem State.setPort_dre (s : State) (p : Nat) (v : Port) : (s.setPort p v).dre = s.dre := rfl
@[simp] theorem State.setPort_pins (s : State) (p : Nat) (v : Port) : (s.setPort p v).pins = s.pins := rfl
@[simp] theorem State.setPort_mem (s : State) (p : Nat) (v : Port) : (s.setPort p v).mem = s.mem := rfl
@[simp] theorem State.setPort_poison (s : State) (p : Nat) (v : Port) : (s.setPort p v).poison = s.poison := rfl
@[simp] theorem State.setSub_pending (s : State) (c : Nat) (v : SubState) : (s.setSub c v).pending = s.pending := rfl
@[simp] theorem State.setSub_chron (s : State) (c : Nat) (v : SubState) : (s.setSub c v).chron = s.chron := rfl
@[simp] theorem State.setSub_evts (s : State) (c : Nat) (v : SubState) : (s.setSub c v).evts = s.evts := rfl
@[simp] theorem State.setSub_logq (s : State) (c : Nat) (v : SubState) : (s.setSub c v).logq = s.logq := rfl
@[simp] theorem State.setSub_testCtl (s : State) (c : Nat) (v : SubState) : (s.setSub c v).testCtl = s.testCtl := rfl
@[simp] theorem State.setSub_freeCtr (s : State) (c : Nat) (v : SubState) : (s.setSub c v).freeCtr = s.freeCtr := rfl
@[simp] theorem State.setSub_regs (s : State) (c : Nat) (v : SubState) : (s.setSub c v).regs = s.regs := rfl
@[simp] theorem State.setSub_sts (s : State) (c : Nat) (v : SubState) : (s.setSub c v).sts = s.sts := rfl
@[simp] theorem State.setSub_cfg (s : State) (c : Nat) (v : SubState) : (s.setSub c v).cfg = s.cfg := rfl
@[simp] theorem State.setSub_tel (s : State) (c : Nat) (v : SubState) : (s.setSub c v).tel = s.tel := rfl
@[simp] theorem State.setSub_ports (s : State) (c : Nat) (v : SubState) : (s.setSub c v).ports = s.ports := rfl
@[simp] theorem State.setSub_guards (s : State) (c : Nat) (v : SubState) : (s.setSub c v).guards = s.guards := rfl
@[simp] theorem State.setSub_atu (s : State) (c : Nat) (v : SubState) : (s.setSub c v).atu = s.atu := rfl
@[simp] theorem State.setSub_map (s : State) (c : Nat) (v : SubState) : (s.setSub c v).map = s.map := rfl
@[simp] theorem State.setSub_plg (s : State) (c : Nat) (v : SubState) : (s.setSub c v).plg = s.plg := rfl
@[simp] theorem State.setSub_twn (s : State) (c : Nat) (v : SubState) : (s.setSub c v).twn = s.twn := rfl
@[simp] theorem State.setSub_vlt (s : State) (c : Nat) (v : SubState) : (s.setSub c v).vlt = s.vlt := rfl
@[simp] theorem State.setSub_rpm (s : State) (c : Nat) (v : SubState) : (s.setSub c v).rpm = s.rpm := rfl
@[simp] theorem State.setSub_thermal (s : State) (c : Nat) (v : SubState) : (s.setSub c v).thermal = s.thermal := rfl
@[simp] theorem State.setSub_rpmTrig (s : State) (c : Nat) (v : SubState) : (s.setSub c v).rpmTrig = s.rpmTrig := rfl
@[simp] theorem State.setSub_rpmRfm (s : State) (c : Nat) (v : SubState) : (s.setSub c v).rpmRfm = s.rpmRfm := rfl
@[simp] theorem State.setSub_sgt (s : State) (c : Nat) (v : SubState) : (s.setSub c v).sgt = s.sgt := rfl
@[simp] theorem State.setSub_ecc (s : State) (c : Nat) (v : SubState) : (s.setSub c v).ecc = s.ecc := rfl
@[simp] theorem State.setSub_bwr (s : State) (c : Nat) (v : SubState) : (s.setSub c v).bwr = s.bwr := rfl
@[simp] theorem State.setSub_dti (s : State) (c : Nat) (v : SubState) : (s.setSub c v).dti = s.dti := rfl
@[simp] theorem State.setSub_cph (s : State) (c : Nat) (v : SubState) : (s.setSub c v).cph = s.cph := rfl
@[simp] theorem State.setSub_engines (s : State) (c : Nat) (v : SubState) : (s.setSub c v).engines = s.engines := rfl
@[simp] theorem State.setSub_sua (s : State) (c : Nat) (v : SubState) : (s.setSub c v).sua = s.sua := rfl
@[simp] theorem State.setSub_dre (s : State) (c : Nat) (v : SubState) : (s.setSub c v).dre = s.dre := rfl
@[simp] theorem State.setSub_pins (s : State) (c : Nat) (v : SubState) : (s.setSub c v).pins = s.pins := rfl
@[simp] theorem State.setSub_mem (s : State) (c : Nat) (v : SubState) : (s.setSub c v).mem = s.mem := rfl
@[simp] theorem State.setSub_poison (s : State) (c : Nat) (v : SubState) : (s.setSub c v).poison = s.poison := rfl
@[simp] theorem State.setRpm_pending (s : State) (c : Nat) (v : RpmSub) : (s.setRpm c v).pending = s.pending := rfl
@[simp] theorem State.setRpm_chron (s : State) (c : Nat) (v : RpmSub) : (s.setRpm c v).chron = s.chron := rfl
@[simp] theorem State.setRpm_evts (s : State) (c : Nat) (v : RpmSub) : (s.setRpm c v).evts = s.evts := rfl
@[simp] theorem State.setRpm_logq (s : State) (c : Nat) (v : RpmSub) : (s.setRpm c v).logq = s.logq := rfl
@[simp] theorem State.setRpm_testCtl (s : State) (c : Nat) (v : RpmSub) : (s.setRpm c v).testCtl = s.testCtl := rfl
@[simp] theorem State.setRpm_freeCtr (s : State) (c : Nat) (v : RpmSub) : (s.setRpm c v).freeCtr = s.freeCtr := rfl
@[simp] theorem State.setRpm_regs (s : State) (c : Nat) (v : RpmSub) : (s.setRpm c v).regs = s.regs := rfl
@[simp] theorem State.setRpm_sts (s : State) (c : Nat) (v : RpmSub) : (s.setRpm c v).sts = s.sts := rfl
@[simp] theorem State.setRpm_cfg (s : State) (c : Nat) (v : RpmSub) : (s.setRpm c v).cfg = s.cfg := rfl
@[simp] theorem State.setRpm_tel (s : State) (c : Nat) (v : RpmSub) : (s.setRpm c v).tel = s.tel := rfl
@[simp] theorem State.setRpm_ports (s : State) (c : Nat) (v : RpmSub) : (s.setRpm c v).ports = s.ports := rfl
@[simp] theorem State.setRpm_guards (s : State) (c : Nat) (v : RpmSub) : (s.setRpm c v).guards = s.guards := rfl
@[simp] theorem State.setRpm_atu (s : State) (c : Nat) (v : RpmSub) : (s.setRpm c v).atu = s.atu := rfl
@[simp] theorem State.setRpm_map (s : State) (c : Nat) (v : RpmSub) : (s.setRpm c v).map = s.map := rfl
@[simp] theorem State.setRpm_plg (s : State) (c : Nat) (v : RpmSub) : (s.setRpm c v).plg = s.plg := rfl
@[simp] theorem State.setRpm_twn (s : State) (c : Nat) (v : RpmSub) : (s.setRpm c v).twn = s.twn := rfl
@[simp] theorem State.setRpm_vlt (s : State) (c : Nat) (v : RpmSub) : (s.setRpm c v).vlt = s.vlt := rfl
@[simp] theorem State.setRpm_subs (s : State) (c : Nat) (v : RpmSub) : (s.setRpm c v).subs = s.subs := rfl
@[simp] theorem State.setRpm_thermal (s : State) (c : Nat) (v : RpmSub) : (s.setRpm c v).thermal = s.thermal := rfl
@[simp] theorem State.setRpm_rpmTrig (s : State) (c : Nat) (v : RpmSub) : (s.setRpm c v).rpmTrig = s.rpmTrig := rfl
@[simp] theorem State.setRpm_rpmRfm (s : State) (c : Nat) (v : RpmSub) : (s.setRpm c v).rpmRfm = s.rpmRfm := rfl
@[simp] theorem State.setRpm_sgt (s : State) (c : Nat) (v : RpmSub) : (s.setRpm c v).sgt = s.sgt := rfl
@[simp] theorem State.setRpm_ecc (s : State) (c : Nat) (v : RpmSub) : (s.setRpm c v).ecc = s.ecc := rfl
@[simp] theorem State.setRpm_bwr (s : State) (c : Nat) (v : RpmSub) : (s.setRpm c v).bwr = s.bwr := rfl
@[simp] theorem State.setRpm_dti (s : State) (c : Nat) (v : RpmSub) : (s.setRpm c v).dti = s.dti := rfl
@[simp] theorem State.setRpm_cph (s : State) (c : Nat) (v : RpmSub) : (s.setRpm c v).cph = s.cph := rfl
@[simp] theorem State.setRpm_engines (s : State) (c : Nat) (v : RpmSub) : (s.setRpm c v).engines = s.engines := rfl
@[simp] theorem State.setRpm_sua (s : State) (c : Nat) (v : RpmSub) : (s.setRpm c v).sua = s.sua := rfl
@[simp] theorem State.setRpm_dre (s : State) (c : Nat) (v : RpmSub) : (s.setRpm c v).dre = s.dre := rfl
@[simp] theorem State.setRpm_pins (s : State) (c : Nat) (v : RpmSub) : (s.setRpm c v).pins = s.pins := rfl
@[simp] theorem State.setRpm_mem (s : State) (c : Nat) (v : RpmSub) : (s.setRpm c v).mem = s.mem := rfl
@[simp] theorem State.setRpm_poison (s : State) (c : Nat) (v : RpmSub) : (s.setRpm c v).poison = s.poison := rfl
@[simp] theorem State.updEngine_pending (s : State) (e : Nat) (f : Engine → Engine) : (s.updEngine e f).pending = s.pending := rfl
@[simp] theorem State.updEngine_chron (s : State) (e : Nat) (f : Engine → Engine) : (s.updEngine e f).chron = s.chron := rfl
@[simp] theorem State.updEngine_evts (s : State) (e : Nat) (f : Engine → Engine) : (s.updEngine e f).evts = s.evts := rfl
@[simp] theorem State.updEngine_logq (s : State) (e : Nat) (f : Engine → Engine) : (s.updEngine e f).logq = s.logq := rfl
@[simp] theorem State.updEngine_testCtl (s : State) (e : Nat) (f : Engine → Engine) : (s.updEngine e f).testCtl = s.testCtl := rfl
@[simp] theorem State.updEngine_freeCtr (s : State) (e : Nat) (f : Engine → Engine) : (s.updEngine e f).freeCtr = s.freeCtr := rfl
@[simp] theorem State.updEngine_regs (s : State) (e : Nat) (f : Engine → Engine) : (s.updEngine e f).regs = s.regs := rfl
@[simp] theorem State.updEngine_sts (s : State) (e : Nat) (f : Engine → Engine) : (s.updEngine e f).sts = s.sts := rfl
@[simp] theorem State.updEngine_cfg (s : State) (e : Nat) (f : Engine → Engine) : (s.updEngine e f).cfg = s.cfg := rfl
@[simp] theorem State.updEngine_tel (s : State) (e : Nat) (f : Engine → Engine) : (s.updEngine e f).tel = s.tel := rfl
@[simp] theorem State.updEngine_ports (s : State) (e : Nat) (f : Engine → Engine) : (s.updEngine e f).ports = s.ports := rfl
@[simp] theorem State.updEngine_guards (s : State) (e : Nat) (f : Engine → Engine) : (s.updEngine e f).guards = s.guards := rfl
@[simp] theorem State.updEngine_atu (s : State) (e : Nat) (f : Engine → Engine) : (s.updEngine e f).atu = s.atu := rfl
@[simp] theorem State.updEngine_map (s : State) (e : Nat) (f : Engine → Engine) : (s.updEngine e f).map = s.map := rfl
@[simp] theorem State.updEngine_plg (s : State) (e : Nat) (f : Engine → Engine) : (s.updEngine e f).plg = s.plg := rfl
@[simp] theorem State.updEngine_twn (s : State) (e : Nat) (f : Engine → Engine) : (s.updEngine e f).twn = s.twn := rfl
@[simp] theorem State.updEngine_vlt (s : State) (e : Nat) (f : Engine → Engine) : (s.updEngine e f).vlt = s.vlt := rfl
@[simp] theorem State.updEngine_subs (s : State) (e : Nat) (f : Engine → Engine) : (s.updEngine e f).subs = s.subs := rfl
@[simp] theorem State.updEngine_rpm (s : State) (e : Nat) (f : Engine → Engine) : (s.updEngine e f).rpm = s.rpm := rfl
@[simp] theorem State.updEngine_thermal (s : State) (e : Nat) (f : Engine → Engine) : (s.updEngine e f).thermal = s.thermal := rfl
@[simp] theorem State.updEngine_rpmTrig (s : State) (e : Nat) (f : Engine → Engine) : (s.updEngine e f).rpmTrig = s.rpmTrig := rfl
@[simp] theorem State.updEngine_rpmRfm (s : State) (e : Nat) (f : Engine → Engine) : (s.updEngine e f).rpmRfm = s.rpmRfm := rfl
@[simp] theorem State.updEngine_sgt (s : State) (e : Nat) (f : Engine → Engine) : (s.updEngine e f).sgt = s.sgt := rfl
@[simp] theorem State.updEngine_ecc (s : State) (e : Nat) (f : Engine → Engine) : (s.updEngine e f).ecc = s.ecc := rfl
@[simp] theorem State.updEngine_bwr (s : State) (e : Nat) (f : Engine → Engine) : (s.updEngine e f).bwr = s.bwr := rfl
@[simp] theorem State.updEngine_dti (s : State) (e : Nat) (f : Engine → Engine) : (s.updEngine e f).dti = s.dti := rfl
@[simp] theorem State.updEngine_cph (s : State) (e : Nat) (f : Engine → Engine) : (s.updEngine e f).cph = s.cph := rfl
@[simp] theorem State.updEngine_sua (s : State) (e : Nat) (f : Engine → Engine) : (s.updEngine e f).sua = s.sua := rfl
@[simp] theorem State.updEngine_dre (s : State) (e : Nat) (f : Engine → Engine) : (s.updEngine e f).dre = s.dre := rfl
@[simp] theorem State.updEngine_pins (s : State) (e : Nat) (f : Engine → Engine) : (s.updEngine e f).pins = s.pins := rfl
@[simp] theorem State.updEngine_mem (s : State) (e : Nat) (f : Engine → Engine) : (s.updEngine e f).mem = s.mem := rfl
@[simp] theorem State.updEngine_poison (s : State) (e : Nat) (f : Engine → Engine) : (s.updEngine e f).poison = s.poison := rfl
@[simp] theorem State.setReg_pending (s : State) (off : Nat) (w : Word) : (s.setReg off w).pending = s.pending := rfl
@[simp] theorem State.setReg_chron (s : State) (off : Nat) (w : Word) : (s.setReg off w).chron = s.chron := rfl
@[simp] theorem State.setReg_evts (s : State) (off : Nat) (w : Word) : (s.setReg off w).evts = s.evts := rfl
@[simp] theorem State.setReg_logq (s : State) (off : Nat) (w : Word) : (s.setReg off w).logq = s.logq := rfl
@[simp] theorem State.setReg_testCtl (s : State) (off : Nat) (w : Word) : (s.setReg off w).testCtl = s.testCtl := rfl
@[simp] theorem State.setReg_freeCtr (s : State) (off : Nat) (w : Word) : (s.setReg off w).freeCtr = s.freeCtr := rfl
@[simp] theorem State.setReg_sts (s : State) (off : Nat) (w : Word) : (s.setReg off w).sts = s.sts := rfl
@[simp] theorem State.setReg_cfg (s : State) (off : Nat) (w : Word) : (s.setReg off w).cfg = s.cfg := rfl
@[simp] theorem State.setReg_tel (s : State) (off : Nat) (w : Word) : (s.setReg off w).tel = s.tel := rfl
@[simp] theorem State.setReg_ports (s : State) (off : Nat) (w : Word) : (s.setReg off w).ports = s.ports := rfl
@[simp] theorem State.setReg_guards (s : State) (off : Nat) (w : Word) : (s.setReg off w).guards = s.guards := rfl
@[simp] theorem State.setReg_atu (s : State) (off : Nat) (w : Word) : (s.setReg off w).atu = s.atu := rfl
@[simp] theorem State.setReg_map (s : State) (off : Nat) (w : Word) : (s.setReg off w).map = s.map := rfl
@[simp] theorem State.setReg_plg (s : State) (off : Nat) (w : Word) : (s.setReg off w).plg = s.plg := rfl
@[simp] theorem State.setReg_twn (s : State) (off : Nat) (w : Word) : (s.setReg off w).twn = s.twn := rfl
@[simp] theorem State.setReg_vlt (s : State) (off : Nat) (w : Word) : (s.setReg off w).vlt = s.vlt := rfl
@[simp] theorem State.setReg_subs (s : State) (off : Nat) (w : Word) : (s.setReg off w).subs = s.subs := rfl
@[simp] theorem State.setReg_rpm (s : State) (off : Nat) (w : Word) : (s.setReg off w).rpm = s.rpm := rfl
@[simp] theorem State.setReg_thermal (s : State) (off : Nat) (w : Word) : (s.setReg off w).thermal = s.thermal := rfl
@[simp] theorem State.setReg_rpmTrig (s : State) (off : Nat) (w : Word) : (s.setReg off w).rpmTrig = s.rpmTrig := rfl
@[simp] theorem State.setReg_rpmRfm (s : State) (off : Nat) (w : Word) : (s.setReg off w).rpmRfm = s.rpmRfm := rfl
@[simp] theorem State.setReg_sgt (s : State) (off : Nat) (w : Word) : (s.setReg off w).sgt = s.sgt := rfl
@[simp] theorem State.setReg_ecc (s : State) (off : Nat) (w : Word) : (s.setReg off w).ecc = s.ecc := rfl
@[simp] theorem State.setReg_bwr (s : State) (off : Nat) (w : Word) : (s.setReg off w).bwr = s.bwr := rfl
@[simp] theorem State.setReg_dti (s : State) (off : Nat) (w : Word) : (s.setReg off w).dti = s.dti := rfl
@[simp] theorem State.setReg_cph (s : State) (off : Nat) (w : Word) : (s.setReg off w).cph = s.cph := rfl
@[simp] theorem State.setReg_engines (s : State) (off : Nat) (w : Word) : (s.setReg off w).engines = s.engines := rfl
@[simp] theorem State.setReg_sua (s : State) (off : Nat) (w : Word) : (s.setReg off w).sua = s.sua := rfl
@[simp] theorem State.setReg_dre (s : State) (off : Nat) (w : Word) : (s.setReg off w).dre = s.dre := rfl
@[simp] theorem State.setReg_pins (s : State) (off : Nat) (w : Word) : (s.setReg off w).pins = s.pins := rfl
@[simp] theorem State.setReg_mem (s : State) (off : Nat) (w : Word) : (s.setReg off w).mem = s.mem := rfl
@[simp] theorem State.setReg_poison (s : State) (off : Nat) (w : Word) : (s.setReg off w).poison = s.poison := rfl
@[simp] theorem State.event_pending (s : State) (r b : Nat) : (s.event r b).pending = s.pending := rfl
@[simp] theorem State.event_chron (s : State) (r b : Nat) : (s.event r b).chron = s.chron := rfl
@[simp] theorem State.event_logq (s : State) (r b : Nat) : (s.event r b).logq = s.logq := rfl
@[simp] theorem State.event_testCtl (s : State) (r b : Nat) : (s.event r b).testCtl = s.testCtl := rfl
@[simp] theorem State.event_freeCtr (s : State) (r b : Nat) : (s.event r b).freeCtr = s.freeCtr := rfl
@[simp] theorem State.event_regs (s : State) (r b : Nat) : (s.event r b).regs = s.regs := rfl
@[simp] theorem State.event_sts (s : State) (r b : Nat) : (s.event r b).sts = s.sts := rfl
@[simp] theorem State.event_cfg (s : State) (r b : Nat) : (s.event r b).cfg = s.cfg := rfl
@[simp] theorem State.event_tel (s : State) (r b : Nat) : (s.event r b).tel = s.tel := rfl
@[simp] theorem State.event_ports (s : State) (r b : Nat) : (s.event r b).ports = s.ports := rfl
@[simp] theorem State.event_guards (s : State) (r b : Nat) : (s.event r b).guards = s.guards := rfl
@[simp] theorem State.event_atu (s : State) (r b : Nat) : (s.event r b).atu = s.atu := rfl
@[simp] theorem State.event_map (s : State) (r b : Nat) : (s.event r b).map = s.map := rfl
@[simp] theorem State.event_plg (s : State) (r b : Nat) : (s.event r b).plg = s.plg := rfl
@[simp] theorem State.event_twn (s : State) (r b : Nat) : (s.event r b).twn = s.twn := rfl
@[simp] theorem State.event_vlt (s : State) (r b : Nat) : (s.event r b).vlt = s.vlt := rfl
@[simp] theorem State.event_subs (s : State) (r b : Nat) : (s.event r b).subs = s.subs := rfl
@[simp] theorem State.event_rpm (s : State) (r b : Nat) : (s.event r b).rpm = s.rpm := rfl
@[simp] theorem State.event_thermal (s : State) (r b : Nat) : (s.event r b).thermal = s.thermal := rfl
@[simp] theorem State.event_rpmTrig (s : State) (r b : Nat) : (s.event r b).rpmTrig = s.rpmTrig := rfl
@[simp] theorem State.event_rpmRfm (s : State) (r b : Nat) : (s.event r b).rpmRfm = s.rpmRfm := rfl
@[simp] theorem State.event_sgt (s : State) (r b : Nat) : (s.event r b).sgt = s.sgt := rfl
@[simp] theorem State.event_ecc (s : State) (r b : Nat) : (s.event r b).ecc = s.ecc := rfl
@[simp] theorem State.event_bwr (s : State) (r b : Nat) : (s.event r b).bwr = s.bwr := rfl
@[simp] theorem State.event_dti (s : State) (r b : Nat) : (s.event r b).dti = s.dti := rfl
@[simp] theorem State.event_cph (s : State) (r b : Nat) : (s.event r b).cph = s.cph := rfl
@[simp] theorem State.event_engines (s : State) (r b : Nat) : (s.event r b).engines = s.engines := rfl
@[simp] theorem State.event_sua (s : State) (r b : Nat) : (s.event r b).sua = s.sua := rfl
@[simp] theorem State.event_dre (s : State) (r b : Nat) : (s.event r b).dre = s.dre := rfl
@[simp] theorem State.event_pins (s : State) (r b : Nat) : (s.event r b).pins = s.pins := rfl
@[simp] theorem State.event_mem (s : State) (r b : Nat) : (s.event r b).mem = s.mem := rfl
@[simp] theorem State.event_poison (s : State) (r b : Nat) : (s.event r b).poison = s.poison := rfl
@[simp] theorem State.logE_pending (s : State) (c : Nat) (src : BitVec 16) (a i : Nat) : (s.logE c src a i).pending = s.pending := rfl
@[simp] theorem State.logE_chron (s : State) (c : Nat) (src : BitVec 16) (a i : Nat) : (s.logE c src a i).chron = s.chron := rfl
@[simp] theorem State.logE_evts (s : State) (c : Nat) (src : BitVec 16) (a i : Nat) : (s.logE c src a i).evts = s.evts := rfl
@[simp] theorem State.logE_testCtl (s : State) (c : Nat) (src : BitVec 16) (a i : Nat) : (s.logE c src a i).testCtl = s.testCtl := rfl
@[simp] theorem State.logE_freeCtr (s : State) (c : Nat) (src : BitVec 16) (a i : Nat) : (s.logE c src a i).freeCtr = s.freeCtr := rfl
@[simp] theorem State.logE_regs (s : State) (c : Nat) (src : BitVec 16) (a i : Nat) : (s.logE c src a i).regs = s.regs := rfl
@[simp] theorem State.logE_sts (s : State) (c : Nat) (src : BitVec 16) (a i : Nat) : (s.logE c src a i).sts = s.sts := rfl
@[simp] theorem State.logE_cfg (s : State) (c : Nat) (src : BitVec 16) (a i : Nat) : (s.logE c src a i).cfg = s.cfg := rfl
@[simp] theorem State.logE_tel (s : State) (c : Nat) (src : BitVec 16) (a i : Nat) : (s.logE c src a i).tel = s.tel := rfl
@[simp] theorem State.logE_ports (s : State) (c : Nat) (src : BitVec 16) (a i : Nat) : (s.logE c src a i).ports = s.ports := rfl
@[simp] theorem State.logE_guards (s : State) (c : Nat) (src : BitVec 16) (a i : Nat) : (s.logE c src a i).guards = s.guards := rfl
@[simp] theorem State.logE_atu (s : State) (c : Nat) (src : BitVec 16) (a i : Nat) : (s.logE c src a i).atu = s.atu := rfl
@[simp] theorem State.logE_map (s : State) (c : Nat) (src : BitVec 16) (a i : Nat) : (s.logE c src a i).map = s.map := rfl
@[simp] theorem State.logE_plg (s : State) (c : Nat) (src : BitVec 16) (a i : Nat) : (s.logE c src a i).plg = s.plg := rfl
@[simp] theorem State.logE_twn (s : State) (c : Nat) (src : BitVec 16) (a i : Nat) : (s.logE c src a i).twn = s.twn := rfl
@[simp] theorem State.logE_vlt (s : State) (c : Nat) (src : BitVec 16) (a i : Nat) : (s.logE c src a i).vlt = s.vlt := rfl
@[simp] theorem State.logE_subs (s : State) (c : Nat) (src : BitVec 16) (a i : Nat) : (s.logE c src a i).subs = s.subs := rfl
@[simp] theorem State.logE_rpm (s : State) (c : Nat) (src : BitVec 16) (a i : Nat) : (s.logE c src a i).rpm = s.rpm := rfl
@[simp] theorem State.logE_thermal (s : State) (c : Nat) (src : BitVec 16) (a i : Nat) : (s.logE c src a i).thermal = s.thermal := rfl
@[simp] theorem State.logE_rpmTrig (s : State) (c : Nat) (src : BitVec 16) (a i : Nat) : (s.logE c src a i).rpmTrig = s.rpmTrig := rfl
@[simp] theorem State.logE_rpmRfm (s : State) (c : Nat) (src : BitVec 16) (a i : Nat) : (s.logE c src a i).rpmRfm = s.rpmRfm := rfl
@[simp] theorem State.logE_sgt (s : State) (c : Nat) (src : BitVec 16) (a i : Nat) : (s.logE c src a i).sgt = s.sgt := rfl
@[simp] theorem State.logE_ecc (s : State) (c : Nat) (src : BitVec 16) (a i : Nat) : (s.logE c src a i).ecc = s.ecc := rfl
@[simp] theorem State.logE_bwr (s : State) (c : Nat) (src : BitVec 16) (a i : Nat) : (s.logE c src a i).bwr = s.bwr := rfl
@[simp] theorem State.logE_dti (s : State) (c : Nat) (src : BitVec 16) (a i : Nat) : (s.logE c src a i).dti = s.dti := rfl
@[simp] theorem State.logE_cph (s : State) (c : Nat) (src : BitVec 16) (a i : Nat) : (s.logE c src a i).cph = s.cph := rfl
@[simp] theorem State.logE_engines (s : State) (c : Nat) (src : BitVec 16) (a i : Nat) : (s.logE c src a i).engines = s.engines := rfl
@[simp] theorem State.logE_sua (s : State) (c : Nat) (src : BitVec 16) (a i : Nat) : (s.logE c src a i).sua = s.sua := rfl
@[simp] theorem State.logE_dre (s : State) (c : Nat) (src : BitVec 16) (a i : Nat) : (s.logE c src a i).dre = s.dre := rfl
@[simp] theorem State.logE_pins (s : State) (c : Nat) (src : BitVec 16) (a i : Nat) : (s.logE c src a i).pins = s.pins := rfl
@[simp] theorem State.logE_mem (s : State) (c : Nat) (src : BitVec 16) (a i : Nat) : (s.logE c src a i).mem = s.mem := rfl
@[simp] theorem State.logE_poison (s : State) (c : Nat) (src : BitVec 16) (a i : Nat) : (s.logE c src a i).poison = s.poison := rfl
@[simp] theorem State.until_pending (s : State) (n : Nat) : (s.until_ n).pending = s.pending := rfl
@[simp] theorem State.until_evts (s : State) (n : Nat) : (s.until_ n).evts = s.evts := rfl
@[simp] theorem State.until_logq (s : State) (n : Nat) : (s.until_ n).logq = s.logq := rfl
@[simp] theorem State.until_testCtl (s : State) (n : Nat) : (s.until_ n).testCtl = s.testCtl := rfl
@[simp] theorem State.until_freeCtr (s : State) (n : Nat) : (s.until_ n).freeCtr = s.freeCtr := rfl
@[simp] theorem State.until_regs (s : State) (n : Nat) : (s.until_ n).regs = s.regs := rfl
@[simp] theorem State.until_sts (s : State) (n : Nat) : (s.until_ n).sts = s.sts := rfl
@[simp] theorem State.until_cfg (s : State) (n : Nat) : (s.until_ n).cfg = s.cfg := rfl
@[simp] theorem State.until_tel (s : State) (n : Nat) : (s.until_ n).tel = s.tel := rfl
@[simp] theorem State.until_ports (s : State) (n : Nat) : (s.until_ n).ports = s.ports := rfl
@[simp] theorem State.until_guards (s : State) (n : Nat) : (s.until_ n).guards = s.guards := rfl
@[simp] theorem State.until_atu (s : State) (n : Nat) : (s.until_ n).atu = s.atu := rfl
@[simp] theorem State.until_map (s : State) (n : Nat) : (s.until_ n).map = s.map := rfl
@[simp] theorem State.until_plg (s : State) (n : Nat) : (s.until_ n).plg = s.plg := rfl
@[simp] theorem State.until_twn (s : State) (n : Nat) : (s.until_ n).twn = s.twn := rfl
@[simp] theorem State.until_vlt (s : State) (n : Nat) : (s.until_ n).vlt = s.vlt := rfl
@[simp] theorem State.until_subs (s : State) (n : Nat) : (s.until_ n).subs = s.subs := rfl
@[simp] theorem State.until_rpm (s : State) (n : Nat) : (s.until_ n).rpm = s.rpm := rfl
@[simp] theorem State.until_thermal (s : State) (n : Nat) : (s.until_ n).thermal = s.thermal := rfl
@[simp] theorem State.until_rpmTrig (s : State) (n : Nat) : (s.until_ n).rpmTrig = s.rpmTrig := rfl
@[simp] theorem State.until_rpmRfm (s : State) (n : Nat) : (s.until_ n).rpmRfm = s.rpmRfm := rfl
@[simp] theorem State.until_sgt (s : State) (n : Nat) : (s.until_ n).sgt = s.sgt := rfl
@[simp] theorem State.until_ecc (s : State) (n : Nat) : (s.until_ n).ecc = s.ecc := rfl
@[simp] theorem State.until_bwr (s : State) (n : Nat) : (s.until_ n).bwr = s.bwr := rfl
@[simp] theorem State.until_dti (s : State) (n : Nat) : (s.until_ n).dti = s.dti := rfl
@[simp] theorem State.until_cph (s : State) (n : Nat) : (s.until_ n).cph = s.cph := rfl
@[simp] theorem State.until_engines (s : State) (n : Nat) : (s.until_ n).engines = s.engines := rfl
@[simp] theorem State.until_sua (s : State) (n : Nat) : (s.until_ n).sua = s.sua := rfl
@[simp] theorem State.until_dre (s : State) (n : Nat) : (s.until_ n).dre = s.dre := rfl
@[simp] theorem State.until_pins (s : State) (n : Nat) : (s.until_ n).pins = s.pins := rfl
@[simp] theorem State.until_mem (s : State) (n : Nat) : (s.until_ n).mem = s.mem := rfl
@[simp] theorem State.until_poison (s : State) (n : Nat) : (s.until_ n).poison = s.poison := rfl
@[simp] theorem State.setPort_ports (s : State) (p : Nat) (v : Port) : (s.setPort p v).ports = aputD s.ports p v {} := rfl
@[simp] theorem State.setSub_subs (s : State) (c : Nat) (v : SubState) : (s.setSub c v).subs = aputD s.subs c v {} := rfl
@[simp] theorem State.setRpm_rpm (s : State) (c : Nat) (v : RpmSub) : (s.setRpm c v).rpm = aputD s.rpm c v {} := rfl
@[simp] theorem State.updEngine_engines (s : State) (e : Nat) (f : Engine → Engine) :
    (s.updEngine e f).engines = aputD s.engines e (f (s.engine e)) { phys := e } := rfl
@[simp] theorem State.setReg_regs (s : State) (off : Nat) (w : Word) :
    (s.setReg off w).regs = aputD s.regs off w (regReset off) := rfl
@[simp] theorem State.event_evts (s : State) (r b : Nat) : (s.event r b).evts = s.evts ++ [⟨r, b⟩] := rfl
@[simp] theorem State.logE_logq (s : State) (c : Nat) (src : BitVec 16) (a i : Nat) :
    (s.logE c src a i).logq = s.logq ++ [⟨BitVec.ofNat 16 c, BitVec.ofNat 64 a, src, BitVec.ofNat 64 i⟩] := rfl
@[simp] theorem State.until_chron (s : State) (n : Nat) : (s.until_ n).chron = Nat.max s.chron n := rfl

end Sys2Proof.Machine
end

