-- ==== Sys2Proof/Laws/Forms.lean ====
section
/-! SUPPORT. What every command has in common: what recording leaves, the forms of a meaning, and the block at rest. -/

namespace Sys2Proof.Machine

/-! ### Recording -/

@[simp] theorem State.eventIf_logq (s : State) (c : Bool) (r b : Nat) : (s.eventIf c r b).logq = s.logq := by
  cases c <;> rfl

@[simp] theorem State.capture_logq (s : State) (e : TraceEntry) : (s.capture e).logq = s.logq := by
  unfold State.capture
  dsimp only
  split
  · rfl
  · simp

/-- Writing an entry leaves the entries still to be written. -/
@[simp] theorem State.writeLog_logq (s : State) (q : LogReq) : (s.writeLog q).logq = s.logq := by
  simp only [State.writeLog, apply_ite State.logq, State.event_logq, State.eventIf_logq, State.capture_logq, ite_self]

theorem State.foldl_writeLog_logq (l : List LogReq) (s : State) : (l.foldl State.writeLog s).logq = s.logq := by
  induction l generalizing s with
  | nil => rfl
  | cons q r ih => simp [ih]

/-- After recording no event is left over. -/
@[simp] theorem State.flush_evts (s : State) : s.flush.evts = [] := by
  unfold State.flush
  split
  · next h => simp only [Bool.and_eq_true, List.isEmpty_iff] at h; exact h.2
  · rfl

/-- After recording no entry is left over. -/
@[simp] theorem State.flush_logq (s : State) : s.flush.logq = [] := by
  unfold State.flush
  split
  · next h => simp only [Bool.and_eq_true, List.isEmpty_iff] at h; exact h.1
  · simp [State.recordEvts, State.foldl_writeLog_logq]

/-- Recording leaves a state with nothing to record as it is. -/
theorem State.flush_of_recorded (s : State) (h : s.recorded = true) : s.flush = s := by
  unfold State.recorded at h
  simp only [Bool.and_eq_true] at h
  simp [State.flush, h.1, h.2]

@[simp] theorem State.flush_recorded (s : State) : s.flush.recorded = true := by simp [State.recorded]

@[simp] theorem State.withQueue_recorded (t s : State) : (t.withQueue s).recorded = t.recorded := rfl

@[simp] theorem State.withQueue_pending (t s : State) : (t.withQueue s).pending = s.pending := rfl

/-- A state takes its own queue. -/
theorem State.withQueue_of_eq (t s : State) (h : t.pending = s.pending) : t.withQueue s = t := by
  cases t; cases s; simp_all [State.withQueue]

/-! ### Rest -/

/-- A block at rest stays as it is. -/
theorem State.rounds_of_quiet (s : State) (h : s.quiet = true) (n : Nat) : s.rounds n = s := by
  cases n with
  | zero => rfl
  | succ n => simp [State.rounds, h]

theorem State.settle_of_quiet (s : State) (h : s.quiet = true) : s.settle = s := State.rounds_of_quiet s h 64

/-! ### Forms of a meaning -/

/-- An own effect that may go on: what the form answers. -/
theorem State.act_next (s : State) (f : State → State) (h : s.ready = true) :
    s.act f = .next ((((f s).settle.lapse s).flush).withQueue s) := by
  simp only [State.ready, Bool.not_eq_true'] at h
  simp [State.act, State.within, h]

theorem State.within_next (s : State) (f : State → State) (h : s.ready = true) :
    s.within f = .next ((((f s).lapse s).flush).withQueue s) := by
  simp only [State.ready, Bool.not_eq_true'] at h
  simp [State.within, h]

/-- A form answers a next state, and leaves the queue. -/
theorem State.within_completes (s : State) (f : State → State) : ∃ t, s.within f = .next t ∧ t.pending = s.pending := by
  unfold State.within
  split
  · exact ⟨s, rfl, rfl⟩
  · exact ⟨_, rfl, rfl⟩

/-- The form of every meaning but those of the reset input and of the test access port: an own effect. -/
def HasForm (i : Instr) : Prop := ∃ f : State → State, ∀ s, exec i s = s.within f

theorem HasForm.of_within {i : Instr} (f : State → State) (h : ∀ s, exec i s = s.within f) : HasForm i := ⟨f, h⟩

/-- Every command but those of the reset input and of the test access port has that form. -/
theorem exec_form (i : Instr) : boardRow i = true ∨ HasForm i := by
  cases i
  case dpDataAccess p w => cases w with
    | some v => exact .inr (.of_within _ fun _ => rfl)
    | none => exact .inr (.of_within _ fun _ => rfl)
  all_goals first
    | exact .inl rfl
    | exact .inr (.of_within _ fun _ => rfl)

end Sys2Proof.Machine
end

