-- ==== Sys2Proof/Laws/Lists.lean ====
section
/-! SUPPORT. The laws of the sorted association lists and of the byte memories: a read after a write, and the canonical
form every operation keeps. -/

namespace Sys2Proof.Machine

variable {α : Type}

/-! ### Association lists -/

@[simp] theorem aget_nil (k : Nat) : aget ([] : List (Nat × α)) k = none := rfl

theorem aget_cons (j : Nat) (v : α) (r : List (Nat × α)) (k : Nat) :
    aget ((j, v) :: r) k = if j = k then some v else aget r k := rfl

@[simp] theorem aget_aput_same (l : List (Nat × α)) (k : Nat) (v : α) : aget (aput l k v) k = some v := by
  induction l with
  | nil => simp [aput, aget]
  | cons x r ih =>
    obtain ⟨j, w⟩ := x
    simp only [aput]
    split
    · simp [aget]
    · split
      · simp [aget]
      · next h => simp [aget, h, ih]

theorem aget_aput_other (l : List (Nat × α)) {k j : Nat} (v : α) (h : j ≠ k) : aget (aput l k v) j = aget l j := by
  induction l with
  | nil => simp [aput, aget, Ne.symm h]
  | cons x r ih =>
    obtain ⟨i, w⟩ := x
    simp only [aput]
    split
    · simp [aget, Ne.symm h]
    · split
      · next hi => subst hi; simp [aget, Ne.symm h]
      · simp [aget, ih]

theorem aget_adel_other (l : List (Nat × α)) {k j : Nat} (h : j ≠ k) : aget (adel l k) j = aget l j := by
  induction l with
  | nil => rfl
  | cons x r ih =>
    obtain ⟨i, w⟩ := x
    simp only [adel]
    split
    · next hi => subst hi; simp [aget, Ne.symm h]
    · simp [aget, ih]

/-- No key of a rising list lies at or below a bound under its first key. -/
theorem aget_none_of_below (l : List (Nat × α)) (k : Nat) (h : keysRise l = true) (hk : ∀ x ∈ l.head?, k < x.1) :
    aget l k = none := by
  induction l with
  | nil => rfl
  | cons x r ih =>
    obtain ⟨i, w⟩ := x
    have hi : k < i := hk (i, w) rfl
    have hr : aget r k = none := by
      apply ih
      · cases r with
        | nil => rfl
        | cons y t => simp only [keysRise, Bool.and_eq_true] at h; exact h.2
      · intro y hy
        cases r with
        | nil => cases hy
        | cons z t =>
          simp only [keysRise, Bool.and_eq_true, decide_eq_true_eq] at h
          cases hy
          omega
    simp [aget, Nat.ne_of_gt hi, hr]

theorem keysRise_tail {x : Nat × α} {r : List (Nat × α)} (h : keysRise (x :: r) = true) : keysRise r = true := by
  cases r with
  | nil => rfl
  | cons y t => simp only [keysRise, Bool.and_eq_true] at h; exact h.2

theorem keysRise_cons {x : Nat × α} {r : List (Nat × α)} (h : keysRise r = true) (hx : ∀ y ∈ r.head?, x.1 < y.1) :
    keysRise (x :: r) = true := by
  cases r with
  | nil => rfl
  | cons y t => simp only [keysRise, Bool.and_eq_true, decide_eq_true_eq]; exact ⟨hx y rfl, h⟩

theorem aget_adel_same (l : List (Nat × α)) (k : Nat) (h : keysRise l = true) : aget (adel l k) k = none := by
  induction l with
  | nil => rfl
  | cons x r ih =>
    obtain ⟨i, w⟩ := x
    simp only [adel]
    split
    · next hi =>
      subst hi
      apply aget_none_of_below _ _ (keysRise_tail h)
      intro y hy
      cases r with
      | nil => cases hy
      | cons z t => cases hy; simp only [keysRise, Bool.and_eq_true, decide_eq_true_eq] at h; exact h.1
    · next hi => simp [aget, hi, ih (keysRise_tail h)]

/-- The value read at a key just written. -/
theorem agetD_aputD_same [DecidableEq α] (l : List (Nat × α)) (k : Nat) (v d : α) (h : keysRise l = true) :
    agetD (aputD l k v d) k d = v := by
  unfold agetD aputD
  split
  · next hv => rw [aget_adel_same l k h]; simp [hv]
  · simp

/-- The value read at another key. -/
theorem agetD_aputD_other [DecidableEq α] (l : List (Nat × α)) {k j : Nat} (v d e : α) (h : j ≠ k) :
    agetD (aputD l k v d) j e = agetD l j e := by
  unfold agetD aputD
  split
  · rw [aget_adel_other l h]
  · rw [aget_aput_other l v h]

theorem head_aput (l : List (Nat × α)) (k : Nat) (v : α) (b : Nat) (hk : b < k) (hl : ∀ y ∈ l.head?, b < y.1) :
    ∀ y ∈ (aput l k v).head?, b < y.1 := by
  intro y hy
  cases l with
  | nil => simp [aput] at hy; subst hy; exact hk
  | cons x r =>
    obtain ⟨i, w⟩ := x
    simp only [aput] at hy
    split at hy
    · simp at hy; subst hy; exact hk
    · split at hy
      · simp at hy; subst hy; exact hk
      · simp at hy; subst hy; exact hl (i, w) rfl

theorem keysRise_aput (l : List (Nat × α)) (k : Nat) (v : α) (h : keysRise l = true) : keysRise (aput l k v) = true := by
  induction l with
  | nil => rfl
  | cons x r ih =>
    obtain ⟨i, w⟩ := x
    simp only [aput]
    split
    · next hk => exact keysRise_cons h (fun y hy => by cases hy; exact hk)
    · next hk =>
      split
      · next hi =>
        subst hi
        cases r with
        | nil => rfl
        | cons y t => simpa [keysRise] using h
      · next hi =>
        apply keysRise_cons (ih (keysRise_tail h))
        apply head_aput r k v i (by omega)
        intro y hy
        cases r with
        | nil => cases hy
        | cons z t => cases hy; simp only [keysRise, Bool.and_eq_true, decide_eq_true_eq] at h; exact h.1

theorem head_adel (l : List (Nat × α)) (k b : Nat) (h : keysRise l = true) (hl : ∀ y ∈ l.head?, b < y.1) :
    ∀ y ∈ (adel l k).head?, b < y.1 := by
  intro y hy
  cases l with
  | nil => cases hy
  | cons x r =>
    obtain ⟨i, w⟩ := x
    simp only [adel] at hy
    split at hy
    · cases r with
      | nil => cases hy
      | cons z t =>
        cases hy
        simp only [keysRise, Bool.and_eq_true, decide_eq_true_eq] at h
        have := hl (i, w) rfl
        simp at this
        omega
    · cases hy; exact hl (i, w) rfl

theorem keysRise_adel (l : List (Nat × α)) (k : Nat) (h : keysRise l = true) : keysRise (adel l k) = true := by
  induction l with
  | nil => rfl
  | cons x r ih =>
    obtain ⟨i, w⟩ := x
    simp only [adel]
    split
    · exact keysRise_tail h
    · apply keysRise_cons (ih (keysRise_tail h))
      apply head_adel r k i (keysRise_tail h)
      intro y hy
      cases r with
      | nil => cases hy
      | cons z t => cases hy; simp only [keysRise, Bool.and_eq_true, decide_eq_true_eq] at h; exact h.1

theorem keysRise_aputD [DecidableEq α] (l : List (Nat × α)) (k : Nat) (v d : α) (h : keysRise l = true) :
    keysRise (aputD l k v d) = true := by
  unfold aputD
  split
  · exact keysRise_adel l k h
  · exact keysRise_aput l k v h

/-! ### Byte memories -/

/-- The canonical form is a rising list with no byte that is zero. -/
theorem Memory.wf_iff (m : List Host.Cell) : Memory.wf m = true ↔ keysRise m = true ∧ ∀ x ∈ m, x.2 ≠ 0 := by
  induction m with
  | nil => simp [Memory.wf, keysRise]
  | cons x r ih =>
    obtain ⟨a, b⟩ := x
    cases r with
    | nil => simp [Memory.wf, keysRise]
    | cons y t =>
      obtain ⟨a', b'⟩ := y
      simp only [Memory.wf, keysRise, Bool.and_eq_true, decide_eq_true_eq, bne_iff_ne, ne_eq] at ih ⊢
      rw [ih]
      constructor
      · rintro ⟨⟨hb, ha⟩, hr, hz⟩
        refine ⟨⟨ha, hr⟩, ?_⟩
        intro x hx
        cases hx with
        | head => exact hb
        | tail _ h => exact hz x h
      · rintro ⟨⟨ha, hr⟩, hz⟩
        exact ⟨⟨hz (a, b) (by simp), ha⟩, hr, fun x hx => hz x (by simp [hx])⟩

theorem mem_adel {l : List (Nat × α)} {k : Nat} {x : Nat × α} (h : x ∈ adel l k) : x ∈ l := by
  induction l with
  | nil => cases h
  | cons y r ih =>
    obtain ⟨i, w⟩ := y
    simp only [adel] at h
    split at h
    · exact List.mem_cons_of_mem _ h
    · cases h with
      | head => simp
      | tail _ h => exact List.mem_cons_of_mem _ (ih h)

theorem mem_aput {l : List (Nat × α)} {k : Nat} {v : α} {x : Nat × α} (h : x ∈ aput l k v) : x = (k, v) ∨ x ∈ l := by
  induction l with
  | nil => simp [aput] at h; exact Or.inl h
  | cons y r ih =>
    obtain ⟨i, w⟩ := y
    simp only [aput] at h
    split at h
    · rcases List.mem_cons.1 h with h | h
      · exact Or.inl h
      · exact Or.inr h
    · split at h
      · rcases List.mem_cons.1 h with h | h
        · exact Or.inl h
        · exact Or.inr (List.mem_cons_of_mem _ h)
      · rcases List.mem_cons.1 h with h | h
        · exact Or.inr (by simp [h])
        · rcases ih h with h | h
          · exact Or.inl h
          · exact Or.inr (List.mem_cons_of_mem _ h)

/-- Writing a byte keeps the canonical form. -/
theorem memSet_wf (m : List Host.Cell) (a : Nat) (b : Byte) (h : Memory.wf m = true) : Memory.wf (memSet m a b) = true := by
  rw [Memory.wf_iff] at h ⊢
  refine ⟨keysRise_aputD m a b 0 h.1, ?_⟩
  intro x hx
  unfold memSet aputD at hx
  split at hx
  · exact h.2 x (mem_adel hx)
  · next hb =>
    rcases mem_aput hx with rfl | hx
    · exact hb
    · exact h.2 x hx

/-- Writing bytes keeps the canonical form. -/
theorem memPut_wf (bs : List Byte) (m : List Host.Cell) (a : Nat) (h : Memory.wf m = true) : Memory.wf (memPut m a bs) = true := by
  induction bs generalizing m a with
  | nil => exact h
  | cons b r ih => exact ih _ _ (memSet_wf m a b h)

/-- The byte just written. -/
theorem memByte_memSet_same (m : List Host.Cell) (a : Nat) (b : Byte) (h : Memory.wf m = true) : memByte (memSet m a b) a = b :=
  agetD_aputD_same m a b 0 ((Memory.wf_iff m).1 h).1

/-- Another byte. -/
theorem memByte_memSet_other (m : List Host.Cell) {a j : Nat} (b : Byte) (h : j ≠ a) : memByte (memSet m a b) j = memByte m j :=
  agetD_aputD_other m b 0 0 h

/-- A byte outside the bytes written. -/
theorem memByte_memPut_outside (bs : List Byte) (m : List Host.Cell) (a j : Nat) (h : j < a ∨ a + bs.length ≤ j) :
    memByte (memPut m a bs) j = memByte m j := by
  induction bs generalizing m a with
  | nil => rfl
  | cons b r ih =>
    simp only [memPut]
    simp only [List.length_cons] at h
    rw [ih (memSet m a b) (a + 1) (by omega), memByte_memSet_other m b (by omega)]

/-- A byte among the bytes written. -/
theorem memByte_memPut_inside (bs : List Byte) (m : List Host.Cell) (a i : Nat) (hw : Memory.wf m = true) (h : i < bs.length) :
    memByte (memPut m a bs) (a + i) = bs[i] := by
  induction bs generalizing m a i with
  | nil => cases h
  | cons b r ih =>
    simp only [memPut]
    cases i with
    | zero =>
      rw [memByte_memPut_outside r _ (a + 1) (a + 0) (by omega)]
      simpa using memByte_memSet_same m a b hw
    | succ i =>
      have := ih (memSet m a b) (a + 1) i (memSet_wf m a b hw) (by simpa using h)
      rw [show a + (i + 1) = a + 1 + i by omega]
      simpa using this

/-! ### Engines -/

/-- The engine just changed. -/
theorem State.engine_updEngine_same (s : State) (e : Nat) (f : Engine → Engine) (h : keysRise s.engines = true) :
    (s.updEngine e f).engine e = f (s.engine e) := agetD_aputD_same s.engines e _ _ h

/-- Another engine. -/
theorem State.engine_updEngine_other (s : State) {e k : Nat} (f : Engine → Engine) (h : k ≠ e) :
    (s.updEngine e f).engine k = s.engine k := agetD_aputD_other s.engines _ _ _ h

end Sys2Proof.Machine
end

