-- ==== Sys2Proof/Laws/PerInstr.lean ====
section
/-! SUPPORT. What holds of every command as syntax, one lemma for each constructor. -/

namespace Sys2Proof.Laws.Shape

open Sys2Proof.Machine

/-- The rows of the reset input and of the test access port have no ill-formed operand, and no command names both an ATOM
operation and a Pilot's operation bits. -/
def Statement (i : Instr) : Prop :=
  (boardRow i = false ∨ wellFormed i = true) ∧ ((atomOpCode i).isNone = true ∨ (funcCode i).isNone = true)

theorem read (q : HostReq) : Statement (.read q) := ⟨.inl rfl, .inl rfl⟩
theorem write (q : HostReq) : Statement (.write q) := ⟨.inl rfl, .inl rfl⟩
theorem writeFull (q : HostReq) : Statement (.writeFull q) := ⟨.inl rfl, .inl rfl⟩
theorem atomCas8 (q : HostReq) : Statement (.atomCas8 q) := ⟨.inl rfl, .inr rfl⟩
theorem atomCas16 (q : HostReq) : Statement (.atomCas16 q) := ⟨.inl rfl, .inr rfl⟩
theorem atomFadd (q : HostReq) : Statement (.atomFadd q) := ⟨.inl rfl, .inr rfl⟩
theorem atomSwap (q : HostReq) : Statement (.atomSwap q) := ⟨.inl rfl, .inr rfl⟩
theorem atomAnd (q : HostReq) : Statement (.atomAnd q) := ⟨.inl rfl, .inr rfl⟩
theorem atomOr (q : HostReq) : Statement (.atomOr q) := ⟨.inl rfl, .inr rfl⟩
theorem resvLd (q : HostReq) : Statement (.resvLd q) := ⟨.inl rfl, .inl rfl⟩
theorem condSt (q : HostReq) : Statement (.condSt q) := ⟨.inl rfl, .inl rfl⟩
theorem ofence (q : HostReq) : Statement (.ofence q) := ⟨.inl rfl, .inl rfl⟩
theorem pfence (q : HostReq) : Statement (.pfence q) := ⟨.inl rfl, .inl rfl⟩
theorem stageHint (q : HostReq) : Statement (.stageHint q) := ⟨.inl rfl, .inl rfl⟩
theorem cfgRd (q : HostReq) : Statement (.cfgRd q) := ⟨.inl rfl, .inl rfl⟩
theorem cfgWr (q : HostReq) : Statement (.cfgWr q) := ⟨.inl rfl, .inl rfl⟩
theorem hostResponseAck (port : Fin 16) : Statement (.hostResponseAck port) := ⟨.inl rfl, .inl rfl⟩
theorem holdTimeout (port : Fin 16) (tag : BitVec 12) : Statement (.holdTimeout port tag) := ⟨.inl rfl, .inl rfl⟩
theorem idleItem (q : Queue) : Statement (.idleItem q) := ⟨.inl rfl, .inl rfl⟩
theorem queueSilent (q : Queue) : Statement (.queueSilent q) := ⟨.inl rfl, .inl rfl⟩
theorem paceSample (m : Fin 8) (pace : BitVec 12) : Statement (.paceSample m pace) := ⟨.inl rfl, .inl rfl⟩
theorem pilotStoreResponse (e : EngineNo) : Statement (.pilotStoreResponse e) := ⟨.inl rfl, .inl rfl⟩
theorem storeBufferAgeIssue (e : EngineNo) : Statement (.storeBufferAgeIssue e) := ⟨.inl rfl, .inl rfl⟩
theorem reservationExpire (who : ResvId) : Statement (.reservationExpire who) := ⟨.inl rfl, .inl rfl⟩
theorem reservationClearAll (p : Path) : Statement (.reservationClearAll p) := ⟨.inl rfl, .inl rfl⟩
theorem atuRcfgWrite (p : Path) (v : Word) : Statement (.atuRcfgWrite p v) := ⟨.inl rfl, .inl rfl⟩
theorem drainIssue : Statement (.drainIssue) := ⟨.inl rfl, .inl rfl⟩
theorem drainComplete (idx : DWord) : Statement (.drainComplete idx) := ⟨.inl rfl, .inl rfl⟩
theorem drainReissue (idx : DWord) : Statement (.drainReissue idx) := ⟨.inl rfl, .inl rfl⟩
theorem drainStall : Statement (.drainStall) := ⟨.inl rfl, .inl rfl⟩
theorem fenceTimeout (id : Nat) : Statement (.fenceTimeout id) := ⟨.inl rfl, .inl rfl⟩
theorem plgBudgetWrite (p : Path) (v : Word) : Statement (.plgBudgetWrite p v) := ⟨.inl rfl, .inl rfl⟩
theorem pinSet (p : Path) (k : Fin 3) : Statement (.pinSet p k) := ⟨.inl rfl, .inl rfl⟩
theorem pinClr (p : Path) (k : Fin 3) : Statement (.pinClr p k) := ⟨.inl rfl, .inl rfl⟩
theorem anchorReleased : Statement (.anchorReleased) := ⟨.inl rfl, .inl rfl⟩
theorem mirrorFrameSend (lane : Fin 2) : Statement (.mirrorFrameSend lane) := ⟨.inl rfl, .inl rfl⟩
theorem mirror (f : Frame) : Statement (.mirror f) := ⟨.inl rfl, .inl rfl⟩
theorem mirrorFrameResume (lane : Fin 2) : Statement (.mirrorFrameResume lane) := ⟨.inl rfl, .inl rfl⟩
theorem fwdWr (f : Frame) : Statement (.fwdWr f) := ⟨.inl rfl, .inl rfl⟩
theorem fwdAck (f : Frame) : Statement (.fwdAck f) := ⟨.inl rfl, .inl rfl⟩
theorem fwdTableAdmit : Statement (.fwdTableAdmit) := ⟨.inl rfl, .inl rfl⟩
theorem beat (f : Frame) : Statement (.beat f) := ⟨.inl rfl, .inl rfl⟩
theorem heartbeat : Statement (.heartbeat) := ⟨.inl rfl, .inl rfl⟩
theorem hello (f : Frame) : Statement (.hello f) := ⟨.inl rfl, .inl rfl⟩
theorem helloResend : Statement (.helloResend) := ⟨.inl rfl, .inl rfl⟩
theorem ownTable (f : Frame) : Statement (.ownTable f) := ⟨.inl rfl, .inl rfl⟩
theorem ownHandover (f : Frame) : Statement (.ownHandover f) := ⟨.inl rfl, .inl rfl⟩
theorem ownAck (f : Frame) : Statement (.ownAck f) := ⟨.inl rfl, .inl rfl⟩
theorem ownTake (f : Frame) : Statement (.ownTake f) := ⟨.inl rfl, .inl rfl⟩
theorem ownFence (f : Frame) : Statement (.ownFence f) := ⟨.inl rfl, .inl rfl⟩
theorem ownSyncDone (f : Frame) : Statement (.ownSyncDone f) := ⟨.inl rfl, .inl rfl⟩
theorem fetch (f : Frame) : Statement (.fetch f) := ⟨.inl rfl, .inl rfl⟩
theorem fetchNak (f : Frame) : Statement (.fetchNak f) := ⟨.inl rfl, .inl rfl⟩
theorem ctrl (f : Frame) : Statement (.ctrl f) := ⟨.inl rfl, .inl rfl⟩
theorem epochWait (lane : Fin 2) : Statement (.epochWait lane) := ⟨.inl rfl, .inl rfl⟩
theorem retryTimeout (lane : Fin 3) : Statement (.retryTimeout lane) := ⟨.inl rfl, .inl rfl⟩
theorem silentTimeout : Statement (.silentTimeout) := ⟨.inl rfl, .inl rfl⟩
theorem twnUp (p : Path) : Statement (.twnUp p) := ⟨.inl rfl, .inl rfl⟩
theorem twnDown (p : Path) : Statement (.twnDown p) := ⟨.inl rfl, .inl rfl⟩
theorem twnFull (p : Path) : Statement (.twnFull p) := ⟨.inl rfl, .inl rfl⟩
theorem twnHover (p : Path) (reach : BitVec 16) : Statement (.twnHover p reach) := ⟨.inl rfl, .inl rfl⟩
theorem handoverSend (reach : BitVec 16) : Statement (.handoverSend reach) := ⟨.inl rfl, .inl rfl⟩
theorem twnGrantGo (p : Path) : Statement (.twnGrantGo p) := ⟨.inl rfl, .inl rfl⟩
theorem grantDone : Statement (.grantDone) := ⟨.inl rfl, .inl rfl⟩
theorem resyncLeafCopy : Statement (.resyncLeafCopy) := ⟨.inl rfl, .inl rfl⟩
theorem pfWarn : Statement (.pfWarn) := ⟨.inl rfl, .inl rfl⟩
theorem saveMetaWrite (event : Unit) : Statement (.saveMetaWrite event) := ⟨.inl rfl, .inl rfl⟩
theorem saveFirstFlushDone (event : Unit) : Statement (.saveFirstFlushDone event) := ⟨.inl rfl, .inl rfl⟩
theorem saveDone (event : Unit) : Statement (.saveDone event) := ⟨.inl rfl, .inl rfl⟩
theorem vaultMetaWriteback (unit : Nat) : Statement (.vaultMetaWriteback unit) := ⟨.inl rfl, .inl rfl⟩
theorem restoreSuperblockRead (event event2 : Unit) : Statement (.restoreSuperblockRead event event2) := ⟨.inl rfl, .inl rfl⟩
theorem restoreMetadataRead (event : Unit) : Statement (.restoreMetadataRead event) := ⟨.inl rfl, .inl rfl⟩
theorem restoreServiceStart (event : Unit) : Statement (.restoreServiceStart event) := ⟨.inl rfl, .inl rfl⟩
theorem vltInit (p : Path) : Statement (.vltInit p) := ⟨.inl rfl, .inl rfl⟩
theorem vltRelease (p : Path) : Statement (.vltRelease p) := ⟨.inl rfl, .inl rfl⟩
theorem backgroundRefill : Statement (.backgroundRefill) := ⟨.inl rfl, .inl rfl⟩
theorem leafRefillDone (leaf : Nat) : Statement (.leafRefillDone leaf) := ⟨.inl rfl, .inl rfl⟩
theorem sightingComplete : Statement (.sightingComplete) := ⟨.inl rfl, .inl rfl⟩
theorem chsDecide (c : Sub) : Statement (.chsDecide c) := ⟨.inl rfl, .inl rfl⟩
theorem commandLaunch (c : Sub) : Statement (.commandLaunch c) := ⟨.inl rfl, .inl rfl⟩
theorem readDataReturn (c : Sub) (r : ReadReturn) : Statement (.readDataReturn c r) := ⟨.inl rfl, .inl rfl⟩
theorem chsCfgWrite (p : Path) (ch : Fin 16) (v : Word) : Statement (.chsCfgWrite p ch v) := ⟨.inl rfl, .inl rfl⟩
theorem chsWmWrite (p : Path) (ch : Fin 16) (v : Word) : Statement (.chsWmWrite p ch v) := ⟨.inl rfl, .inl rfl⟩
theorem chsTimWrite (p : Path) (ch : Fin 16) (n : Fin 8) (v : Word) : Statement (.chsTimWrite p ch n v) := ⟨.inl rfl, .inl rfl⟩
theorem refreshTick (c : Sub) (cs : Fin 4) : Statement (.refreshTick c cs) := ⟨.inl rfl, .inl rfl⟩
theorem thermalPoll (ch : Fin 16) (readings : List (Option Byte)) : Statement (.thermalPoll ch readings) := ⟨.inl rfl, .inl rfl⟩
theorem trackerClear (ch : Fin 16) : Statement (.trackerClear ch) := ⟨.inl rfl, .inl rfl⟩
theorem pauseGrant (c : Sub) : Statement (.pauseGrant c) := ⟨.inl rfl, .inl rfl⟩
theorem rpmCfgWrite (p : Path) (v : Word) : Statement (.rpmCfgWrite p v) := ⟨.inl rfl, .inl rfl⟩
theorem sgtDiscover (p : Path) (hubs : List SpdModule) : Statement (.sgtDiscover p hubs) := ⟨.inl rfl, .inl rfl⟩
theorem sgtStart (p : Path) : Statement (.sgtStart p) := ⟨.inl rfl, .inl rfl⟩
theorem sgtResight (p : Path) (v : Word) : Statement (.sgtResight p v) := ⟨.inl rfl, .inl rfl⟩
theorem sgtResightFull (p : Path) (v : Word) : Statement (.sgtResightFull p v) := ⟨.inl rfl, .inl rfl⟩
theorem sightStepDone (r : StepResult) : Statement (.sightStepDone r) := ⟨.inl rfl, .inl rfl⟩
theorem sidebandCmdGo (p : Path) (v : Word) : Statement (.sidebandCmdGo p v) := ⟨.inl rfl, .inl rfl⟩
theorem sidebandDone (result : BitVec 3) (data : Word) : Statement (.sidebandDone result data) := ⟨.inl rfl, .inl rfl⟩
theorem caParity (c : Sub) : Statement (.caParity c) := ⟨.inl rfl, .inl rfl⟩
theorem oscSample (c : Sub) (counts : List (BitVec 16)) (drifts : List (BitVec 8)) : Statement (.oscSample c counts drifts) := ⟨.inl rfl, .inl rfl⟩
theorem resightDue (c : Sub) (cs : Fin 4) : Statement (.resightDue c cs) := ⟨.inl rfl, .inl rfl⟩
theorem resightInterval (c : Sub) (cs : Fin 4) : Statement (.resightInterval c cs) := ⟨.inl rfl, .inl rfl⟩
theorem resightChunk (c : Sub) (pass : Bool) (results : List (Nat × Word)) : Statement (.resightChunk c pass results) := ⟨.inl rfl, .inl rfl⟩
theorem soundingPassStart : Statement (.soundingPassStart) := ⟨.inl rfl, .inl rfl⟩
theorem soundingRead (c : Sub) (event : Unit) : Statement (.soundingRead c event) := ⟨.inl rfl, .inl rfl⟩
theorem eccRetireRow (p : Path) (v : Word) : Statement (.eccRetireRow p v) := ⟨.inl rfl, .inl rfl⟩
theorem eccMarkDev (p : Path) (v : Word) : Statement (.eccMarkDev p v) := ⟨.inl rfl, .inl rfl⟩
theorem eccSpareBank (p : Path) (v : Word) : Statement (.eccSpareBank p v) := ⟨.inl rfl, .inl rfl⟩
theorem eccSpareRank (p : Path) (v : Word) : Statement (.eccSpareRank p v) := ⟨.inl rfl, .inl rfl⟩
theorem eccRetirePe (p : Path) (v : Word) : Statement (.eccRetirePe p v) := ⟨.inl rfl, .inl rfl⟩
theorem eccMarkWrite (p : Path) (c : Sub) (v : Word) : Statement (.eccMarkWrite p c v) := ⟨.inl rfl, .inl rfl⟩
theorem spareCopy (ch : Fin 16) : Statement (.spareCopy ch) := ⟨.inl rfl, .inl rfl⟩
theorem wqHealFetch (leaf : Nat) : Statement (.wqHealFetch leaf) := ⟨.inl rfl, .inl rfl⟩
theorem healTimeout (leaf : Nat) : Statement (.healTimeout leaf) := ⟨.inl rfl, .inl rfl⟩
theorem bwrWindow : Statement (.bwrWindow) := ⟨.inl rfl, .inl rfl⟩
theorem bwrSlot : Statement (.bwrSlot) := ⟨.inl rfl, .inl rfl⟩
theorem bwrCommit (p : Path) : Statement (.bwrCommit p) := ⟨.inl rfl, .inl rfl⟩
theorem bwrChartCommit (p : Path) : Statement (.bwrChartCommit p) := ⟨.inl rfl, .inl rfl⟩
theorem fillIssue : Statement (.fillIssue) := ⟨.inl rfl, .inl rfl⟩
theorem slotEvict (slot : Nat) : Statement (.slotEvict slot) := ⟨.inl rfl, .inl rfl⟩
theorem fillComplete (sb : Nat) : Statement (.fillComplete sb) := ⟨.inl rfl, .inl rfl⟩
theorem sealFlush (seg : Nat) : Statement (.sealFlush seg) := ⟨.inl rfl, .inl rfl⟩
theorem sealDone (seg : Nat) : Statement (.sealDone seg) := ⟨.inl rfl, .inl rfl⟩
theorem dtiPubGo (p : Path) : Statement (.dtiPubGo p) := ⟨.inl rfl, .inl rfl⟩
theorem dpCommandIssue : Statement (.dpCommandIssue) := ⟨.inl rfl, .inl rfl⟩
theorem dpReadBeat (id : BitVec 12) (beat : BitVec 6) (data : Line) : Statement (.dpReadBeat id beat data) := ⟨.inl rfl, .inl rfl⟩
theorem dpCompletion (id : BitVec 12) (stat : BitVec 3) (sb : BitVec 256) : Statement (.dpCompletion id stat sb) := ⟨.inl rfl, .inl rfl⟩
theorem dpTimeout (id : BitVec 12) : Statement (.dpTimeout id) := ⟨.inl rfl, .inl rfl⟩
theorem portReset (p : Path) : Statement (.portReset p) := ⟨.inl rfl, .inl rfl⟩
theorem load256 (slot : Fin 64) (key : BitVec 512) : Statement (.load256 slot key) := ⟨.inl rfl, .inl rfl⟩
theorem load512 (slot : Fin 64) (key : BitVec 512) : Statement (.load512 slot key) := ⟨.inl rfl, .inl rfl⟩
theorem keyZero (slot : Fin 64) : Statement (.keyZero slot) := ⟨.inl rfl, .inl rfl⟩
theorem keyBadOp (slot : Fin 64) : Statement (.keyBadOp slot) := ⟨.inl rfl, .inl rfl⟩
theorem cphKzero (p : Path) (slot : Fin 64) : Statement (.cphKzero p slot) := ⟨.inl rfl, .inl rfl⟩
theorem coreKat (core : Fin 38) (pass : Bool) : Statement (.coreKat core pass) := ⟨.inl rfl, .inl rfl⟩
theorem peaStart (p : Path) (e : EngineNo) : Statement (.peaStart p e) := ⟨.inl rfl, .inl rfl⟩
theorem peaStop (p : Path) (e : EngineNo) : Statement (.peaStop p e) := ⟨.inl rfl, .inl rfl⟩
theorem peaLoad (p : Path) (e : EngineNo) : Statement (.peaLoad p e) := ⟨.inl rfl, .inl rfl⟩
theorem peaReset (p : Path) (e : EngineNo) : Statement (.peaReset p e) := ⟨.inl rfl, .inl rfl⟩
theorem peaImg (p : Path) (e : EngineNo) (v : Word) : Statement (.peaImg p e v) := ⟨.inl rfl, .inl rfl⟩
theorem stopDone (e : EngineNo) : Statement (.stopDone e) := ⟨.inl rfl, .inl rfl⟩
theorem suaRequest (e : EngineNo) (u : Fin 6) (prio : BitVec 4) : Statement (.suaRequest e u prio) := ⟨.inl rfl, .inl rfl⟩
theorem suaWithdraw (e : EngineNo) (u : Fin 6) : Statement (.suaWithdraw e u) := ⟨.inl rfl, .inl rfl⟩
theorem suaRelease (e : EngineNo) (u : Fin 6) : Statement (.suaRelease e u) := ⟨.inl rfl, .inl rfl⟩
theorem suaInternalRequest (who : Internal) (u : Fin 6) : Statement (.suaInternalRequest who u) := ⟨.inl rfl, .inl rfl⟩
theorem suaRequestDue (who : Internal) (u : Fin 6) : Statement (.suaRequestDue who u) := ⟨.inl rfl, .inl rfl⟩
theorem suaWindow : Statement (.suaWindow) := ⟨.inl rfl, .inl rfl⟩
theorem longHold (inst : Fin 28) : Statement (.longHold inst) := ⟨.inl rfl, .inl rfl⟩
theorem mvCopy (e : EngineNo) : Statement (.mvCopy e) := ⟨.inl rfl, .inl rfl⟩
theorem mvFill (e : EngineNo) : Statement (.mvFill e) := ⟨.inl rfl, .inl rfl⟩
theorem mvSeal (e : EngineNo) : Statement (.mvSeal e) := ⟨.inl rfl, .inl rfl⟩
theorem mvAbort (e : EngineNo) : Statement (.mvAbort e) := ⟨.inl rfl, .inl rfl⟩
theorem moverDone (ch : Fin 8) : Statement (.moverDone ch) := ⟨.inl rfl, .inl rfl⟩
theorem slotDpRead (e : EngineNo) : Statement (.slotDpRead e) := ⟨.inl rfl, .inl rfl⟩
theorem slotDpWrite (e : EngineNo) : Statement (.slotDpWrite e) := ⟨.inl rfl, .inl rfl⟩
theorem slotDpFlush (e : EngineNo) : Statement (.slotDpFlush e) := ⟨.inl rfl, .inl rfl⟩
theorem sdProbe (e : EngineNo) (addr : DWord) : Statement (.sdProbe e addr) := ⟨.inl rfl, .inl rfl⟩
theorem sgReq (e : EngineNo) (v : Word) : Statement (.sgReq e v) := ⟨.inl rfl, .inl rfl⟩
theorem bcGo (e : EngineNo) : Statement (.bcGo e) := ⟨.inl rfl, .inl rfl⟩
theorem kjZero (e : EngineNo) : Statement (.kjZero e) := ⟨.inl rfl, .inl rfl⟩
theorem kjGcmEnc (e : EngineNo) : Statement (.kjGcmEnc e) := ⟨.inl rfl, .inl rfl⟩
theorem kjGcmDec (e : EngineNo) : Statement (.kjGcmDec e) := ⟨.inl rfl, .inl rfl⟩
theorem kjGmac (e : EngineNo) : Statement (.kjGmac e) := ⟨.inl rfl, .inl rfl⟩
theorem keyJobDone : Statement (.keyJobDone) := ⟨.inl rfl, .inl rfl⟩
theorem add (e : EngineNo) (rd rs1 rs2 : BitVec 5) : Statement (.add e rd rs1 rs2) := ⟨.inl rfl, .inl rfl⟩
theorem sub (e : EngineNo) (rd rs1 rs2 : BitVec 5) : Statement (.sub e rd rs1 rs2) := ⟨.inl rfl, .inl rfl⟩
theorem and (e : EngineNo) (rd rs1 rs2 : BitVec 5) : Statement (.and e rd rs1 rs2) := ⟨.inl rfl, .inl rfl⟩
theorem or (e : EngineNo) (rd rs1 rs2 : BitVec 5) : Statement (.or e rd rs1 rs2) := ⟨.inl rfl, .inl rfl⟩
theorem xor (e : EngineNo) (rd rs1 rs2 : BitVec 5) : Statement (.xor e rd rs1 rs2) := ⟨.inl rfl, .inl rfl⟩
theorem sll (e : EngineNo) (rd rs1 rs2 : BitVec 5) : Statement (.sll e rd rs1 rs2) := ⟨.inl rfl, .inl rfl⟩
theorem srl (e : EngineNo) (rd rs1 rs2 : BitVec 5) : Statement (.srl e rd rs1 rs2) := ⟨.inl rfl, .inl rfl⟩
theorem sra (e : EngineNo) (rd rs1 rs2 : BitVec 5) : Statement (.sra e rd rs1 rs2) := ⟨.inl rfl, .inl rfl⟩
theorem cmplt (e : EngineNo) (rd rs1 rs2 : BitVec 5) : Statement (.cmplt e rd rs1 rs2) := ⟨.inl rfl, .inl rfl⟩
theorem cmpltu (e : EngineNo) (rd rs1 rs2 : BitVec 5) : Statement (.cmpltu e rd rs1 rs2) := ⟨.inl rfl, .inl rfl⟩
theorem mul (e : EngineNo) (rd rs1 rs2 : BitVec 5) : Statement (.mul e rd rs1 rs2) := ⟨.inl rfl, .inl rfl⟩
theorem mulhu (e : EngineNo) (rd rs1 rs2 : BitVec 5) : Statement (.mulhu e rd rs1 rs2) := ⟨.inl rfl, .inl rfl⟩
theorem divu (e : EngineNo) (rd rs1 rs2 : BitVec 5) : Statement (.divu e rd rs1 rs2) := ⟨.inl rfl, .inl rfl⟩
theorem remu (e : EngineNo) (rd rs1 rs2 : BitVec 5) : Statement (.remu e rd rs1 rs2) := ⟨.inl rfl, .inl rfl⟩
theorem div (e : EngineNo) (rd rs1 rs2 : BitVec 5) : Statement (.div e rd rs1 rs2) := ⟨.inl rfl, .inl rfl⟩
theorem rem (e : EngineNo) (rd rs1 rs2 : BitVec 5) : Statement (.rem e rd rs1 rs2) := ⟨.inl rfl, .inl rfl⟩
theorem min (e : EngineNo) (rd rs1 rs2 : BitVec 5) : Statement (.min e rd rs1 rs2) := ⟨.inl rfl, .inl rfl⟩
theorem max (e : EngineNo) (rd rs1 rs2 : BitVec 5) : Statement (.max e rd rs1 rs2) := ⟨.inl rfl, .inl rfl⟩
theorem minu (e : EngineNo) (rd rs1 rs2 : BitVec 5) : Statement (.minu e rd rs1 rs2) := ⟨.inl rfl, .inl rfl⟩
theorem maxu (e : EngineNo) (rd rs1 rs2 : BitVec 5) : Statement (.maxu e rd rs1 rs2) := ⟨.inl rfl, .inl rfl⟩
theorem clz (e : EngineNo) (rd rs1 rs2 : BitVec 5) : Statement (.clz e rd rs1 rs2) := ⟨.inl rfl, .inl rfl⟩
theorem ctz (e : EngineNo) (rd rs1 rs2 : BitVec 5) : Statement (.ctz e rd rs1 rs2) := ⟨.inl rfl, .inl rfl⟩
theorem popc (e : EngineNo) (rd rs1 rs2 : BitVec 5) : Statement (.popc e rd rs1 rs2) := ⟨.inl rfl, .inl rfl⟩
theorem bswap (e : EngineNo) (rd rs1 rs2 : BitVec 5) : Statement (.bswap e rd rs1 rs2) := ⟨.inl rfl, .inl rfl⟩
theorem crc (e : EngineNo) (rd rs1 rs2 : BitVec 5) : Statement (.crc e rd rs1 rs2) := ⟨.inl rfl, .inl rfl⟩
theorem cmpeq (e : EngineNo) (rd rs1 rs2 : BitVec 5) : Statement (.cmpeq e rd rs1 rs2) := ⟨.inl rfl, .inl rfl⟩
theorem cmple (e : EngineNo) (rd rs1 rs2 : BitVec 5) : Statement (.cmple e rd rs1 rs2) := ⟨.inl rfl, .inl rfl⟩
theorem cmpleu (e : EngineNo) (rd rs1 rs2 : BitVec 5) : Statement (.cmpleu e rd rs1 rs2) := ⟨.inl rfl, .inl rfl⟩
theorem addi (e : EngineNo) (rd rs1 : BitVec 5) (imm : BitVec 16) : Statement (.addi e rd rs1 imm) := ⟨.inl rfl, .inl rfl⟩
theorem andi (e : EngineNo) (rd rs1 : BitVec 5) (imm : BitVec 16) : Statement (.andi e rd rs1 imm) := ⟨.inl rfl, .inl rfl⟩
theorem ori (e : EngineNo) (rd rs1 : BitVec 5) (imm : BitVec 16) : Statement (.ori e rd rs1 imm) := ⟨.inl rfl, .inl rfl⟩
theorem xori (e : EngineNo) (rd rs1 : BitVec 5) (imm : BitVec 16) : Statement (.xori e rd rs1 imm) := ⟨.inl rfl, .inl rfl⟩
theorem cmplti (e : EngineNo) (rd rs1 : BitVec 5) (imm : BitVec 16) : Statement (.cmplti e rd rs1 imm) := ⟨.inl rfl, .inl rfl⟩
theorem cmpltui (e : EngineNo) (rd rs1 : BitVec 5) (imm : BitVec 16) : Statement (.cmpltui e rd rs1 imm) := ⟨.inl rfl, .inl rfl⟩
theorem shiSll (e : EngineNo) (rd rs1 : BitVec 5) (imm : BitVec 16) : Statement (.shiSll e rd rs1 imm) := ⟨.inl rfl, .inl rfl⟩
theorem shiSrl (e : EngineNo) (rd rs1 : BitVec 5) (imm : BitVec 16) : Statement (.shiSrl e rd rs1 imm) := ⟨.inl rfl, .inl rfl⟩
theorem shiSra (e : EngineNo) (rd rs1 : BitVec 5) (imm : BitVec 16) : Statement (.shiSra e rd rs1 imm) := ⟨.inl rfl, .inl rfl⟩
theorem shiRor (e : EngineNo) (rd rs1 : BitVec 5) (imm : BitVec 16) : Statement (.shiRor e rd rs1 imm) := ⟨.inl rfl, .inl rfl⟩
theorem shin (e : EngineNo) (rd rs1 : BitVec 5) (imm : BitVec 16) : Statement (.shin e rd rs1 imm) := ⟨.inl rfl, .inl rfl⟩
theorem movi (e : EngineNo) (rd rs1 : BitVec 5) (imm : BitVec 16) : Statement (.movi e rd rs1 imm) := ⟨.inl rfl, .inl rfl⟩
theorem ld (e : EngineNo) (rd rs1 : BitVec 5) (size : BitVec 3) (off : BitVec 13) : Statement (.ld e rd rs1 size off) := ⟨.inl rfl, .inl rfl⟩
theorem ldu (e : EngineNo) (rd rs1 : BitVec 5) (size : BitVec 3) (off : BitVec 13) : Statement (.ldu e rd rs1 size off) := ⟨.inl rfl, .inl rfl⟩
theorem st (e : EngineNo) (rd rs1 : BitVec 5) (size : BitVec 3) (off : BitVec 13) : Statement (.st e rd rs1 size off) := ⟨.inl rfl, .inl rfl⟩
theorem ldp (e : EngineNo) (rd rs1 : BitVec 5) (size : BitVec 3) (off : BitVec 13) : Statement (.ldp e rd rs1 size off) := ⟨.inl rfl, .inl rfl⟩
theorem stp (e : EngineNo) (rd rs1 : BitVec 5) (size : BitVec 3) (off : BitVec 13) : Statement (.stp e rd rs1 size off) := ⟨.inl rfl, .inl rfl⟩
theorem vld (e : EngineNo) (rd rs1 : BitVec 5) (size : BitVec 3) (off : BitVec 13) : Statement (.vld e rd rs1 size off) := ⟨.inl rfl, .inl rfl⟩
theorem vst (e : EngineNo) (rd rs1 : BitVec 5) (size : BitVec 3) (off : BitVec 13) : Statement (.vst e rd rs1 size off) := ⟨.inl rfl, .inl rfl⟩
theorem pilotLoadData (e : EngineNo) : Statement (.pilotLoadData e) := ⟨.inl rfl, .inl rfl⟩
theorem pilotDeferRetry (e : EngineNo) : Statement (.pilotDeferRetry e) := ⟨.inl rfl, .inl rfl⟩
theorem ldr (e : EngineNo) (rd rs1 rs2 : BitVec 5) (func : BitVec 11) : Statement (.ldr e rd rs1 rs2 func) := ⟨.inl rfl, .inl rfl⟩
theorem stc (e : EngineNo) (rd rs1 rs2 : BitVec 5) (func : BitVec 11) : Statement (.stc e rd rs1 rs2 func) := ⟨.inl rfl, .inl rfl⟩
theorem farCas8 (e : EngineNo) (rd rs1 rs2 : BitVec 5) (func : BitVec 11) : Statement (.farCas8 e rd rs1 rs2 func) := ⟨.inl rfl, .inl rfl⟩
theorem farCas16 (e : EngineNo) (rd rs1 rs2 : BitVec 5) (func : BitVec 11) : Statement (.farCas16 e rd rs1 rs2 func) := ⟨.inl rfl, .inl rfl⟩
theorem farFadd (e : EngineNo) (rd rs1 rs2 : BitVec 5) (func : BitVec 11) : Statement (.farFadd e rd rs1 rs2 func) := ⟨.inl rfl, .inl rfl⟩
theorem farSwap (e : EngineNo) (rd rs1 rs2 : BitVec 5) (func : BitVec 11) : Statement (.farSwap e rd rs1 rs2 func) := ⟨.inl rfl, .inl rfl⟩
theorem farAnd (e : EngineNo) (rd rs1 rs2 : BitVec 5) (func : BitVec 11) : Statement (.farAnd e rd rs1 rs2 func) := ⟨.inl rfl, .inl rfl⟩
theorem farOr (e : EngineNo) (rd rs1 rs2 : BitVec 5) (func : BitVec 11) : Statement (.farOr e rd rs1 rs2 func) := ⟨.inl rfl, .inl rfl⟩
theorem bcondEqz (e : EngineNo) (rs1 : BitVec 5) (z : BitVec 1) (woff : BitVec 16) : Statement (.bcondEqz e rs1 z woff) := ⟨.inl rfl, .inl rfl⟩
theorem bcondNez (e : EngineNo) (rs1 : BitVec 5) (z : BitVec 1) (woff : BitVec 16) : Statement (.bcondNez e rs1 z woff) := ⟨.inl rfl, .inl rfl⟩
theorem bcondLtz (e : EngineNo) (rs1 : BitVec 5) (z : BitVec 1) (woff : BitVec 16) : Statement (.bcondLtz e rs1 z woff) := ⟨.inl rfl, .inl rfl⟩
theorem bcondGez (e : EngineNo) (rs1 : BitVec 5) (z : BitVec 1) (woff : BitVec 16) : Statement (.bcondGez e rs1 z woff) := ⟨.inl rfl, .inl rfl⟩
theorem bcondGtz (e : EngineNo) (rs1 : BitVec 5) (z : BitVec 1) (woff : BitVec 16) : Statement (.bcondGtz e rs1 z woff) := ⟨.inl rfl, .inl rfl⟩
theorem bcondLez (e : EngineNo) (rs1 : BitVec 5) (z : BitVec 1) (woff : BitVec 16) : Statement (.bcondLez e rs1 z woff) := ⟨.inl rfl, .inl rfl⟩
theorem bcondOdd (e : EngineNo) (rs1 : BitVec 5) (z : BitVec 1) (woff : BitVec 16) : Statement (.bcondOdd e rs1 z woff) := ⟨.inl rfl, .inl rfl⟩
theorem bcondEven (e : EngineNo) (rs1 : BitVec 5) (z : BitVec 1) (woff : BitVec 16) : Statement (.bcondEven e rs1 z woff) := ⟨.inl rfl, .inl rfl⟩
theorem bcondAlways (e : EngineNo) (rs1 : BitVec 5) (z : BitVec 1) (woff : BitVec 16) : Statement (.bcondAlways e rs1 z woff) := ⟨.inl rfl, .inl rfl⟩
theorem call (e : EngineNo) (rd : BitVec 5) (woff : BitVec 21) : Statement (.call e rd woff) := ⟨.inl rfl, .inl rfl⟩
theorem jumpr (e : EngineNo) (rd rs1 : BitVec 5) (imm : BitVec 16) : Statement (.jumpr e rd rs1 imm) := ⟨.inl rfl, .inl rfl⟩
theorem callr (e : EngineNo) (rd rs1 : BitVec 5) (imm : BitVec 16) : Statement (.callr e rd rs1 imm) := ⟨.inl rfl, .inl rfl⟩
theorem vadd (e : EngineNo) (f : VFields) : Statement (.vadd e f) := ⟨.inl rfl, .inl rfl⟩
theorem vsub (e : EngineNo) (f : VFields) : Statement (.vsub e f) := ⟨.inl rfl, .inl rfl⟩
theorem vmul (e : EngineNo) (f : VFields) : Statement (.vmul e f) := ⟨.inl rfl, .inl rfl⟩
theorem vmin (e : EngineNo) (f : VFields) : Statement (.vmin e f) := ⟨.inl rfl, .inl rfl⟩
theorem vmax (e : EngineNo) (f : VFields) : Statement (.vmax e f) := ⟨.inl rfl, .inl rfl⟩
theorem vminu (e : EngineNo) (f : VFields) : Statement (.vminu e f) := ⟨.inl rfl, .inl rfl⟩
theorem vmaxu (e : EngineNo) (f : VFields) : Statement (.vmaxu e f) := ⟨.inl rfl, .inl rfl⟩
theorem vand (e : EngineNo) (f : VFields) : Statement (.vand e f) := ⟨.inl rfl, .inl rfl⟩
theorem vor (e : EngineNo) (f : VFields) : Statement (.vor e f) := ⟨.inl rfl, .inl rfl⟩
theorem vxor (e : EngineNo) (f : VFields) : Statement (.vxor e f) := ⟨.inl rfl, .inl rfl⟩
theorem vandn (e : EngineNo) (f : VFields) : Statement (.vandn e f) := ⟨.inl rfl, .inl rfl⟩
theorem vsll (e : EngineNo) (f : VFields) : Statement (.vsll e f) := ⟨.inl rfl, .inl rfl⟩
theorem vsrl (e : EngineNo) (f : VFields) : Statement (.vsrl e f) := ⟨.inl rfl, .inl rfl⟩
theorem vsra (e : EngineNo) (f : VFields) : Statement (.vsra e f) := ⟨.inl rfl, .inl rfl⟩
theorem vsel (e : EngineNo) (f : VFields) : Statement (.vsel e f) := ⟨.inl rfl, .inl rfl⟩
theorem vcompress (e : EngineNo) (f : VFields) : Statement (.vcompress e f) := ⟨.inl rfl, .inl rfl⟩
theorem vcmpeq (e : EngineNo) (f : VFields) : Statement (.vcmpeq e f) := ⟨.inl rfl, .inl rfl⟩
theorem vcmpne (e : EngineNo) (f : VFields) : Statement (.vcmpne e f) := ⟨.inl rfl, .inl rfl⟩
theorem vcmplt (e : EngineNo) (f : VFields) : Statement (.vcmplt e f) := ⟨.inl rfl, .inl rfl⟩
theorem vcmpltu (e : EngineNo) (f : VFields) : Statement (.vcmpltu e f) := ⟨.inl rfl, .inl rfl⟩
theorem vcmple (e : EngineNo) (f : VFields) : Statement (.vcmple e f) := ⟨.inl rfl, .inl rfl⟩
theorem vcmpleu (e : EngineNo) (f : VFields) : Statement (.vcmpleu e f) := ⟨.inl rfl, .inl rfl⟩
theorem vredSum (e : EngineNo) (rd rs1 rs2 : BitVec 5) (func : BitVec 11) : Statement (.vredSum e rd rs1 rs2 func) := ⟨.inl rfl, .inl rfl⟩
theorem vredMin (e : EngineNo) (rd rs1 rs2 : BitVec 5) (func : BitVec 11) : Statement (.vredMin e rd rs1 rs2 func) := ⟨.inl rfl, .inl rfl⟩
theorem vredMax (e : EngineNo) (rd rs1 rs2 : BitVec 5) (func : BitVec 11) : Statement (.vredMax e rd rs1 rs2 func) := ⟨.inl rfl, .inl rfl⟩
theorem vredMinu (e : EngineNo) (rd rs1 rs2 : BitVec 5) (func : BitVec 11) : Statement (.vredMinu e rd rs1 rs2 func) := ⟨.inl rfl, .inl rfl⟩
theorem vredMaxu (e : EngineNo) (rd rs1 rs2 : BitVec 5) (func : BitVec 11) : Statement (.vredMaxu e rd rs1 rs2 func) := ⟨.inl rfl, .inl rfl⟩
theorem vredAnd (e : EngineNo) (rd rs1 rs2 : BitVec 5) (func : BitVec 11) : Statement (.vredAnd e rd rs1 rs2 func) := ⟨.inl rfl, .inl rfl⟩
theorem vredOr (e : EngineNo) (rd rs1 rs2 : BitVec 5) (func : BitVec 11) : Statement (.vredOr e rd rs1 rs2 func) := ⟨.inl rfl, .inl rfl⟩
theorem vredXor (e : EngineNo) (rd rs1 rs2 : BitVec 5) (func : BitVec 11) : Statement (.vredXor e rd rs1 rs2 func) := ⟨.inl rfl, .inl rfl⟩
theorem vbcast (e : EngineNo) (rd rs1 rs2 : BitVec 5) (func : BitVec 11) : Statement (.vbcast e rd rs1 rs2 func) := ⟨.inl rfl, .inl rfl⟩
theorem vext (e : EngineNo) (rd rs1 rs2 : BitVec 5) (func : BitVec 11) : Statement (.vext e rd rs1 rs2 func) := ⟨.inl rfl, .inl rfl⟩
theorem mtog (e : EngineNo) (rd rs1 rs2 : BitVec 5) (func : BitVec 11) : Statement (.mtog e rd rs1 rs2 func) := ⟨.inl rfl, .inl rfl⟩
theorem gtom (e : EngineNo) (rd rs1 rs2 : BitVec 5) (func : BitVec 11) : Statement (.gtom e rd rs1 rs2 func) := ⟨.inl rfl, .inl rfl⟩
theorem mpopc (e : EngineNo) (rd rs1 rs2 : BitVec 5) (func : BitVec 11) : Statement (.mpopc e rd rs1 rs2 func) := ⟨.inl rfl, .inl rfl⟩
theorem pilotOfence (e : EngineNo) (rd rs1 : BitVec 5) (imm : BitVec 12) : Statement (.pilotOfence e rd rs1 imm) := ⟨.inl rfl, .inl rfl⟩
theorem pilotPfence (e : EngineNo) (rd rs1 : BitVec 5) (imm : BitVec 12) : Statement (.pilotPfence e rd rs1 imm) := ⟨.inl rfl, .inl rfl⟩
theorem dfence (e : EngineNo) (rd rs1 : BitVec 5) (imm : BitVec 12) : Statement (.dfence e rd rs1 imm) := ⟨.inl rfl, .inl rfl⟩
theorem pilotFenceDone (e : EngineNo) : Statement (.pilotFenceDone e) := ⟨.inl rfl, .inl rfl⟩
theorem crd (e : EngineNo) (rd rs1 : BitVec 5) (imm : BitVec 12) : Statement (.crd e rd rs1 imm) := ⟨.inl rfl, .inl rfl⟩
theorem cwr (e : EngineNo) (rd rs1 : BitVec 5) (imm : BitVec 12) : Statement (.cwr e rd rs1 imm) := ⟨.inl rfl, .inl rfl⟩
theorem cset (e : EngineNo) (rd rs1 : BitVec 5) (imm : BitVec 12) : Statement (.cset e rd rs1 imm) := ⟨.inl rfl, .inl rfl⟩
theorem cclr (e : EngineNo) (rd rs1 : BitVec 5) (imm : BitVec 12) : Statement (.cclr e rd rs1 imm) := ⟨.inl rfl, .inl rfl⟩
theorem msgPop (e : EngineNo) (rs1 : BitVec 5) : Statement (.msgPop e rs1) := ⟨.inl rfl, .inl rfl⟩
theorem take (e : EngineNo) (rd rs1 : BitVec 5) (imm : BitVec 12) : Statement (.take e rd rs1 imm) := ⟨.inl rfl, .inl rfl⟩
theorem post (e : EngineNo) (rd rs1 : BitVec 5) (imm : BitVec 12) : Statement (.post e rd rs1 imm) := ⟨.inl rfl, .inl rfl⟩
theorem wait (e : EngineNo) (rd rs1 : BitVec 5) (imm : BitVec 12) : Statement (.wait e rd rs1 imm) := ⟨.inl rfl, .inl rfl⟩
theorem halt (e : EngineNo) (rd rs1 : BitVec 5) (imm : BitVec 12) : Statement (.halt e rd rs1 imm) := ⟨.inl rfl, .inl rfl⟩
theorem sqDoorbell (p : Path) (q : Fin 64) (v : Word) : Statement (.sqDoorbell p q v) := ⟨.inl rfl, .inl rfl⟩
theorem cqDoorbell (p : Path) (q : Fin 64) (v : Word) : Statement (.cqDoorbell p q v) := ⟨.inl rfl, .inl rfl⟩
theorem descriptorFetch : Statement (.descriptorFetch) := ⟨.inl rfl, .inl rfl⟩
theorem descriptorDispatch (q : Fin 64) : Statement (.descriptorDispatch q) := ⟨.inl rfl, .inl rfl⟩
theorem descStage (q : Fin 64) : Statement (.descStage q) := ⟨.inl rfl, .inl rfl⟩
theorem descCourse (q : Fin 64) : Statement (.descCourse q) := ⟨.inl rfl, .inl rfl⟩
theorem descCourseAbort (q : Fin 64) : Statement (.descCourseAbort q) := ⟨.inl rfl, .inl rfl⟩
theorem descCommit (e : EngineNo) : Statement (.descCommit e) := ⟨.inl rfl, .inl rfl⟩
theorem descScan (e : EngineNo) : Statement (.descScan e) := ⟨.inl rfl, .inl rfl⟩
theorem descCopy (e : EngineNo) : Statement (.descCopy e) := ⟨.inl rfl, .inl rfl⟩
theorem descFill (e : EngineNo) : Statement (.descFill e) := ⟨.inl rfl, .inl rfl⟩
theorem descSeal (e : EngineNo) : Statement (.descSeal e) := ⟨.inl rfl, .inl rfl⟩
theorem descChecksum (e : EngineNo) : Statement (.descChecksum e) := ⟨.inl rfl, .inl rfl⟩
theorem descSnapshotTake (e : EngineNo) : Statement (.descSnapshotTake e) := ⟨.inl rfl, .inl rfl⟩
theorem descSnapshotCopy (e : EngineNo) : Statement (.descSnapshotCopy e) := ⟨.inl rfl, .inl rfl⟩
theorem descSnapshotDrop (e : EngineNo) : Statement (.descSnapshotDrop e) := ⟨.inl rfl, .inl rfl⟩
theorem descVsync (e : EngineNo) : Statement (.descVsync e) := ⟨.inl rfl, .inl rfl⟩
theorem descProbe (e : EngineNo) : Statement (.descProbe e) := ⟨.inl rfl, .inl rfl⟩
theorem descUser (e : EngineNo) (status : BitVec 16) (result : DWord) : Statement (.descUser e status result) := ⟨.inl rfl, .inl rfl⟩
theorem irqCoalesceTimeout (q : Fin 64) : Statement (.irqCoalesceTimeout q) := ⟨.inl rfl, .inl rfl⟩
theorem hmpResponse (tag : BitVec 8) (stat : BitVec 2) (data : Line) : Statement (.hmpResponse tag stat data) := ⟨.inl rfl, .inl rfl⟩
theorem hmpTimeout (tag : BitVec 8) : Statement (.hmpTimeout tag) := ⟨.inl rfl, .inl rfl⟩
theorem dreSqCfgWrite (p : Path) (q : Fin 64) (v : Word) : Statement (.dreSqCfgWrite p q v) := ⟨.inl rfl, .inl rfl⟩
theorem dreCqCfgWrite (p : Path) (q : Fin 64) (v : Word) : Statement (.dreCqCfgWrite p q v) := ⟨.inl rfl, .inl rfl⟩
theorem dreVecCtlWrite (p : Path) (vec : Fin 64) (v : Word) : Statement (.dreVecCtlWrite p vec v) := ⟨.inl rfl, .inl rfl⟩
theorem mapCommit (p : Path) : Statement (.mapCommit p) := ⟨.inl rfl, .inl rfl⟩
theorem reachEntryRead (p : Path) : Statement (.reachEntryRead p) := ⟨.inl rfl, .inl rfl⟩
theorem reachEntryWrite (p : Path) (v : DWord) : Statement (.reachEntryWrite p v) := ⟨.inl rfl, .inl rfl⟩
theorem modeSave (p : Path) : Statement (.modeSave p) := ⟨.inl rfl, .inl rfl⟩
theorem drEnter (p : Path) : Statement (.drEnter p) := ⟨.inl rfl, .inl rfl⟩
theorem drAck (p : Path) (bits : BitVec 10) : Statement (.drAck p bits) := ⟨.inl rfl, .inl rfl⟩
theorem cfgModecfgWrite (p : Path) (v : Word) : Statement (.cfgModecfgWrite p v) := ⟨.inl rfl, .inl rfl⟩
theorem cfgLock (p : Path) : Statement (.cfgLock p) := ⟨.inl rfl, .inl rfl⟩
theorem stsClr (p : Path) (off : BitVec 24) (v : Word) : Statement (.stsClr p off v) := ⟨.inl rfl, .inl rfl⟩
theorem stsCorRead (p : Path) (off : BitVec 24) : Statement (.stsCorRead p off) := ⟨.inl rfl, .inl rfl⟩
theorem pairLoRead (p : Path) (off : BitVec 24) : Statement (.pairLoRead p off) := ⟨.inl rfl, .inl rfl⟩
theorem pairHiWrite (p : Path) (off : BitVec 24) (v : Word) : Statement (.pairHiWrite p off v) := ⟨.inl rfl, .inl rfl⟩
theorem aliasRead (p : Path) (off : BitVec 26) : Statement (.aliasRead p off) := ⟨.inl rfl, .inl rfl⟩
theorem aliasWrite (p : Path) (off : BitVec 26) (v : Word) : Statement (.aliasWrite p off v) := ⟨.inl rfl, .inl rfl⟩
theorem dpDataAccess (p : Path) (wr : Option Word) : Statement (.dpDataAccess p wr) := ⟨.inl rfl, .inl rfl⟩
theorem dpBurst (p : Path) (wr : Option Line) : Statement (.dpBurst p wr) := ⟨.inl rfl, .inl rfl⟩
theorem registerWrite (p : Path) (off : BitVec 24) (v : Word) : Statement (.registerWrite p off v) := ⟨.inl rfl, .inl rfl⟩
theorem mcRead (frame : List Byte) : Statement (.mcRead frame) := ⟨.inl rfl, .inl rfl⟩
theorem mcWrite (frame : List Byte) : Statement (.mcWrite frame) := ⟨.inl rfl, .inl rfl⟩
theorem mcSetaddr (frame : List Byte) : Statement (.mcSetaddr frame) := ⟨.inl rfl, .inl rfl⟩
theorem mcPing (frame : List Byte) : Statement (.mcPing frame) := ⟨.inl rfl, .inl rfl⟩
theorem mcForward (frame : List Byte) : Statement (.mcForward frame) := ⟨.inl rfl, .inl rfl⟩
theorem mcCrc (frame : List Byte) : Statement (.mcCrc frame) := ⟨.inl rfl, .inl rfl⟩
theorem chrsetWrite (p : Path) (v : DWord) : Statement (.chrsetWrite p v) := ⟨.inl rfl, .inl rfl⟩
theorem ptpSyncEdge : Statement (.ptpSyncEdge) := ⟨.inl rfl, .inl rfl⟩
theorem ptpRefWrite (p : Path) (v : DWord) : Statement (.ptpRefWrite p v) := ⟨.inl rfl, .inl rfl⟩
theorem cselWrite (p : Path) (k : Fin 512) (v : Word) : Statement (.cselWrite p k v) := ⟨.inl rfl, .inl rfl⟩
theorem counterSnap (p : Path) : Statement (.counterSnap p) := ⟨.inl rfl, .inl rfl⟩
theorem counterClear (p : Path) : Statement (.counterClear p) := ⟨.inl rfl, .inl rfl⟩
theorem logRdWrite (p : Path) (v : Word) : Statement (.logRdWrite p v) := ⟨.inl rfl, .inl rfl⟩
theorem logLatchRead (p : Path) (slot : Fin 1024) : Statement (.logLatchRead p slot) := ⟨.inl rfl, .inl rfl⟩
theorem traceArm (p : Path) : Statement (.traceArm p) := ⟨.inl rfl, .inl rfl⟩
theorem traceStop (p : Path) : Statement (.traceStop p) := ⟨.inl rfl, .inl rfl⟩
theorem traceLatchRead (p : Path) : Statement (.traceLatchRead p) := ⟨.inl rfl, .inl rfl⟩
theorem lookoutWarn (e : EngineNo) (trigger : BitVec 4) : Statement (.lookoutWarn e trigger) := ⟨.inl rfl, .inl rfl⟩
theorem lookoutStop (e : EngineNo) : Statement (.lookoutStop e) := ⟨.inl rfl, .inl rfl⟩
theorem lookoutFail (e : EngineNo) : Statement (.lookoutFail e) := ⟨.inl rfl, .inl rfl⟩
theorem lookoutKick (p : Path) : Statement (.lookoutKick p) := ⟨.inl rfl, .inl rfl⟩
theorem firmwareKickTimeout : Statement (.firmwareKickTimeout) := ⟨.inl rfl, .inl rfl⟩
theorem lookoutDr : Statement (.lookoutDr) := ⟨.inl rfl, .inl rfl⟩
theorem lkoCfgWrite (p : Path) (v : Word) : Statement (.lkoCfgWrite p v) := ⟨.inl rfl, .inl rfl⟩
theorem rstNAssert : Statement (.rstNAssert) := ⟨.inr rfl, .inl rfl⟩
theorem rstNRelease (edgeSync : BitVec 20) : Statement (.rstNRelease edgeSync) := ⟨.inr rfl, .inl rfl⟩
theorem powerUpSelftestDone (engines : List (Fin 34)) (cores : List (Fin 38)) : Statement (.powerUpSelftestDone engines cores) := ⟨.inl rfl, .inl rfl⟩
theorem bypass : Statement (.bypass) := ⟨.inr rfl, .inl rfl⟩
theorem idcode : Statement (.idcode) := ⟨.inr rfl, .inl rfl⟩
theorem samplePreload (cells : BitVec 2384) : Statement (.samplePreload cells) := ⟨.inr rfl, .inl rfl⟩
theorem extest (cells : BitVec 2384) : Statement (.extest cells) := ⟨.inr rfl, .inl rfl⟩
theorem ijtag (mbist fuse : Bool) : Statement (.ijtag mbist fuse) := ⟨.inr rfl, .inl rfl⟩
theorem scan : Statement (.scan) := ⟨.inr rfl, .inl rfl⟩
theorem badOpcode (op : BitVec 4) (q : HostReq) : Statement (.badOpcode op q) := ⟨.inl rfl, .inl rfl⟩
theorem illegalInstruction (e : EngineNo) (w : Word) : Statement (.illegalInstruction e w) := ⟨.inl rfl, .inl rfl⟩
theorem conditionalStoreResponse (e : EngineNo) : Statement (.conditionalStoreResponse e) := ⟨.inl rfl, .inl rfl⟩

end Sys2Proof.Laws.Shape
end

