-- ==== Sys2Proof/Laws/Registers.lean ====
section
/-! SUPPORT. What a register access that passes every check does, and the forms a meaning's answer takes. -/

namespace Sys2Proof.Machine

/-- A command with an effect `u` of its own. -/
theorem State.act_goesOn {s u : State} {f : State → State} (h : s.ready = true) (hf : f s = u) : s.act f = s.goesOn u := by
  rw [State.act_next s f h, hf]; rfl

/-- A command with an effect `u` of its own that lets nothing else go on. -/
theorem State.within_becomes {s u : State} {f : State → State} (h : s.ready = true) (hf : f s = u) :
    s.within f = s.becomes u := by
  rw [State.within_next s f h, hf]; rfl

theorem State.ready_of_takesReg {s : State} {p : Path} (h : s.takesReg p = true) : s.ready = true := by
  unfold State.takesReg at h
  simp only [Bool.and_eq_true] at h
  exact h.1

theorem State.reaches_of_takesReg {s : State} {p : Path} (h : s.takesReg p = true) : s.reaches p = true := by
  unfold State.takesReg at h
  simp only [Bool.and_eq_true] at h
  exact h.2

theorem State.takesReg_of_passes {s : State} {p : Path} {off : Nat} {v : Word} (h : s.passes p off v = true) :
    s.takesReg p = true := by
  unfold State.passes at h
  simp only [Bool.and_eq_true] at h
  exact h.1

/-- A write that passes every check has the register's own effect, with the word it leaves. -/
theorem State.writeReg_of_passes {s : State} {p : Path} {off : Nat} {v : Word} (h : s.passes p off v = true) :
    s.writeReg p off v = (s.effect off (s.newWord off v)).2.answered p (s.effect off (s.newWord off v)).1 0 := by
  have hr := State.reaches_of_takesReg (State.takesReg_of_passes h)
  unfold State.passes at h
  simp only [Bool.and_eq_true] at h
  obtain ⟨_, h⟩ := h
  unfold State.writeReg State.writeCmd
  simp only [hr, if_true]
  split at h
  · simp at h
  next r hs =>
    simp only [Bool.and_eq_true, Bool.not_eq_true', Option.isNone_iff_eq_none, beq_iff_eq] at h
    obtain ⟨⟨⟨⟨⟨⟨⟨⟨h1, h2⟩, h3⟩, h4⟩, h5⟩, h6⟩, h7⟩, h8⟩, h9⟩ := h
    have hn : s.newWord off v = r.merge (s.reg off) v := by
      simp [State.newWord, hs, RegSpec.merge, RegSpec.writable]
    simp [State.regWrite, h4, State.write4, hs, h1, h2, h3, State.applyWord, h5, h6, h7, h8, State.noteRsv, h9, hn]

/-- A register command whose write passes every check. -/
theorem State.act_writeReg {s u : State} {p : Path} {off : Nat} {v : Word} (h : s.passes p off v = true)
    (hu : s.effect off (s.newWord off v) = (.ok, u)) : s.act (fun t => t.writeReg p off v) = s.answers p .ok u := by
  unfold State.answers
  apply State.act_goesOn (State.ready_of_takesReg (State.takesReg_of_passes h))
  rw [State.writeReg_of_passes h, hu]

/-- The word a write leaves, from the register's writable bits. -/
theorem State.newWord_of {s : State} {off : Nat} {m v : Word}
    (h : (regSpec off).map (fun r => r.rw ||| r.lk ||| r.wo1 ||| r.w1p ||| r.wo) = some m) :
    s.newWord off v = (s.reg off &&& ~~~m) ||| (v &&& m) := by
  unfold State.newWord
  cases hs : regSpec off with
  | none => simp [hs] at h
  | some r => simp [hs] at h; simp [← h]

/-- A write to the low word of a marked pair as one 8-byte access: the pair is written as a whole. -/
theorem State.writePair_of {s : State} {p : Path} {off : Nat} {r : RegSpec} {v : DWord} (h : s.reaches p = true)
    (hs : regSpec off = some r) (hp : r.pair = true) :
    s.writePair p off v =
      let x := s.stepIndex off v (s.applyPair p r off (v.setWidth 32) (v.extractLsb' 32 32))
      x.2.answered p x.1 0 := by
  simp [State.writePair, State.writeCmd, h, State.write8, hs, hp]

/-- A read of a register that is no data word: the word it holds and its side effects. -/
theorem State.readReg_of {s : State} {p : Path} {off : Nat} (h : s.reaches p = true) (ha : off % 4 = 0)
    (hd : dataPort off = none) (hs : (regSpec off).isSome = true) :
    s.readReg p off = (s.readEffect p off).answered p .ok ((s.peek4 p off).setWidth 512) := by
  cases hr : regSpec off with
  | none => simp [hr] at hs
  | some r => simp [State.readReg, State.readCmd, h, ha, State.regRead, hd, State.read4, hr]

end Sys2Proof.Machine
end

