-- ==== Sys2Proof/Tests/Slice0.lean ====
section
/-! SUPPORT. The model's own tests: an ill-formed term for each check of WellFormed, single steps with results taken from the
spec's tables, and for each statement concrete states and operands that meet the hypotheses of its clauses. -/

set_option Elab.async false

namespace Sys2Proof.Tests

open Sys2Proof Sys2Proof.Machine

/-! ### States the tests start from -/

/-- The block after reset with engine 0 running at 0x100, changed. -/
def pilot (f : Engine → Engine) : State := State.reset.updEngine 0 fun n => f { n with state := .running, pc := 0x100 }

/-- An engine whose general registers 1 and 2 hold the given values. -/
def withRegs (a b : DWord) (n : Engine) : Engine := { n with g := ((List.replicate 32 0).set 1 a).set 2 b }

/-- The block after reset in a mode. -/
def inMode (m : Mode) : State := State.reset.updCfg fun c => { c with mode := m }

/-! ### Witnesses: Pilot -/

theorem witness_ScalarResults :
    (pilot (withRegs 7 3)).pilotReady 0 = true ∧ (pilot (withRegs 7 0)).pilotReady 0 = true
    ∧ ((pilot (withRegs 7 0)).engine 0).reg 2 = 0 ∧ ((pilot (withRegs 7 3)).engine 0).reg 2 ≠ 0 ∧ (31 : BitVec 5) ≠ 0 := by
  decide

theorem witness_ImmediateResults :
    (pilot (withRegs 7 3)).pilotReady 0 = true ∧ (255 : BitVec 16).toNat < 256 := by decide

theorem witness_BranchTargets : (pilot (withRegs 0x8000000000000000 3)).pilotReady 0 = true := by decide

theorem witness_JumpTargets :
    (pilot (withRegs 0xFFFC 3)).pilotReady 0 = true
    ∧ (BitVec.ofInt 16 ((((pilot (withRegs 0xFFFC 3)).engine 0).reg 1).toNat + (4 : BitVec 16).toInt)).toNat % 4 = 0
    ∧ (BitVec.ofInt 16 ((((pilot (withRegs 0xFFFC 3)).engine 0).reg 1).toNat + (2 : BitVec 16).toInt)).toNat % 4 ≠ 0 := by
  decide

theorem witness_SweepElementwise :
    (pilot id).pilotReady 0 = true ∧ ((⟨1, 2, 3, 0, 3, 1⟩ : VFields).all = 1 → (⟨1, 2, 3, 0, 3, 1⟩ : VFields).mask = 0)
    ∧ 64 = 8 * 2 ^ (3 : BitVec 2).toNat ∧ 8 = 64 / 2 ^ (3 : BitVec 2).toNat := by decide

theorem witness_SweepSelection :
    (pilot id).pilotReady 0 = true ∧ ((⟨1, 2, 3, 5, 0, 0⟩ : VFields).all = 1 → (⟨1, 2, 3, 5, 0, 0⟩ : VFields).mask = 0)
    ∧ 8 = 8 * 2 ^ (0 : BitVec 2).toNat ∧ 64 = 64 / 2 ^ (0 : BitVec 2).toNat := by decide

theorem witness_SweepCompares :
    (pilot id).pilotReady 0 = true ∧ ((⟨7, 2, 3, 5, 1, 0⟩ : VFields).all = 1 → (⟨7, 2, 3, 5, 1, 0⟩ : VFields).mask = 0)
    ∧ (7 : BitVec 4).toNat < 8 ∧ 16 = 8 * 2 ^ (1 : BitVec 2).toNat ∧ 32 = 64 / 2 ^ (1 : BitVec 2).toNat := by decide

theorem witness_SweepReductions :
    (pilot id).pilotReady 0 = true ∧ (15 : BitVec 5).toNat < 16 ∧ (7 : BitVec 5).toNat < 8
    ∧ (0x300 : BitVec 11).getLsbD 10 = false ∧ (0x300 : BitVec 11).extractLsb' 4 4 = 0 ∧ (0x300 : BitVec 11).getLsbD 3 = false
    ∧ (0x308 : BitVec 11).getLsbD 10 = false ∧ (0x308 : BitVec 11).extractLsb' 4 4 = 0
    ∧ ((0x308 : BitVec 11).getLsbD 3 = true → (0 : BitVec 5) = 0)
    ∧ ((List.range 8).filter fun i => (0x300 : BitVec 11).getLsbD 3 || (((pilot id).engine 0).mask 7).getLsbD i) = []
    ∧ ((List.range 8).filter fun i => (0x308 : BitVec 11).getLsbD 3 || (((pilot id).engine 0).mask 0).getLsbD i) ≠ [] := by
  decide

theorem witness_SweepMoves :
    (pilot id).pilotReady 0 = true ∧ (0x300 : BitVec 11).getLsbD 10 = false ∧ (0x300 : BitVec 11).extractLsb' 3 5 = 0
    ∧ (0x304 : BitVec 11).extractLsb' 3 5 = 0 ∧ (15 : BitVec 5).toNat < 16 ∧ (7 : BitVec 5).toNat < 8 := by decide

/-- The bases of the windows of a Pilot engine the witnesses use: the local data memory and an address of the memory port. -/
def atLocal (o : Nat) : State := pilot (withRegs (BitVec.ofNat 64 (0x00FD000000000000 + o)) 5)

theorem witness_LocalAccesses :
    (atLocal 0x3FFF8).ready = true ∧ (atLocal 0x3FFF8).issues 0 = true
    ∧ (((atLocal 0x3FFF8).engine 0).reg 1 + (0 : BitVec 13).signExtend 64).toNat = 0x00FD000000000000 + 0x3FFF8
    ∧ (3 : BitVec 3).toNat < 4 ∧ 0x3FFF8 % 2 ^ (3 : BitVec 3).toNat = 0 ∧ 0x3FFF8 + 2 ^ (3 : BitVec 3).toNat ≤ 0x40000
    ∧ (((atLocal 0x3FFF0).engine 0).reg 1 + (0 : BitVec 13).signExtend 64).toNat = 0x00FD000000000000 + 0x3FFF0
    ∧ (30 : BitVec 5).toNat % 2 = 0 ∧ 0x3FFF0 % 16 = 0 ∧ 0x3FFF0 < 0x40000
    ∧ (((atLocal 0x3FFC0).engine 0).reg 1 + (0 : BitVec 13).signExtend 64).toNat = 0x00FD000000000000 + 0x3FFC0
    ∧ (15 : BitVec 5).toNat < 16 ∧ 0x3FFC0 % 64 = 0 ∧ 0x3FFC0 < 0x40000 := by decide

theorem witness_AddressTraps :
    (atLocal 0x3FFFF).ready = true ∧ (atLocal 0x3FFFF).issues 0 = true
    ∧ (1 : BitVec 3).toNat < 4 ∧ (((atLocal 0x3FFFF).engine 0).reg 1 + (0 : BitVec 13).signExtend 64).toNat = 0x00FD00000003FFFF
    ∧ 0x00FD00000003FFFF % 2 ^ (1 : BitVec 3).toNat ≠ 0 ∧ 0x00FD00000003FFFF % 16 ≠ 0 ∧ 0x00FD00000003FFFF % 64 ≠ 0
    ∧ (30 : BitVec 5).toNat % 2 = 0 ∧ (15 : BitVec 5).toNat < 16
    ∧ ((pilot (withRegs 0x00FCFFFFFFFFFFFF 5)).engine 0 |>.reg 1).toNat % 8 ≠ 0
    ∧ ((pilot (withRegs 0x00FCFFFFFFFFFFFF 5)).engine 0 |>.reg 1).toNat < 0x00FD000000000000
    ∧ ((atLocal 0x3FFF8).engine 0 |>.reg 1).toNat % 8 = 0 ∧ ((atLocal 0).engine 0 |>.reg 1).toNat % 8 = 0
    ∧ ((pilot (withRegs 0x00FCFFFFFFFFFFF8 5)).engine 0 |>.reg 1).toNat % 16 ≠ 0 ∧ (2 : BitVec 5).toNat % 2 = 0 := by decide

theorem witness_PortLoadsIssue :
    (pilot (withRegs 0x00FCFFFFFFFFFFF0 5)).ready = true ∧ (pilot (withRegs 0x00FCFFFFFFFFFFF0 5)).issues 0 = true
    ∧ (((pilot (withRegs 0x00FCFFFFFFFFFFF0 5)).engine 0).reg 1 + (0 : BitVec 13).signExtend 64).toNat < 0x00FD000000000000
    ∧ 0x00FF000000000000 ≤ (((pilot (withRegs 0x00FF000000000000 5)).engine 0).reg 1 + (0 : BitVec 13).signExtend 64).toNat
    ∧ (3 : BitVec 3).toNat < 4 ∧ (30 : BitVec 5).toNat % 2 = 0 ∧ (15 : BitVec 5).toNat < 16
    ∧ ((pilot (withRegs 0x00FCFFFFFFFFFFF0 5)).engine 0 |>.reg 1).toNat % 8 = 0
    ∧ ((pilot (withRegs 0x00FCFFFFFFFFFFF0 5)).engine 0 |>.reg 1).toNat % 16 = 0 := by decide

theorem witness_StoreOpensEntry :
    (pilot (withRegs 0x1038 5)).ready = true ∧ (pilot (withRegs 0x1038 5)).issues 0 = true
    ∧ ((pilot (withRegs 0x1038 5)).engine 0).buffer = []
    ∧ (((pilot (withRegs 0x1038 5)).engine 0).reg 1 + (0 : BitVec 13).signExtend 64).toNat = 0x1038
    ∧ (3 : BitVec 3).toNat < 4 ∧ 0x1038 % 64 + 2 ^ (3 : BitVec 3).toNat ≤ 64
    ∧ (30 : BitVec 5).toNat % 2 = 0 ∧ 0x1030 % 64 + 16 ≤ 64 ∧ (15 : BitVec 5).toNat < 16 ∧ 0x1040 % 64 = 0 := by decide

/-- A load of engine 0 whose lines have all come. -/
def loaded (kind : LoadKind) (bad : Option Code) : Load := { seq := 0, kind := kind, addr := 0x40, want := [], bad := bad, pc := 0xFC }

/-- A store-buffer entry of engine 0, performed with a code. -/
def stored (code : Option Code) : SbEntry := { id := 0, line := 1, mask := 0xFF, data := 5, opened := 0, code := code }

theorem witness_PortAnswers :
    (pilot fun n => { n with loads := [loaded (.gpr 3 8 false) none], wait := .load }).ready = true
    ∧ ((pilot fun n => { n with loads := [loaded (.gpr 3 8 false) none], wait := .load }).engine 0).wait = .load
    ∧ ((pilot fun n => { n with loads := [loaded (.gpr 3 8 false) none], wait := .load }).engine 0).loads
        = loaded (.gpr 3 8 false) none :: [] ∧ (loaded (.gpr 3 8 false) none).want = [] ∧ (loaded (.gpr 3 8 false) none).bad = none
    ∧ ((pilot fun n => { n with loads := [loaded (.gpr 3 8 false) (some .poison)], wait := .load }).engine 0).loads
        = loaded (.gpr 3 8 false) (some .poison) :: [] ∧ (loaded (.gpr 3 8 false) (some .poison)).bad = some .poison
    ∧ (pieces 0x40 8).find? (fun p => (aget (loaded (.gpr 3 8 false) (some .poison)).got p.1).isNone) = some (0x40, 8)
    ∧ ((pilot fun n => { n with loads := [loaded (.cond 3 9) none], wait := .cond, cond := some .ok }).engine 0).cond = some .ok
    ∧ ((pilot fun n => { n with loads := [loaded (.cond 3 9) none], wait := .cond, cond := some .resvFail }).engine 0).cond
        = some .resvFail
    ∧ ((pilot fun n => { n with buffer := [stored (some .errFenced)] }).engine 0).buffer = stored (some .errFenced) :: []
    ∧ (stored (some .errFenced)).code = some .errFenced ∧ Code.errFenced ≠ .ok
    ∧ ((pilot fun n => { n with buffer := [stored (some .ok)] }).engine 0).buffer = stored (some .ok) :: []
    ∧ (∀ x ∈ ([] : List SbEntry), x.id ≠ (stored (some .ok)).id)
    ∧ ((pilot fun n => { n with buffer := [stored none] }).engine 0).buffer = [stored none]
    ∧ (stored none).issued = false ∧ (stored none).closed = false := by
  refine ⟨?_, ?_, ?_, ?_, ?_, ?_, ?_, ?_, ?_, ?_, ?_, ?_, ?_, ?_, ?_, ?_, ?_⟩ <;> first | rfl | decide

theorem witness_PilotFences :
    (pilot id).ready = true ∧ (pilot id).issues 0 = true ∧ (2 : BitVec 12).toNat < 3
    ∧ ((pilot fun n => { n with wait := .fence 0 0 3 0 1000000 }).engine 0).wait = .fence 0 0 3 0 1000000
    ∧ ((pilot fun n => { n with wait := .fence 1 2 3 0 1000000, fenceRes := some 7 }).engine 0).wait = .fence 1 2 3 0 1000000
    ∧ ((pilot fun n => { n with wait := .fence 1 2 3 0 1000000, fenceRes := some 7 }).engine 0).fenceRes = some 7
    ∧ ((pilot fun n => { n with wait := .fence 2 0 3 0 1000000 }).engine 0).wait = .fence 2 0 3 0 1000000
    ∧ ((pilot fun n => { n with wait := .fence 2 0 3 0 1000000 }).engine 0).loads = []
    ∧ ((pilot fun n => { n with wait := .fence 2 0 3 0 1000000 }).engine 0).buffer = [] := by decide

/-- Engine 0 with one message in its queue. -/
def messaged (dst : DWord) (n : Engine) : Engine := { n with msgs := [(5, [1, 2, 3, 4])], msgDst := dst }

theorem witness_ControlRegisters :
    (pilot (withRegs 3 5)).ready = true ∧ (pilot (withRegs 3 5)).issues 0 = true
    ∧ ((pilot (withRegs 3 5)).engine 0).msgs = [] ∧ ((pilot (messaged 0)).engine 0).msgs = (5, [1, 2, 3, 4]) :: []
    ∧ (pilot (messaged 0)).ready = true ∧ (pilot (messaged 0)).issues 0 = true := by decide

/-- A descriptor of ring 0. -/
def desc (bytes : List Byte) : Desc := { sq := 0, slot := 0, bytes := bytes, cq := 0 }

theorem witness_PilotServices :
    (pilot id).ready = true ∧ (pilot id).issues 0 = true ∧ ((pilot id).engine 0).msgs = [] ∧ ((pilot id).engine 0).inbox = []
    ∧ ((pilot id).engine 0).desc = none ∧ ((pilot id).engine 0).loads = [] ∧ ((pilot id).engine 0).buffer = []
    ∧ (1 : BitVec 12).getLsbD 0 = true ∧ (0 : BitVec 12).getLsbD 0 = false
    ∧ ((pilot (messaged 0x3FFFC)).engine 0).msgs = (5, [1, 2, 3, 4]) :: [] ∧ (0x3FFFC : DWord).toNat + 4 ≤ 0x40000
    ∧ 0x40000 < (0x3FFFD : DWord).toNat + 4 ∧ ((pilot (messaged 0)).engine 0).msgs ≠ []
    ∧ ((pilot fun n => { withRegs 0x3FFC0 0 n with inbox := [desc []] }).engine 0).inbox = desc [] :: []
    ∧ (((pilot fun n => { withRegs 0x3FFC0 0 n with inbox := [desc []] }).engine 0).reg 1).toNat % 64 = 0
    ∧ (((pilot fun n => { withRegs 0x3FFC0 0 n with inbox := [desc []] }).engine 0).reg 1).toNat + 64 ≤ 0x40000
    ∧ ((pilot fun n => { n with desc := some (desc []) }).engine 0).desc = some (desc []) := by decide

theorem witness_IllegalForms :
    (pilot id).ready = true ∧ (pilot id).issues 0 = true
    ∧ (0x2C000000 : Word).toNat / 2 ^ 26 ∉ [1, 2, 3, 4, 5, 6, 7, 8, 9, 10, 0x10, 0x11, 0x12, 0x13, 0x14, 0x15, 0x16, 0x17, 0x18,
        0x19, 0x20, 0x26, 0x27, 0x28, 0x30, 0x32, 0x33, 0x38, 0x39, 0x3A]
    ∧ 4 ≤ (4 : BitVec 3).toNat ∧ (31 : BitVec 5).toNat % 2 = 1 ∧ 16 ≤ (16 : BitVec 5).toNat ∧ (1 : BitVec 11) ≠ 0
    ∧ (0x010 : BitVec 12) ∉ [(0x003 : BitVec 12), 0x011, 0x012] ∧ (3 : BitVec 12).toNat % 4 = 3 ∧ (1 : BitVec 5) ≠ 0
    ∧ 256 ≤ (256 : BitVec 16).toNat ∧ (⟨8, 0, 0, 1, 0, 1⟩ : VFields).all = 1 ∧ (⟨8, 0, 0, 1, 0, 1⟩ : VFields).mask ≠ 0
    ∧ 8 ≤ (⟨8, 0, 0, 1, 0, 1⟩ : VFields).vd.toNat := by decide

theorem witness_ExceptionsArePrecise :
    ((pilot id).engine 0).state = .running ∧ (some (0xFD, 0) : Option (Nat × Nat)) = some (0xFD, 0) := by decide

/-! ### Witnesses: host ports, TEL, the write path -/

/-- The block in a mode with host port 0 enabled. -/
def hostIn (m : Mode) : State := (inMode m).setReg 0x020000 (0x80000000 ||| State.reset.reg 0x020000)

/-- A request of port 0. -/
def req (attr : BitVec 8) (addr : PortAddr) : HostReq :=
  { port := 0, tag := 9, label := 3, attr := attr, addr := addr, mask := 0xFF, data := 0 }

theorem witness_HostRequestsJoin :
    (hostIn .service).ready = true ∧ (hostIn .service).portTakes (req 0 0x1FC0) = true
    ∧ (hostIn .service).cfg.mode.serves = true ∧ (req 0 0x1FC0).attr = 0 ∧ (req 0 0x1FC0).addr.toNat % 64 = 0
    ∧ (req 128 0x1FC0).attr.toNat % 128 = 0 ∧ (req 7 0x1FF8).attr.toNat < 8 ∧ (req 7 0x1FF8).addr.toNat % 8 = 0
    ∧ (req 1 0x1FF0).addr.toNat % 16 = 0 ∧ (req 0 0x3000).addr.toNat % 4096 = 0
    ∧ (hostIn .reset).cfg.mode ≠ .save ∧ (hostIn .reset).ready = true ∧ (hostIn .reset).portTakes (req 4 0x1000040) = true
    ∧ (req 4 0x1000040).attr.toNat ≤ 4 := by
  repeat' apply And.intro
  all_goals decide

theorem witness_HostFencesRecorded :
    (hostIn .service).ready = true ∧ (hostIn .service).portTakes (req 0 0) = true ∧ (hostIn .service).cfg.mode.serves = true
    ∧ (req 0 0).addr = 0 ∧ (req 0 0).attr = 0 ∧ (hostIn .service).portTakes (req 6 0) = true ∧ (req 6 0).attr.toNat < 8
    ∧ (req 6 0).attr.toNat % 4 ≠ 3 := by decide

/-- A port that holds the tag of a request. -/
def tagHeld (m : Mode) : State :=
  (hostIn m).setPort 0 { tags := [(9, { op := .read, q := req 0 0, arrived := 0, no := 0 })] }

theorem witness_HostRequestsRefused :
    (tagHeld .service).ready = true ∧ ((tagHeld .service).port 0).unacked = [] ∧ (tagHeld .service).acks 0 = true
    ∧ (aget ((tagHeld .service).port 0).tags 9).isSome = true
    ∧ (hostIn .save).ready = true ∧ ((hostIn .save).port 0).unacked = [] ∧ (hostIn .save).acks 0 = true
    ∧ (aget ((hostIn .save).port 0).tags 9).isSome = false ∧ (hostIn .save).cfg.mode.serves = false
    ∧ (hostIn .save).cfg.mode = .save ∧ 0xB ≤ (0xB : BitVec 4).toNat ∧ (hostIn .service).cfg.mode ≠ .save := by decide

/-- A request of port 0 held for leaf 5. -/
def heldOn : Held :=
  { w := { no := 0, src := .host .read (req 0 0x5000), arrived := 0 }, tag := 9, on := .leaf 5, since := 0, tmo := 1000 }

theorem witness_HostResponses :
    (State.reset.setPort 0 { egress := [{ tag := 9, code := .ok }] }).ready = true
    ∧ ((State.reset.setPort 0 { egress := [{ tag := 9, code := .ok }] }).port 0).egress = { tag := 9, code := .ok } :: []
    ∧ (State.reset.setPort 0 { held := [heldOn] }).ready = true
    ∧ ((State.reset.setPort 0 { held := [heldOn] }).port 0).held = [heldOn] ∧ heldOn.tag = 9 ∧ heldOn.on = .leaf 5 := by
  repeat' apply And.intro
  all_goals rfl

theorem witness_TelemetryRegisters :
    State.reset.takesReg .chain = true ∧ State.reset.modeRefuses 0x010008 ((5 : DWord).setWidth 32) = false
    ∧ (State.reset.updTel fun t => { t with chrSetTaken := true }).tel.chrSetTaken = true
    ∧ State.reset.tel.chrSetTaken = false ∧ (5 : DWord) ≠ 0
    ∧ (5 : DWord).toNat < ({ State.reset with chron := 6 } : State).chron ∧ State.reset.chron ≤ (5 : DWord).toNat
    ∧ State.reset.tel.ptpFresh = false
    ∧ State.reset.passes .chain (0x01A000 + 4 * 511) 0x00010006 = true
    ∧ counterListed (field (0x00010006 : Word) 16 8) (field (0x00010006 : Word) 8 8) (field (0x00010006 : Word) 0 8) = true
    ∧ State.reset.passes .chain (0x01A000 + 4 * 511) 0x0001070F = true
    ∧ counterListed (field (0x0001070F : Word) 16 8) (field (0x0001070F : Word) 8 8) (field (0x0001070F : Word) 0 8) = false
    ∧ State.reset.passes .chain 0x010060 1 = true ∧ State.reset.passes .chain 0x010060 2 = true
    ∧ State.reset.passes .chain 0x010044 1023 = true ∧ State.reset.passes .chain 0x010084 1 = true
    ∧ bit ((State.reset.setReg 0x010080 0x80000000).reg 0x010080) 31 = true
    ∧ (State.reset.setReg 0x010080 0x80000000).passes .chain 0x010084 1 = true ∧ bit (State.reset.reg 0x010080) 31 = false
    ∧ State.reset.passes .chain 0x010084 2 = true ∧ State.reset.passes .chain 0x0100C4 1 = true
    ∧ field (State.reset.reg 0x0100C0) 16 16 = 0
    ∧ field ((State.reset.setReg 0x0100C0 0x00010A32).reg 0x0100C0) 16 16 ≠ 0
    ∧ (State.reset.setReg 0x0100C0 0x00010A32).passes .chain 0x0100C4 1 = true
    ∧ (State.reset.setReg 0x0100C0 0x00010A32).passes .chain 0x0100C0 0x00000A32 = true
    ∧ field ((State.reset.setReg 0x0100C0 0x00010A32).newWord 0x0100C0 0x00000A32) 16 16 = 0
    ∧ State.reset.passes .chain 0x0100C0 0x00010A32 = true ∧ field (State.reset.newWord 0x0100C0 0x00010A32) 16 16 ≠ 0
    ∧ (State.reset.setReg 0x0100C0 0x00010A32).passes .chain 0x0100C0 0x00020A32 = true
    ∧ field ((State.reset.setReg 0x0100C0 0x00010A32).newWord 0x0100C0 0x00020A32) 16 16 ≠ 0 := by decide

/-- Pace monitor 3 one sample short of a mean. -/
def paced (armed : Bool) : State :=
  (State.reset.updTel fun t => { t with pace := [(3, { samples := List.replicate 15 0xFFF, armed := armed })] }).setReg 0x010820 0x1400

theorem witness_TelemetryEvents :
    (paced true).ready = true ∧ (agetD (paced true).tel.pace 3 {}).samples.length = 15
    ∧ (agetD (paced true).tel.pace 3 {}).armed = true ∧ bit ((paced true).reg 0x010820) 12 = true
    ∧ field ((paced true).reg 0x010820) 0 12
        < ((((agetD (paced true).tel.pace 3 {}).samples ++ [(0xFFF : BitVec 12)]).map fun x => x.toNat).sum) / 16
    ∧ ((((agetD (State.reset.updTel fun t => { t with pace := [(3, { samples := List.replicate 15 0 })] }).tel.pace 3 {}).samples
        ++ [(0 : BitVec 12)]).map fun x => x.toNat).sum) / 16 ≤ field (State.reset.reg 0x010820) 0 12
    ∧ bit ((paced true).setReg 0x010820 0x400 |>.reg 0x010820) 12 = false
    ∧ field ((paced true).setReg 0x010820 0x400 |>.reg 0x010820) 0 12 < 0xFFF
    ∧ bit (State.reset.reg 0x010020) 0 = true ∧ State.reset.pins.ptpEdgeAt = none
    ∧ (State.reset.updPins fun p => { p with ptpEdgeAt := some 0 }).pins.ptpEdgeAt = some 0 ∧ State.reset.chron < 0 + 1000000
    ∧ bit ((State.reset.setReg 0x010020 0).reg 0x010020) 0 = false
    ∧ ((pilot fun n => { n with wait := .fence 0 0 3 0 1000000 }).engine 0).wait = .fence 0 0 3 0 1000000
    ∧ ((pilot fun n => { n with wait := .fence 2 0 3 0 1000000 }).engine 0).wait = .fence 2 0 3 0 1000000
    ∧ (agetD (pilot id).tel.engines 0 {}).stage = 0
    ∧ (agetD ((pilot fun n => { n with wait := .fence 0 0 3 0 1000000 }).setSubject 0 { stage := 1, trigger := 2 }).tel.engines 0
        {}).stage = 1
    ∧ ((pilot fun n => { n with wait := .fence 0 0 3 0 1000000 }).setSubject 0 { stage := 1, trigger := 2 }).lookoutHolds 0 2 = true
    ∧ ((pilot id).setSubject 0 { stage := 1, trigger := 2 }).lookoutHolds 0 2 = false
    ∧ (agetD ((pilot id).setSubject 0 { stage := 2, trigger := 2 }).tel.engines 0 {}).stage = 2
    ∧ (((pilot id).setSubject 0 { stage := 2, trigger := 2 }).engine 0).state ≠ .halted
    ∧ (((pilot id).updEngine 0 fun n => { n with state := .halted }).engine 0).state = .halted
    ∧ (State.reset.updTel fun t => { t with kickRun := true }).tel.kickRun = true ∧ State.reset.tel.firmware.stage = 0
    ∧ (State.reset.updTel fun t => { t with firmware := { stage := 1 } }).tel.firmware.stage = 1 := by decide

/-- A reservation of engine 0. -/
def resv0 : Resv := { who := .engine 0, granule := 1, gran := 6, placed := 0, life := 100, order := 0 }

theorem witness_WritePathRegisters :
    (State.reset.updAtu fun a => { a with resv := [resv0] }).ready = true
    ∧ (State.reset.updAtu fun a => { a with resv := [resv0] }).atu.resv.find? (fun x => x.who == .engine 0) = some resv0
    ∧ State.reset.passes .chain 0x05000C 1 = true
    ∧ State.reset.passes .chain 0x050000 (State.reset.reg 0x050000) = true
    ∧ field (State.reset.newWord 0x050000 (State.reset.reg 0x050000)) 0 3 = field (State.reset.reg 0x050000) 0 3
    ∧ State.reset.passes .chain 0x050000 (State.reset.reg 0x050000 ^^^ 1) = true
    ∧ field (State.reset.newWord 0x050000 (State.reset.reg 0x050000 ^^^ 1)) 0 3 ≠ field (State.reset.reg 0x050000) 0 3
    ∧ State.reset.passes .chain 0x0C0004 0x02000000 = true
    ∧ State.reset.passes .chain 0x0C0070 (BitVec.ofNat 32 (2 ^ (9 + 2))) = true
    ∧ State.reset.passes .chain 0x0C0070 (BitVec.ofNat 32 (2 ^ (17 + 2))) = true := by decide

/-! ### Witnesses: drain and Anchor, TWN -/

/-- A Log record of a leaf. -/
def logRec (leaf : Nat) : LogRec := { seq := 1, stamp := 0, label := 0, req := 0, src := 0, leaf := leaf, epoch := 0 }

/-- A block in a mode with the vault on and one entry of the Log, at index 0, for a leaf. -/
def entered (m : Mode) (leaf : Nat) : State :=
  ((inMode m).setReg 0x0F0000 1).updPlg fun p => { p with w := 1, ring := [(0, logRec leaf)] }

/-- The same with a drain of that entry. -/
def draining (m : Mode) (f : Drain → Drain) : State := (entered m 7).updPlg fun p => { p with drains := [f { idx := 0, leaf := 7 }] }

/-- A fence of engine 0 that has its target. -/
def fence0 : PFence :=
  { id := 3, owner := .engine 0, stream := .engine 0, level := 1, arrived := 0, tmo := 1000000, no := 0, limit := 0, waitOn := []
    target := some 5 }

/-- A Log ring that a pin holds full. -/
def anchored : State :=
  { State.reset with
    map := { State.reset.map with act := { logEntries := 3 } }
    plg := { w := 8, d := 8, i := 8, a := 0, pins := [(1, 0)], holdSince := some 5 } }

theorem witness_DrainAndAnchor :
    (entered .service 7).ready = true ∧ (entered .service 7).drainRuns = true ∧ (entered .service 7).plg.drains = []
    ∧ (entered .service 7).plg.i < (entered .service 7).plg.w ∧ aget (entered .service 7).plg.ring 0 = some (logRec 7)
    ∧ (entered .service 7).leafState 7 = 0 ∧ ((entered .service 7).updMap fun m => { m with absent := [(7, 1)] }).leafState 7 ≠ 0
    ∧ (draining .service id).plg.d < (draining .service id).plg.w ∧ (draining .service id).plg.stalled = false
    ∧ ((draining .service fun d => { d with result := some true }).plg.drains.find? fun d => d.idx == 0)
        = some { idx := 0, leaf := 7, result := some true }
    ∧ (draining .service fun d => { d with result := some true }).dirtyRoom
        ((draining .service id).map.act.leafMapUnit 7) = true
    ∧ ((draining .service fun d => { d with result := some false }).plg.drains.find? fun d => d.idx == 0)
        = some { idx := 0, leaf := 7, result := some false }
    ∧ (draining .service fun d => { d with result := some false }).cfg.mode ≠ .save
    ∧ (draining .save fun d => { d with result := some false }).cfg.mode = .save
    ∧ (draining .save fun d => { d with result := some false }).dirtyRoom ((draining .save id).map.act.leafMapUnit 7) = true
    ∧ ((draining .service fun d => { d with retryAt := some 1000000 }).plg.drains.find? fun d => d.idx == 0)
        = some { idx := 0, leaf := 7, retryAt := some 1000000 }
    ∧ (draining .service fun d => { d with retryAt := some 1000000 }).drainRuns = true
    ∧ ((State.reset.updAtu fun a => { a with fences := [fence0] }).atu.fences.find? fun g => g.id == fence0.id) = some fence0
    ∧ (State.reset.updAtu fun a => { a with fences := [fence0] }).bareSave = false
    ∧ State.fenceMet { (State.reset.updAtu fun a => { a with fences := [fence0] }) with chron := 1000000 }
        (State.takeTarget { (State.reset.updAtu fun a => { a with fences := [fence0] }) with chron := 1000000 } fence0) = false
    ∧ State.fenceMet { (State.reset.updAtu fun a => { a with fences := [fence0] }) with chron := 1000000 }
        (State.takeTarget { (State.reset.updAtu fun a => { a with fences := [fence0] }) with chron := 1000000 }
          { fence0 with level := 0 }) = true
    ∧ anchored.ready = true ∧ anchored.plg.holdSince = some 5 ∧ (anchored.releasePins [0, 1, 2, 3]).1 ≠ 0 := by
  decide +kernel

/-- A frame of the link with its CHECK. -/
def frame (typ flags : BitVec 4) (lane : BitVec 2) (epoch : Word) (arg0 : DWord) (arg1 : Word) (payload : List Byte) : Frame :=
  let f : Frame := { typ := typ, flags := flags, lane := lane, ver := 1, plen := BitVec.ofNat 9 payload.length, seq := 0, ack := 0
                     epoch := epoch, arg0 := arg0, arg1 := arg1, check := 0, payload := payload, tag := none }
  { f with check := frameCheck f }

/-- A committed map of 512 GiB with 16 Reaches below the carve region. -/
def act16 : MapSet := { committed := true, carveBase := 16 }

/-- A block whose link is UP, in Service, with a session key and Reach 0 at an entry. -/
def linked (entry : DWord) : State :=
  { (inMode .service).setKeySlot 0 { key := 5, loaded := true } with
    map := { State.reset.map with act := act16, reach := [(0, entry)] }
    twn := { State.reset.twn with link := 2, hello := some ⟨1, 0, 0, 0, 0, false, false, false⟩ } }

/-- The twin, which sends the sealed frames. -/
def peer : State :=
  (((State.reset.updTwn fun t => { t with hello := some ⟨127, 0, 0, 0, 0, false, false, false⟩ }).updCfg fun c =>
    { c with chainAddr := 1 }).setKeySlot 0 { key := 5, loaded := true })

/-- One line for line 0 of Reach 0. -/
def mirror0 (epoch : Word) : Frame := frame 1 0 0 epoch 0 0 (List.replicate 64 7)

/-- A forwarded write to line 0 of Reach 0, opened, and as it travels. -/
def fwd0 (epoch : Word) : Frame := frame 2 0 0 epoch 0 1 (List.replicate 72 7)
def sealed0 (epoch : Word) : Frame := peer.sealFrame (fwd0 epoch) 0

theorem witness_mirror_arrives :
    (linked (mkReach 3 1 false true)).arrive (mirror0 3) = (.take (mirror0 3), linked (mkReach 3 1 false true))
    ∧ (linked (mkReach 3 2 false true)).arrive (mirror0 3) = (.take (mirror0 3), linked (mkReach 3 2 false true))
    ∧ (linked 0).arrive (mirror0 3) = (.take (mirror0 3), linked 0) := by decide +kernel

/-- The state a frame finds once it has come in its turn. -/
def taken (s : State) (f : Frame) : State := (s.arrive f).2.qIn .twnIn f.arg0.toNat

theorem witness_forward_opens :
    ((linked (mkReach 3 1 false true)).arrive (sealed0 3)).1 = .take { sealed0 3 with payload := List.replicate 72 7 }
    ∧ ((linked (mkReach 3 2 false true)).arrive (sealed0 3)).1 = .take { sealed0 3 with payload := List.replicate 72 7 } := by
  decide +kernel

theorem witness_forward_opens_any :
    (linked (mkReach 3 2 false true)).openFrame (sealed0 3) = some { sealed0 3 with payload := List.replicate 72 7 }
    ∧ (linked (mkReach 3 1 false true)).openFrame (sealed0 2) = some { sealed0 2 with payload := List.replicate 72 7 }
    ∧ (linked (mkReach 3 1 false true)).openFrame (sealed0 4) = some { sealed0 4 with payload := List.replicate 72 7 } := by
  decide +kernel

/-- Items that wait at the mirror-out queue. -/
def outItem : MirrorItem := .fwd 4 0 false 2 0xFF 0 3
def outLine : MirrorItem := .line 0 0 false 3 none false false 0

/-- The link with an item to send. -/
def sending (m : MirrorItem) : State := (linked 0).updTwn fun t => { t with out := [m] }

/-- A REFILL frame for line 0 that answers the FETCH of leaf 0 under tag 4. -/
def refill0 : Frame := frame 1 4 0 9 0 0x00040000 (List.replicate 64 7)

theorem witness_DataFrames :
    (sending outItem).ready = true ∧ (sending outItem).twn.link = 2
    ∧ ((sending outItem).lane 0).retry.length < (sending outItem).window
    ∧ (sending outItem).laneOf outItem.reach = 0 ∧ (sending outLine).laneOf outLine.reach = 0
    ∧ (sending outItem).canSeal (fwdFrame 4 0 false 2 0xFF 0 3).frame = true
    ∧ ((sending outItem).zeroSlot 0).canSeal (fwdFrame 4 0 false 2 0xFF 0 3).frame = false
    ∧ (sending outLine).canSeal (mirrorFrame (outLine :: (takeItems outLine [0] []).1)).frame = true
    ∧ (linked 0).cfg.mode.serves = true ∧ (mirror0 3).typ = 1 ∧ (taken (linked 0) (mirror0 3)).reachState 0 = 0
    ∧ bitsOf (mirror0 3).arg0.toNat 24 34 = 0 ∧ reachOfLeaf 0 = 0
    ∧ (taken (linked (mkReach 3 1 false true)) (mirror0 3)).reachState 0 = 1
    ∧ 0 < (taken (linked (mkReach 3 1 false true)) (mirror0 3)).map.act.dataLeaves
    ∧ (taken (linked (mkReach 3 1 false true)) (mirror0 3)).answersFetch (mirror0 3) = false
    ∧ (taken ((linked 0).updTwn fun t => { t with fetches := [(4, 0)] }) refill0).answersFetch refill0 = true
    ∧ (mirror0 3).epoch = (taken (linked (mkReach 3 1 false true)) (mirror0 3)).reachEpoch 0
    ∧ (taken (linked (mkReach 3 2 false true)) (mirror0 3)).reachState 0 = 2
    ∧ epochEarlier 2 ((taken (linked (mkReach 3 2 false true)) (mirror0 2)).reachEpoch 0) = true
    ∧ epochEarlier 4 ((taken (linked (mkReach 3 2 false true)) (mirror0 4)).reachEpoch 0) = false
    ∧ (fwd0 3).typ = 2 ∧ (sealed0 3).typ = 2 ∧ leafOfLine (bitsOf (fwd0 3).arg0.toNat 0 40) = 0
    ∧ epochEarlier 2 ((taken (linked (mkReach 3 1 false true)) (sealed0 2)).reachEpoch 0) = true
    ∧ (taken (linked (mkReach 3 1 false true)) (sealed0 2)).reachState 0 ≠ 2
    ∧ epochEarlier 4 ((taken (linked (mkReach 3 1 false true)) (sealed0 4)).reachEpoch 0) = false
    ∧ (((linked 0).setLane 0 { waiting := some (mirror0 3, 0, 0) }).lane 0).waiting = some (mirror0 3, 0, 0)
    ∧ (((linked 0).setLane 0 { waiting := some (fwd0 3, 0, 1) }).lane 0).waiting = some (fwd0 3, 0, 1) := by
  decide +kernel

theorem witness_DataFrames_lines :
    ((taken (linked (mkReach 3 2 false true)) (mirror0 3)).mirrorLines 0 false false 0 (frameLines (mirror0 3))).2.1 = true
    ∧ ((taken ((linked (mkReach 3 1 false true)).updMap fun m => { m with absent := [(0, 1)] }) (sealed0 3)).forwardedWrite 0
        (fwd0 3)).isSome = true
    ∧ (((taken (linked (mkReach 3 1 false true)) (sealed0 3)).forwardedWrite 0 (fwd0 3)).map fun u =>
        u.jobOut fun j => j.ftag == some 0) = some false
    ∧ (((taken ((linked (mkReach 3 1 false true)).setReg 0x100000 0xE0000000) (sealed0 3)).forwardedWrite 0 (fwd0 3)).map fun u =>
        u.jobOut fun j => j.ftag == some 0) = some true
    ∧ (taken (((linked (mkReach 3 1 false true)).setReg 0x0C0004 1).updPlg fun p => { p with w := 1 }) (sealed0 3)).forwardedWrite
        0 (fwd0 3) = none := by decide +kernel

/-- The frame takes the block's next control sequence. -/
def takes (s : State) (f : Frame) : Bool := decide (s.arrive f = (.take f, s))

/-- A HELLO of a twin with the given identity. -/
def hello (node : DWord) : Frame := frame 4 0 2 0 node 0 (List.replicate 32 0)

/-- What that HELLO says. -/
def helloSays (node : DWord) : PeerHello := ⟨node, 0, 0, 0, 0, false, false, false⟩

/-- A link in bring-up. -/
def calling : State := State.reset.updTwn fun t => { t with link := 1 }

/-- A message for engine 0 and the frame it travels in. -/
def ctrl0 : Frame := frame 8 0 2 0 5 0 [1, 2]

theorem witness_ControlFrames_arrive :
    takes ((linked 0).updTwn fun t => { t with forwards := [{ ftag := 4, who := .engine 0, tag := 0, line := 0 }] })
        (frame 6 0 2 0 9 0x00040000 []) = true
    ∧ takes (linked 0) (frame 3 0 2 0 0 0 (List.replicate 16 0)) = true
    ∧ takes calling (hello 1) = true ∧ takes calling (hello 127) = true
    ∧ takes calling (frame 5 0 2 0 0x10000 0 (List.replicate 8 0)) = true
    ∧ takes (linked (mkReach 3 2 true true)) (frame 5 1 2 4 0x10000 0 []) = true
    ∧ takes ((linked (mkReach 4 2 true true)).updTwn fun t => { t with handover := [{ reach := 0, epoch := 4, sent := true }] })
        (frame 5 2 2 4 0x10000 0 []) = true
    ∧ takes (linked (mkReach 3 1 false true)) (frame 5 3 2 4 0x10000 0 []) = true
    ∧ takes (linked (mkReach 3 1 false true)) (frame 5 4 2 4 0x10000 0 []) = true
    ∧ takes (linked 0) (frame 5 5 2 0 0 0 (List.replicate 8 0)) = true
    ∧ takes (linked (mkReach 3 1 false true)) (frame 7 0 2 0 9 4 []) = true
    ∧ takes ((linked 0).updMap fun m => { m with absent := [(9, 1)] }) (frame 7 0 2 0 9 4 []) = true
    ∧ takes ((linked 0).updTwn fun t => { t with fetches := [(4, 9)] }) (frame 7 1 2 0 9 4 []) = true := by decide +kernel

theorem witness_ctrl_opens :
    ((linked 0).arrive (peer.sealFrame ctrl0 0)).1 = .take { peer.sealFrame ctrl0 0 with payload := [1, 2] }
    ∧ (peer.sealFrame ctrl0 0).typ = 8 ∧ (linked 0).msgRoom (field (peer.sealFrame ctrl0 0).arg1 0 6) = true
    ∧ ((linked 0).updEngine 0 fun n => { n with msgs := List.replicate 32 (0, []) }).msgRoom 0 = false := by decide +kernel

theorem witness_ControlFrames :
    (linked 0).ready = true ∧ calling.ready = true
    ∧ (frame 6 0 2 0 9 0x00040000 []).typ = 6 ∧ field (frame 6 0 2 0 9 0x00040000 []).arg1 16 12 = 4
    ∧ field (frame 6 0 2 0 9 0x00040000 []).arg1 12 4 = 0
    ∧ (frame 3 0 2 0 0 0 (List.replicate 16 0)).typ = 3 ∧ bit (frame 3 0 2 0 0 0 (List.replicate 16 0)).arg1 0 = false
    ∧ bit (frame 3 0 2 0 0 0 (List.replicate 16 0)).arg1 1 = false
    ∧ (hello 1).typ = 4 ∧ (hello 1).ver = 1 ∧ calling.twn.link = 1
    ∧ (calling.receives 0 (hello 1)).helloFits (helloSays 1) = true ∧ (calling.receives 0 (hello 127)).helloFits (helloSays 127) = false
    ∧ bitsOf (frame 5 0 2 0 0x10000 0 (List.replicate 8 0)).arg0.toNat 16 16 = 1
    ∧ serialLater (frame 5 1 2 4 0x10000 0 []).epoch ((linked (mkReach 3 2 true true)).reachEpoch 0) = true
    ∧ (linked (mkReach 3 2 true true)).reachState 0 = 2
    ∧ epochEarlier ((linked (mkReach 3 1 false true)).reachEpoch 0) 4 = true ∧ (linked (mkReach 3 1 false true)).reachState 0 = 1
    ∧ (linked (mkReach 3 1 false true)).reachEpoch 0 ≠ 4
    ∧ ((linked (mkReach 3 1 false true)).receives 0 (frame 5 4 2 4 0x10000 0 [])).reachState 0 = 1
    ∧ serialLater 4 (((linked (mkReach 3 1 false true)).receives 0 (frame 5 4 2 4 0x10000 0 [])).reachEpoch 0) = true
    ∧ ((linked (mkReach 3 2 false true)).receives 0 (frame 5 4 2 4 0x10000 0 [])).reachState 0 ≠ 1
    ∧ ((linked (mkReach 4 1 false true)).receives 0 (frame 5 4 2 4 0x10000 0 [])).reachEpoch 0 = 4
    ∧ (linked (mkReach 3 1 false true)).map.act.reaches ≠ 0 ∧ (linked (mkReach 3 1 false true)).map.act.carveBase ≠ 0
    ∧ (linked (mkReach 3 1 false true)).fetchable 9 = true
    ∧ ((linked (mkReach 3 1 false true)).receives 0 (frame 7 0 2 0 9 4 [])).fetchable 9 = true
    ∧ ((linked (mkReach 3 1 false true)).admitAs (.fetch 9) 0 64).1 ≠ none
    ∧ ((linked (mkReach 3 1 false true)).setReg 0x060000 0x80000000).fetchable 9 = true
    ∧ (((linked (mkReach 3 1 false true)).setReg 0x060000 0x80000000).admitAs (.fetch 9) 0 64).1 = none
    ∧ (linked (mkReach 3 1 false true)).leafRoom 9 = true
    ∧ ((linked (mkReach 3 1 false true)).updTwn fun t => { t with reading := [{ leaf := 9, no := 0, resync := true }] }).leafRoom 9
        = false
    ∧ ((linked (mkReach 3 1 false true)).updMap fun m => { m with absent := [(9, 1)] }).fetchable 9 = false
    ∧ aget ((linked 0).updTwn fun t => { t with fetches := [(4, 9)] }).twn.fetches (field (frame 7 1 2 0 9 4 []).arg1 0 12)
        = some 9 := by decide +kernel

/-- A FWD_ACK with the code ERR_FENCED. -/
theorem witness_ControlFrames_code :
    takes ((linked 0).updTwn fun t => { t with forwards := [{ ftag := 4, who := .engine 0, tag := 0, line := 0 }] })
        (frame 6 0 2 0 9 0x00047000 []) = true
    ∧ field (frame 6 0 2 0 9 0x00047000 []).arg1 12 4 = Code.errFenced.bits.toNat ∧ Code.errFenced ≠ .ok := by decide +kernel

/-- A lane with one unacknowledged frame. -/
def retrying : State := (linked 0).setLane 2 { retry := [{ frame := hello 1 }] }

theorem witness_LinkTimers :
    (linked 0).ready = true ∧ (linked 0).twn.link ≠ 0 ∧ (linked 0).twn.beatDue = false
    ∧ ((linked 0).updTwn fun t => { t with beatDue := true }).twn.beatDue = true
    ∧ calling.ready = true ∧ calling.twn.link = 1 ∧ calling.twn.helloAcked = false
    ∧ (((linked (mkReach 3 2 false true)).setLane 0 { waiting := some (mirror0 4, 0, 0) }).lane 0).waiting = some (mirror0 4, 0, 0)
    ∧ (mirror0 4).epoch ≠ (linked (mkReach 3 2 false true)).reachEpoch 0
    ∧ epochEarlier (mirror0 4).epoch ((linked (mkReach 3 2 false true)).reachEpoch 0) = false
    ∧ (retrying.lane 2).retry ≠ [] ∧ retrying.ready = true := by decide +kernel

/-- The firmware's side of the link: mirroring enabled and a fresh session key. -/
def armed (link : BitVec 2) (fresh : Bool) : State :=
  (((inMode .service).setReg 0x0D0000 0x80000000).setKeySlot 0 { loaded := true, fresh := fresh }).updTwn fun t => { t with link := link }

/-- The firmware grants Reach 0 at an epoch. -/
def granting (epoch : Word) : State :=
  ((({ (inMode .service) with map := { State.reset.map with act := act16, reach := [(0, mkReach 3 1 false false)] } } : State).setReg
    0x0D0030 0).setReg 0x0D0034 1).setReg 0x0D0038 epoch

/-- A Resync at a place of the Log. -/
def resyncing (f : Plg → Plg) : State :=
  ((inMode .resync).updTwn fun t => { t with link := 2, resync := some { full := false, reaches := [] } }).updPlg fun p =>
    f { p with pins := [(0, 0)] }

/-- The same with Reach 0 in the copy set. -/
def copying : State :=
  (resyncing id).updMap fun m => { m with act := act16, reach := [(0, mkReach 3 1 false false)], copySet := [0] }

theorem witness_TwinFirmware :
    (armed 0 true).passes .chain 0x0D000C 1 = true ∧ bit ((armed 0 true).reg 0x0D0000) 31 = true ∧ (armed 0 true).twn.link = 0
    ∧ ((armed 0 true).keySlot (armed 0 true).sessionSlot).fresh = true ∧ (armed 0 true).boundSlot (armed 0 true).sessionSlot = false
    ∧ (armed 0 false).passes .chain 0x0D000C 1 = true ∧ ((armed 0 false).keySlot (armed 0 false).sessionSlot).fresh = false
    ∧ (armed 2 true).passes .chain 0x0D000C 1 = true ∧ (armed 2 true).twn.link ≠ 0
    ∧ (armed 2 true).passes .chain 0x0D000C 2 = true ∧ (armed 2 true).passes .chain 0x0D000C 4 = true
    ∧ (linked (mkReach 3 1 false true)).passes .chain 0x0D0014 (0x80000000 ||| (0 : BitVec 16).setWidth 32) = true
    ∧ (linked (mkReach 3 1 false true)).twn.link = 2 ∧ (linked (mkReach 3 1 false true)).reachState 0 = 1
    ∧ (linked (mkReach 3 1 false true)).reachInStep 0 = true
    ∧ (linked (mkReach 3 1 false true)).map.unresolved.contains 0 = false
    ∧ (armed 0 true).passes .chain 0x0D0014 (0x80000000 ||| (5 : BitVec 16).setWidth 32) = true ∧ (armed 0 true).twn.link ≠ 2
    ∧ (((linked 0).updTwn fun t => { t with handover := [{ reach := 5, epoch := 4 }] }).twn.handover.find? fun x =>
        x.reach == (5 : BitVec 16).toNat && !x.sent) = some { reach := 5, epoch := 4 }
    ∧ (linked 0).twn.out = [] ∧ (∀ l ∈ (linked 0).twn.lanes, l.retry = [])
    ∧ (granting 4).passes .chain 0x0D003C 1 = true ∧ field ((granting 4).reg 0x0D0030) 0 16 = 0
    ∧ field ((granting 4).reg 0x0D0034) 0 17 = 1 ∧ (granting 4).twn.link ≠ 2 ∧ 0 < (granting 4).map.act.reaches
    ∧ 0 < (granting 4).map.act.carveBase ∧ (granting 4).reachState 0 = 1
    ∧ serialLater ((granting 4).reg 0x0D0038) ((granting 4).reachEpoch 0) = true
    ∧ serialLater ((granting 3).reg 0x0D0038) ((granting 3).reachEpoch 0) = false ∧ (granting 3).passes .chain 0x0D003C 1 = true
    ∧ (State.reset.updTwn fun t => { t with grantPend := some (1, 0, 3) }).twn.grantPend = some (1, 0, 3) ∧ 1 < 2 ^ 16 := by
  decide +kernel

theorem witness_TwinFirmware_resync :
    (resyncing id).ready = true ∧ (resyncing id).twn.resync = some { full := false, reaches := [] }
    ∧ aget ((resyncing id).updPlg fun p => { p with pins := [] }).plg.pins 0 = none
    ∧ (aget (resyncing id).plg.pins 0).isSome = true ∧ (resyncing id).plg.w ≤ 0 ∧ (∀ x ∈ (resyncing id).twn.reading, x.resync = false)
    ∧ (∀ q ∈ (resyncing id).toCopy, q ∈ ([] : List Nat))
    ∧ 0 < (resyncing fun p => { p with w := 1 }).plg.w ∧ aget (resyncing fun p => { p with w := 1 }).plg.ring 0 = none
    ∧ aget (resyncing fun p => { p with w := 1, ring := [(0, logRec 7)] }).plg.ring 0 = some (logRec 7)
    ∧ (resyncing fun p => { p with w := 1, ring := [(0, logRec 7)] }).reachState (reachOfLeaf 7) ≠ 1
    ∧ (copying.toCopy.filter fun q => !([] : List Nat).contains q) = [0] ∧ 0 * 2 ^ 18 < copying.map.act.dataLeaves
    ∧ copying.leafRoom (0 * 2 ^ 18) = true ∧ copying.leafState (0 * 2 ^ 18) = 0 ∧ (copying.copyLeaf (0 * 2 ^ 18)).1 = true
    ∧ (((copying.updCfg fun c => { c with mode := .service }).setReg 0x060000 0x80000000).copyLeaf (0 * 2 ^ 18)).1 = false := by decide +kernel

/-! ### Witnesses: VLT -/

/-- A state with the vault enabled. -/
def vault (m : Mode) (f : Vlt → Vlt) : State := ((inMode m).setReg 0x0F0000 1).updVlt f

/-- Four bytes and a CRC make the head of a superblock (R162): magic, version 1, STATE, GEN 7, the node and the sizes. -/
def superHead (state : Nat) : List Byte :=
  natBytes 4 0x4C4D5632 ++ natBytes 2 1 ++ natBytes 2 state ++ natBytes 8 7 ++ natBytes 8 0 ++ natBytes 8 127
    ++ natBytes 8 0 ++ natBytes 12 0 ++ natBytes 4 0 ++ natBytes 4 0 ++ natBytes 2 0 ++ natBytes 1 28 ++ natBytes 13 0

/-- A superblock as its unit reads, and a unit that was never written. -/
def superUnit (state : Nat) : List Byte := superHead state ++ natBytes 4 (crc32c (superHead state)).toNat

/-- The superblocks have been read: the bytes of their units, or a unit that failed with its reason. -/
def superRead (a b : List Byte) (failed : Option (Nat × Nat)) : State :=
  vault .sighting fun v => { v with
    phase := .metaIn, job := some { step := .superRead, no := 1, got := [(0, a), (1, b)], failed := failed } }

/-- The last step of a read of the metadata. -/
def metaRead (failed : Option (Nat × Nat)) : State :=
  vault .sighting fun v => { v with phase := .metaIn, job := some { step := .logRead, no := 1, failed := failed } }

/-- A step of VLT that is over. -/
def stepDone (m : Mode) (st : VltStep) : State := vault m fun v => { v with job := some { step := st, no := 1 } }

/-- A dirty metadata unit in a mode and phase. -/
def dirtied (m : Mode) (ph : Phase) : State := vault m fun v => { v with dirty := [3], running := true, phase := ph }

theorem witness_SaveSequence :
    (inMode .service).ready = true ∧ (inMode .service).cfg.frozen = false ∧ (inMode .service).cfg.mode ≠ .save
    ∧ (inMode .service).cfg.mode.early = false ∧ State.reset.ready = true ∧ State.reset.cfg.frozen = false
    ∧ State.reset.cfg.mode = .reset ∧ (inMode .sighting).cfg.mode = .sighting ∧ (inMode .sighting).vlt.running = false
    ∧ ((inMode .sighting).updVlt fun v => { v with running := true }).vlt.running = true
    ∧ (vault .save fun v => { v with phase := .drain }).cfg.mode = .save
    ∧ (vault .save fun v => { v with phase := .drain }).vaultOn = true
    ∧ (vault .save fun v => { v with phase := .drain }).plg.d = (vault .save fun v => { v with phase := .drain }).plg.w
    ∧ (vault .save fun v => { v with phase := .drain }).plg.drains = []
    ∧ (vault .save fun v => { v with phase := .drain }).quiesced = true
    ∧ (vault .save fun v => { v with phase := .drain }).vlt.writing = []
    ∧ (stepDone .save .saveFlush).stepOver .saveFlush = true ∧ (stepDone .save .saveFlush).cfg.mode = .save
    ∧ (stepDone .save .saveLast).stepOver .saveLast = true ∧ (stepDone .save .saveLast).vaultOn = true
    ∧ (stepDone .save .saveLast).cfg.saveDonePin = false ∧ (inMode .save).vaultOn = false ∧ (inMode .save).quiesced = true
    ∧ (dirtied .service .refill).vaultOn = true ∧ (dirtied .service .refill).vlt.dirty.contains 3 = true
    ∧ (dirtied .service .refill).vlt.writing.contains 3 = false ∧ (dirtied .service .refill).vlt.running = true
    ∧ (dirtied .service .refill).cfg.mode.serves = true ∧ (dirtied .service .refill).dti.down = false
    ∧ (dirtied .save .quiesce).cfg.mode = .save ∧ (dirtied .save .drain).vlt.phase = .drain := by decide

/-- A sighted block: the XTS key loaded, CFG locked, START_HOLD cleared. -/
def sighted (vlt : Word) : State :=
  (((((inMode .sighting).updCfg fun c => { c with sightDone := true, lockTaken := true }).setReg 0x000004 1).setReg 0x000044 0).setReg
    0x0F0000 vlt).setKeySlot 0 { loaded := true, wide := true }

theorem witness_RestoreSequence_start :
    (sighted 1).sightedAll = true ∧ (sighted 1).vaultOn = true ∧ (sighted 0).sightedAll = true ∧ (sighted 0).vaultOn = false
    ∧ (sighted 0).ready = true ∧ (superRead [] [] none).ready = true ∧ (superRead [] [] none).stepOver .superRead = true
    ∧ (readSuper []).hasMagic = false ∧ (readSuper (superHead 2)).hasMagic = true ∧ (readSuper (superHead 2)).valid = false
    ∧ (readSuper (superUnit 2)).valid = true ∧ (readSuper (superUnit 2)).hasMagic = true
    ∧ (readSuper (superUnit 2)).state ≠ 1 ∧ (readSuper (superUnit 1)).state = 1
    ∧ (readSuper (superUnit 2)).gen ≤ (readSuper (superUnit 1)).gen
    ∧ (superRead (superUnit 2) [] none).superFits (readSuper (superUnit 2)) = true
    ∧ ((superRead (superUnit 2) [] none).updCfg fun c => { c with chainAddr := 1 }).superFits (readSuper (superUnit 2)) = false
    ∧ (superRead [] [] (some (3, 0))).vlt.job
        = some { step := .superRead, no := 1, got := [(0, []), (1, [])], failed := some (3, 0) }
    ∧ (metaRead none).stepOver .logRead = true
    ∧ (metaRead (some (3, 9))).vlt.job = some { step := .logRead, no := 1, failed := some (3, 9) } := by decide +kernel

/-- Sighting is complete, and with it the metadata. -/
def begun (vlt : Word) (f : Vlt → Vlt) : State :=
  ((((inMode .sighting).updCfg fun c => { c with sightingComplete := true }).setReg 0x0F0000 vlt).updVlt f).updMap fun m =>
    { m with act := { stageSize := 64 } }

/-- A Restore in Service, one leaf below the walk not PRESENT. -/
def restoring (leaf : Nat) (f : Vlt → Vlt) : State :=
  (vault .service f).updMap fun m => { m with restoring := true, walk := 100, absent := [(leaf, 3)] }

/-- A leaf that only the twin holds, and no Reach in step with it. -/
def orphan : State := (inMode .service).updMap fun m => { m with absent := [(5, 2)] }

/-- A refill in flight of leaf 5 from a source, as it arrived. -/
def arriving (code source : Nat) (a : Option (Bool × List Byte × BitVec 256)) : State :=
  (((inMode .service).updMap fun m => { m with absent := [(5, code)] }).updVlt fun v =>
    { v with demands := [{ leaf := 5, inFlight := true, source := source, arrived := a, fetched := true }] }).setKeySlot 0
      { key := 5, loaded := true }

/-- The sideband of an empty leaf 5 under that key. -/
def leafSide : BitVec 256 :=
  BitVec.ofNat 256 (bytesNat ((beBytes 16 (leafTag (k1 5) ((arriving 1 1 none).leafAad 5 []))).map (BitVec.ofNat 8) ++ natBytes 8 5))

/-- The same leaf while the twin holds it in step, from the vault without a FETCH before. -/
def fetchNext : State :=
  (((arriving 1 1 (some (false, [], 0))).updVlt fun v =>
    { v with demands := [{ leaf := 5, inFlight := true, source := 1, arrived := some (false, [], 0) }] }).updTwn fun t =>
      { t with link := 2 }).updMap fun m => { m with act := act16, twinTable := [(0, mkReach 3 2 false true)] }

theorem witness_RestoreSequence_refill :
    (begun 1 fun v => { v with phase := .metaIn, job := some { step := .runFlush, no := 1 } }).ready = true
    ∧ (begun 1 fun v => { v with phase := .metaIn, job := some { step := .runFlush, no := 1 } }).stepOver .runFlush = true
    ∧ (begun 1 id).cfg.sightingComplete = true ∧ (begun 1 id).cfg.restoreBegun = false ∧ (begun 1 id).cfg.mode = .sighting
    ∧ (begun 1 id).cfg.frozen = false ∧ (begun 0 id).vaultOn = false
    ∧ ¬((begun 0 id).map.act.stageSize * 2 ^ 20 < (begun 0 id).map.act.restoreMap + 64 * 2 ^ 20)
    ∧ ((begun 0 id).updMap fun m => { m with act := {} }).map.act.stageSize * 2 ^ 20
        < ((begun 0 id).updMap fun m => { m with act := {} }).map.act.restoreMap + 64 * 2 ^ 20
    ∧ (vault .sighting fun v => { v with phase := .waitInit }).passes .chain 0x0F0008 1 = true
    ∧ orphan.passes .chain 0x0F0008 2 = true
    ∧ (orphan.map.absent.filter fun x => x.2 == 2 && (orphan.sourceOf x.1).isNone).map (fun x => x.1) ≠ []
    ∧ (restoring 7 id).ready = true ∧ (restoring 7 id).map.restoring = true ∧ (restoring 7 id).cfg.mode.serves = true
    ∧ ((restoring 7 id).vlt.demands.filter fun d => !d.demand && d.inFlight).length < field ((restoring 7 id).reg 0x0F0004) 8 8
    ∧ (restoring 7 id).nextLeaf = some 7 ∧ 7 < (restoring 7 id).map.walk
    ∧ ((restoring 7 fun v => { v with eager := true }).updMap fun m => { m with walk := 3, act := act16 }).nextLeaf = some 3
    ∧ ((restoring 7 fun v => { v with eager := true }).updMap fun m => { m with walk := 3, act := act16 }).eagerReady 3 = false
    ∧ (arriving 3 0 none).demandOf 5 = some { leaf := 5, inFlight := true, source := 0, fetched := true }
    ∧ (arriving 3 0 none).leafState 5 ≠ 0
    ∧ (arriving 1 3 none).demandOf 5 = some { leaf := 5, inFlight := true, source := 3, fetched := true }
    ∧ (arriving 1 1 (some (false, [], 0))).twinInStep (reachOfLeaf 5) = false
    ∧ (arriving 1 1 (some (true, [], leafSide))).leafOpens 5 [] leafSide = true
    ∧ fetchNext.twinInStep (reachOfLeaf 5) = true
    ∧ fetchNext.demandOf 5 = some { leaf := 5, inFlight := true, source := 1, arrived := some (false, [], 0) } := by decide +kernel

/-! ### Witnesses: CHS, RPM, SGT -/

/-- Channel 0 enabled, with one chip select of subchannel 0 under refresh. -/
def channel (m : Mode) : State := ((inMode m).setReg 0x100000 0xE0000000).setReg 0x070100 1

/-- A location of subchannel 0, and a read of line 0. -/
def loc0 : Loc := { sub := 0, cs := 0, rank := 0, cid := 0, bg := 0, bank := 0, row := 0, col := 0 }
def read0 (dest : ReadDest) : REntry :=
  { id := 0, loc := loc0, line := 0, dest := dest, who := .agent 0x0A, level := .normal, stamp := 0 }

/-- A subchannel 0 in a state. -/
def sub0 (f : SubState → SubState) : State := (channel .service).setSub 0 (f {})

/-- A burst of that read on its way back. -/
def burst0 (dest : ReadDest) (discard : Bool) : Burst := { entry := read0 dest, slot := 0, line := 0, pois := false, discard := discard }

/-- A queued write of line 0. -/
def write0 : WEntry :=
  { id := 1, loc := loc0, line := 0, data := 0, pois := false, who := .agent 0x0C, level := .high, stamp := 0 }

/-- The register that arms a subchannel's slot register with one ACT. -/
def slotted (n : Nat) : SubState := { slotReg := [(0, .cmd .act loc0 (some 0) .demand)], slot := n }

theorem witness_SchedulerCommands :
    (sub0 id).ready = true ∧ (sub0 id).cfg.saveDonePin = false ∧ ((sub0 id).sub 0).slotRoom = true
    ∧ ((sub0 id).decision 0).2.1 = ((sub0 id).sub 0).mode
    ∧ ((sub0 fun q => { q with pause := true }).sub 0).pause = true
    ∧ ((sub0 fun q => { q with wq := [write0] }).decision 0).2.1 ≠ ((sub0 fun q => { q with wq := [write0] }).sub 0).mode
    ∧ ((sub0 id).sub 0).hist.getLast? = none ∧ ((sub0 id).sub 0).slotReg = []
    ∧ ((sub0 fun _ => slotted 0).sub 0).slotReg = (0, .cmd .act loc0 (some 0) .demand) :: [] ∧ 0 + 1 < 0 + 2
    ∧ ((sub0 fun _ => slotted 1).sub 0).slot + 1 = 2 ∧ 0 + 2 ≤ 2
    ∧ ((sub0 fun _ => slotted 1).tim 0).allows ((sub0 fun _ => slotted 1).sub 0).hist .act loc0 2 = true
    ∧ ((sub0 fun _ => slotted 1).tim 0).allows [{ slot := 1, op := .act, loc := loc0 }] .act loc0 2 = false
    ∧ (((sub0 fun q => { q with bursts := [burst0 (.sounding false) true] }).sub 0).bursts.find? fun b =>
        !((sub0 fun q => { q with bursts := [burst0 (.sounding false) true] }).sub 0).awaitsReplay b)
        = some (burst0 (.sounding false) true)
    ∧ (((sub0 fun q => { q with bursts := [burst0 (.drain 0 0) false] }).sub 0).bursts.find? fun b =>
        !((sub0 fun q => { q with bursts := [burst0 (.drain 0 0) false] }).sub 0).awaitsReplay b) = some (burst0 (.drain 0 0) false)
    ∧ (burst0 (.sounding false) true).discard = true ∧ (burst0 (.sounding false) false).discard = false
    ∧ (burst0 (.sounding false) false).entry.dest = .sounding false ∧ (burst0 (.drain 0 0) false).entry.dest = .drain 0 0
    ∧ State.reset.passes .chain 0x100000 0xE0000000 = true
    ∧ State.reset.passes .chain 0x100004 (State.reset.reg 0x100004) = true
    ∧ State.reset.passes .chain (0x100000 + 0x100 + 4 * 7) (State.reset.reg 0x10011C) = true := by decide +kernel

theorem witness_RefreshCommands :
    State.reset.passes .chain 0x070000 (State.reset.reg 0x070000) = true
    ∧ (channel .service).ready = true ∧ (channel .service).cfg.saveDonePin = false ∧ (channel .service).cfg.mode ≠ .reset
    ∧ bit ((channel .service).reg (chsPage 0)) 31 = true ∧ (channel .service).csen 0 0 = true
    ∧ ((channel .service).rpmSub 0).debtOf 0 + 1 < ((channel .service).setReg 0x070000 0x88).postpone
    ∧ ((channel .service).setReg 0x070000 0x11).postpone ≤ ((channel .service).rpmSub 0).debtOf 0 + 1
    ∧ (((channel .service).setReg 0x070000 0x11).setSub 0 { pause := true }).sub 0 = { pause := true }
    ∧ ((channel .service).setReg 0x070100 0).csen 0 0 = false ∧ ((channel .service).setReg 0x070100 0).counts 0 0 = true
    ∧ (State.reset.updSgt fun g => { g with sbBusy := true }).sgt.sbAfterPoll = false ∧ field State.reset.sgt.sbCmd 24 4 = 0
    ∧ State.reset.sgt.sbBusy = false ∧ (none : Option Byte) ∈ [some 30, none] ∧ (State.reset.therm 0).bad + 1 ≠ 3
    ∧ ((State.reset.setTherm 0 { bad := 2 }).therm 0).bad + 1 = 3 := by decide +kernel

/-- A re-sight of chip select 0 of subchannel 0. -/
def resight0 (f : Resight → Resight) : Resight :=
  f { sub := 0, cs := 0, rdTrack := true, wrTrack := true, due := true, since := 0 }

/-- A tracking interface with that re-sight. -/
def tracking (l : List Resight) : State := (channel .service).updSgt fun g => { g with phase := .track, resights := l }

theorem witness_RefreshCommands_pause :
    (tracking [resight0 id]).ready = true ∧ ((tracking [resight0 id]).sub 0).pause = false
    ∧ (tracking [resight0 id]).inOutage 0 = false ∧ (tracking [resight0 id]).sgt.phase = .track
    ∧ ((tracking [resight0 id]).sub 0).parityPre = [] ∧ ((tracking [resight0 id]).sub 0).replayPend = []
    ∧ ((tracking [resight0 id]).resightNow 0).isSome = true
    ∧ ((tracking [resight0 id]).setReg 0x070000 0x844).pulledIn 0 = false
    ∧ ((tracking [resight0 id]).setReg 0x070100 0).pulledIn 0 = true := by decide +kernel

/-- What the hub of a channel's first slot answers. -/
def hub (ch : Fin 16) : SpdModule :=
  { channel := ch, slot := 0, present := true, kind := .rdimm, width := .x4, rowBits := 0, cidBits := 0, chipSelects := 1
    maxRate := 5, tps := [16000, 16000, 10400], minCk := [], cas := [40, 42, 44, 46, 48, 50, 52, 56, 60, 64] }

/-- One module on every channel. -/
def hubs : List SpdModule := (List.range 16).map fun c => hub (Fin.ofNat 16 c)

/-- Discovered, with a committed map that fits. -/
def found : State :=
  { State.reset with
    sgt := { State.reset.sgt with hubs := hubs, pop := popWord hubs, discovered := true }
    map := { State.reset.map with act := { committed := true, carveBase := 511 } } }

/-- Initial Sighting at its first step. -/
def training : State := (found.setReg 0x080000 0x8200).beginSighting

/-- A step of channel 0 as it ended. -/
def step0 (step : BitVec 4) (pass : Bool) : StepResult :=
  { channel := 0, sub := 0, unit := 0, step := step, pass := pass, device := none, results := [], raa := none }

theorem witness_SightingCommands :
    State.reset.takesReg .chain = true ∧ State.reset.sightClosed = false ∧ (inMode .service).sightClosed = true
    ∧ (inMode .service).takesReg .chain = true ∧ popFault hubs = none ∧ popFault [] = some (0, 0)
    ∧ State.reset.passes .chain 0x080010 0x80000000 = true ∧ (inMode .service).passes .chain 0x080010 0x80000000 = true
    ∧ State.reset.sgt.phase ≠ .train ∧ State.reset.startFits = false ∧ found.passes .chain 0x080010 0x80000000 = true
    ∧ found.startFits = true ∧ (found.timingAt (field (found.reg 0x080000) 0 4)).isSome = true
    ∧ (tracking []).passes .chain 0x080010 (((0 : Word) &&& 0x000F1300) ||| 0x20000000) = true
    ∧ (tracking []).csServes 0 0 = true
    ∧ (tracking []).passes .chain 0x080010 (((0 : Word) &&& 0x000F1300) ||| 0x30000000) = true
    ∧ training.ready = true ∧ training.cfg.frozen = false ∧ training.sgt.phase = .train
    ∧ training.stepRuns (step0 1 true) = true
    ∧ (training.updCfg fun c => { c with mode := .sighting }).sightClosed = false
    ∧ (training.updCfg fun c => { c with mode := .sighting }).sgt.phase = .train
    ∧ (training.updCfg fun c => { c with mode := .sighting }).passes .chain 0x080010 0x80000000 = true
    ∧ training.windowsMet 0 1 (0, 0) [] = true
    ∧ (training.setReg 0x080004 0x1010).windowsMet 0 12 (0, 0) [(0x200300, 0)] = false
    ∧ State.reset.passes .chain 0x080030 (0x00500000 ||| 0x80000000) = true ∧ State.reset.sgt.sbBusy = false
    ∧ State.reset.sidebandRefused (State.reset.newWord 0x080030 (0x00500000 ||| 0x80000000)) = false
    ∧ training.passes .chain 0x080030 (0x40580000 ||| 0x80000000) = true
    ∧ training.sidebandRefused (training.newWord 0x080030 (0x40580000 ||| 0x80000000)) = true
    ∧ (State.reset.updSgt fun g => { g with sbBusy := true }).sgt.sbBusy = true
    ∧ (State.reset.updSgt fun g => { g with sbBusy := true }).sgt.sbAfterPoll = false
    ∧ State.reset.chron ≤ State.reset.sgt.sbSince + 3000000 ∧ (0 : BitVec 3) ≠ 3
    ∧ State.reset.sgt.sbSince + 3000000 < ({ State.reset with chron := 3000001 } : State).chron
    ∧ bit (State.reset.updSgt fun g => { g with sbCmd := 0x40000000 }).sgt.sbCmd 30 = true
    ∧ bit (State.reset.reg 0x080030) 30 = false := by decide +kernel

/-- Every scope has passed step 1: the second step is under way. -/
def training2 : State :=
  training.updSgt fun g => { g with stepsDone := (List.range 16).map fun ch => (scopeKey 0 ch 0 0, 1) }

theorem witness_SightingCommands_retry :
    training2.ready = true ∧ training2.sgt.phase = .train ∧ training2.stepRuns (step0 2 false) = true ∧ (step0 2 false).step ≠ 1
    ∧ agetD training2.sgt.retries (scopeKey (stepScope 2) 0 0 0) 0 < field (training2.reg 0x080000) 8 2 := by decide +kernel

theorem witness_InterfaceEvents :
    (channel .service).ready = true ∧ (channel .service).inOutage 0 = false ∧ ((channel .service).sub 0).lastParity = none
    ∧ ((channel .service).sub 1).lastParity = none
    ∧ (tracking []).ready = true ∧ (tracking []).sgt.phase = .track ∧ (tracking []).cfg.mode.serves = true
    ∧ ((tracking []).sub 0).pause = false ∧ ((tracking []).sub 0).parityPre = [] ∧ ((tracking []).sub 0).replayPend = []
    ∧ ((tracking []).setReg 0x070000 0x844).pulledIn 0 = false ∧ ((tracking []).setReg 0x070100 0).pulledIn 0 = true
    ∧ ((tracking [resight0 fun r => { r with due := false }]).sgt.resights.find? fun r => r.sub == 0 && r.cs == 0 && !r.due)
        = some (resight0 fun r => { r with due := false })
    ∧ ((tracking []).updSgt fun g => { g with lastResight := [(0, 5, 40)] }).resightedAt 0 0 = some (5, 40)
    ∧ field ((tracking []).reg 0x080008) 8 8 ≠ 0 ∧ (tracking []).csServes 0 0 = true
    ∧ (((tracking [resight0 fun r => { r with chunk := r.chunks - 1 }]).setSub 0 { pause := true }).sub 0).pause = true
    ∧ (tracking [resight0 fun r => { r with chunk := r.chunks - 1 }]).resightOrder 0
        = resight0 (fun r => { r with chunk := r.chunks - 1 }) :: []
    ∧ (resight0 fun r => { r with chunk := r.chunks - 1 }).chunks ≤ (resight0 fun r => { r with chunk := r.chunks - 1 }).chunk + 1
    ∧ (resight0 id).chunk + 1 < (resight0 id).chunks ∧ (resight0 id).failed = false
    ∧ (tracking [resight0 id]).resightOrder 0 = resight0 id :: []
    ∧ (tracking [resight0 fun r => { r with failed := true }]).resightOrder 0 = resight0 (fun r => { r with failed := true }) :: []
    ∧ (resight0 fun r => { r with failed := true }).failed = true ∧ (resight0 fun r => { r with failed := true }).whole = false
    ∧ (tracking [resight0 fun r => { r with failed := true, whole := true }]).resightOrder 0
        = resight0 (fun r => { r with failed := true, whole := true }) :: [] := by decide +kernel

/-! ### Witnesses: ECC, SND, BWR, DTI, CPH -/

/-- A block in Service with a committed map, channel 0 enabled and chip select 0 of its subchannels under refresh. -/
def ranked : State :=
  { ((inMode .service).setReg 0x100000 0xE0000000).setReg 0x070100 0x11 with map := { State.reset.map with act := act16 } }

/-- A sparing copy of rank 0 of channel 0. -/
def copy0 (pos : Nat) : Migration :=
  { ch := 0, rankKind := true, rank := 0, bank := 0, spare := 1, pos := pos, total := 5, byCmd := false }

/-- A heal of leaf 5. -/
def heal0 : Heal := { leaf := 5, lines := [320], wpl := 0, since := 0 }

/-- A linked block whose twin holds Reach 0 in step. -/
def healing : State :=
  ((linked (mkReach 3 1 false true)).updMap fun m => { m with twinTable := [(0, mkReach 3 2 false true)] }).updEcc fun e =>
    { e with heals := [heal0] }

/-- An idle block with a probe of line 0 queued. -/
def probing (f : State → State) : State := f ((ranked.setReg 0x0A0000 0).updEcc fun e => { e with probe := some 0 })

/-- The ranked block with a remap area, and a Mover channel granted to SND. -/
def pooled : State := ranked.updMap fun m => { m with act := { act16 with remapBase := 511 * 1024, remapSize := 1 } }
def copier (f : Ecc → Ecc) : State :=
  (ranked.updEcc fun e => f { e with migrations := [copy0 0] }).updSua fun u =>
    { u with grants := [{ inst := 7, who := .internal .snd, since := 0 }] }

/-- The row ECC_CMD names with a value. -/
def cmdRow (v : Word) : Loc := rowKey (ranked.cmdLoc (ranked.newWord 0x090010 (eccWord 1 v)))

/-- That row on its way to pool slot 0. -/
def moving0 : State := pooled.updEcc fun e => { e with moves := [{ row := cmdRow 0, slot := 0, addr := 0, byCmd := true, todo := [] }] }

theorem witness_EccCommands :
    ranked.passes .chain 0x090010 (eccWord 1 0) = true ∧ ranked.ecc.cmdBusy = false
    ∧ ranked.rowFits (ranked.cmdLoc (ranked.newWord 0x090010 (eccWord 1 0))) = true
    ∧ ranked.rowFits (ranked.cmdLoc (ranked.newWord 0x090010 (eccWord 1 0x0F000000))) = false
    ∧ ranked.passes .chain 0x090010 (eccWord 1 0x0F000000) = true
    ∧ pooled.passes .chain 0x090010 (eccWord 1 0) = true
    ∧ pooled.rowFits (pooled.cmdLoc (pooled.newWord 0x090010 (eccWord 1 0))) = true ∧ pooled.freePool = some 0
    ∧ ranked.freePool = none ∧ ranked.ecc.moves = [] ∧ ranked.sgt.sppr.contains (cmdRow 0) = false
    ∧ (ranked.updSgt fun g => { g with sppr := [cmdRow 0] }).sgt.sppr.contains (cmdRow 0) = true
    ∧ moving0.rowFits (moving0.cmdLoc (moving0.newWord 0x090010 (eccWord 1 0))) = true
    ∧ moving0.passes .chain 0x090010 (eccWord 1 0) = true ∧ (∃ m ∈ moving0.ecc.moves, m.row = cmdRow 0)
    ∧ ranked.cmdFits (ranked.cmdLoc (ranked.newWord 0x090010 (eccWord 3 0))) = true
    ∧ ranked.cmdFits (ranked.cmdLoc (ranked.newWord 0x090010 (eccWord 4 0x0F000000))) = false
    ∧ ranked.passes .chain 0x090010 (eccWord 2 9) = true
    ∧ ranked.canMark (ranked.cmdLoc (ranked.newWord 0x090010 (eccWord 2 9))).sub
        (ranked.cmdLoc (ranked.newWord 0x090010 (eccWord 2 9))).cs (field (ranked.newWord 0x090010 (eccWord 2 9)) 0 4) = true
    ∧ ranked.passes .chain 0x090010 (eccWord 2 10) = true
    ∧ ranked.canMark (ranked.cmdLoc (ranked.newWord 0x090010 (eccWord 2 10))).sub
        (ranked.cmdLoc (ranked.newWord 0x090010 (eccWord 2 10))).cs (field (ranked.newWord 0x090010 (eccWord 2 10)) 0 4) = false
    ∧ ranked.passes .chain 0x090010 (eccWord 3 0) = true ∧ ranked.bankTaken 0 0 0 = false
    ∧ (ranked.updEcc fun e => { e with migrations := [copy0 0] }).passes .chain 0x090010 (eccWord 3 0) = true
    ∧ (ranked.updEcc fun e => { e with migrations := [copy0 0] }).bankTaken 0 0 0 = true
    ∧ ranked.passes .chain 0x090010 (eccWord 4 0) = true ∧ (agetD ranked.ecc.rankFail 0 0).testBit 0 = false
    ∧ ranked.passes .chain 0x090010 (eccWord 4 0x0F000000) = true
    ∧ ranked.passes .chain 0x090010 (eccWord 5 0) = true ∧ field (ranked.reg 0x090014) 24 6 = 0
    ∧ (ranked.engine 0).state ≠ .failed ∧ 32 ≤ field ((ranked.setReg 0x090014 0x20000000).reg 0x090014) 24 6
    ∧ (ranked.setReg 0x090014 0x20000000).passes .chain 0x090010 (eccWord 5 0) = true
    ∧ ranked.passes .chain (0x090100 + 4 * 31) 0 = true := by decide +kernel

theorem witness_EccCommands_units :
    (copier id).ready = true ∧ ((copier id).ecc.migrations.find? fun g => g.ch.val == 0) = some (copy0 0)
    ∧ aget (copier id).ecc.copying 0 = none ∧ (copier id).cfg.mode.serves = true
    ∧ ((copier id).grantOf (.internal .snd) 0).isSome = true
    ∧ (∀ x ∈ (copier id).copyLines (copy0 0), (copier id).rowHeld x.1 = false ∧ (copier id).copyRuns x.1 = false)
    ∧ ((copier id).askAll ((copier id).copyLines (copy0 0))).isSome = true
    ∧ (∃ x ∈ (copier id).copyLines (copy0 0),
        (copier fun e => { e with copies := ((copier id).copyLines (copy0 0)).map fun x => ⟨x.1, x.2, none⟩ }).copyRuns x.1 = true)
    ∧ State.askAll ((copier id).updAtu fun a => { a with locks := ((copier id).copyLines (copy0 0)).map (·.1) })
        ((copier id).copyLines (copy0 0)) = none
    ∧ healing.ready = true ∧ healing.healOf 5 = some heal0 ∧ heal0.fetched = false ∧ heal0.wpl ≤ healing.plg.wpt
    ∧ healing.twinInStep (reachOfLeaf 5) = true := by decide +kernel

theorem witness_EccCommands_sounding :
    bit (({ ranked with chron := ranked.ecc.passStart + ranked.sndPeriod } : State).reg 0x0A0000) 31 = true
    ∧ (∀ c ∈ (ranked.updEcc fun e => { e with sndPos := [(0, 2 ^ 40), (1, 2 ^ 40)] }).sndSubs,
        ((ranked.updEcc fun e => { e with sndPos := [(0, 2 ^ 40), (1, 2 ^ 40)] }).sndLines c : Int)
          ≤ (ranked.updEcc fun e => { e with sndPos := [(0, 2 ^ 40), (1, 2 ^ 40)] }).sndAt c)
    ∧ bit ((ranked.setReg 0x0A0000 0).reg 0x0A0000) 31 = false
    ∧ ranked.cfg.mode.serves = true ∧ ranked.ecc.probe = none ∧ bit (ranked.reg 0x0A0000) 31 = true
    ∧ (ranked.sub 0).offer = none ∧ ((ranked.noteDue 0).sub 0).offer = none
    ∧ (probing id).ready = true ∧ (probing id).cfg.mode.serves = true ∧ (probing id).ecc.probe = some 0
    ∧ bit ((probing id).reg 0x0A0000) 31 = false ∧ (probing id).subOf 0 = 0 ∧ ((probing id).sub 0).offer = none
    ∧ (probing id).deadLine 0 = false ∧ (probing id).leafState (leafOfLine 0) = 0 ∧ (probing id).writeEntry 0 = none
    ∧ (probing fun s => s.updMap fun m => { m with absent := [(0, 1)] }).leafState (leafOfLine 0) ≠ 0 := by decide +kernel

theorem witness_BandwidthCommands :
    State.reset.ready = true ∧ State.reset.bwr.slot < 63 ∧ ({ State.reset with bwr := { State.reset.bwr with slot := 47 } } : State).bwr.slot + 1 = 48
    ∧ State.reset.passes .chain 0x06000C 1 = true
    ∧ (State.reset.figures State.reset.bwrShadow).2.1 + State.reset.bwrShadow.min.sum ≤ (State.reset.figures State.reset.bwrShadow).1
    ∧ (State.reset.setReg 0x060040 0xFFFFF).passes .chain 0x06000C 1 = true
    ∧ ((State.reset.setReg 0x060040 0xFFFFF).figures (State.reset.setReg 0x060040 0xFFFFF).bwrShadow).1
        < ((State.reset.setReg 0x060040 0xFFFFF).figures (State.reset.setReg 0x060040 0xFFFFF).bwrShadow).2.1
          + (State.reset.setReg 0x060040 0xFFFFF).bwrShadow.min.sum
    ∧ State.reset.passes .chain 0x060010 1 = true := by
  repeat' apply And.intro
  all_goals decide +kernel

/-- The deep tier on, with segment 3 at an entry and eight slots. -/
def deep (e : SegEntry) (f : Dti → Dti) : State :=
  (({ ((inMode .service).setReg 0x0E0000 0x80000000).setKeySlot 0 { key := 5, loaded := true } with
      map := { State.reset.map with act := { act16 with t1Segs := 16, stageSize := 16 } } } : State).updDti f).putSeg 3 e

/-- A sealed segment in a slot. -/
def segSealed (slot : Nat) : SegEntry := { state := 1, reseal := false, slot := slot, gen := 4, stamp := 0, ok := true }

/-- A fill of its sub-block 9. -/
def fill9 (f : Fill → Fill) : Fill := f { seg := 3, sub := 9, level := 1 }

/-- The unit of that sub-block with no bytes, as it reads back. -/
def unit9 : BitVec 256 := sideband (gcmTag (k1 5) (segIv 3 9 4) (segAad 3 9 4) []) (segIndex 3 9) 4 0

/-- A seal of segment 3. -/
def seal3 (writes flushes : Nat) : Seal := { seg := 3, chan := 0, dport := 8, writesLeft := writes, flushLeft := flushes }

/-- A read command of the deep port. -/
def cmd0 : DpCmd := { op := 0, tgt := false, unit := 7, owner := .slot 8 0, level := 4 }

theorem witness_DeepTierCommands :
    (deep (segSealed 0) fun d => { d with fills := [fill9 id] }).ready = true
    ∧ (deep (segSealed 0) fun d => { d with fills := [fill9 id] }).fillsRun = true
    ∧ (deep (segSealed 0) fun d => { d with fills := [fill9 id] }).dti.inFlight.length
        < (deep (segSealed 0) fun d => { d with fills := [fill9 id] }).fillMax
    ∧ (deep (segSealed 0) fun d => { d with fills := [fill9 id] }).fillOrder = fill9 id :: []
    ∧ ((deep (segSealed 0) fun d => { d with fills := [fill9 id] }).takeSlot 3).1 = some 0
    ∧ (((deep (segSealed 0) fun d => { d with fills := [fill9 id] }).takeSlot 3).2.admitAs (.fill 3 9)
        ((deep (segSealed 0) fun d => { d with fills := [fill9 id] }).takeSlot 3).2.fillClass 64).1 = some .normal
    ∧ ((((deep (segSealed 0) fun d => { d with fills := [fill9 id] }).setReg 0x060000 0x80000000).takeSlot 3).2.admitAs (.fill 3 9)
        (((deep (segSealed 0) fun d => { d with fills := [fill9 id] }).setReg 0x060000 0x80000000).takeSlot 3).2.fillClass 64).1 = none
    ∧ aget (deep (segSealed 0) fun d => { d with slots := [(5, { seg := 3 })] }).dti.slots 5 = some { seg := 3 }
    ∧ (deep (segSealed 0) fun d => { d with slots := [(5, { seg := 3 })] }).evicting 5 { seg := 3 } = true := by
  decide +kernel

theorem witness_DeepTierCommands_fill :
    (deep (segSealed 1) fun d => { d with fills := [fill9 fun f => { f with arrived := some (true, [], unit9) }] }).dti.fill 3 9
        = some (fill9 fun f => { f with arrived := some (true, [], unit9) })
    ∧ (deep (segSealed 1) fun d => { d with fills := [fill9 fun f => { f with arrived := some (true, [], unit9) }] }).openSub 3 9 []
        unit9 = some []
    ∧ ((deep (segSealed 1) fun d => { d with fills := [fill9 fun f => { f with arrived := some (true, [], unit9) }] }).seg 3).slot ≠ 0
    ∧ (fill9 fun f => { f with arrived := some (true, [], unit9) }).refetch = false
    ∧ (deep (segSealed 1) fun d => { d with fills := [fill9 fun f => { f with arrived := some (false, [], 0) }] }).dti.fill 3 9
        = some (fill9 fun f => { f with arrived := some (false, [], 0) })
    ∧ (deep (segSealed 1) fun d => { d with fills := [fill9 fun f => { f with arrived := some (false, [], 0), refetch := true }] }).dti.fill
        3 9 = some (fill9 fun f => { f with arrived := some (false, [], 0), refetch := true })
    ∧ (deep (segSealed 1) id).dirtyRoom ((deep (segSealed 1) id).map.act.segUnit 3) = true
    ∧ ((deep (segSealed 0) fun d => { d with seals := [seal3 0 3] }).dti.seals.find? fun l => l.seg == 3) = some (seal3 0 3)
    ∧ (seal3 0 3).writesLeft = 0 ∧ (seal3 0 3).flushLeft = 3 ∧ (seal3 0 0).flushLeft = 0
    ∧ (deep (segSealed 0) id).passes .chain 0x0E0038 1 = true
    ∧ ((deep (segSealed 0) id).setReg 0x0E0030 16).map.act.t1Segs ≤ field (((deep (segSealed 0) id).setReg 0x0E0030 16).reg 0x0E0030) 0 31
    ∧ field (((deep (segSealed 0) id).setReg 0x0E0030 3).reg 0x0E0030) 0 31 = 3 ∧ 3 < (deep (segSealed 0) id).map.act.t1Segs
    ∧ ((deep (segSealed 0) id).seg 3).stateOf ≠ 3 ∧ serialLater 5 ((deep (segSealed 0) id).seg 3).gen = true
    ∧ (deep (segSealed 0) id).vlt.zeroFill = false := by decide +kernel

theorem witness_DeepTierCommands_port :
    (deep (segSealed 0) fun d => { d with rstream := [cmd0] }).nextCommand = some cmd0
    ∧ (deep (segSealed 0) fun d => { d with rstream := [cmd0] }).dti.freeId = some 0
    ∧ (deep (segSealed 0) fun d => { d with rstream := [cmd0] }).dti.down = false
    ∧ (deep (segSealed 0) fun d => { d with rstream := [cmd0] }).bareSave = false
    ∧ (deep (segSealed 0) fun d => { d with rstream := [cmd0] }).cfg.saveDonePin = false
    ∧ (deep (segSealed 0) fun d => { d with quarantine := [9] }).dti.quarantine.contains 9 = true
    ∧ (deep (segSealed 0) id).dti.quarantine.contains 9 = false
    ∧ ((deep (segSealed 0) fun d => { d with out := [{ id := 9, cmd := cmd0, since := 0 }] }).dti.out.find? fun o => o.id == 9)
        = some { id := 9, cmd := cmd0, since := 0 }
    ∧ State.reset.passes .chain 0x0E0040 1 = true := by decide +kernel

/-- A locked block whose slot 5 has held a key. -/
def lockedKeys : State := ((State.reset.setReg 0x000004 1).setReg 0x0B0000 5).setKeySlot 5 { loaded := true, spent := true }

theorem witness_KeyPortAnswers :
    lockedKeys.ready = true ∧ lockedKeys.cfg.mode ≠ .save ∧ (inMode .save).cfg.mode = .save ∧ (inMode .save).ready = true
    ∧ lockedKeys.locked = true ∧ (lockedKeys.keySlot 5).spent = true ∧ 5 = field (lockedKeys.reg 0x0B0000) 0 6
    ∧ (linked 0).twn.link ≠ 0 ∧ 0 = field ((linked 0).reg 0x0D0000) 16 6 ∧ (linked 0).locked = false
    ∧ State.reset.locked = false ∧ State.reset.twn.link = 0
    ∧ (0 : BitVec 512).extractLsb' 0 256 = (0 : BitVec 512).extractLsb' 256 256
    ∧ (1 : BitVec 512).extractLsb' 0 256 ≠ (1 : BitVec 512).extractLsb' 256 256 ∧ keysRise lockedKeys.cph.slots = true := by
  decide +kernel

/-- A job of the key port unit. -/
def keyJob (aborted handed : Bool) : KeyJob :=
  { engine := 0, op := 3, slot := 4, aborted := aborted, key := 0, iv := 0, aad := 0, aadLen := 0, src := 0, dst := 0, len := 0
    tag := 0, handed := handed }

theorem witness_KeyCommands :
    State.reset.ready = true ∧ State.reset.passes .chain 0x0B0008 (0x80000000 ||| BitVec.ofNat 32 63) = true
    ∧ State.reset.cph.cores[35]? = some .active
    ∧ (State.reset.updCph fun c => { c with jobs := [keyJob true false] }).cph.jobs = keyJob true false :: []
    ∧ (keyJob true false).aborted = true ∧ (keyJob false true).aborted = false ∧ (keyJob false true).handed = true
    ∧ (State.reset.updCph fun c => { c with jobs := [keyJob false true] }).unitOut 27 = false
    ∧ aget (State.reset.updCph fun c => { c with jobs := [keyJob false true] }).sua.faults 27 = none := by decide +kernel

/-! ### Witnesses: PEA, SUA, DRE, the services, the queues -/

/-- Engine 0 in a state, in a mode. -/
def eng (m : Mode) (f : Engine → Engine) : State := (inMode m).updEngine 0 f

/-- The header of an image: sizes and entry. -/
def imageHdr (ilen dlen entry : Nat) : List Byte := natBytes 4 ilen ++ natBytes 4 dlen ++ natBytes 4 entry ++ natBytes 4 0

theorem witness_EngineControl :
    (inMode .sighting).passes .chain (peaPage 0) 1 = true ∧ (inMode .sighting).cfg.mode.serves = false
    ∧ (eng .service fun n => { n with state := .loaded }).passes .chain (peaPage 0) 1 = true
    ∧ (eng .service fun n => { n with state := .loaded }).cfg.mode.serves = true
    ∧ ((eng .service fun n => { n with state := .loaded }).engine 0).state = .loaded
    ∧ ((eng .service fun n => { n with state := .stopped }).engine 0).state = .stopped
    ∧ ((inMode .service).engine 0).state = .empty ∧ (inMode .service).passes .chain (peaPage 0) 2 = true
    ∧ ((eng .service fun n => { n with state := .running }).engine 0).state = .running
    ∧ (inMode .save).passes .chain (peaPage 0) 4 = true ∧ (inMode .save).cfg.mode = .save
    ∧ (inMode .service).passes .chain (peaPage 0) 4 = true
    ∧ ((inMode .service).engine 0).state ∈ [EState.empty, .loaded, .stopped, .halted, .rejected]
    ∧ ((eng .service fun n => { n with state := .running }).engine 0).state ∉ [EState.empty, .loaded, .stopped, .halted, .rejected]
    ∧ (inMode .service).passes .chain (peaPage 0) 8 = true
    ∧ ((eng .service fun n => { n with state := .failed }).engine 0).state = .failed
    ∧ (inMode .service).passes .chain (peaPage 0 + 0x100) 4 = true ∧ ((inMode .service).engine 0).state ≠ .loading
    ∧ ((eng .service fun n => { n with state := .loading }).engine 0).state = .loading
    ∧ (imageHdr 65536 262144 65532).length = 16 ∧ badHead (imageHdr 65536 262144 65532) = false
    ∧ imageHead (imageHdr 65540 0 0) = (65540, 0, 0) ∧ 65536 < 65540 ∧ (imageHdr 8 0 4 ++ natBytes 4 0).length = 20
    ∧ bit ((State.reset.setReg (peaPage 0 + 0x40) 1).reg (peaPage 0 + 0x40)) 0 = true
    ∧ bit (State.reset.reg (peaPage 0 + 0x40)) 0 = false ∧ State.reset.locked = false
    ∧ ((eng .service fun n => { n with state := .stopping, pendExc := some 0x10 }).engine 0).pendExc = some 0x10
    ∧ ((eng .service fun n => { n with state := .stopping }).engine 0).state = .stopping
    ∧ ((eng .service fun n => { n with state := .stopping }).engine 0).loads = []
    ∧ (∀ b ∈ ((eng .service fun n => { n with state := .stopping }).engine 0).buffer, b.issued = true) := by decide +kernel

/-- A grant of an instance to engine 0, and a request of it. -/
def grant0 (inst : Nat) : Grant := { inst := inst, who := .engine 0, since := 0 }
def ask0 : Ask := { who := .engine 0, unit := 0, prio := 1, since := 0 }

/-- An internal request of Sounding for a Mover channel. -/
def askSnd : Ask := { who := .internal .snd, unit := 0, prio := 0, since := 0 }

/-- A block whose SUA has these requests and grants. -/
def arbiter (asks : List Ask) (grants : List Grant) (busy : List Nat) : State :=
  (inMode .service).updSua fun u => { u with asks := asks, grants := grants, busy := busy }

theorem witness_ArbiterCommands :
    State.reset.ready = true ∧ ((arbiter [] [grant0 0] []).heldInst 0 0).isSome = true
    ∧ (arbiter [] [] []).heldInst 0 0 = none ∧ (arbiter [] [] []).waits (.engine 0) 0 = false
    ∧ (arbiter [ask0] [] []).waits (.engine 0) 0 = true ∧ (arbiter [ask0] [] []).heldInst 0 0 = none
    ∧ (arbiter [] [] []).grantOf (.engine 0) 0 = none ∧ (arbiter [] [grant0 0] []).grantOf (.engine 0) 0 = some (grant0 0)
    ∧ (arbiter [] [grant0 0] [0]).busyInst (grant0 0).inst = true ∧ (arbiter [] [grant0 0] []).busyInst (grant0 0).inst = false
    ∧ internalAsks .twn 4 = true ∧ internalAsks .snd 0 = true ∧ (arbiter [] [] []).waits (.internal .snd) 0 = false
    ∧ (arbiter [] [] []).grantOf (.internal .snd) 0 = none ∧ (arbiter [] [] []).cfg.mode ≠ .save
    ∧ ((arbiter [askSnd] [] []).sua.asks.find? fun a => a.who == .internal .snd && a.unit == 0 && !a.due) = some askSnd
    ∧ ((arbiter [] [grant0 27] []).sua.grants.find? fun g => g.inst == 27 && !g.longLogged) = some (grant0 27) := by decide +kernel

/-- Mover channel 0 and deep-port slot 8 held by engine 0, with the channel's registers. -/
def moving (op src dst len : Nat) : State :=
  (((((arbiter [] [grant0 0, grant0 8] []).setUnitReg 0 0 (BitVec.ofNat 64 op)).setUnitReg 0 0x08 (BitVec.ofNat 64 src)).setUnitReg 0
    0x10 (BitVec.ofNat 64 dst)).setUnitReg 0 0x18 (BitVec.ofNat 64 len)).updMap fun m => { m with act := { act16 with t1Segs := 16 } }

/-- Deep-port slot 8 held by engine 0, with its registers, and the units of SUA_DPBASE and SUA_DPLIM. -/
def slotting (op unit buf : Nat) : State :=
  ((((((arbiter [] [grant0 8] []).setUnitReg 8 0 (BitVec.ofNat 64 op)).setUnitReg 8 8 (BitVec.ofNat 64 unit)).setUnitReg 8 0x10
    (BitVec.ofNat 64 buf)).setReg 0x340008 100).setReg 0x340010 10).updMap fun m => { m with act := act16 }

/-- A copy in progress. -/
def move0 (handed : Bool) : Move :=
  { inst := 0, engine := 0, op := 0, src := 0, dst := 0x1000, len := 1, pat := 0, handed := handed }

theorem witness_MoverAndSlots :
    (moving 0 0 0x10000 4).ready = true ∧ (moving 0 0 0x10000 4).heldInst 0 0 = some 0 ∧ (moving 0 0 0x10000 4).busyInst 0 = false
    ∧ bitsOf ((moving 0 0 0x10000 4).unitReg 0 0).toNat 0 2 = 0 ∧ ((moving 0 0 0x10000 4).moveAsked 0 0 0).len ≠ 0
    ∧ ((moving 0 0 0x10000 4).moveAsked 0 0 0).len < 2 ^ 26 ∧ ((moving 0 0 0x10000 4).moveAsked 0 0 0).src % 64 = 0
    ∧ (moving 0 0 0x10000 4).badDest 0x10000 4 = false ∧ rangesMeet 0 0x10000 4 = false
    ∧ ((moving 0 0 0x10000 0).moveAsked 0 0 0).len = 0
    ∧ (moving 0 0 (2 ^ 52) 4).badDest (2 ^ 52) 4 = true ∧ rangesMeet 0 (2 ^ 52) 4 = false
    ∧ ((moving 1 0 (2 ^ 52) 4).moveAsked 0 0 1).len = 4
    ∧ bitsOf ((moving 1 0 0x10000 4).unitReg 0 0).toNat 0 2 = 1 ∧ (moving 1 0 0x10000 4).badDest 0x10000 4 = false
    ∧ ((moving 1 0 0x10000 0x4000000).moveAsked 0 0 1).len = 2 ^ 26
    ∧ bitsOf ((moving 2 0x200000 3 32768).unitReg 0 0).toNat 0 2 = 2 ∧ (moving 2 0x200000 3 32768).heldInst 0 1 = some 8
    ∧ (moving 2 0x200000 3 32768).busyInst 8 = false ∧ badSeal 0x200000 32768 = false
    ∧ bitsOf 3 31 32 = 0 ∧ (((moving 2 0x200000 3 32768).setReg 0x0E0000 0x80000000).sealStart 3 0 8 false).1 = true
    ∧ ((moving 2 64 3 32768).moveAsked 0 0 2).src % 2 ^ 21 ≠ 0
    ∧ ((arbiter [] [grant0 0] [0]).setMove (move0 false)).moveOf 0 = some (move0 false)
    ∧ (∀ l ∈ ((arbiter [] [grant0 0] [0]).setMove (move0 false)).dti.seals, l.chan ≠ 0) ∧ (move0 true).handed = true
    ∧ ((arbiter [] [grant0 0] [0]).setMove (move0 true)).unitOut 0 = false := by decide +kernel

theorem witness_MoverAndSlots_slot :
    (slotting 0 100 0x1000).ready = true ∧ (slotting 0 100 0x1000).heldInst 0 1 = some 8 ∧ (slotting 0 100 0x1000).busyInst 8 = false
    ∧ ((slotting 0 100 0x1000).unitReg 8 8).toNat = 100
    ∧ ((slotting 0 100 0x1000).reg 0x34000C).toNat * 2 ^ 32 + ((slotting 0 100 0x1000).reg 0x340008).toNat = 100
    ∧ ((slotting 0 100 0x1000).reg 0x340010).toNat = 10 ∧ (slotting 0 110 0x1000).unitReg 8 8 = 110 ∧ 100 + 10 ≤ 110
    ∧ bitsOf ((slotting 0 109 0x1000).unitReg 8 0).toNat 0 2 = 0 ∧ bitsOf ((slotting 1 109 0x1000).unitReg 8 0).toNat 0 2 = 1
    ∧ bitsOf ((slotting 2 109 0x1000).unitReg 8 0).toNat 0 2 = 2 ∧ 109 < 100 + 10 ∧ 0x1000 % 4096 = 0
    ∧ (slotting 0 100 0x1000).region 0x1000 = .t0 0x1000 ∧ (slotting 0 100 0x1000).map.act.inCarve 0x1000 = false := by
  decide +kernel

/-- Engine 0 holds an instance of a unit, with Reach 0 mapped and the link UP. -/
def holds (inst : Nat) (f : State → State) : State := f ((linked 0).updSua fun u => { u with grants := [grant0 inst] })

theorem witness_ProbeAndKeyJobs :
    (holds 24 id).ready = true ∧ (holds 24 id).busyInst 24 = false ∧ (holds 24 id).heldInst 0 2 = some 24
    ∧ (holds 24 id).region 0x40 = .t0 0x40 ∧ (holds 24 id).leafState (leafOfLine 1) = 0
    ∧ (holds 24 fun s => s.updMap fun m => { m with absent := [(0, 1)] }).leafState (leafOfLine 1) ≠ 0
    ∧ (holds 24 id).region (2 ^ 45) = .unmapped ∧ (holds 25 fun s => s.setReg 0x070100 0).csServes 0 0 = false
    ∧ (holds 25 id).heldInst 0 3 = some 25 ∧ bitsOf (0 : Word).toNat 0 2 = 0 ∧ bitsOf (1 : Word).toNat 0 2 ≠ 0
    ∧ (holds 25 fun s => s.setReg 0x070100 1).csServes 0 0 = true ∧ (∀ r ∈ (holds 25 id).sgt.resights, ¬(r.sub = 0 ∧ r.cs = 0))
    ∧ (holds 26 id).heldInst 0 4 = some 26 ∧ (holds 26 id).twn.link = 2
    ∧ bitsOf ((holds 26 fun s => s.setUnitReg 26 0x10 256).unitReg 26 0x10).toNat 0 9 = 256
    ∧ bitsOf ((holds 26 fun s => s.setUnitReg 26 8 0x3FF00).unitReg 26 8).toNat 0 18 = 0x3FF00 ∧ 0x3FF00 + 256 ≤ 2 ^ 18
    ∧ bitsOf ((holds 26 id).unitReg 26 0x10).toNat 0 9 = 0
    ∧ (holds 27 id).heldInst 0 5 = some 27 ∧ bitsOf ((holds 27 id).unitReg 27 0).toNat 0 2 = 0
    ∧ (0 : Fin 64).val = bitsOf ((holds 27 id).unitReg 27 0).toNat 8 6 ∧ (0 : Fin 64).val = (holds 27 id).sessionSlot
    ∧ (holds 27 fun s => s.setUnitReg 27 0 0x100).boundSlot 1 = false ∧ 1 ≠ (holds 27 id).sessionSlot
    ∧ bitsOf ((holds 27 fun s => s.setUnitReg 27 0 0x101).unitReg 27 0).toNat 0 2 = (1 : BitVec 2).toNat
    ∧ (1 : Fin 64).val = bitsOf ((holds 27 fun s => s.setUnitReg 27 0 0x101).unitReg 27 0).toNat 8 6
    ∧ ((holds 27 fun s => s.setKeySlot 1 { loaded := true }).keySlot 1).loaded = true ∧ 4096 % 16 = 0 ∧ 4096 % 64 = 0
    ∧ ((holds 27 fun s => s.setUnitReg 27 0x18 0x10000000).unitReg 27 0x18).toNat % 2 ^ 32 * 2 ^ 64 / 2 ^ 92 = 1
    ∧ ((holds 27 fun s => s.setUnitReg 27 0x28 4097).unitReg 27 0x28).toNat = 4097
    ∧ ((holds 27 fun s => s.setUnitReg 27 0x40 4096).unitReg 27 0x40).toNat = 4096 ∧ ((holds 27 id).keySlot 0).loaded = true := by
  decide +kernel

/-- Submission ring 0 and completion ring 0 with their configuration words. -/
def rings (sq cq : Word) : State :=
  (((inMode .service).setReg 0x030000 0x800003E8).setReg (sqPage 0 + 8) sq).setReg (cqPage 0 + 8) cq

theorem witness_SubmissionRingConfig :
    State.reset.passes .chain (sqPage 0 + 8) 6 = true ∧ (rings 0x80000106 0x80000006).passes .chain (sqPage 0 + 8) 0x80000107 = true
    ∧ bit ((rings 0x80000106 0x80000006).reg (sqPage 0 + 8)) 31 = true
    ∧ field ((rings 0x80000106 0x80000006).reg (sqPage 0 + 8)) 0 5
        ≠ field ((rings 0x80000106 0x80000006).newWord (sqPage 0 + 8) 0x80000107) 0 5
    ∧ field (State.reset.newWord (sqPage 0 + 8) 5) 0 5 < 6 ∧ 16 < field (State.reset.newWord (sqPage 0 + 8) 17) 0 5
    ∧ State.reset.passes .chain (sqPage 0 + 8) 5 = true ∧ State.reset.passes .chain (sqPage 0 + 8) 17 = true
    ∧ State.reset.passes .chain (sqPage 0 + 8) 0x80000006 = true
    ∧ bit (State.reset.newWord (sqPage 0 + 8) 0x80000006) 31 = true ∧ bit (State.reset.reg (cqPage 0 + 8)) 31 = false
    ∧ (rings 0x00000106 0x80000006).passes .chain (sqPage 0 + 8) 0x80000106 = true
    ∧ bit ((rings 0x00000106 0x80000006).reg (cqPage (field ((rings 0x00000106 0x80000006).newWord (sqPage 0 + 8) 0x80000106) 16 6) + 8))
        31 = true
    ∧ bit ((rings 0x00000106 0x80000006).reg (sqPage 0 + 8)) 31 = false
    ∧ bit ((rings 0x00000106 0x80000006).newWord (sqPage 0 + 8) 0x80000106) 31 = true
    ∧ (rings 0x80000106 0x80000006).passes .chain (sqPage 0 + 8) 0x00000106 = true
    ∧ bit ((rings 0x80000106 0x80000006).newWord (sqPage 0 + 8) 0x00000106) 31 = false := by decide +kernel

/-- A STAGE descriptor, a COPY descriptor and one of a reserved opcode. -/
def stageD : Desc := desc ([1] ++ List.replicate 63 0)
def stageGood : Desc := desc ([1] ++ List.replicate 15 0 ++ natBytes 8 0x0010000000000000 ++ natBytes 4 1 ++ List.replicate 36 0)
def userD : Desc := desc ([0x20, 0, 0, 10] ++ List.replicate 60 0)

/-- A ring with a descriptor fetched, and an engine that serves USER service 10. -/
def fetched (d : Desc) : State :=
  ((((rings 0x80000106 0x80000006).setSq 0 { fetched := [d] }).setReg (peaPage 0 + 8) 0x400).updEngine 0 fun n =>
    { n with state := .running }).updMap fun m => { m with act := { act16 with t1Segs := 16 } }

/-- An HMP read in flight. -/
def hmp0 : HmpOut := { tag := 5, op := 0, addr := 0, mask := 0, data := 0, use := .fetch 0 0, since := 0 }

theorem witness_RingCommands :
    (rings 0x80000106 0x80000006).passes .chain (sqPage 0 + 0x0C) 64 = true
    ∧ 2 ^ field ((rings 0x80000106 0x80000006).reg (sqPage 0 + 8)) 0 5
        = field ((rings 0x80000106 0x80000006).newWord (sqPage 0 + 0x0C) 64) 0 16
    ∧ (rings 0x80000106 0x80000006).passes .chain (sqPage 0 + 0x0C) 63 = true
    ∧ field ((rings 0x80000106 0x80000006).newWord (sqPage 0 + 0x0C) 63) 0 16 = 63
    ∧ (rings 0x80000106 0x80000006).passes .chain (cqPage 0 + 0x0C) 1 = true
    ∧ field ((rings 0x80000106 0x80000006).reg (cqPage 0 + 0x0C)) 0 16 = 0
    ∧ ringDist 0 ((rings 0x80000106 0x80000006).cq 0).tail 64 < ringDist 0 1 64 ∧ ((rings 0x80000106 0x80000006).cq 0).waiting = []
    ∧ ringDist 0 1 64 ≤ ringDist 0 (((rings 0x80000106 0x80000006).setCq 0 { tail := 2 }).cq 0).tail 64
    ∧ (rings 0 0x80000006).passes .chain (cqPage 0 + 8) 0x80000007 = true
    ∧ (((rings 0 0x80000006).reg (cqPage 0 + 8)) ^^^ ((rings 0 0x80000006).newWord (cqPage 0 + 8) 0x80000007)) &&& 0x9F ≠ 0
    ∧ (rings 0 6).passes .chain (cqPage 0 + 8) 0x80000006 = true ∧ bit ((rings 0 6).reg (cqPage 0 + 8)) 31 = false
    ∧ bit ((rings 0 6).newWord (cqPage 0 + 8) 0x80000006) 31 = true ∧ (rings 0 6).passes .chain (cqPage 0 + 8) 7 = true
    ∧ (rings 0x80000106 0x80000006).cqNamed 0 = true
    ∧ State.reset.passes .chain (vecPage 0 + 0x0C) 1 = true ∧ bit (State.reset.newWord (vecPage 0 + 0x0C) 1) 0 = true
    ∧ (State.reset.updDre fun d => { d with pending := [0] }).passes .chain (vecPage 0 + 0x0C) 0 = true
    ∧ 0 ∈ (State.reset.updDre fun d => { d with pending := [0] }).dre.pending
    ∧ State.reset.dreRuns = false ∧ (rings 0x80000106 0x80000006).dreRuns = true := by decide +kernel

theorem witness_RingCommands_dispatch :
    ((((List.range 64).map fun i => (((rings 0x80000106 0x80000006).setReg (sqPage 0 + 0x0C) 1).dre.turn + i) % 64).find?
        ((rings 0x80000106 0x80000006).setReg (sqPage 0 + 0x0C) 1).ringFetchable)) = some 0
    ∧ (fetched stageD).dreRuns = true ∧ bit ((fetched stageD).reg (sqPage 0 + 8)) 31 = true
    ∧ (((fetched stageD).sq 0).fetched.find? fun d => d.slot == ((fetched stageD).sq 0).head) = some stageD
    ∧ field ((fetched stageD).reg (sqPage 0 + 8)) 16 6 = 0 ∧ bit ((fetched stageD).reg (cqPage 0 + 8)) 31 = true
    ∧ ((fetched stageD).cq 0).fault = false ∧ (fetched stageD).cqFree 0 ≠ 0
    ∧ ((fetched stageD).descCheck stageD.bytes).isSome = true ∧ (fetched stageGood).descCheck stageGood.bytes = none
    ∧ (stageGood.bytes.getD 1 0).getLsbD 7 = false ∧ descService stageGood.bytes = none
    ∧ (fetched userD).descCheck userD.bytes = none ∧ descService userD.bytes = some 10 ∧ (fetched userD).pickEngine 10 = some 0
    ∧ ((rings 0 0x80010206).setCq 0 { oldest := some 0 }).ready = true
    ∧ (((rings 0 0x80010206).setCq 0 { oldest := some 0 }).cq 0).oldest = some 0
    ∧ field (((rings 0 0x80010206).setCq 0 { oldest := some 0 }).reg (cqPage 0 + 8)) 8 8 ≠ 0
    ∧ field (((rings 0 0x80010206).setCq 0 { oldest := some 0 }).reg (cqPage 0 + 8)) 16 8 ≠ 0
    ∧ (State.reset.updDre fun d => { d with hmpQuar := [5] }).dre.hmpQuar.contains 5 = true
    ∧ ((State.reset.updDre fun d => { d with hmp := [hmp0] }).dre.hmp.find? fun o => o.tag == 5) = some hmp0
    ∧ State.reset.dre.hmpQuar.contains 5 = false := by decide +kernel

/-- A DTI descriptor dispatched, with 64 MiB of staging. -/
def dispatched (d : Desc) (courses : List Course) : State :=
  (((inMode .service).updDre fun x => { x with dtiWork := [d] }).updDti fun x => { x with courses := courses }).updMap fun m =>
    { m with act := { act16 with t1Segs := 16, stageSize := 64 } }

/-- COURSE and COURSE_ABORT descriptors; the list lies in a VOID segment, which reads as zeros (R314). -/
def courseD : Desc :=
  desc ([2] ++ List.replicate 15 0 ++ natBytes 8 0x0010000000000000 ++ natBytes 4 4 ++ [3] ++ List.replicate 35 0)
def abortD : Desc := desc ([3] ++ List.replicate 63 0)
def course0 : Course := { no := 0, d := courseD, list := [0], ahead := 3, cfill := 0, byPort := false, port := 0, who := 0 }

/-- Engine 0 serving a descriptor. -/
def serving (bytes : List Byte) (f : Engine → Engine) : State :=
  ((inMode .service).updEngine 0 fun n => f { n with state := .running, desc := some (desc bytes) }).updMap fun m =>
    { m with act := { act16 with t1Segs := 16 } }

/-- Descriptors of the services: opcode, source in a VOID segment, LENGTH 64, destination, further bytes from 40 on. -/
def svcBytes (op : Byte) (dst : Nat) (rest : List Byte) : List Byte :=
  [op] ++ List.replicate 15 0 ++ natBytes 8 0x0010000000000000 ++ natBytes 4 64 ++ natBytes 4 0 ++ natBytes 8 dst ++ rest
    ++ List.replicate (24 - rest.length) 0

theorem witness_ServiceDescriptors :
    (dispatched stageGood []).ready = true ∧ (dispatched stageGood []).dtiDesc 0 1 = some stageGood
    ∧ (dispatched courseD []).dtiDesc 0 2 = some courseD ∧ (dispatched courseD []).freeCourse = some 0
    ∧ (([] : List Course).map fun c => c.ahead + 1).sum + dget courseD.bytes 28 1 + 1 = 4 ∧ 4 ≤ (dispatched courseD []).usable / 2
    ∧ ((dispatched courseD []).unitReads 0x600E 0x0010000000000000 1).1 = .got 0
    ∧ (((dispatched courseD []).unitReads 0x600E 0x0010000000000000 1).2.2.pay (listInst 0)
        (dispatched courseD []).fillClass (List.replicate 1 1)).1 = true
    ∧ (dispatched courseD [{ course0 with ahead := 30 }]).usable / 2 < 30 + 1 + 3 + 1
    ∧ (dispatched abortD []).dtiDesc 0 3 = some abortD
    ∧ lowestCourse ((dispatched abortD []).dti.courses.filter fun c =>
        c.d.sq.val == dget abortD.bytes 16 1 && dget c.d.bytes 4 2 == dget abortD.bytes 18 2) = none
    ∧ lowestCourse ((dispatched abortD [course0]).dti.courses.filter fun c =>
        c.d.sq.val == dget abortD.bytes 16 1 && dget c.d.bytes 4 2 == dget abortD.bytes 18 2) = some course0 := by decide +kernel

theorem witness_ServiceDescriptors_engines :
    ((serving (svcBytes 0x16 0 [0]) id).svcDesc 0 (isSnap 0)).isSome = true
    ∧ ((serving (svcBytes 0x16 0 [2]) id).svcDesc 0 (isSnap 2)).isSome = true
    ∧ ((serving (svcBytes 0x16 0 [1, 1]) id).svcDesc 0 (isSnap 1)).isSome = true
    ∧ aget (serving (svcBytes 0x16 0 [1, 1]) id).plg.pins 1 = none
    ∧ aget ((serving (svcBytes 0x16 0 [1, 1]) id).updPlg fun p => { p with pins := [(1, 0)] }).plg.pins 1 = some 0
    ∧ (serving (svcBytes 0x16 0 [1, 1]) id).svcPhase 0 = 0
    ∧ ((serving (svcBytes 0x16 0 [1, 1]) id).bulkCopy 0 0x0010000000000000 0 64).1.wait = false
    ∧ ((serving (svcBytes 0x17 0 []) id).svcDesc 0 (isOp 0x17)).isSome = true
    ∧ (desc (svcBytes 0x17 0 [])).wpl ≤ (serving (svcBytes 0x17 0 []) id).plg.wpv
    ∧ (serving (svcBytes 0x17 0 []) id).plg.wpv < ({ desc (svcBytes 0x17 0 []) with wpl := 5 } : Desc).wpl
    ∧ 0 + max 1 (field (State.reset.reg 0x0C0010) 0 16) * 1000000
        ≤ ({ State.reset with chron := max 1 (field (State.reset.reg 0x0C0010) 0 16) * 1000000 } : State).chron
    ∧ State.reset.chron < 0 + max 1 (field (State.reset.reg 0x0C0010) 0 16) * 1000000
    ∧ ((serving (svcBytes 0x18 0 []) id).svcDesc 0 (isOp 0x18)).isSome = true
    ∧ ((serving (svcBytes 0x20 0 []) id).svcDesc 0 (isOp 0x20)).isSome = true
    ∧ ((serving (svcBytes 0x12 0 []) id).svcDesc 0 (isOp 0x12)).isSome = true
    ∧ ((serving (svcBytes 0x12 0 []) id).bulkCopy 0 0x0010000000000000 0 64).1.wait = false
    ∧ ((serving (svcBytes 0x13 0 []) id).svcDesc 0 (isOp 0x13)).isSome = true
    ∧ ((serving (svcBytes 0x13 0 []) id).bulkFill 0 0 64 (List.replicate 8 0)).1.wait = false
    ∧ ((serving (svcBytes 0x11 0 []) id).svcDesc 0 (isOp 0x11)).isSome = true
    ∧ ((serving (svcBytes 0x11 0 []) id).engine 0).svc = none
    ∧ ((serving (svcBytes 0x11 0 []) id).svcRead 0 0x0010000000000000 1 []).1 = .got 0
    ∧ ((serving (svcBytes 0x11 0x1000 []) id).bulkBytes 0 0x1000 [1, 2]).1.wait = false := by decide +kernel

/-- A SEAL whose engine finds every Mover channel granted to another one. -/
def crowded : State := (serving (svcBytes 0x14 0 []) id).updSua fun u =>
  { u with grants := (List.range 8).map fun k => { inst := k, who := .engine (Fin.ofNat 32 (k + 1)), since := 0 } }

/-- Engine 0 with a descriptor and one instance of each unit its services ask for. -/
def granted (bytes : List Byte) (f : Engine → Engine) : State := (serving bytes f).updSua fun u =>
  { u with grants := [grant0 0, grant0 8, grant0 24, grant0 26, grant0 27] }

/-- A probe of engine 0 that has looked at no line yet, its instance's result word being `res`. -/
def probed (res : Nat) : State :=
  (granted (svcBytes 0x18 0 []) fun n => { n with svc := some { phase := 1 } }).setUnitReg 24 8 (BitVec.ofNat 64 res)

theorem witness_ServiceDescriptors_units :
    ((granted (svcBytes 0x16 0 [1, 1]) id).svcUnits 0 (svcBytes 0x16 0 [1, 1])).1 = true
    ∧ (((granted (svcBytes 0x16 0 [1, 1]) id).svcUnits 0 (svcBytes 0x16 0 [1, 1])).2.pay (svcInst 0)
        (granted (svcBytes 0x16 0 [1, 1]) id).moverClass (List.replicate (lineParts 0 64).length 2)).1 = true
    ∧ ((granted (svcBytes 0x12 0 []) id).svcUnits 0 (svcBytes 0x12 0 [])).1 = true
    ∧ ((granted (svcBytes 0x13 0 []) id).svcUnits 0 (svcBytes 0x13 0 [])).1 = true
    ∧ ((granted (svcBytes 0x14 0 []) id).svcUnits 0 (svcBytes 0x14 0 [])).1 = true
    ∧ ((crowded.setSvc 0 { phase := 0 }).svcUnits 0 (svcBytes 0x14 0 [])).1 = false
    ∧ ((granted (svcBytes 0x15 0 []) id).svcUnits 0 (svcBytes 0x15 0 [])).1 = true
    ∧ ((granted (svcBytes 0x15 0 []) id).svcRead 0 0x0010000000000000 1 ((granted (svcBytes 0x15 0 []) id).svcGot 0)).1 = .got 0
    ∧ ((granted (svcBytes 0x18 0 []) id).svcUnits 0 (svcBytes 0x18 0 [])).1 = true
    ∧ ((granted (svcBytes 0x18 0 []) id).updSua fun u => { u with busy := [24] }).busyInst 24 = true
    ∧ ((granted (svcBytes 0x18 0 []) id).svcUnits 0 (svcBytes 0x18 0 [])).2.busyInst 24 = false
    ∧ ((granted (svcBytes 0x18 0 []) id).engine 0).svc = none
    ∧ ((probed 4).svcUnits 0 (svcBytes 0x18 0 [])).1 = true ∧ (probed 4).svcPhase 0 ≠ 0
    ∧ ((probed 4).heldInst 0 2).isSome = true ∧ ((probed 4).unitReg 24 8).toNat.testBit 2 = true
    ∧ ((probed 0).unitReg 24 8).toNat.testBit 2 = false := by decide +kernel

theorem witness_ServiceDescriptors_more :
    ((serving (svcBytes 0x15 0 []) id).svcDesc 0 (isOp 0x15)).isSome = true
    ∧ ((serving (svcBytes 0x15 0 []) id).unitReads (srcEngine 0) 0x0010000000000000 1).1 = .got 0
    ∧ ((serving (svcBytes 0x15 0 []) id).keySlot 0).loaded = false
    ∧ (((serving (svcBytes 0x15 0 []) id).setKeySlot 0 { loaded := true }).keySlot 0).loaded = true
    ∧ ((serving (svcBytes 0x15 0 []) id).bulkBytes 0 0 (List.replicate 16 0)).1.wait = false
    ∧ ((serving (svcBytes 0x14 0 []) id).svcDesc 0 (isOp 0x14)).isSome = true
    ∧ ((((crowded.setSvc 0 { phase := 0 }).suaRequest 0 0 0).suaRequest 0 1 0).heldInst 0 0) = none ∧ crowded.svcPhase 0 = 0
    ∧ (serving (svcBytes 0x14 0 []) fun n => { n with svc := some { phase := 1 } }).svcPhase 0 ≠ 0
    ∧ ((serving (svcBytes 0x14 0 []) id).updSua fun u => { u with grants := [grant0 0] }).heldInst 0 0 = some 0
    ∧ bitsOf ((serving (svcBytes 0x14 0 []) id).unitReg 0 0x30).toNat 58 4 = 0 := by decide +kernel

/-- A COMMIT of one line; its target list lies in a VOID segment, so its target is line 0. -/
def commitBytes : List Byte :=
  [0x10] ++ List.replicate 15 0 ++ natBytes 8 0x0010000000000000 ++ natBytes 8 0x0010000000000000 ++ natBytes 2 1 ++ List.replicate 30 0

/-- Line 0 is served: its channel is enabled and the XTS key is loaded; engine 0 has its part of the redo area. -/
def committing (f : Engine → Engine) : State :=
  (((serving commitBytes f).setReg 0x100000 0xE0000000).setKeySlot 0 { loaded := true, wide := true }).updMap fun m =>
    { m with act := { act16 with t1Segs := 16, redoBase := 0x100, redoSize := 1 } }

theorem witness_ServiceDescriptors_commit :
    ((serving commitBytes id).svcDesc 0 (isOp 0x10)).isSome = true ∧ ((serving commitBytes id).commitRead 0 commitBytes).1 = .got 0
    ∧ ((serving commitBytes id).commitRead 0 commitBytes).2.1 = [0] ∧ (serving commitBytes id).commitCheck 0 = some 0x0C
    ∧ (committing id).commitCheck 0 = none ∧ (committing id).redoFits 0 = true
    ∧ ((committing id).commitReady ((committing id).redoAt 0 :: [0])).1 = true
    ∧ (committing fun n => { n with svc := some { phase := 1 } }).svcPhase 0 = 1
    ∧ ((committing fun n => { n with svc := some { phase := 1 }, fenceRes := some 5 }).svcFence 0 0).1 = some 5
    ∧ (committing id).svcPhase 0 = 0
    ∧ (((committing id).commitReady ((committing id).redoAt 0 :: [0])).2.svcPay 0 3).1 = true
    ∧ ((committing fun n => { n with svc := some { phase := 1 } }).pay (svcInst 0)
        ((committing id).engineClass 0) (List.replicate (1 + 1 + 2) 1)).1 = true
    ∧ ((committing fun n => { n with svc := some { phase := 2 } }).pay (svcInst 0) ((committing id).engineClass 0) [1]).1 = true
    ∧ ((committing fun n => { n with svc := some { phase := 2 }, fenceRes := some 0x80 }).svcFence 0 0).1 = some 0x80
    ∧ (0x80 : DWord).getLsbD 7 = true ∧ ((committing id).engine 0).desc.isSome = true
    ∧ (5 : DWord).getLsbD 7 = false ∧ 2 ≤ (committing fun n => { n with svc := some { phase := 2 } }).svcPhase 0 := by decide +kernel

theorem witness_QueueGuards :
    State.reset.ready = true ∧ State.reset.silentSince .plgMark = none
    ∧ ((State.reset.withGuard .plgMark { tail := 1 }).guard .plgMark).agrees = false
    ∧ (State.reset.withGuard .plgMark { bad := true }).guards = [(.plgMark, { bad := true })]
    ∧ (State.reset.guard .plgMark).agrees = true
    ∧ (State.reset.withGuard .plgMark { notices := [(7, noticeOf 1 7)] }).guard .plgMark = { notices := [(7, noticeOf 1 7)] }
    ∧ ({ notices := [(7, noticeOf 1 7)] } : QGuard).agrees = true
    ∧ noticeOf (({ notices := [(7, noticeOf 2 7)] } : QGuard).seen + 1) 7 ≠ noticeOf 2 7
    ∧ (State.reset.updTel fun t => { t with queues := [(.plgMark, { since := 0 })] }).silentSince .plgMark = some 0
    ∧ max 0 ((State.reset.guard .plgMark).lastSeen + 4 * State.reset.idleInterval) ≤ 0 + 1000000000 := by decide +kernel

/-! ### Witnesses: CFG, the chain, the board, the whole block -/

/-- The map registers of a candidate that fits, 512 GiB with the carve region from 511 GiB, and a budget for its ring. -/
def mapped : State :=
  [(0x040000, 0x80), (0x040010, 511), (0x040018, 20), (0x040014, 523264), (0x04001C, 523520), (0x040020, 1), (0x040024, 523552)
   , (0x040028, 64), (0x04002C, 523616), (0x040030, 1), (0x0C0004, 0x80000)].foldl (fun t x => t.setReg x.1 (BitVec.ofNat 32 x.2)) State.reset

theorem witness_ConfigCommands :
    State.reset.passes .chain 0x040040 1 = true ∧ State.reset.candidate.check ≠ 0 ∧ State.reset.map.act.committed = false
    ∧ State.reset.takesReg .chain = true ∧ bit (State.reset.reg 0x040050) 31 = false
    ∧ ((0 : DWord).setWidth 32 ^^^ State.reset.view 0x040058) &&& (regSpec 0x040058).elim 0 RegSpec.rsv = 0
    ∧ ((0 : DWord).extractLsb' 32 32 ^^^ State.reset.view 0x04005C) &&& (regSpec 0x04005C).elim 0 RegSpec.rsv = 0
    ∧ State.reset.modeRefuses 0x040058 ((0 : DWord).setWidth 32) = false
    ∧ ((regSpec 0x040058).elim true fun k => State.reset.violates k 0x040058 ((0 : DWord).setWidth 32)) = false
    ∧ State.reset.violates (hiSpec 0x040058) 0x04005C ((0 : DWord).extractLsb' 32 32) = false
    ∧ State.reset.reachRefused (field (State.reset.reg 0x040050) 0 16) 0 = true
    ∧ bit ((State.reset.setReg 0x040050 0x80000003).reg 0x040050) 31 = true
    ∧ (State.reset.updTwn fun t => { t with link := 2 }).twn.link = 2
    ∧ (State.reset.updMap fun m => { m with act := act16 }).reachRefused 0 0 = false
    ∧ (State.reset.updMap fun m => { m with act := act16 }).takesReg .chain = true ∧ State.reset.twn.link ≠ 2
    ∧ State.reset.passes .chain 0x000048 0x80000000 = true ∧ State.reset.passes .chain 0x000048 0x40000000 = true
    ∧ State.reset.passes .chain 0x000048 ((0x327 : BitVec 10).setWidth 32) = true
    ∧ State.reset.passes .chain 0x000044 0 = true ∧ State.reset.passes .chain 0x000004 1 = true := by decide +kernel

/-- The state MAP_COMMIT makes of a candidate that fits, before a budget is lowered. -/
def committedAs (s : State) : State :=
  ({ s with map := { s.map with act := s.candidate, commitErr := 0 } } : State).carveUnm.event 0x040048 4

/-- A dirty budget above half of the ring of the candidate. -/
def overBudget : State := mapped.setReg 0x0C0004 0x80001

theorem witness_ConfigCommands_map :
    mapped.passes .chain 0x040040 1 = true ∧ mapped.candidate.check = 0
    ∧ (committedAs mapped).budget ≤ 2 ^ ((committedAs mapped).map.act.logEntries - 1)
    ∧ overBudget.passes .chain 0x040040 1 = true ∧ overBudget.candidate.check = 0 ∧ (committedAs overBudget).map.act.committed = true
    ∧ 2 ^ ((committedAs overBudget).map.act.logEntries - 1) < (committedAs overBudget).budget := by decide +kernel

/-- CFG locked. -/
def locked : State := State.reset.setReg 0x000004 1

theorem witness_RegisterAccesses :
    State.reset.takesReg .chain = true ∧ (0x000013 : BitVec 24).toNat % 4 ≠ 0
    ∧ (0xFFFFFC : BitVec 24).toNat % 4 = 0 ∧ regSpec (0xFFFFFC : BitVec 24).toNat = none
    ∧ (regSpec 0x040040).isSome = true ∧ dataPort 0x040040 = none ∧ isStsClr 0x040040 = false
    ∧ ((regSpec 0x040040).elim true fun k => k.pair) = false ∧ isPairHi 0x040040 = false
    ∧ (inMode .service).modeRefuses 0x040040 1 = true ∧ (inMode .service).takesReg .chain = true
    ∧ locked.takesReg .chain = true ∧ locked.modeRefuses 0x0B0000 1 = false ∧ locked.locked = true
    ∧ ((regSpec 0x0B0000).elim 0 fun k => (1 ^^^ locked.view 0x0B0000) &&& k.lk) ≠ 0
    ∧ State.reset.passes .chain 0x000010 1 = true
    ∧ (0x80000001 ^^^ State.reset.view 0x000010) &&& (regSpec 0x000010).elim 0 RegSpec.rsv ≠ 0
    ∧ State.reset.modeRefuses 0x000010 0x80000001 = false ∧ State.reset.markRefuses 0x000010 0x80000001 = false
    ∧ ((regSpec 0x000010).elim true fun k => State.reset.violates k 0x000010 0x80000001) = false
    ∧ State.reset.rangeRefuses 0x000010 0x80000001 = none ∧ State.reset.locked = false
    ∧ locked.modeRefuses 0x000010 0x80000001 = false ∧ locked.markRefuses 0x000010 0x80000001 = false
    ∧ ((regSpec 0x000010).elim true fun k => locked.violates k 0x000010 0x80000001) = false
    ∧ isStsClr 0x000054 = true ∧ (regSpec 0x000054).isSome = true
    ∧ bit (State.reset.reg 0x000008) 0 = false ∧ bit ((State.reset.setReg 0x000008 1).reg 0x000008) 0 = true
    ∧ aget ({ State.reset with sts := [(0x000050, { bits := 1 })] } : State).sts 0x000050 = some { bits := 1 }
    ∧ isPairLo 0x010010 = true ∧ 0x010010 % 8 = 0 ∧ 0x010010 < 0x011000
    ∧ bit ((State.reset.setReg (sqPage 0 + 8) 0x80000006).reg (sqPage 0 + 8)) 31 = true
    ∧ bit (State.reset.reg (sqPage 63 + 8)) 31 = false ∧ (0x030000 + 0x8000 : BitVec 24).toNat % 4 = 0 := by decide +kernel

theorem witness_RegisterAccesses_more :
    (sqPage 63 + 4) < 2 ^ 24
    ∧ ((State.reset.latch .chain (sqPage 63)).lo.getD (State.reset.view (sqPage 63)) ^^^ State.reset.view (sqPage 63))
        &&& (regSpec (sqPage 63)).elim 0 RegSpec.rsv = 0
    ∧ (0x40 ^^^ State.reset.view (sqPage 63 + 4)) &&& (regSpec (sqPage 63 + 4)).elim 0 RegSpec.rsv = 0
    ∧ 0x2000000 ≤ (0x3FFFFFC : BitVec 26).toNat ∧ regSpec (((0x3FFFFFC : BitVec 26).toNat - 0x2000000) / 128 * 4) = none
    ∧ ((0x2000200 : BitVec 26).toNat - 0x2000000) / 128 * 4 = 0x10 ∧ (0x2000200 : BitVec 26).toNat / 4 % 32 = 0
    ∧ (regSpec 0x10).isSome = true ∧ ((regSpec 0x10).elim true fun r => r.pair) = false ∧ isPairHi 0x10 = false
    ∧ dataPort 0x10 = none ∧ ((regSpec 0x10).elim false fun r => r.rw.getLsbD 0) = true
    ∧ ((regSpec 0x10).elim true fun r => r.wo.getLsbD 0 || r.sqc.getLsbD 0 || r.w1p.getLsbD 0) = false
    ∧ State.reset.passes .chain 0x10 (State.reset.view 0x10 ||| BitVec.ofNat 32 (2 ^ 0)) = true
    ∧ 0x20 ≤ 4 * field ((State.reset.setReg 0x30 0x3C).reg (0x20 + 0x10 * 1)) 2 22
    ∧ 4 * field ((State.reset.setReg 0x30 0x3C).reg (0x20 + 0x10 * 1)) 2 22 ≤ 0x3C
    ∧ 4 * field ((State.reset.setReg 0x30 0x10).reg (0x20 + 0x10 * 1)) 2 22 = 0x10
    ∧ (State.reset.setReg 0x30 0x10).passes .chain 0x10 1 = true := by decide +kernel

/-- A chain frame (R466): byte 0 ADDR with DIR 0, CMD and SIZE, OFFSET, data, and its CHECK. -/
def chainFrame (body : List Byte) : List Byte := body ++ natBytes 4 (crc32c body).toNat

/-- A PING, a SETADDR to 5, a READ and a WRITE of CFG_QCTL at size 4, a broadcast READ and a broadcast WRITE. -/
def pingFrame (addr : Byte) : List Byte := chainFrame [addr, 0x04, 0, 0, 0, 0, 0]
def setFrame : List Byte := chainFrame [0x7F, 0x03, 0, 0, 0, 0, 0, 5, 0, 0, 0]
def readFrame : List Byte := chainFrame [0x7F, 0x21, 0, 0x10, 0, 0, 0]
def writeFrame : List Byte := chainFrame [0x7F, 0x22, 0, 0x10, 0, 0, 0, 1, 0, 0, 0]
def anyFrame : List Byte := chainFrame [0x7E, 0x21, 0, 0x10, 0, 0, 0]
def anyWrite : List Byte := chainFrame [0x7E, 0x22, 0, 0x10, 0, 0, 0, 1, 0, 0, 0]

theorem witness_ChainFrames :
    State.reset.ready = true ∧ State.reset.pins.selftestDone = true ∧ chainCheck [1, 2, 3, 4, 5, 6, 7] = false
    ∧ chainReserved (pingFrame 0x7F) = false ∧ chainReserved (chainFrame [0x7F, 0x04, 0]) = false
    ∧ (chainFrame [0x7F, 0x04, 0]).length ≠ chainLength (chainFrame [0x7F, 0x04, 0])
    ∧ chainCheck (pingFrame 0x7F) = true ∧ (pingFrame 0x7F).length = chainLength (pingFrame 0x7F)
    ∧ chainDir (chainFrame [0x85, 0x04, 0, 0, 0, 0, 0, 0]) = true ∧ chainCheck (chainFrame [0x85, 0x04, 0, 0, 0, 0, 0, 0]) = true
    ∧ (chainFrame [0x85, 0x04, 0, 0, 0, 0, 0, 0]).length = chainLength (chainFrame [0x85, 0x04, 0, 0, 0, 0, 0, 0])
    ∧ chainAddr anyFrame = 0x7E ∧ chainCmd anyFrame ≠ 2 ∧ anyFrame.length = chainLength anyFrame
    ∧ chainAddr (pingFrame 5) ≠ 0x7E ∧ State.reset.mcMine (pingFrame 5) = false
    ∧ chainDir (pingFrame 0x7F) = false ∧ State.reset.mcMine (pingFrame 0x7F) = true ∧ chainCmd (pingFrame 0x7F) = 4
    ∧ chainCmd setFrame = 3 ∧ setFrame.length = chainLength setFrame ∧ chainByte setFrame 7 % 128 = 5
    ∧ State.reset.cfg.chainAddr = 0x7F ∧ (State.reset.updCfg fun c => { c with chainAddr := 0x7E }).cfg.chainAddr ≠ 0x7F
    ∧ chainCmd readFrame = 1 ∧ chainSize readFrame = 2 ∧ chainOffset readFrame = 0x10 ∧ readFrame.length = chainLength readFrame
    ∧ dataPort 0x10 = none ∧ (regSpec 0x10).isSome = true
    ∧ chainCmd writeFrame = 2 ∧ chainSize writeFrame = 2 ∧ chainOffset writeFrame = 0x10 ∧ writeFrame.length = chainLength writeFrame
    ∧ State.reset.passes .chain 0x10 (BitVec.ofNat 32 (bytesNat ((writeFrame.drop 7).take 4))) = true
    ∧ chainDir anyWrite = false ∧ chainAddr anyWrite = 0x7E ∧ chainCmd anyWrite = 2 ∧ chainSize anyWrite = 2
    ∧ chainOffset anyWrite = 0x10 ∧ anyWrite.length = chainLength anyWrite ∧ chainCheck anyWrite = true
    ∧ State.reset.passes .chain 0x10 (BitVec.ofNat 32 (bytesNat ((anyWrite.drop 7).take 4))) = true := by decide +kernel

/-- The reset input held, and the self-test still to end. -/
def heldReset : State := State.reset.updCfg fun c => { c with resetHeld := true }
def untested : State := State.reset.updPins fun p => { p with selftestDone := false }

theorem witness_BoardCommands :
    heldReset.cfg.resetHeld = true ∧ State.reset.cfg.resetHeld = false ∧ State.reset.ready = true
    ∧ State.reset.pins.selftestDone = true ∧ untested.ready = true ∧ untested.pins.selftestDone = false := by decide

theorem witness_StepRunsFrontCommand :
    State.reset.pending = [] ∧ heldReset.pending = [] ∧ heldReset.cfg.resetHeld = true ∧ State.reset.cfg.resetHeld = false
    ∧ State.reset.tel.slewLeft = 0 ∧ (State.reset.updTel fun t => { t with slewLeft := 3, slewDiv := 5 }).tel.slewLeft ≠ 0
    ∧ (State.reset.updTel fun t => { t with slewLeft := 3, slewDiv := 5 }).tel.slewCount + 1 < 5
    ∧ (State.reset.updTel fun t => { t with slewLeft := -3, slewDiv := 5, slewCount := 4 }).tel.slewLeft < 0
    ∧ 5 ≤ (State.reset.updTel fun t => { t with slewLeft := -3, slewDiv := 5, slewCount := 4 }).tel.slewCount + 1 := by decide

theorem witness_StateAfterReset : State.reset.ready = true := by decide

theorem witness_StepsRecordEverything : State.reset.recorded = true ∧ (∃ t, step State.reset = .next t) :=
  ⟨by decide, _, rfl⟩

theorem witness_CommandsLeaveTheQueue : ∃ t, exec .rstNAssert State.reset = .next t := ⟨_, rfl⟩

theorem witness_EveryCommandCompletes :
    boardRow .bwrWindow = false ∧ heldReset.cfg.resetHeld = true
    ∧ State.reset.ready = true ∧ State.reset.reaches .chain = true ∧ State.reset.locked = false
    ∧ (0x80000000 ^^^ State.reset.view 0x000010) &&& (regSpec 0x000010).elim 0 RegSpec.rsv ≠ 0 := by decide +kernel

/-- A status cell whose bit 3 was last set at sequence 5. -/
def cell3 : StsCell := { seq := 6, bits := 8, last := [(3, 5)] }

theorem witness_StatusWords :
    (State.reset.evts.filter fun e => e.sts == 0x000050).map (fun e => e.bit) = []
    ∧ ((State.reset.event 0x000050 23).evts.filter fun e => e.sts == 0x000050).map (fun e => e.bit) ≠ []
    ∧ 23 < 24 ∧ 128 ≤ (cell3.seq - 7).toNat ∧ (cell3.seq - 6).toNat < 128
    ∧ (0x06000008 : Word).getLsbD 3 = true ∧ (0x06000008 : Word).getLsbD 4 = false
    ∧ (0x06000008 : Word).extractLsb' 24 8 = 6 ∧ (3, 5) ∈ cell3.last ∧ (∀ x ∈ cell3.last, x.2 = 5)
    ∧ State.reset.takesReg .chain = true ∧ isStsClr 0x000054 = true ∧ (regSpec 0x000054).isSome = true
    ∧ aget ({ State.reset with sts := [(0x000050, cell3)] } : State).sts 0x000050 = some cell3 := by decide +kernel

/-! ### Ill-formed terms that WellFormed refuses -/

/-- A host request with an ATTR. -/
def attrReq (attr : BitVec 8) : HostReq :=
  { port := 0, tag := 0, label := 0, attr := attr, addr := 0, mask := 0, data := 0 }

theorem test_wf_refuses_atom_of_other_operation :
    wellFormed (.atomFadd (attrReq 3)) = false ∧ wellFormed (.atomFadd (attrReq 2)) = true := by decide

theorem test_wf_refuses_func_of_other_operation :
    wellFormed (.vredMax 0 1 2 0 1) = false ∧ wellFormed (.vredMax 0 1 2 0 2) = true := by decide

theorem test_wf_refuses_defined_opcode_as_reserved :
    wellFormed (.badOpcode 2 (attrReq 0)) = false ∧ wellFormed (.badOpcode 3 (attrReq 5)) = false
    ∧ wellFormed (.badOpcode 3 (attrReq 6)) = true ∧ wellFormed (.badOpcode 0xB (attrReq 0)) = true := by decide +kernel

/-- The completion of the ring example: slot 252's descriptor, TAG 0x0123, LEN_EXCEEDS, in the third pass of the ring. -/
theorem test_completion_entry :
    natBytes 16 (({ result := 0, tag := 0x0123, status := 0x0005, sq := 5, slot := 252, irqNow := false } : Compl).entry 253 true)
      = [0, 0, 0, 0, 0, 0, 0, 0, 0x23, 0x01, 0xFD, 0x00, 0x05, 0x00, 0x05, 0x01] := by decide +kernel

/-- A module of some chip selects. -/
def moduleOf (n : Nat) : SpdModule :=
  { channel := 0, slot := 0, present := true, kind := .rdimm, width := .x4, rowBits := 0, cidBits := 0, chipSelects := n,
    maxRate := 0, tps := [], minCk := [], cas := [] }

theorem test_wf_refuses_module_of_five_selects :
    wellFormed (.sgtDiscover .chain [moduleOf 5]) = false ∧ wellFormed (.sgtDiscover .chain [moduleOf 0]) = false
    ∧ wellFormed (.sgtDiscover .chain [moduleOf 4]) = true := by decide

theorem test_wf_refuses_leaf_of_35_bits :
    wellFormed (.healTimeout (2 ^ 34)) = false ∧ wellFormed (.leafRefillDone (2 ^ 34)) = false
    ∧ wellFormed (.wqHealFetch (2 ^ 34)) = false ∧ wellFormed (.healTimeout (2 ^ 34 - 1)) = true := by decide +kernel

theorem test_wf_refuses_segment_of_32_bits :
    wellFormed (.sealFlush (2 ^ 31)) = false ∧ wellFormed (.sealDone (2 ^ 31)) = false
    ∧ wellFormed (.sealFlush (2 ^ 31 - 1)) = true := by decide +kernel

theorem test_wf_refuses_repeated_engine :
    wellFormed (.powerUpSelftestDone [3, 3] []) = false ∧ wellFormed (.powerUpSelftestDone [3] [1, 1]) = false
    ∧ wellFormed (.powerUpSelftestDone [3] [1]) = true := by decide

theorem test_no_word_spells_a_command : decodeTableWord 32 0 = none ∧ State.reset.withFetchWord 32 0 = State.reset := ⟨rfl, rfl⟩

/-! ### Results the spec works out -/

/-- The geometry of the trade ledger. -/
def ledgerMap : MapSet := { committed := true, hash := true, rowBits := 2, cidBits := 1, rankBits := 2 }

/-- The worked decode after R40: PA 0x0A3C_5E7B_91C0 is CH4 subchannel B, BG7, bank 3, row 0x078BC, chip 1, rank 2, line 111. -/
theorem test_tier0_worked_decode :
    ledgerMap.loc (0x0A3C5E7B91C0 / 64) = { sub := 9, cs := 2, rank := 2, cid := 1, bg := 7, bank := 3, row := 0x078BC, col := 111 }
    ∧ ledgerMap.capacity = 2 ^ 44 ∧ reachOfLine (0x0A3C5E7B91C0 / 64) = 0x28F1
    ∧ ledgerMap.lineAt (ledgerMap.loc (0x0A3C5E7B91C0 / 64)) = 0x0A3C5E7B91C0 / 64 := by decide +kernel

/-- R41: segment index O[51:21], sub-block O[20:12], line O[11:6]. -/
theorem test_tier1_decode :
    ((State.reset.updMap fun m => { m with act := { ledgerMap with t1Segs := 2 ^ 30 } }).region 0x001340000A653FC0
      = .t1 0x1A000053 0x53 0x3F)
    ∧ (ledgerMap.stageLine 17 0x53 0x3F) * 64 = 0x2200000 + 0x053FC0 := by decide +kernel

/-- The example of R454: a clear that meets the event's repeat leaves the bit, one that does not clears it. -/
theorem test_sts_clear_example :
    (({ seq := 8, bits := 1, last := [(0, 8)] } : StsCell).clear 0x07000001) = { seq := 8, bits := 1, last := [(0, 8)] }
    ∧ (({ seq := 7, bits := 1, last := [(0, 7)] } : StsCell).clear 0x07000001).bits = 0 := by decide

/-- The example of R476: OFS −1200 ns, held to 100 ppm: nine nanoseconds in one of every 1000 REFCLK periods. -/
theorem test_ptp_example :
    let s := ((State.reset.setReg 0x010020 0x0A640001).updTel fun t => { t with ptpCap := 0x01204B200000, ptpFresh := true }).ptpRef
      0x01204B1FFB50
    s.tel.slewLeft = -1200 ∧ s.tel.slewDiv = 1000 ∧ s.ptpOfsWord = BitVec.ofInt 32 (-1200) := by decide +kernel

/-- The ledger of the bandwidth rules: RDIMM-6400, 16 channels of four chip selects, TRFC1 410 ns, EFF 0xD0. -/
def ledger : State :=
  let s0 := (List.range 16).foldl (fun s ch => (s.setReg (chsPage ch) 0x80000000).setReg (chsPage ch + 0x114) 1312) State.reset
  let s1 := (((s0.setReg 0x080000 2).setReg 0x080008 0x60000001).setReg 0x070000 0).setReg 0x0A0000 24
  { s1 with
    map := { s1.map with act := ledgerMap }
    sgt := { s1.sgt with discovered := true, pop := 0x00180000 } }

/-- The worked example of R302–R304: H 10,400 and N_res 3790. -/
theorem test_ledger_admission :
    let set : BwrSet := { win := 4, eff := 0xD0, drain := 40, mirin := 60,
                          min := [2560, 2400, 1000] ++ List.replicate 12 0 ++ [625] }
    ledger.figures set = (10400, 3790, 0) ∧ set.window = 1000 ∧ 3790 + set.min.sum = 10375 := by decide +kernel

/-- The worked example of R306: with H 10,237 and N_res 3755, s is 1006 and the minima are 2515, 2357, 982 and 625. -/
theorem test_ledger_shortfall :
    let set : BwrSet := { win := 4, eff := 0xD0, drain := 40, mirin := 60,
                          min := [2560, 2400, 1000] ++ List.replicate 12 0 ++ [625] }
    scaleOf set 10237 3755 = 1006
    ∧ scaledMin set 1006 = [2515, 2357, 982] ++ List.replicate 12 0 ++ [625] := by decide +kernel

/-- The worked example of R378: the key port at a mean hold of 1600 ns. -/
theorem test_bearing_hints :
    let s := State.reset.updSua fun u => { u with holds := [(4, 1600)] }
    s.askHint 4 0 = 0x0032 ∧ s.askHint 4 1 = 0x0164 ∧ s.askHint 4 2 = 0x0296 := by decide +kernel

/-- The page of engine 5. -/
theorem test_engine_page : peaPage 5 = 0x30A000 := by decide

/-! ### Single steps of a Pilot -/

/-- Register rd of engine 0 after one command. -/
def after (i : Instr) (s : State) (rd : BitVec 5) : Option DWord :=
  match exec i s with
  | .next t => some ((t.engine 0).reg rd)
  | _ => none

theorem test_divu_by_zero : after (.divu 0 3 1 2) (pilot (withRegs 7 0)) 3 = some 0 := by decide +kernel

theorem test_div_overflow :
    after (.div 0 3 1 2) (pilot (withRegs 0x8000000000000000 0xFFFFFFFFFFFFFFFF)) 3 = some 0x8000000000000000 := by
  decide +kernel

theorem test_rem_sign_of_dividend :
    after (.rem 0 3 1 2) (pilot (withRegs 0xFFFFFFFFFFFFFFF9 2)) 3 = some 0xFFFFFFFFFFFFFFFF := by decide +kernel

theorem test_sra_uses_six_bits :
    after (.sra 0 3 1 2) (pilot (withRegs 0x8000000000000000 65)) 3 = some 0xC000000000000000 := by decide +kernel

theorem test_mulhu : after (.mulhu 0 3 1 2) (pilot (withRegs 0xFFFFFFFFFFFFFFFF 0xFFFFFFFFFFFFFFFF)) 3
    = some 0xFFFFFFFFFFFFFFFE := by decide +kernel

theorem test_clz_of_zero : after (.clz 0 3 1 0) (pilot (withRegs 0 0)) 3 = some 64 := by decide +kernel

theorem test_bswap : after (.bswap 0 3 1 0) (pilot (withRegs 0x0102030405060708 0)) 3 = some 0x0807060504030201 := by
  decide +kernel

theorem test_add_wraps : after (.add 0 1 1 2) (pilot (withRegs 0xFFFFFFFFFFFFFFFF 2)) 1 = some 1 := by decide +kernel

/-- CRC-32C's check value, of the nine digits. -/
theorem test_crc32c : crc32c ((List.range 9).map fun i => BitVec.ofNat 8 (0x31 + i)) = 0xE3069283 := by decide +kernel

/-- The loop branch of the filtered sum goes seven instructions back. -/
theorem test_branch_back :
    (match exec (.bcondNez 0 2 0 0xFFF9) (pilot (withRegs 0 1)) with
     | .next t => some (t.engine 0).pc
     | _ => none) = some (0x100 - 28) := by decide +kernel

end Sys2Proof.Tests
end

section
/-! PROOFS. The frames of the data lanes of the twin link (O28): one equation for each case of what leaves the mirror-out
queue and of what arrives on a data lane, and the statement assembled from them. -/

namespace Sys2Proof.Machine

/-! ### Mirror-out -/

section
variable {s : State} {b : Nat} {r : List MirrorItem}

/-- A forwarded write at the head of its lane's items. -/
theorem State.mirrorSend_fwd {t : BitVec 12} {l : Nat} {p : Bool} {op : BitVec 4} {k : BitVec 64} {d : Line} {e : Word}
    (hup : s.twn.link = 2) (hroom : (s.lane b).retry.length < s.window) (hout : s.twn.out = .fwd t l p op k d e :: r)
    (hlane : s.laneOf (reachOfLine l) = b) :
    s.mirrorSend b = if s.canSeal (fwdFrame t l p op k d e).frame then
        ((s.updTwn fun w => { w with out := r }).qOut .twnOut).sendFrame b (fwdFrame t l p op k d e)
      else s := by
  simp [State.mirrorSend, hout, MirrorItem.reach, hlane, hup, Nat.not_le.mpr hroom]

/-- A line at the head of its lane's items goes with those that join its frame, once the frame can be sealed. -/
theorem State.mirrorSend_line {l : Nat} {d : Line} {p : Bool} {e : Word} {q : Option Nat} {rs rf : Bool} {id : Nat}
    {m : MirrorItem} {x : List MirrorItem × List MirrorItem} (hup : s.twn.link = 2)
    (hroom : (s.lane b).retry.length < s.window) (hm : m = .line l d p e q rs rf id) (hout : s.twn.out = m :: r)
    (hlane : s.laneOf m.reach = b) (hx : x = takeItems m [l] r) (hseal : s.canSeal (mirrorFrame (m :: x.1)).frame = true) :
    s.mirrorSend b = ((m :: x.1).foldl (fun t _ => t.qOut .twnOut) (s.updTwn fun w => { w with
      out := x.2
      lastResync := if rs then (if b = 0 then ((s.lane b).nextSeq, w.lastResync.2)
        else (w.lastResync.1, (s.lane b).nextSeq)) else w.lastResync })).sendFrame b (mirrorFrame (m :: x.1)) := by
  subst hm hx
  simp only [MirrorItem.reach] at hlane
  simp [State.mirrorSend, hout, MirrorItem.reach, hlane, hup, Nat.not_le.mpr hroom, hseal]

end

/-! ### A frame that arrives in its turn -/

section
variable {s a t : State} {f g : Frame}

theorem State.dataFrame_mirror (b k : Nat) (h : f.typ = 1) : s.dataFrame b f k = s.mirrorFrameIn b f k := by
  simp [State.dataFrame, h]

theorem State.dataFrame_fwd (b k : Nat) (h : f.typ = 2) : s.dataFrame b f k = s.fwdFrameIn b f := by
  simp [State.dataFrame, h]

/-- A frame that is taken enters the mirror-in queue and is processed (R137). -/
theorem State.dataArrive_take {typ : BitVec 4} (hmode : s.cfg.mode.serves = true) (htyp : f.typ = typ)
    (harr : s.arrive f = (.take g, a)) :
    s.dataArrive f typ = ((a.qIn .twnIn g.arg0.toNat).dataFrame g.lane.toNat g 0).sendCtrl := by
  simp [State.dataArrive, hmode, htyp, harr]

theorem exec_mirror_take (hready : s.ready = true) (hmode : s.cfg.mode.serves = true) (hf : f.typ = 1) (hg : g.typ = 1)
    (harr : s.arrive f = (.take g, a)) (ht : t = a.qIn .twnIn g.arg0.toNat) :
    exec (.mirror f) s = s.goesOut (t.mirrorFrameIn g.lane.toNat g 0) := by
  rw [exec_mirror]
  exact State.act_goesOn hready (by rw [State.dataArrive_take hmode hf harr, State.dataFrame_mirror _ _ hg, ht])

theorem exec_fwdWr_take (hready : s.ready = true) (hmode : s.cfg.mode.serves = true) (hf : f.typ = 2) (hg : g.typ = 2)
    (harr : s.arrive f = (.take g, a)) (ht : t = a.qIn .twnIn g.arg0.toNat) :
    exec (.fwdWr f) s = s.goesOut (t.fwdFrameIn g.lane.toNat g) := by
  rw [exec_fwdWr]
  exact State.act_goesOn hready (by rw [State.dataArrive_take hmode hf harr, State.dataFrame_fwd _ _ hg, ht])

end

/-! ### A MIRROR frame under R130 -/

section
variable {s : State} {b leaf r : Nat} {f : Frame}

/-- A frame whose lines all find room is accepted. -/
theorem State.mirrorAccept_of_lines {x : Nat × Bool × State}
    (hx : x = s.mirrorLines b (f.flags.getLsbD 3) (f.flags.getLsbD 2) 0 (frameLines f)) (hall : x.2.1 = true) :
    s.mirrorAccept b f 0 = x.2.2.accepted b := by
  subst hx
  simp only [State.mirrorAccept, List.drop_zero, hall, if_true]

/-- A frame that answers a FETCH is a REFILL frame. -/
theorem State.refill_of_answersFetch (h : s.answersFetch f = true) : f.flags.getLsbD 2 = true := by
  unfold State.answersFetch at h
  simp only [Bool.and_eq_true] at h
  exact h.1

variable (k : Nat) (hleaf : leaf = bitsOf f.arg0.toNat 24 34) (hr : r = reachOfLeaf leaf)
include hleaf hr

theorem State.mirrorFrameIn_stale (h : s.reachState r = 0 ∨ s.map.act.dataLeaves ≤ leaf) :
    s.mirrorFrameIn b f k = (s.staleFrame r b).accepted b := by
  subst hleaf hr
  rcases h with h | h <;> simp [State.mirrorFrameIn, h]

variable (hst : s.reachState r ≠ 0) (hin : leaf < s.map.act.dataLeaves)
include hst hin

theorem State.mirrorFrameIn_refill (h : s.answersFetch f = true) : s.mirrorFrameIn b f k = s.mirrorAccept b f k := by
  subst hleaf hr
  simp [State.mirrorFrameIn, hst, hin, h]

variable (hfetch : s.answersFetch f = false)
include hfetch

theorem State.mirrorFrameIn_waits (hne : f.epoch ≠ s.reachEpoch r) (h : epochEarlier f.epoch (s.reachEpoch r) = false) :
    s.mirrorFrameIn b f k = s.frameWaits b f k true := by
  subst hleaf hr
  simp [State.mirrorFrameIn, hst, hin, hfetch, hne, h]

theorem State.mirrorFrameIn_earlier (hne : f.epoch ≠ s.reachEpoch r) (h : epochEarlier f.epoch (s.reachEpoch r) = true) :
    s.mirrorFrameIn b f k = (s.fenceFrame r f.epoch).accepted b := by
  subst hleaf hr
  simp [State.mirrorFrameIn, hst, hin, hfetch, hne, h]

omit hst in
/-- This block owns the Reach: the sender is fenced although the epochs are the same. -/
theorem State.mirrorFrameIn_local (he : f.epoch = s.reachEpoch r) (h : s.reachState r = 1) :
    s.mirrorFrameIn b f k = (s.fenceFrame r f.epoch).accepted b := by
  subst hleaf hr
  simp [State.mirrorFrameIn, hin, hfetch, he, h]

theorem State.mirrorFrameIn_written (he : f.epoch = s.reachEpoch r) (h : s.reachState r ≠ 1) :
    s.mirrorFrameIn b f k
      = (if f.flags.getLsbD 3 then s.updTwn fun w => { w with resyncSeen := true } else s).mirrorAccept b f k := by
  subst hleaf hr
  simp [State.mirrorFrameIn, hst, hin, hfetch, he, h]

end

/-! ### An FWD_WR frame under R130 -/

section
variable {s : State} {b line r : Nat} {f : Frame} {ftag : BitVec 12}
variable (hline : line = bitsOf f.arg0.toNat 0 40) (hr : r = reachOfLine line)
  (hftag : ftag = BitVec.ofNat 12 (bitsOf f.arg0.toNat 40 12))
include hline hr hftag

theorem State.fwdFrameIn_unowned (h : s.reachState r = 0 ∨ s.map.act.dataLeaves ≤ leafOfLine line) :
    s.fwdFrameIn b f = (s.pushFwdAck ftag line .errOwner 0 false).accepted b := by
  subst hline hr hftag
  rcases h with h | h <;> simp [State.fwdFrameIn, h]

variable (hst : s.reachState r ≠ 0) (hin : leafOfLine line < s.map.act.dataLeaves)
include hst hin

omit hftag in
theorem State.fwdFrameIn_waits (hne : f.epoch ≠ s.reachEpoch r) (h : epochEarlier f.epoch (s.reachEpoch r) = false) :
    s.fwdFrameIn b f = s.frameWaits b f 0 true := by
  subst hline hr
  simp [State.fwdFrameIn, hst, Nat.not_le.mpr hin, hne, h]

omit hst in
/-- The Reach is the twin's: the forwarder is to try again under the present entry. -/
theorem State.fwdFrameIn_deferred (he : f.epoch = s.reachEpoch r ∨ epochEarlier f.epoch (s.reachEpoch r) = true)
    (h : s.reachState r = 2) : s.fwdFrameIn b f = (s.pushFwdAck ftag line .defer 0 false).accepted b := by
  subst hline hr hftag
  rcases he with he | he <;> simp [State.fwdFrameIn, Nat.not_le.mpr hin, h, he]

theorem State.fwdFrameIn_fenced (hne : f.epoch ≠ s.reachEpoch r) (h : epochEarlier f.epoch (s.reachEpoch r) = true)
    (htwin : s.reachState r ≠ 2) : s.fwdFrameIn b f = (s.pushFwdAck ftag line .errFenced 0 false).accepted b := by
  subst hline hr hftag
  simp [State.fwdFrameIn, hst, Nat.not_le.mpr hin, hne, h, htwin]

variable (he : f.epoch = s.reachEpoch r) (htwin : s.reachState r ≠ 2)
include he htwin

/-- The write is handed over: the frame is accepted with it, or holds its lane until it is (R137). -/
theorem State.fwdFrameIn_performed {u : State} (h : s.forwardedWrite b f = some u) :
    s.fwdFrameIn b f = if u.jobOut fun j => j.ftag == some ftag then u.frameWaits b f 1 false else u.accepted b := by
  subst hline hr hftag
  simp [State.fwdFrameIn, hst, Nat.not_le.mpr hin, he, htwin, h]

omit hftag in
theorem State.fwdFrameIn_held (h : s.forwardedWrite b f = none) :
    s.fwdFrameIn b f = s.noteBudgetHold.frameWaits b f 0 true := by
  subst hline hr
  simp [State.fwdFrameIn, hst, Nat.not_le.mpr hin, he, htwin, h]

end

/-! ### A frame that is tried again -/

section
variable {s : State} {b k t : Nat} {f : Frame} (hwait : (s.lane b).waiting = some (f, t, k))
include hwait

theorem State.frameResume_handedOver (h : f.typ = 2 ∧ k = 1) : s.frameResume b = s := by
  simp [State.frameResume, hwait, handedOver, h]

theorem State.frameResume_retried (h : ¬(f.typ = 2 ∧ k = 1)) : s.frameResume b = (s.dataFrame b f k).sendCtrl := by
  have hno : handedOver f k = false := by simpa [handedOver] using h
  simp [State.frameResume, hwait, hno]

end

/-- Settles O28: each frame's effect is one of the equations above, and the command's form carries it to the answer. -/
theorem dataFrames : Obligations.DataFrames := by
  unfold Obligations.DataFrames
  intro s hready
  refine ⟨?send, ?mirror, ?fwdWr, ?resume, ?table⟩
  case send =>
    intro lane m r hup hroom hout hlane
    rw [exec_mirrorFrameSend, execMirrorFrameSend]
    constructor
    · rintro t l p op k d e o rfl rfl
      have hsend := State.mirrorSend_fwd hup hroom hout hlane
      exact ⟨fun hseal => State.act_goesOn hready (by rw [hsend, if_pos hseal]),
        fun hseal => State.act_goesOn hready (by rw [hsend, hseal, if_neg Bool.false_ne_true])⟩
    · rintro l d p e q rs rf id x o hm hx rfl hseal
      exact State.act_goesOn hready (State.mirrorSend_line hup hroom hm hout hlane hx hseal)
  case mirror =>
    rintro f g a t leaf r b hmode hf hg harr ht hleaf hr rfl
    rw [exec_mirror_take hready hmode hf hg harr ht]
    refine ⟨fun h => ?stale, fun hst hin => ⟨fun x hfetch hx hall => ?refill, fun hfetch => ⟨fun hne h => ?waits,
      fun hne h => ?earlier, fun he h => ?owned, fun u x he h hu hx hall => ?written⟩⟩⟩
    case stale => rw [State.mirrorFrameIn_stale 0 hleaf hr h]; rfl
    case refill =>
      rw [← State.refill_of_answersFetch hfetch] at hx
      rw [State.mirrorFrameIn_refill 0 hleaf hr hst hin hfetch, State.mirrorAccept_of_lines hx hall]
    case waits => rw [State.mirrorFrameIn_waits 0 hleaf hr hst hin hfetch hne h]
    case earlier => rw [State.mirrorFrameIn_earlier 0 hleaf hr hst hin hfetch hne h]
    case owned => rw [State.mirrorFrameIn_local 0 hleaf hr hin hfetch he h]
    case written =>
      rw [State.mirrorFrameIn_written 0 hleaf hr hst hin hfetch he h, ← hu, State.mirrorAccept_of_lines hx hall]
  case fwdWr =>
    rintro f g a t line r b ftag hmode hf hg harr ht hline hr hftag rfl
    rw [exec_fwdWr_take hready hmode hf hg harr ht]
    refine ⟨fun h => ?unowned, fun hst hin => ⟨fun hne h => ?waits, fun he h => ?deferred, fun hne h htwin => ?fenced,
      fun he htwin => ⟨fun u hu => ?performed, fun hu => ?held⟩⟩⟩
    case unowned => rw [State.fwdFrameIn_unowned hline hr hftag h]
    case waits => rw [State.fwdFrameIn_waits hline hr hst hin hne h]
    case deferred => rw [State.fwdFrameIn_deferred hline hr hftag hin he h]
    case fenced => rw [State.fwdFrameIn_fenced hline hr hftag hst hin hne h htwin]
    case performed =>
      rw [State.fwdFrameIn_performed hline hr hftag hst hin he htwin hu]
      exact ⟨fun hout => by rw [hout, if_neg Bool.false_ne_true], fun hout => by rw [if_pos hout]⟩
    case held => rw [State.fwdFrameIn_held hline hr hst hin he htwin hu]
  case resume =>
    intro lane f t k hwait
    rw [exec_mirrorFrameResume, execMirrorFrameResume]
    exact ⟨fun h => State.act_goesOn hready (State.frameResume_handedOver hwait h),
      fun h => State.act_goesOn hready (State.frameResume_retried hwait h)⟩
  case table =>
    rw [exec_fwdTableAdmit, execFwdTableAdmit]
    exact State.act_goesOn hready rfl

end Sys2Proof.Machine
end

section
/-! PROOFS. The protected queues (O50): how the guard of a queue answers a packet that enters or leaves, what a round does
with a queue found bad, and what an idle item and a silent producer do. -/

namespace Sys2Proof.Machine

/-! ### Packets (R18, R19) -/

section
variable {s : State} {q : Queue} {g : QGuard}

/-- The pointer copies differ: no packet enters and no pointer moves. -/
theorem State.qIn_of_differ (h : Nat) (hg : g = s.guard q) (ha : g.agrees = false) :
    s.qIn q h = s.withGuard q { g with bad := true } := by
  subst hg
  simp [State.qIn, ha]

theorem State.qIn_of_agrees (h : Nat) (hg : g = s.guard q) (ha : g.agrees = true) :
    s.qIn q h = s.withGuard q { g with
      tail := g.tail + 1, tailGray := gray (g.tail + 1), notice := (g.notice + 1) % 64, lastSeen := s.chron
      notices := g.notices ++ [(h, noticeOf (g.notice + 1) h)] } := by
  subst hg
  simp [State.qIn, ha]

/-- The pointer copies differ, or the notice does not fit: no packet leaves and no pointer moves. -/
theorem State.qOut_of_unfit (hg : g = s.guard q) (h : g.agrees = false ∨ g.fits = false) :
    s.qOut q = s.withGuard q { g with bad := true } := by
  subst hg
  rcases h with h | h <;> simp [State.qOut, h]

/-- The consumer compares the notice of the oldest packet with the one it expects. -/
theorem QGuard.fits_cons {h : Nat} {b : Byte} {r : List (Nat × Byte)} (hn : g.notices = (h, b) :: r) :
    g.fits = (b == noticeOf (g.seen + 1) h) := by
  simp [QGuard.fits, hn]

theorem State.qOut_of_fits {h : Nat} {b : Byte} {r : List (Nat × Byte)} (hg : g = s.guard q) (ha : g.agrees = true)
    (hn : g.notices = (h, b) :: r) (hb : b = noticeOf (g.seen + 1) h) :
    s.qOut q = s.withGuard q { g with
      head := g.head + 1, headGray := gray (g.head + 1), notices := r, seen := (g.seen + 1) % 64 } := by
  have hfits : g.fits = true := by rw [QGuard.fits_cons hn, hb, beq_self_eq_true]
  subst hg
  simp [State.qOut, ha, hfits, hn]

end

/-! ### Recovery (R18, R21) -/

/-- A queue found bad is recovered before anything else goes on. -/
theorem State.round_of_bad {s : State} {q : Queue} {g : QGuard} (hs : s.guards = [(q, g)]) (hbad : g.bad = true) :
    s.round = (s.queueMismatch q).fabricRound.deepRound.unitRound := by
  have hg : s.guardRound = s.queueMismatch q := by simp [State.guardRound, hs, hbad]
  rw [State.round, hg]

/-! ### Idle items and silent producers (R20, R486) -/

section
variable {s : State} {q : Queue} {n : Nat}

theorem State.idleItem_eq (hn : n = max s.chron ((s.guard q).lastSeen + s.idleInterval)) :
    s.idleItem q = ({ s with chron := n } : State).withGuard q
      { s.guard q with lastSeen := n, idle := noticeOf (s.guard q).notice 0 } := by
  subst hn
  rfl

/-- The report of a silent producer: its entry in the log, and its time. -/
def State.silentReport (s : State) (q : Queue) (n : Nat) : State :=
  (({ s with chron := n } : State).logE 0x0103 (srcInt (queuePage q)) 0 (lookoutInfo 2 1 0 (queueId q))).updTel fun x =>
    { x with queues := (x.queues.filter fun y => y.1 != q) ++ [(q, { since := n })] }

/-- A report of the queue stands that is at most 1 s old. -/
def State.silentAgain (s : State) (q : Queue) (n : Nat) : Bool :=
  match s.silentSince q with
  | some k => decide (n ≤ k + 1000000000)
  | none => false

theorem State.silentAgain_of_report {k : Nat} (hk : s.silentSince q = some k) :
    s.silentAgain q n = decide (n ≤ k + 1000000000) := by
  simp [State.silentAgain, hk]

theorem State.silentAgain_eq_false (h : ∀ k, s.silentSince q = some k → k + 1000000000 < n) :
    s.silentAgain q n = false := by
  cases hs : s.silentSince q with
  | none => simp [State.silentAgain, hs]
  | some k => rw [State.silentAgain_of_report hs, decide_eq_false_iff_not, Nat.not_le]; exact h k hs

/-- QUEUE_SILENT: the report, the queue's recovery, and the Dead Reckoning cause where it is the second report. -/
theorem State.queueSilent_eq (hn : n = max s.chron ((s.guard q).lastSeen + 4 * s.idleInterval)) :
    s.queueSilent q = if s.silentAgain q n then
        (((s.silentReport q n).queueMismatch q).setCause 8).logE 0x0107 (srcInt (queuePage q)) 0 (lookoutInfo 2 2 0 (queueId q))
      else (s.silentReport q n).queueMismatch q := by
  subst hn
  rfl

end

/-- INFO of a Lookout entry without a trigger (R486). -/
theorem lookoutInfo_no_trigger (kind stage q : Nat) : lookoutInfo kind stage 0 q = kind + stage * 2 ^ 8 + q * 2 ^ 16 := by
  simp [lookoutInfo]

/-- Settles O50: the guard's answers, the round's order and the two timed commands, each from its equation above; the
action of each queue is its row of `State.queueMismatch`. -/
theorem queueGuards : Obligations.QueueGuards := by
  unfold Obligations.QueueGuards
  intro s q hready
  refine ⟨?packets, fun g hs hbad => State.round_of_bad hs hbad, ?idle, ?silent⟩
  case packets =>
    intro g h hg
    refine ⟨fun ha => ⟨State.qIn_of_differ h hg ha, State.qOut_of_unfit hg (.inl ha)⟩, State.qIn_of_agrees h hg,
      fun b r ha hn => ⟨State.qOut_of_fits hg ha hn, fun hb => State.qOut_of_unfit hg (.inr ?_)⟩⟩
    rw [QGuard.fits_cons hn]
    exact beq_false_of_ne hb
  case idle =>
    intro n hn
    rw [exec_idleItem, execIdleItem]
    exact State.act_goesOn hready (State.idleItem_eq hn)
  case silent =>
    rintro src n t rfl hn ht
    have hreport : t = s.silentReport q n := by rw [ht, State.silentReport, lookoutInfo_no_trigger, one_mul]
    rw [exec_queueSilent, execQueueSilent]
    refine ⟨fun h => State.act_goesOn hready ?once, fun k hk h => State.act_goesOn hready ?again, ?actions⟩
    case once => rw [State.queueSilent_eq hn, State.silentAgain_eq_false h, if_neg Bool.false_ne_true, hreport]
    case again =>
      rw [State.queueSilent_eq hn, State.silentAgain_of_report hk, decide_eq_true h, if_pos rfl, hreport,
        lookoutInfo_no_trigger]
    case actions =>
      rintro u rfl
      and_intros
      all_goals
        intros
        subst q
        rfl

end Sys2Proof.Machine
end

section
/-! PROOFS. The timed events of telemetry (O25): a pace monitor's sample and the crossing of its limit, the edge on PTP_SYNC,
and the stages of the Lookout over the engines and the firmware. -/

namespace Sys2Proof.Machine

/-! ### Pace monitors (R30–R32) -/

/-- A monitor's state is set; nothing else changes. -/
def State.setPace (s : State) (m : Nat) (p : Pace) : State := s.updTel fun t => { t with pace := aput t.pace m p }

/-- A monitor that holds 15 samples or more keeps 16 with the new one. -/
theorem length_last_samples {l : List (BitVec 12)} (v : BitVec 12) (h : 15 ≤ l.length) :
    ((l ++ [v]).drop (l.length - 15)).length = 16 := by
  rw [List.length_drop, List.length_append, List.length_singleton]
  omega

section
variable {s : State} {m : Nat} {v : BitVec 12} {l : List (BitVec 12)} {mean lim : Nat} {old q : Pace}
  (hold : old = agetD s.tel.pace m {}) (hfull : 15 ≤ old.samples.length)
  (hl : l = (old.samples ++ [v]).drop (old.samples.length - 15)) (hmean : mean = (l.map fun x => x.toNat).sum / 16)
  (hlim : lim = field (s.reg 0x010820) 0 12)
  (hq : q = { samples := l, pace := BitVec.ofNat 12 mean, max := BitVec.ofNat 12 (max old.max.toNat mean), armed := false })
include hold hfull hl hmean hlim hq

/-- A sample of a full monitor: it crosses the limit, and is logged and disarmed, exactly when it is armed, the mean is above
the limit and the limit is enabled. -/
theorem State.paceSample_full : s.paceSample m v =
    if (old.armed && decide (lim < mean) && bit (s.reg 0x010820) 12) = true then
      (s.setPace m q).logE 0x0101 0x6001 0 (mean + m * 2 ^ 16)
    else s.setPace m { q with armed := old.armed || decide (mean + 16 < lim) } := by
  have hlen : l.length = 16 := hl ▸ length_last_samples v hfull
  have hdrop : (old.samples ++ [v]).drop (old.samples.length + 1 - 16) = l := by rw [hl, Nat.add_sub_add_right]
  subst hq hlim
  unfold State.paceSample
  simp only [State.fld, State.flag, ← hold, hdrop, hlen, lt_irrefl, if_false, ← hmean]
  split <;> rfl

/-- A sample that does not cross the limit arms the monitor once the mean is more than 16 below it. -/
theorem State.paceSample_below (h : mean ≤ lim) :
    s.paceSample m v = s.setPace m { q with armed := old.armed || decide (mean + 16 < lim) } := by
  rw [State.paceSample_full hold hfull hl hmean hlim hq, decide_eq_false (Nat.not_lt.mpr h)]
  simp

theorem State.paceSample_crosses (h : lim < mean) (harm : old.armed = true) (hen : bit (s.reg 0x010820) 12 = true) :
    s.paceSample m v = (s.setPace m q).logE 0x0101 0x6001 0 (mean + m * 2 ^ 16) := by
  rw [State.paceSample_full hold hfull hl hmean hlim hq, harm, decide_eq_true h, hen]
  rfl

/-- Above a limit that is not enabled the monitor keeps its arming. -/
theorem State.paceSample_not_enabled (hen : bit (s.reg 0x010820) 12 = false) (h : lim < mean) :
    s.paceSample m v = s.setPace m { q with armed := old.armed } := by
  have hfar : ¬mean + 16 < lim := by omega
  rw [State.paceSample_full hold hfull hl hmean hlim hq, hen, Bool.and_false, if_neg Bool.false_ne_true,
    decide_eq_false hfar, Bool.or_false]

end

/-! ### The PTP_SYNC edge (R476, R507) -/

/-- An edge is captured when capture is enabled and no edge came within 1 ms before it. -/
theorem State.ptpEdge_captured {s : State} (hen : bit (s.reg 0x010020) 0 = true)
    (hfar : ¬∃ t, s.pins.ptpEdgeAt = some t ∧ s.chron < t + 1000000) :
    s.ptpEdge = { s with
      pins := { s.pins with ptpEdgeAt := some s.chron }, tel := { s.tel with ptpCap := s.chron, ptpFresh := true } } := by
  cases hlast : s.pins.ptpEdgeAt with
  | none => simp [State.ptpEdge, State.flag, hen, hlast]
  | some t =>
    have ht : ¬s.chron < t + 1000000 := fun h => hfar ⟨t, hlast, h⟩
    simp [State.ptpEdge, State.flag, hen, hlast, ht]

/-- An edge that is not captured is still the one the next is measured from. -/
theorem State.ptpEdge_passed {s : State}
    (h : bit (s.reg 0x010020) 0 = false ∨ ∃ t, s.pins.ptpEdgeAt = some t ∧ s.chron < t + 1000000) :
    s.ptpEdge = { s with pins := { s.pins with ptpEdgeAt := some s.chron } } := by
  rcases h with hoff | ⟨t, hlast, hclose⟩
  · simp [State.ptpEdge, State.flag, hoff]
  · simp [State.ptpEdge, hlast, hclose]

/-! ### The Lookout over the engines (R486) -/

section
variable {s t : State} {e : EngineNo} {v : Subject}

/-- A fence that waits is the condition of its own trigger: 2 for an OFENCE, 3 for a DFENCE. -/
theorem State.lookoutHolds_of_fence {k l since lim r : Nat} {g : BitVec 5}
    (hwait : (s.engine e).wait = .fence k l g since lim) (hr : k = 0 ∧ r = 2 ∨ k = 2 ∧ r = 3) :
    s.lookoutHolds e r = true := by
  rcases hr with ⟨rfl, rfl⟩ | ⟨rfl, rfl⟩ <;> simp [State.lookoutHolds, hwait]

/-- The condition of a waiting fence is due at the fence's limit. -/
theorem State.lookoutDue_of_fence {k l since lim r : Nat} {g : BitVec 5}
    (hwait : (s.engine e).wait = .fence k l g since lim) (hr : r ≠ 1) : s.lookoutDue e r = since + lim := by
  simp [State.lookoutDue, hwait, hr]

/-- Stage 1: a subject at stage 0 whose trigger's condition holds. -/
theorem State.lookoutWarn_of_holds {r n : Nat} (hstage : (s.subject e).stage = 0) (hholds : s.lookoutHolds e r = true)
    (hn : n = max s.chron (s.lookoutDue e r)) :
    s.lookoutWarn e r = ({ s with chron := n }.setSubject e { stage := 1, since := n + s.escNs, trigger := r }).logE 0x0104
      (srcEngine e) 0 (lookoutInfo 1 1 r 0) := by
  subst hn
  simp only [State.lookoutWarn, hstage, hholds]
  rfl

variable (hv : v = s.subject e) (ht : t = { s with chron := max s.chron v.since })
include hv

theorem State.lookoutStop_cleared (hstage : v.stage = 1) (h : s.lookoutHolds e v.trigger = false) :
    s.lookoutStop e = s.setSubject e {} := by
  subst hv
  simp [State.lookoutStop, hstage, h]

theorem State.lookoutFail_halted (hstage : v.stage = 2) (h : (s.engine e).state = .halted) :
    s.lookoutFail e = s.setSubject e {} := by
  subst hv
  simp [State.lookoutFail, hstage, h]

include ht

/-- Stage 2: the condition has not cleared. -/
theorem State.lookoutStop_of_holds (hstage : v.stage = 1) (h : s.lookoutHolds e v.trigger = true) :
    s.lookoutStop e = (((t.abortUnits e).raiseExc e 0x40 (t.engine e).pc none).setSubject e
      { v with stage := 2, since := t.chron + s.escNs }).logE 0x0105 (srcEngine e) 0 (lookoutInfo 1 2 v.trigger 0) := by
  subst hv ht
  simp only [State.lookoutStop, hstage, h]
  rfl

/-- Stage 3: the engine is still not HALTED. -/
theorem State.lookoutFail_of_not_halted (hstage : v.stage = 2) (h : (s.engine e).state ≠ .halted) :
    s.lookoutFail e
      = ((t.failEngine e).setSubject e {}).logE 0x0106 (srcEngine e) 0 (lookoutInfo 1 3 v.trigger 0) := by
  subst hv ht
  simp only [State.lookoutFail, hstage, beq_false_of_ne h]
  rfl

end

/-! ### The Lookout over the firmware (R486) -/

/-- Stage 1: KICK_MS without a kick. -/
theorem State.kickTimeout_of_running {s : State} (hrun : s.tel.kickRun = true) (hstage : s.tel.firmware.stage = 0) :
    s.kickTimeout = { s with
      chron := max s.chron (s.tel.lastKick + s.tel.kickMs * 1000000)
      tel := { s.tel with
        firmware := { stage := 1, since := s.tel.lastKick + 2 * s.tel.kickMs * 1000000 } } }.logE 0x0104 0x6001 0
          (lookoutInfo 3 1 0 0) := by
  have hgoes : ¬(!s.tel.kickRun || s.tel.firmware.stage != 0) = true := by simp [hrun, hstage]
  exact if_neg hgoes

/-- Stage 2: twice KICK_MS without a kick. -/
theorem State.lookoutDr_of_warned {s : State} (hstage : s.tel.firmware.stage = 1) :
    s.lookoutDr = ({ s with
      chron := max s.chron s.tel.firmware.since
      tel := { s.tel with firmware := { s.tel.firmware with stage := 2 } } }.setCause 8).logE 0x0107 0x6001 0
        (lookoutInfo 3 2 0 0) := by
  simp only [State.lookoutDr, hstage]
  rfl

/-- Settles O25: each event's effect is one of the equations above; those of the engines and the firmware let the block go
on, a sample and an edge do not. -/
theorem telemetryEvents : Obligations.TelemetryEvents := by
  unfold Obligations.TelemetryEvents
  intro s hready
  refine ⟨?pace, ?ptp, ?warn, ?engines, ?kick, ?dr⟩
  case pace =>
    intro m v l mean lim old q hold hfull hl hmean hlim hq
    simp only [exec_paceSample, execPaceSample]
    exact ⟨fun h => State.within_becomes hready (State.paceSample_below hold hfull hl hmean hlim hq h),
      fun h harm hen => State.within_becomes hready (State.paceSample_crosses hold hfull hl hmean hlim hq h harm hen),
      fun hen h => State.within_becomes hready (State.paceSample_not_enabled hold hfull hl hmean hlim hq hen h)⟩
  case ptp =>
    intro close hclose
    rw [hclose, exec_ptpSyncEdge, execPtpSyncEdge]
    exact ⟨fun hen hfar => State.within_becomes hready (State.ptpEdge_captured hen hfar),
      fun h => State.within_becomes hready (State.ptpEdge_passed h)⟩
  case warn =>
    intro e k l r since lim g hwait hr hstage
    have hsmall : (BitVec.ofNat 4 r).toNat = r := by rcases hr with ⟨-, rfl⟩ | ⟨-, rfl⟩ <;> rfl
    have hdue : s.lookoutDue e r = since + lim := State.lookoutDue_of_fence hwait (by omega)
    rw [exec_lookoutWarn, execLookoutWarn, hsmall]
    exact State.act_goesOn hready (State.lookoutWarn_of_holds hstage (State.lookoutHolds_of_fence hwait hr) (by rw [hdue]))
  case engines =>
    intro e v t hv ht
    simp only [exec_lookoutStop, execLookoutStop, exec_lookoutFail, execLookoutFail]
    exact ⟨fun h1 h => State.act_goesOn hready (State.lookoutStop_of_holds hv ht h1 h),
      fun h1 h => State.act_goesOn hready (State.lookoutStop_cleared hv h1 h),
      fun h2 h => State.act_goesOn hready (State.lookoutFail_of_not_halted hv ht h2 h),
      fun h2 h => State.act_goesOn hready (State.lookoutFail_halted hv h2 h)⟩
  case kick =>
    rw [exec_firmwareKickTimeout, execFirmwareKickTimeout]
    exact fun hrun hstage => State.act_goesOn hready (State.kickTimeout_of_running hrun hstage)
  case dr =>
    rw [exec_lookoutDr, execLookoutDr]
    exact fun hstage => State.act_goesOn hready (State.lookoutDr_of_warned hstage)

end Sys2Proof.Machine
end

section
/-! PROOFS. The Mover channels and the deep-port slots (O45): what a GO is once its unit is held and free, an equation for
each outcome of a channel's operation and of a slot's, and the statement assembled from them. -/

namespace Sys2Proof.Machine

section
variable {s : State} {e : EngineNo} {i : Nat} {m : Move}

/-! ### GO (R382, R384) -/

/-- A GO of a unit that is held and not BUSY, and whose OP register names the operation, has the unit's own effect. -/
theorem State.act_unitOp {u op : Nat} {f : Nat → State → State} {t : State} (hready : s.ready = true)
    (hheld : s.heldInst e u = some i) (hfree : s.busyInst i = false) (hop : bitsOf (s.unitReg i 0).toNat 0 2 = op)
    (hf : f i s = t) : s.act (fun r => r.unitOp e u op f) = s.goesOn t := by
  refine State.act_goesOn hready ?_
  simp [State.unitOp, State.unitCmd, hheld, hfree, hop, hf]

/-- The status word of a unit that ends with a code and has moved nothing. -/
def endedStat (c : Code) : DWord := BitVec.ofNat 64 (2 ^ 62 + c.bits.toNat * 2 ^ 58)

theorem Move.stat64_ended (c : Code) (hpos : m.pos = 0) (hpois : m.pois = 0) : m.stat64 false true c = endedStat c := by
  simp [Move.stat64, endedStat, hpos, hpois]

theorem slotStat_ended (c : Code) : slotStat c 0 = endedStat c := by
  simp [slotStat, doneStat, endedStat]

/-! ### Mover channels (R382, R383) -/

/-- What a channel shows once it has refused its GO. -/
theorem Move.stat64_of_asked {op : Nat} (c : Code) (hm : m = s.moveAsked i e op) :
    Move.stat64 { m with pos := 0 } false true c = endedStat c :=
  Move.stat64_ended c rfl (by rw [hm, State.moveAsked])

theorem State.moverGo_copy_refused (hm : m = s.moveAsked i e 0)
    (h : m.len = 0 ∨ 2 ^ 26 ≤ m.len ∨ m.src % 64 ≠ 0 ∨ rangesMeet m.src m.dst m.len = true) :
    s.moverGo i e 0 = s.setUnitReg i 0x30 (endedStat .errAccess) := by
  simp only [State.moverGo, ← hm, Move.stat64_of_asked _ hm]
  exact if_pos (by simpa [or_assoc] using h)

theorem State.moverGo_copy_fits (hm : m = s.moveAsked i e 0) (hlen : m.len ≠ 0) (hmax : m.len < 2 ^ 26)
    (hsrc : m.src % 64 = 0) (hmeet : rangesMeet m.src m.dst m.len = false) : s.moverGo i e 0 =
      if s.badDest m.dst m.len = true then (s.setUnitReg i 0x30 (endedStat .errAccess)).noteDest e m.dst m.len
      else (s.unitBusy i).setMove m := by
  simp only [State.moverGo, ← hm, Move.stat64_of_asked _ hm]
  exact if_neg (by simpa [hlen, hsrc, hmeet] using hmax)

theorem State.moverGo_fill_refused (hm : m = s.moveAsked i e 1) (h : m.len = 0 ∨ 2 ^ 26 ≤ m.len) :
    s.moverGo i e 1 = s.setUnitReg i 0x30 (endedStat .errAccess) := by
  simp only [State.moverGo, ← hm, Move.stat64_of_asked _ hm]
  exact if_pos (by simpa using h)

theorem State.moverGo_fill_fits (hm : m = s.moveAsked i e 1) (hlen : m.len ≠ 0) (hmax : m.len < 2 ^ 26) :
    s.moverGo i e 1 =
      if s.badDest m.dst m.len = true then (s.setUnitReg i 0x30 (endedStat .errAccess)).noteDest e m.dst m.len
      else (s.unitBusy i).setMove m := by
  simp only [State.moverGo, ← hm, Move.stat64_of_asked _ hm]
  exact if_neg (by simpa [hlen] using hmax)

/-- A seal takes a free deep-port slot of its engine, and starts where the segment lets it (R327). -/
theorem State.moverGo_seal_starts {d : Nat} {t : State} (hm : m = s.moveAsked i e 2) (hslot : s.heldInst e 1 = some d)
    (hfree : s.busyInst d = false) (hsrc : badSeal m.src m.len = false) (hdst : bitsOf m.dst 31 32 = 0)
    (hstart : s.sealStart (bitsOf m.dst 0 31) i d (m.dst.testBit 63) = (true, t)) :
    s.moverGo i e 2 = ((t.unitBusy i).unitBusy d).setMove m := by
  simp [State.moverGo, State.sealSlot, ← hm, hslot, hfree, hsrc, hdst, hstart]

theorem State.moverGo_seal_refused (hm : m = s.moveAsked i e 2)
    (h : s.heldInst e 1 = none ∨ m.src % 2 ^ 21 ≠ 0 ∨ m.len ≠ 32768) :
    s.moverGo i e 2 = s.setUnitReg i 0x30 (endedStat .errAccess) := by
  simp only [State.moverGo, ← hm, Move.stat64_of_asked _ hm]
  cases hslot : s.sealSlot e with
  | none => simp only
  | some d =>
    have hheld : s.heldInst e 1 ≠ none := fun hnone => by simp [State.sealSlot, hnone] at hslot
    have hbad : badSeal m.src m.len = true := by simpa [badSeal] using h.resolve_left hheld
    simp [hbad]

section
variable (hmove : s.moveOf i = some m) (hseal : ∀ l ∈ s.dti.seals, l.chan ≠ i)
include hmove hseal

theorem State.moverAbort_of_move :
    s.moverAbort i = s.unitEnds i 0x30 ((s.moveDone m).stat64 false false (s.moveCode m)) := by
  have hnone : s.dti.seals.find? (fun l => l.chan == i) = none := by simpa using hseal
  simp only [State.moverAbort, hmove, hnone]

/-- A channel whose lines are all handed over ends once every one is performed. -/
theorem State.moverDone_of_handed {t : State} (hhanded : m.handed = true) (ht : t = s.setMove m)
    (hout : t.unitOut i = false) :
    s.moverDone i = t.unitEnds i 0x30 ((t.moveDone m).stat64 false true (t.moveCode m)) := by
  have hnone : s.dti.seals.find? (fun l => l.chan == i) = none := by simpa using hseal
  simp [State.moverDone, hmove, hnone, hhanded, ← ht, hout]

end

/-! ### Deep-port slots (R384) -/

section
variable {unit buf base op : Nat} {tgt : Bool} (hunit : unit = (s.unitReg i 8).toNat)
  (hbase : base = (s.reg 0x34000C).toNat * 2 ^ 32 + (s.reg 0x340008).toNat)
include hbase

theorem State.reg64_slotBase : s.reg64 0x340008 = base := by
  rw [hbase, State.reg64, Nat.add_comm, Nat.mul_comm]

include hunit

/-- A unit outside SUA_DPBASE and SUA_DPLIM: the GO is refused, whatever its buffer. -/
theorem State.slotGo_outOfRange (h : unit < base ∨ base + (s.reg 0x340010).toNat ≤ unit) :
    s.slotGo i e op = (s.setUnitReg i 0x20 (endedStat .errAccess)).event 0x340300 2 := by
  have hrange : (decide (base ≤ unit) && decide (unit < base + (s.reg 0x340010).toNat)) = false := by
    rcases h with h | h <;> simp [Nat.not_le.mpr, Nat.not_lt.mpr, h]
  simp only [State.slotGo, ← hunit, State.reg64_slotBase hbase, hrange, slotStat_ended]
  rfl

variable (hbuf : buf = (s.unitReg i 0x10).toNat) (htgt : tgt = (s.unitReg i 0).getLsbD 4)
  (hlow : base ≤ unit) (hhigh : unit < base + (s.reg 0x340010).toNat)
include hbuf htgt hlow hhigh

/-- A GO that starts: a READ and a FLUSH go to the deep port at once, a WRITE once its buffer is read. -/
theorem State.slotGo_starts (hop : op = 2 ∨ op < 2 ∧ buf % 4096 = 0)
    (hm : m = { inst := i, engine := e, op := op, src := unit, dst := buf, len := if tgt then 1 else 0, pat := 0
                handed := op != 1, cmd := s.dti.nextCmd }) :
    s.slotGo i e op = if op = 1 then (s.unitBusy i).setMove m
      else ((s.unitBusy i).setMove m).dpPush { op := if op = 0 then 0 else 2, tgt := tgt, unit := BitVec.ofNat 48 unit
                                               owner := .slot i s.dti.nextCmd, level := 4 } := by
  have hok : (op == 2 || buf % 4096 == 0) = true := by rcases hop with h | ⟨-, h⟩ <;> simp [h]
  have hop3 : op ≠ 3 := by omega
  simp only [State.slotGo, ← hunit, ← hbuf, ← htgt, State.reg64_slotBase hbase, hlow, hhigh, hok, hop3, ← hm]
  rfl

end
end

/-- Settles O45: each GO is its unit's own operation, and each clause one of that operation's equations above. -/
theorem moverAndSlots : Obligations.MoverAndSlots := by
  unfold Obligations.MoverAndSlots
  intro s e i hready
  refine ⟨fun hheld hfree => ⟨?copy, ?fill, ?sealing⟩, ?abort, ?done, ?slots⟩
  case copy =>
    intro m hop hm
    rw [exec_mvCopy, execMvCopy]
    refine ⟨fun hlen hmax hsrc hdst hmeet => State.act_unitOp hready hheld hfree hop ?starts, ?refused⟩
    case starts => rw [State.moverGo_copy_fits hm hlen hmax hsrc hmeet, hdst, if_neg Bool.false_ne_true]
    case refused =>
      rintro t rfl
      refine ⟨fun h => State.act_unitOp hready hheld hfree hop (State.moverGo_copy_refused hm h),
        fun hlen hmax hsrc hmeet hdst => State.act_unitOp hready hheld hfree hop ?_⟩
      exact (State.moverGo_copy_fits hm hlen hmax hsrc hmeet).trans (if_pos hdst)
  case fill =>
    intro m hop hm
    rw [exec_mvFill, execMvFill]
    refine ⟨fun hlen hmax hdst => State.act_unitOp hready hheld hfree hop ?starts, ?refused⟩
    case starts => rw [State.moverGo_fill_fits hm hlen hmax, hdst, if_neg Bool.false_ne_true]
    case refused =>
      rintro t rfl
      refine ⟨fun h => State.act_unitOp hready hheld hfree hop (State.moverGo_fill_refused hm h),
        fun hlen hmax hdst => State.act_unitOp hready hheld hfree hop ?_⟩
      exact (State.moverGo_fill_fits hm hlen hmax).trans (if_pos hdst)
  case sealing =>
    intro m hop hm
    rw [exec_mvSeal, execMvSeal]
    exact ⟨fun d t hslot hdfree hsrc hdst hstart =>
        State.act_unitOp hready hheld hfree hop (State.moverGo_seal_starts hm hslot hdfree hsrc hdst hstart),
      fun h => State.act_unitOp hready hheld hfree hop (State.moverGo_seal_refused hm h)⟩
  case abort =>
    intro m hheld hmove hseal
    rw [exec_mvAbort, execMvAbort]
    refine State.act_goesOn hready ?_
    rw [hheld]
    exact State.moverAbort_of_move hmove hseal
  case done =>
    intro ch m t hmove hseal hhanded ht hout
    rw [exec_moverDone, execMoverDone]
    exact State.act_goesOn hready (State.moverDone_of_handed hmove hseal hhanded ht hout)
  case slots =>
    intro unit buf base tgt t m hheld hfree hunit hbuf htgt hm hbase
    simp only [exec_slotDpRead, execSlotDpRead, exec_slotDpWrite, execSlotDpWrite, exec_slotDpFlush, execSlotDpFlush]
    refine ⟨fun hout ht => ?refused, fun hlow hhigh => ⟨fun hop hal => ?read, fun hop hal => ?write, fun hop => ?flush⟩⟩
    case refused =>
      subst ht
      and_intros
      all_goals
        intro hop
        exact State.act_unitOp hready hheld hfree hop (State.slotGo_outOfRange hunit hbase hout)
    all_goals
      subst hm
      refine State.act_unitOp hready hheld hfree hop ?_
    case read => exact State.slotGo_starts hunit hbase hbuf htgt hlow hhigh (.inr ⟨by decide, hal⟩) rfl
    case write => exact State.slotGo_starts hunit hbase hbuf htgt hlow hhigh (.inr ⟨by decide, hal⟩) rfl
    case flush => exact State.slotGo_starts hunit hbase hbuf htgt hlow hhigh (.inl rfl) rfl

end Sys2Proof.Machine
end

section
/-! PROOFS. The configuration commands (O51): a read of MAP_REACH_ENTRY answers its words as they read, which shows beside the
entry the reserved bits that a write before CFG_LOCK left there (R458, log entry 8). -/

namespace Sys2Proof.Machine

/-! ### The read of a Reach entry (R48, R452) -/

/-- A read of the pair's LO word answers the word as it reads, and latches the HI word as it reads. -/
theorem State.exec_reachEntryRead_reads {s : State} {p : Path} (h : s.takesReg p = true) :
    exec (.reachEntryRead p) s = s.reads p (s.view 0x040058)
      (s.setLatch p 0x040058 { s.latch p 0x040058 with hi := some (s.view 0x04005C) }) := by
  rw [exec_reachEntryRead, execReachEntryRead]
  refine State.act_goesOn (State.ready_of_takesReg h) ?_
  rw [State.readReg_of (State.reaches_of_takesReg h) rfl rfl (by decide)]
  rfl

/-- What CFG keeps as the answer of a command. -/
def keptAnswer : Host.Outcome State Fault Refusal → Option RegAnswer
  | .next t => t.cfg.answer
  | .fault _ => none
  | .refused _ => none

/-! ### The counterexample -/

/-- Reset, and then a write of reserved bit 2 of MAP_REACH_ENTRY by the chain. -/
def reservedBitWritten : State :=
  match execReachEntryWrite .chain 4 State.reset with
  | .next t => t
  | .fault _ => State.reset
  | .refused _ => State.reset

/-- The block comes to that state by one command. -/
theorem exec_reset_reservedBit : exec (.reachEntryWrite .chain 4) State.reset = .next reservedBitWritten := rfl

/-- Refutes O51: after a write of reserved bit 2 of MAP_REACH_ENTRY, before CFG_LOCK, a read of the entry answers the word
0x4, where the statement has it answer the entry, 0. -/
theorem not_configCommands : ¬ Obligations.ConfigCommands := by
  unfold Obligations.ConfigCommands
  intro h
  obtain ⟨-, hread, -⟩ := h reservedBitWritten .chain
  have htakes : reservedBitWritten.takesReg .chain = true := by decide +kernel
  have hanswer : keptAnswer (exec (.reachEntryRead .chain) reservedBitWritten) = some ⟨.chain, .ok, 4⟩ := by
    rw [State.exec_reachEntryRead_reads htakes]
    decide +kernel
  rw [hread htakes] at hanswer
  exact absurd hanswer (by decide +kernel)

end Sys2Proof.Machine
end

section
/-! PROOFS. The host ports (O20, O22, O23): one equation for each thing a port does with a request it is handed (log it and
drop it, refuse it in the mode, refuse its fields, let it join those that wait), and the two ways a response comes and goes. -/

namespace Sys2Proof.Machine

/-! ### Modes, opcodes and fields (R57, R439) -/

/-- A mode that serves memory requests serves every opcode. -/
theorem Mode.servesOp_of_serves {m : Mode} (h : m.serves = true) (op : HostOp) : m.servesOp op = true := by
  have hsave : m ≠ .save := by rintro rfl; exact Bool.false_ne_true h
  cases op <;> simp [Mode.servesOp, h, hsave]

/-- The opcodes whose requests are recorded as fences and do not join those that wait (R86, R118). -/
def HostOp.isFence : HostOp → Bool
  | .ofence | .pfence => true
  | _ => false

/-- An atomic carries its OP in RQ_ATTR[2:0] and is aligned to its operand (R57, R58). -/
theorem fieldsOk_atom {q : HostReq} {o : AtomOp} (hattr : q.attr.toNat < 8) (haddr : q.addr.toNat % o.size = 0) :
    fieldsOk (.atom o) q = true := by
  simp [fieldsOk, haddr, Nat.div_eq_of_lt hattr]

/-! ### The hand-over of a request (R53, R55, R62) -/

@[simp] theorem State.shaken_cfg (s : State) (p : Fin 16) : (s.shaken p).cfg = s.cfg := rfl

section
variable {s : State} {op : HostOp} {q : HostReq}

/-- A port that withholds nothing and acknowledges takes a request at once. -/
theorem State.hostArrive_of_acks (hnone : (s.port q.port).unacked = []) (hacks : s.acks q.port = true) :
    s.hostArrive op q = (s.shaken q.port).accept op q := by
  simp [State.hostArrive, hnone, hacks, State.shaken]

theorem State.portTakes_iff : s.portTakes q = true ↔ (s.port q.port).unacked = [] ∧ s.acks q.port = true
    ∧ aget ((s.shaken q.port).port q.port).tags q.tag.toNat = none := by
  simp [State.portTakes, and_assoc]

/-- A request whose tag is in use has no effect but its log entry and its status event (R62). -/
theorem State.accept_of_tag_used (h : (aget ((s.shaken q.port).port q.port).tags q.tag.toNat).isSome = true) :
    (s.shaken q.port).accept op q = (((s.shaken q.port).count 1 0 q.port 1).logE 0x0201 (srcHost q.port) q.addr.toNat
      (q.tag.toNat + op.bits * 2 ^ 16)).event 0x020200 3 := by
  obtain ⟨t, ht⟩ := Option.isSome_iff_exists.mp h
  simp only [State.accept, ht, hpxInfo]

section
variable (hfree : aget ((s.shaken q.port).port q.port).tags q.tag.toNat = none)
include hfree

/-- A tag that is free is recorded, whatever becomes of the request: here the mode does not serve it (R65, R167, R439). -/
theorem State.accept_of_not_served (h : s.cfg.mode.servesOp op = false) :
    (s.shaken q.port).accept op q = (s.tagged op q).respondCode q.port q.tag .errMode := by
  simp only [State.accept, hfree, State.shaken_cfg, h]
  rfl

variable (hserves : s.cfg.mode.servesOp op = true)
include hserves

/-- A request that is served, with an opcode or a field R57 does not allow (R65). -/
theorem State.accept_of_bad_fields (h : fieldsOk op q = false) :
    (s.shaken q.port).accept op q = (s.tagged op q).badField q op.bits op.reserved := by
  simp only [State.accept, hfree, State.shaken_cfg, hserves, h]
  rfl

/-- A request that is served, with the fields R57 allows, joins those that wait (R55, R63). -/
theorem State.accept_joins (hfields : fieldsOk op q = true) (hfence : op.isFence = false) :
    (s.shaken q.port).accept op q = s.joins op q := by
  simp only [State.accept, hfree, State.shaken_cfg, hserves, hfields]
  cases op
  case ofence | pfence => cases hfence
  all_goals rfl

end

/-! ### What a request's command answers -/

section
variable {u : State} (hready : s.ready = true) (hnone : (s.port q.port).unacked = []) (hacks : s.acks q.port = true)
include hready hnone hacks

/-- The command of a request that is taken at once goes on from what its acceptance leaves. -/
theorem State.hostCmd_goesOn (h : (s.shaken q.port).accept op q = u) : s.hostCmd op q = s.goesOn u :=
  State.act_goesOn hready ((State.hostArrive_of_acks hnone hacks).trans h)

/-- The same of the command of a reserved opcode (R65). -/
theorem State.exec_badOpcode_goesOn {code : BitVec 4} (hcode : 0xB ≤ code.toNat)
    (h : (s.shaken q.port).accept (.bad code) q = u) : exec (.badOpcode code q) s = s.goesOn u := by
  rw [exec_badOpcode, execBadOpcode]
  refine State.act_goesOn hready ?_
  have hbad : badCode code q = true := by simp [badCode, hcode]
  rw [if_pos hbad, State.hostArrive_of_acks hnone hacks, h]

end

theorem State.hostCmd_joins (hready : s.ready = true) (htakes : s.portTakes q = true)
    (hserves : s.cfg.mode.servesOp op = true) (hfields : fieldsOk op q = true) (hfence : op.isFence = false := by rfl) :
    s.hostCmd op q = s.goesOn (s.joins op q) := by
  obtain ⟨hnone, hacks, hfree⟩ := State.portTakes_iff.mp htakes
  exact State.hostCmd_goesOn hready hnone hacks (State.accept_joins hfree hserves hfields hfence)

end

/-- Settles O20: each opcode's fields are those `fieldsOk` asks for, and a request with such fields joins those that wait. -/
theorem hostRequestsJoin : Obligations.HostRequestsJoin := by
  unfold Obligations.HostRequestsJoin
  intro s q hready htakes
  have hjoins (op : HostOp) (hserves : s.cfg.mode.serves = true) (hfields : fieldsOk op q = true)
      (hfence : op.isFence = false := by rfl) : s.hostCmd op q = s.goesOn (s.joins op q) :=
    State.hostCmd_joins hready htakes (Mode.servesOp_of_serves hserves op) hfields hfence
  refine ⟨?reads, ?writes, ?atomics, ?cas16, ?hint, ?registers⟩
  case reads =>
    intro hserves hattr haddr
    have hfields : fieldsOk .read q = true := by simp [fieldsOk, hattr, haddr]
    exact ⟨hjoins .read hserves hfields, hjoins .resvLd hserves hfields, hjoins .condSt hserves hfields⟩
  case writes =>
    intro hserves hattr haddr
    have hfields : fieldsOk .write q = true := by simp [fieldsOk, hattr, haddr]
    exact ⟨hjoins .write hserves hfields, hjoins .writeFull hserves hfields⟩
  case atomics =>
    intro hserves hattr haddr
    have hatom (o : AtomOp) (hsize : o.size = 8 := by rfl) : s.hostCmd (.atom o) q = s.goesOn (s.joins (.atom o) q) :=
      hjoins (.atom o) hserves (fieldsOk_atom hattr (by rw [hsize, haddr]))
    exact ⟨hatom .cas8, hatom .fadd, hatom .swap, hatom .and, hatom .or⟩
  case cas16 =>
    intro hserves hattr haddr
    exact hjoins (.atom .cas16) hserves (fieldsOk_atom hattr haddr)
  case hint =>
    intro hserves haddr
    exact hjoins .stageHint hserves (by simp [fieldsOk, haddr])
  case registers =>
    intro hsave hattr
    have hserves : s.cfg.mode.servesOp .cfgRd = true := by simp [Mode.servesOp, hsave]
    have hfields : fieldsOk .cfgRd q = true := by simp [fieldsOk]; omega
    exact ⟨State.hostCmd_joins hready htakes hserves hfields, State.hostCmd_joins (op := .cfgWr) hready htakes hserves hfields⟩

/-- Settles O22: the tag is looked at first, then the mode, then the fields. That a reserved opcode is served in every mode
but Save (log entry 11), where its fields are refused, and that INFO holds no port (log entry 70) are the model's choices. -/
theorem hostRequestsRefused : Obligations.HostRequestsRefused := by
  unfold Obligations.HostRequestsRefused
  intro s q hready hnone hacks
  refine ⟨fun hused => ?used, fun hunused => ?free⟩
  case used =>
    refine ⟨State.hostCmd_goesOn hready hnone hacks ?read, State.hostCmd_goesOn hready hnone hacks ?write⟩
    case read => simpa [HostOp.bits] using State.accept_of_tag_used (op := .read) hused
    case write => simpa [HostOp.bits] using State.accept_of_tag_used (op := .write) hused
  case free =>
    have hfree : aget ((s.shaken q.port).port q.port).tags q.tag.toNat = none := by simpa using hunused
    refine ⟨fun hmode => ⟨?read, ?write⟩, fun hsave => ?cfgRd, fun code hcode hsave => ?reserved⟩
    case read => exact State.hostCmd_goesOn hready hnone hacks (State.accept_of_not_served hfree hmode)
    case write => exact State.hostCmd_goesOn hready hnone hacks (State.accept_of_not_served hfree hmode)
    case cfgRd =>
      exact State.hostCmd_goesOn hready hnone hacks (State.accept_of_not_served hfree (by rw [hsave]; rfl))
    case reserved =>
      have hreserved : (HostOp.bad code).reserved = true := decide_eq_true hcode
      have hserves : s.cfg.mode.servesOp (.bad code) = true := by simp [Mode.servesOp, hreserved, hsave]
      refine State.exec_badOpcode_goesOn hready hnone hacks hcode ?_
      rw [State.accept_of_bad_fields hfree hserves rfl, hreserved]
      rfl

/-! ### Responses and hold slots (R54, R62, R66) -/

section
variable {s : State} {p : Fin 16}

/-- RS_REQ changes with RS_ACK where another response waits: it announces that one. -/
theorem State.responseAck_cons {r : Response} {rest : List Response} (h : (s.port p).egress = r :: rest) :
    s.responseAck p = ((s.setPort p { s.port p with
      egress := rest, tags := adel (s.port p).tags r.tag.toNat, rsAck := !(s.port p).rsAck
      rsReq := if rest = [] then (s.port p).rsReq else !(s.port p).rsReq }).qOut (.hpxEgress p)).count 1 1 p 1 := by
  have hnext : ((s.port p).rsReq != !rest.isEmpty) = if rest = [] then (s.port p).rsReq else !(s.port p).rsReq := by
    cases rest <;> simp
  simp only [State.responseAck, h, hnext]

/-- The hint is that of the moment of the time-out, counted before the request leaves its slot. -/
theorem State.holdExpires_leaf {hd : Held} {l : Nat} {hint : BitVec 16 × State}
    (hheld : (s.port p).held = [hd]) (hon : hd.on = .leaf l)
    (hhint : hint = State.leafHint { s with chron := max s.chron (hd.since + hd.tmo) } l hd.w.no false) :
    s.holdExpires p hd.tag = ((hint.2.setPort p { hint.2.port p with
      held := (hint.2.port p).held.filter fun k => k.tag != hd.tag }).event 0x020200 4).respondDefer p hd.tag hint.1 := by
  have hfind : (s.port p).held.find? (fun k => k.tag == hd.tag) = some hd := by simp [hheld]
  subst hhint
  simp only [State.holdExpires, hfind, State.heldHint, hon]
  rfl

end

/-- Settles O23: both commands go on from the equation above that tells their effect. -/
theorem hostResponses : Obligations.HostResponses := by
  unfold Obligations.HostResponses
  intro s p tag hready
  refine ⟨?acknowledged, ?expired⟩
  case acknowledged =>
    intro r rest h
    rw [exec_hostResponseAck, execHostResponseAck]
    exact State.act_goesOn hready (State.responseAck_cons h)
  case expired =>
    rintro hd l c hheld rfl hon rfl
    refine ⟨_, rfl, ?_⟩
    rw [exec_holdTimeout, execHoldTimeout]
    exact State.act_goesOn hready (State.holdExpires_leaf hheld hon rfl)

end Sys2Proof.Machine
end

section
/-! PROOFS. The stores of an engine (O13): the pieces of a store that lies in one line merge, one after another, into the
entry its first piece opens. -/

namespace Sys2Proof.Machine

/-! ### The bits of masks and lines (R80) -/

/-- Bit i of little-endian bytes is a bit of byte i / 8. -/
theorem testBit_bytesNat (bs : List Byte) (i : Nat) : (bytesNat bs).testBit i = (bs.getD (i / 8) 0).getLsbD (i % 8) := by
  induction bs generalizing i with
  | nil => simp [bytesNat]
  | cons b r ih =>
    have hcons : bytesNat (b :: r) = 2 ^ 8 * bytesNat r + b.toNat := by simp [bytesNat, Nat.add_comm]
    rw [hcons, Nat.testBit_two_pow_mul_add _ b.isLt]
    by_cases hi : i < 8
    · rw [if_pos hi, Nat.div_eq_of_lt hi, Nat.mod_eq_of_lt hi]
      rfl
    · obtain ⟨j, rfl⟩ : ∃ j, i = j + 8 := ⟨i - 8, by omega⟩
      simp [ih]

theorem getLsbD_expandMask (m : BitVec 64) {i : Nat} (hi : i < 512) : (expandMask m).getLsbD i = m.getLsbD (i / 8) := by
  have hbyte : i / 8 < 64 := by omega
  have hones : ∀ j < 8, (0xFF : Byte).getLsbD j = true := by decide
  rw [expandMask, bytesLine, BitVec.getLsbD_ofNat, testBit_bytesNat, List.getD_eq_getElem?_getD, List.getElem?_map,
    List.getElem?_range hbyte, Option.map_some, Option.getD_some, decide_eq_true hi, Bool.true_and]
  split
  · next h => rw [h, hones _ (Nat.mod_lt i (by decide))]
  · next h => rw [Bool.eq_false_of_not_eq_true h]; exact BitVec.getLsbD_zero

theorem getLsbD_mergeLine (old new : Line) (m : BitVec 64) {i : Nat} (hi : i < 512) :
    (mergeLine old new m).getLsbD i = if m.getLsbD (i / 8) then new.getLsbD i else old.getLsbD i := by
  simp only [mergeLine, BitVec.getLsbD_or, BitVec.getLsbD_and, BitVec.getLsbD_not, getLsbD_expandMask m hi]
  cases m.getLsbD (i / 8) <;> simp [hi]

theorem getLsbD_byteMask (off k i : Nat) :
    (byteMask off k).getLsbD i = decide (i < 64 ∧ off ≤ i ∧ i < off + k) := by
  rw [Bool.eq_iff_iff]
  simp only [byteMask, BitVec.getLsbD_ofNat, Nat.testBit_shiftLeft, Nat.testBit_two_pow_sub_one, Bool.and_eq_true,
    decide_eq_true_eq]
  omega

/-- A line that holds the low k bytes of a number from a byte offset on, and zeros. -/
def bytesAt (off k v : Nat) : Line := BitVec.ofNat 512 ((v % 2 ^ (8 * k)) <<< (8 * off))

theorem getLsbD_bytesAt (off k v : Nat) {i : Nat} (hi : i < 512) :
    (bytesAt off k v).getLsbD i = (decide (8 * off ≤ i ∧ i < 8 * (off + k)) && v.testBit (i - 8 * off)) := by
  rw [Bool.eq_iff_iff]
  simp only [bytesAt, BitVec.getLsbD_ofNat, Nat.testBit_shiftLeft, Nat.testBit_mod_two_pow, Bool.and_eq_true,
    decide_eq_true_eq, hi, true_and]
  constructor
  · rintro ⟨h1, h2, h3⟩
    exact ⟨⟨h1, by omega⟩, h3⟩
  · rintro ⟨⟨h1, h2⟩, h3⟩
    exact ⟨h1, by omega, h3⟩

/-- The masks of two runs of bytes, the second behind the first, make the mask of both. -/
theorem byteMask_or_next (off k p : Nat) : byteMask off k ||| byteMask (off + k) p = byteMask off (k + p) := by
  refine BitVec.eq_of_getLsbD_eq fun i hi => ?_
  rw [BitVec.getLsbD_or, getLsbD_byteMask, getLsbD_byteMask, getLsbD_byteMask, Bool.eq_iff_iff]
  simp only [Bool.or_eq_true, decide_eq_true_eq]
  omega

/-- The next p bytes of a number merge behind its low k bytes. -/
theorem mergeLine_bytesAt_next (off k p v : Nat) :
    mergeLine (bytesAt off k v) (bytesAt (off + k) p (v >>> (8 * k))) (byteMask (off + k) p) = bytesAt off (k + p) v := by
  refine BitVec.eq_of_getLsbD_eq fun i hi => ?_
  rw [getLsbD_mergeLine _ _ _ hi, getLsbD_bytesAt _ _ _ hi, getLsbD_bytesAt _ _ _ hi, getLsbD_bytesAt _ _ _ hi,
    getLsbD_byteMask, Nat.testBit_shiftRight]
  by_cases hnew : off + k ≤ i / 8 ∧ i / 8 < off + k + p
  · have hbit : 8 * k + (i - 8 * (off + k)) = i - 8 * off := by omega
    have hnow : 8 * (off + k) ≤ i ∧ i < 8 * (off + k + p) := by omega
    have hall : 8 * off ≤ i ∧ i < 8 * (off + (k + p)) := by omega
    have hmask : i / 8 < 64 ∧ off + k ≤ i / 8 ∧ i / 8 < off + k + p := by omega
    simp only [hmask, hnow, hall, hbit, and_self, decide_true, if_true]
  · have hmask : ¬(i / 8 < 64 ∧ off + k ≤ i / 8 ∧ i / 8 < off + k + p) := fun h => hnew h.2
    have hsame : (8 * off ≤ i ∧ i < 8 * (off + k)) ↔ (8 * off ≤ i ∧ i < 8 * (off + (k + p))) := by omega
    simp only [hmask, hsame, decide_false, Bool.false_eq_true, if_false]

/-! ### Pieces (R98) -/

/-- A piece has at least one byte, and no more than are left. -/
theorem pieceSize_bounds (a : Nat) {n : Nat} (hn : 0 < n) : 1 ≤ pieceSize a n ∧ pieceSize a n ≤ n := by
  unfold pieceSize
  refine List.foldlRecOn (motive := fun m => 1 ≤ m ∧ m ≤ n) _ _ ⟨le_refl 1, hn⟩ fun m hm k hk => ?_
  split
  · next h =>
    simp only [Bool.and_eq_true, decide_eq_true_eq] at h
    have hpos : ∀ k ∈ [2, 4, 8, 16, 32, 64], 1 ≤ k := by decide
    exact ⟨hpos k hk, h.2⟩
  · exact hm

theorem pieceSize_line {a : Nat} (ha : a % 64 = 0) : pieceSize a 64 = 64 := by
  simp [pieceSize, ha]

theorem length_piecesFrom_le (f a n : Nat) : (piecesFrom f a n).length ≤ f := by
  induction f generalizing a n with
  | zero => exact le_refl 0
  | succ f ih =>
    rw [piecesFrom]
    split
    · exact Nat.zero_le _
    · exact Nat.succ_le_succ (ih _ _)

theorem length_eraseDups_le : ∀ l : List Nat, l.eraseDups.length ≤ l.length
  | [] => le_refl 0
  | a :: r => by
    rw [List.eraseDups_cons, List.length_cons, List.length_cons]
    have hrest := length_eraseDups_le (r.filter fun b => !b == a)
    have hfilter := List.length_filter_le (fun b => !b == a) r
    omega
termination_by l => l.length
decreasing_by exact Nat.lt_succ_of_le (List.length_filter_le _ r)

/-! ### A store in one line (R80) -/

/-- One piece of a store enters the buffer, and the bytes behind it are left. -/
def storePiece (now : Nat) (t : Engine × Nat) (p : Nat × Nat) : Engine × Nat :=
  (t.1.putStore now (p.1 / 64) (byteMask (p.1 % 64) p.2) (bytesAt (p.1 % 64) p.2 t.2), t.2 >>> (8 * p.2))

theorem Engine.store_eq_foldl (n : Engine) (now a len v : Nat) :
    n.store now a len v = ((pieces a len).foldl (storePiece now) (n, v)).1 := rfl

/-- The engine whose buffer is one new entry, with the low k bytes of a number at an address. -/
def Engine.holding (n : Engine) (now a v k : Nat) : Engine :=
  { n with
    buffer := [{ id := n.nextSb, line := a / 64, mask := byteMask (a % 64) k, data := bytesAt (a % 64) k v, opened := now }]
    nextSb := n.nextSb + 1 }

section
variable {n : Engine} {now a v : Nat}

/-- Into an empty buffer the first piece opens an entry. -/
theorem storePiece_opens (hempty : n.buffer = []) (p : Nat) :
    storePiece now (n, v) (a, p) = (n.holding now a v p, v >>> (8 * p)) := by
  simp [storePiece, Engine.putStore, Engine.holding, hempty]

/-- A further piece of the line merges into the entry. -/
theorem storePiece_merges {k : Nat} (p : Nat) (hline : a % 64 + k < 64) :
    storePiece now (n.holding now a v k, v >>> (8 * k)) (a + k, p) = (n.holding now a v (k + p), v >>> (8 * (k + p))) := by
  have hdiv : (a + k) / 64 = a / 64 := by omega
  have hmod : (a + k) % 64 = a % 64 + k := by omega
  simp [storePiece, Engine.putStore, Engine.holding, mapIf, SbEntry.merges, hdiv, hmod, byteMask_or_next,
    mergeLine_bytesAt_next, Nat.mul_add, Nat.shiftRight_add]

/-- The pieces that follow all merge into the entry. -/
theorem foldl_storePiece_merges (f k m : Nat) (hfuel : m ≤ f) (hline : a % 64 + k + m ≤ 64) (hwrap : a + 64 < 2 ^ 64) :
    (piecesFrom f (a + k) m).foldl (storePiece now) (n.holding now a v k, v >>> (8 * k))
      = (n.holding now a v (k + m), v >>> (8 * (k + m))) := by
  induction f generalizing k m with
  | zero =>
    obtain rfl : m = 0 := by omega
    rfl
  | succ f ih =>
    rw [piecesFrom]
    split
    · next h => subst h; rfl
    · next h =>
      obtain ⟨hpos, hle⟩ := pieceSize_bounds (a + k) (Nat.pos_of_ne_zero h)
      generalize pieceSize (a + k) m = p at *
      have hnext : (a + k + p) % 2 ^ 64 = a + (k + p) := by omega
      rw [List.foldl_cons, storePiece_merges p (by omega), hnext, ih (k + p) (m - p) (by omega) (by omega)]
      have hsum : k + p + (m - p) = k + m := by omega
      rw [hsum]

/-- A store with its bytes in one line leaves one entry in a buffer that was empty. -/
theorem Engine.store_opens {len : Nat} (hempty : n.buffer = []) (hpos : 0 < len) (hfuel : len - pieceSize a len ≤ 15)
    (hline : a % 64 + len ≤ 64) (hwrap : a + 64 < 2 ^ 64) : n.store now a len v = n.holding now a v len := by
  obtain ⟨_, hle⟩ := pieceSize_bounds a hpos
  rw [Engine.store_eq_foldl, pieces, piecesFrom, if_neg (Nat.ne_of_gt hpos), List.foldl_cons, storePiece_opens hempty]
  generalize pieceSize a len = p at *
  have hnext : (a + p) % 2 ^ 64 = a + p := by omega
  rw [hnext, foldl_storePiece_merges 15 p (len - p) hfuel (by omega) hwrap, Nat.add_sub_cancel' hle]

/-- An empty buffer has room for any store: a store touches no more lines than it has pieces. -/
theorem Engine.storeRoom_of_empty (a len : Nat) (hempty : n.buffer = []) : n.storeRoom a len = true := by
  have hlines : ((pieces a len).map fun p => p.1 / 64).eraseDups.length ≤ 16 :=
    calc ((pieces a len).map fun p => p.1 / 64).eraseDups.length
        ≤ ((pieces a len).map fun p => p.1 / 64).length := length_eraseDups_le _
      _ ≤ 16 := by rw [List.length_map]; exact length_piecesFrom_le 16 a len
  simpa [Engine.storeRoom, hempty] using hlines

end

/-! ### What a store instruction answers -/

theorem inLocal_of_lt {a : Nat} (h : a < 0x00FD000000000000) : inLocal a = false := by
  have hbase : ¬ localBase ≤ a := Nat.not_le.mpr h
  simp [inLocal, hbase]

theorem inUnits_of_lt {a : Nat} (h : a < 0x00FD000000000000) : inUnits a = false := by
  have hbase : ¬ unitBase ≤ a := Nat.not_le.mpr (h.trans (by decide))
  simp [inUnits, hbase]

section
variable {s u : State} {e : EngineNo} (hready : s.ready = true) (hissues : s.issues e = true)
include hready hissues

/-- A legal instruction of an engine that issues has its own effect (R399). -/
theorem State.pilotOp_goesOn {legal : Bool} {f : State → State} (hlegal : legal = true) (hf : f s = u) :
    s.pilotOp e legal f = s.goesOn u :=
  State.act_goesOn hready (by simp [hissues, hlegal, hf])

/-- A store below the windows. -/
theorem State.storeCmd_opens {legal : Bool} {rs1 : BitVec 5} {off : BitVec 13} {a len : Nat} {v : Engine → Nat}
    (hempty : (s.engine e).buffer = []) (ha : a = ((s.engine e).reg rs1 + off.signExtend 64).toNat)
    (hmem : a < 0x00FD000000000000) (hlegal : legal = true) (hpos : 0 < len) (hfuel : len - pieceSize a len ≤ 15)
    (hline : a % 64 + len ≤ 64) :
    s.storeCmd e legal rs1 off len v = s.goesOn (s.opensEntry e a len (v (s.engine e) % 2 ^ (8 * len))) := by
  refine State.pilotOp_goesOn hready hissues hlegal ?_
  rw [Engine.memAddr, ← ha, State.storeOp, inLocal_of_lt hmem, inUnits_of_lt hmem, Engine.storeRoom_of_empty a len hempty]
  simp only [Bool.false_eq_true, Bool.not_true, if_false]
  rw [State.updEngine, Engine.store_opens hempty hpos hfuel hline (by omega)]
  rfl

end

/-- Settles O13: each of the three forms is a store of 1 to 16 bytes, or of a whole line in one piece. -/
theorem storeOpensEntry : Obligations.StoreOpensEntry := by
  unfold Obligations.StoreOpensEntry
  intro s e rd rs1 size off a hready hissues hempty ha hmem
  refine ⟨fun hsize hline => ?st, fun hrd hline => ?stp, fun hrd hline => ?vst⟩
  case st =>
    have hpos : 0 < 2 ^ size.toNat := Nat.two_pow_pos _
    have hmax : 2 ^ size.toNat ≤ 2 ^ 3 := Nat.pow_le_pow_right (by decide) (by omega)
    rw [exec_st, execSt, mSize]
    exact State.storeCmd_opens hready hissues hempty ha hmem (decide_eq_true hsize) hpos (by omega) hline
  case stp =>
    have hlegal : legalPair rd 0 = true := by simp [legalPair, evenReg, hrd]
    have hv : ((s.engine e).reg rd).toNat + ((s.engine e).reg (rd + 1)).toNat * 2 ^ 64 < 2 ^ (8 * 16) := by omega
    obtain ⟨hpiece, -⟩ := pieceSize_bounds a (n := 16) (by decide)
    rw [exec_stp]
    refine (State.storeCmd_opens hready hissues hempty ha hmem hlegal (by decide) (by omega) hline).trans ?_
    rw [Nat.mod_eq_of_lt hv]
  case vst =>
    have hlegal : legalVmem rd 0 = true := by simp [legalVmem, legalSweep, hrd]
    rw [exec_vst]
    refine (State.storeCmd_opens hready hissues hempty ha hmem hlegal (by decide) ?_ (by omega)).trans ?_
    · rw [pieceSize_line hline]; decide
    · rw [Nat.mod_eq_of_lt (BitVec.isLt _)]

end Sys2Proof.Machine
end

section
/-! PROOFS. The answers of the memory port to an engine (O14): one equation for each answer to a load, to a conditional
store and to a store-buffer entry. -/

namespace Sys2Proof.Machine

/-! ### Updates of an engine -/

/-- An update of an engine counts only by what it makes of the engine as it stands. -/
theorem State.updEngine_congr {s : State} {e : Nat} {f g : Engine → Engine} (h : f (s.engine e) = g (s.engine e)) :
    s.updEngine e f = s.updEngine e g := by
  rw [State.updEngine, State.updEngine, h]

/-! ### Loads (R405, R409, R410) -/

section
variable {s : State} {e : Nat} {l : Load} {r : List Load}

/-- What the engine waits for once its oldest access is answered: those still in flight, if there are any. -/
def waitFor (r : List Load) : PWait := if r = [] then .none else .load

section
variable (hloads : (s.engine e).loads = l :: r) (hwant : l.want = []) (hwait : (s.engine e).wait = .load)
include hloads hwant hwait

theorem State.loadData_dropped (h : l.dropped = true) :
    s.loadData e = s.updEngine e fun n => { n with loads := r, wait := waitFor r } := by
  simp [State.loadData, hloads, hwant, hwait, h, waitFor]

theorem State.loadData_good (h : l.dropped = false) (hgood : l.bad = none) :
    s.loadData e = s.updEngine e fun n => { n with loads := r, wait := waitFor r }.takeData l := by
  simp [State.loadData, hloads, hwant, hwait, h, hgood, waitFor]

/-- The loads behind one that faults have no effect. -/
theorem State.loadData_bad {c : Code} (h : l.dropped = false) (hbad : l.bad = some c) :
    s.loadData e = (s.updEngine e fun n =>
      { n with loads := r.map fun x => { x with dropped := true }, wait := waitFor r }).memFault e c l.pc (l.badLine * 64) := by
  simp [State.loadData, hloads, hwant, hwait, h, hbad, waitFor]

end

/-- The line a fault names is that of the first piece that brought no data. -/
theorem Load.badLine_of_find {p : Nat × Nat}
    (h : (pieces l.addr.toNat l.kind.size).find? (fun p => (aget l.got p.1).isNone) = some p) : l.badLine = p.1 / 64 := by
  rw [Load.badLine, h]

/-! ### Conditional stores (R404) -/

section
variable {rd : BitVec 5} {d : DWord} (hloads : (s.engine e).loads = l :: r) (hwait : (s.engine e).wait = .cond)
  (hkind : l.kind = .cond rd d)
include hloads hwait hkind

theorem State.condData_ok (h : (s.engine e).cond = some .ok) : s.condData e = (s.updEngine e fun n =>
    { n with loads := r, cond := none, wait := .none }).updEngine e fun n => n.setG rd 0 := by
  simp [State.condData, hloads, hwait, hkind, h]

theorem State.condData_resvFail (h : (s.engine e).cond = some .resvFail) : s.condData e = (s.updEngine e fun n =>
    { n with loads := r, cond := none, wait := .none }).updEngine e fun n => n.setG rd 3 := by
  simp [State.condData, hloads, hwait, hkind, h]

end

end

/-! ### Store-buffer entries (R80, R84, R87) -/

section
variable {s : State} {e : Nat} {b : SbEntry} {r : List SbEntry}

/-- The answered entry leaves the buffer; one that was not performed is dropped and recorded. -/
theorem State.storeResponse_eq {c : Code} (hbuf : (s.engine e).buffer = b :: r) (hcode : b.code = some c)
    (hid : ∀ x ∈ r, x.id ≠ b.id) :
    s.storeResponse e = if c = .ok then s.updEngine e fun n => { n with buffer := r }
      else (s.updEngine e fun n => { n with buffer := r }).deadStore e b.line c := by
  have hrest : (s.engine e).buffer.filter (fun x => x.id != b.id) = r := by simpa [hbuf] using hid
  have hleft : s.updEngine e (fun n => { n with buffer := n.buffer.filter fun x => x.id != b.id })
      = s.updEngine e fun n => { n with buffer := r } := State.updEngine_congr (by rw [hrest])
  simp only [State.storeResponse, hbuf, List.find?_cons, hcode, Option.isSome_some, Option.getD_some, hleft]

/-- An entry alone in the buffer that still takes merges begins to issue at 256 ns. -/
theorem State.ageIssue_single (hbuf : (s.engine e).buffer = [b]) (hissued : b.issued = false) (hclosed : b.closed = false) :
    s.ageIssue e = { s with chron := max s.chron (b.opened + 256) }.updEngine e fun n =>
      { n with buffer := [{ b with closed := true }] } := by
  have hfind : (s.engine e).buffer.find? (fun b => !b.issued && !b.closed) = some b := by simp [hbuf, hissued, hclosed]
  have hdue : b.opened + 256 ≤ (s.until_ (b.opened + 256)).chron := Nat.le_max_right _ _
  have hclose : mapIf (s.engine e).buffer (fun x => decide (x.opened + 256 ≤ (s.until_ (b.opened + 256)).chron)) SbEntry.close
      = [{ b with closed := true }] := by simp only [hbuf, mapIf, List.map_cons, List.map_nil, hdue, decide_true]; rfl
  rw [State.ageIssue, hfind]
  exact State.updEngine_congr (congrArg (fun l => { s.engine e with buffer := l }) hclose)

end

/-- Settles O14: each answer's effect is one of the equations above. That the loads behind a poisoned one are dropped and
that data is written in order of the oldest (log entry 25) are the model's choices. -/
theorem portAnswers : Obligations.PortAnswers := by
  unfold Obligations.PortAnswers
  intro s e hready
  refine ⟨fun l r hloads => ⟨?load, ?cond⟩, ?store, ?age, ?retry⟩
  case load =>
    rintro w rfl hwant hwait
    rw [exec_pilotLoadData, execPilotLoadData]
    refine ⟨fun hkept hgood => ?good, fun p hkept hbad hfind => ?poison, fun hdrop => ?dropped⟩
    case good => exact State.act_goesOn hready (State.loadData_good hloads hwant hwait hkept hgood)
    case poison =>
      refine State.act_goesOn hready ((State.loadData_bad hloads hwant hwait hkept hbad).trans ?_)
      rw [Load.badLine_of_find hfind]
      rfl
    case dropped => exact State.act_goesOn hready (State.loadData_dropped hloads hwant hwait hdrop)
  case cond =>
    intro rd d c hwait hkind hcond
    rw [exec_conditionalStoreResponse, execConditionalStoreResponse]
    refine ⟨?ok, ?resvFail⟩
    case ok => rintro rfl; exact State.act_goesOn hready (State.condData_ok hloads hwait hkind hcond)
    case resvFail => rintro rfl; exact State.act_goesOn hready (State.condData_resvFail hloads hwait hkind hcond)
  case store =>
    intro b r c hbuf hcode hid
    rw [exec_pilotStoreResponse, execPilotStoreResponse]
    have hresponse := State.storeResponse_eq hbuf hcode hid
    exact ⟨fun hok => State.act_goesOn hready (hresponse.trans (if_pos hok)),
      fun hfail => State.act_goesOn hready (hresponse.trans (if_neg hfail))⟩
  case age =>
    intro b hbuf hissued hclosed
    rw [exec_storeBufferAgeIssue, execStoreBufferAgeIssue]
    exact State.act_goesOn hready (State.ageIssue_single hbuf hissued hclosed)
  case retry =>
    rw [exec_pilotDeferRetry, execPilotDeferRetry]
    refine State.act_goesOn hready ?_
    simp only [State.deferRetry, State.updAtu, mapIf, beq_iff_eq]

end Sys2Proof.Machine
end

section
/-! PROOFS. Fences (O15, O21): what begins and what completes an engine's fence, and how a host's fence is recorded. -/

namespace Sys2Proof.Machine

/-- Zero acts as one. -/
theorem orOne_eq_max (n : Nat) : orOne n = max 1 n := by
  unfold orOne
  split <;> omega

/-! ### The fences of an engine (R86, R87, R119) -/

theorem State.fenceNs_eq (s : State) : s.fenceNs = max 1 (field (s.reg 0x0100C0) 0 8) * 1000000 := by
  rw [State.fenceNs, orOne_eq_max]
  rfl

section
variable {s : State} {e : EngineNo} {level since lim : Nat} {rd : BitVec 5}

/-- A legal fence of an engine that issues: every entry of its store buffer begins to issue, and the engine waits. -/
theorem State.fenceCmd_goesOn {legal : Bool} (hready : s.ready = true) (hissues : s.issues e = true) (kind : Nat)
    (hlim : lim = max 1 (field (s.reg 0x0100C0) 0 8) * 1000000) (hlegal : legal = true) :
    s.fenceCmd e legal kind level rd = s.goesOn (s.updEngine e fun n =>
      { n with buffer := n.buffer.map SbEntry.close, wait := .fence kind level rd s.chron lim, fenceRes := none }) :=
  State.pilotOp_goesOn hready hissues hlegal (by rw [hlim, ← State.fenceNs_eq]; rfl)

/-- An OFENCE completes once no access and no store is unperformed. -/
theorem State.fenceDone_ofence (hwait : (s.engine e).wait = .fence 0 level rd since lim)
    (hperf : (s.engine e).performed = true) :
    s.fenceDone e = (s.updEngine e fun n => { n.next with wait := .none, fenceRes := none }).tracePilot e 4
      { since := since } .ok := by
  simp [State.fenceDone, hwait, hperf]

/-- A PFENCE completes with the status word it was given. -/
theorem State.fenceDone_pfence {v : DWord} (hwait : (s.engine e).wait = .fence 1 level rd since lim)
    (hres : (s.engine e).fenceRes = some v) :
    s.fenceDone e = (s.updEngine e fun n => { n.next.setG rd v with wait := .none, fenceRes := none }).tracePilot e 4
      { since := since } .ok := by
  simp [State.fenceDone, hwait, hres]

/-- A DFENCE completes once nothing is in flight, with the failure record, which it clears. -/
theorem State.fenceDone_dfence (hwait : (s.engine e).wait = .fence 2 level rd since lim)
    (hloads : (s.engine e).loads = []) (hbuf : (s.engine e).buffer = []) :
    s.fenceDone e = (s.updEngine e fun n => { n.next.setG rd n.failRecord with
      wait := .none, fenceRes := none, failCode := .ok, fails := 0, failLine := 0 }).tracePilot e 4
      { since := since } .ok := by
  simp only [State.fenceDone, hwait, hloads, hbuf]
  rfl

end

/-- Settles O15: the instructions begin a fence, and each kind completes by its equation above. -/
theorem pilotFences : Obligations.PilotFences := by
  unfold Obligations.PilotFences
  intro s e rd rs1 lim hready hlim
  refine ⟨fun hissues => ⟨?ofence, ?pfence, ?dfence⟩, fun r level since t hloads hbuf => ?done⟩
  case ofence =>
    rw [exec_pilotOfence, execPilotOfence]
    exact State.fenceCmd_goesOn hready hissues 0 hlim rfl
  case pfence =>
    intro level hlevel
    have hmod : level.toNat % 4 = level.toNat := Nat.mod_eq_of_lt (by omega)
    have hlegal : legalPfence level = true := by simp [legalPfence]; omega
    rw [exec_pilotPfence, execPilotPfence, hmod]
    exact State.fenceCmd_goesOn hready hissues 1 hlim hlegal
  case dfence =>
    rw [exec_dfence, execDfence]
    exact State.fenceCmd_goesOn hready hissues 2 hlim rfl
  case done =>
    have hperf : (s.engine e).performed = true := by simp [Engine.performed, hloads, hbuf]
    rw [exec_pilotFenceDone, execPilotFenceDone]
    exact ⟨fun hwait => State.act_goesOn hready (State.fenceDone_ofence hwait hperf),
      fun v hwait hres => State.act_goesOn hready (State.fenceDone_pfence hwait hres),
      fun hwait => State.act_goesOn hready (State.fenceDone_dfence hwait hloads hbuf)⟩

/-! ### The fences of a host port (R86, R117, R118) -/

@[simp] theorem State.eventIf_atu (s : State) (c : Bool) (r b : Nat) : (s.eventIf c r b).atu = s.atu := by cases c <;> rfl

@[simp] theorem State.eventIf_regs (s : State) (c : Bool) (r b : Nat) : (s.eventIf c r b).regs = s.regs := by cases c <;> rfl

@[simp] theorem State.eventIf_chron (s : State) (c : Bool) (r b : Nat) : (s.eventIf c r b).chron = s.chron := by
  cases c <;> rfl

@[simp] theorem State.count_atu (s : State) (g v i n : Nat) : (s.count g v i n).atu = s.atu := by simp [State.count]

@[simp] theorem State.count_chron (s : State) (g v i n : Nat) : (s.count g v i n).chron = s.chron := by simp [State.count]

@[simp] theorem State.count_regs (s : State) (g v i n : Nat) : (s.count g v i n).regs = s.regs := by simp [State.count]

section
variable (s : State) (op : HostOp) (q : HostReq)

/-- A tagged request has taken the next place in the order of arrival, and no other of ATU's. -/
@[simp] theorem State.tagged_atu : (s.tagged op q).atu = { s.atu with nextNo := s.atu.nextNo + 1 } := by
  simp [State.tagged, State.shaken]

@[simp] theorem State.tagged_chron : (s.tagged op q).chron = s.chron := by simp [State.tagged, State.shaken]

@[simp] theorem State.tagged_reg (off : Nat) : (s.tagged op q).reg off = s.reg off := by
  simp [State.reg, State.tagged, State.shaken]

end

section
variable {s : State} {q : HostReq} {p : Port} (hp : p = (s.shaken q.port).port q.port)
  (hfree : aget ((s.shaken q.port).port q.port).tags q.tag.toNat = none)
  (hserves : s.cfg.mode.serves = true)
include hp hfree hserves

theorem State.accept_ofence (hfields : fieldsOk .ofence q = true) :
    (s.shaken q.port).accept .ofence q = (s.tagged .ofence q).updAtu fun a =>
      { a with ofences := a.ofences ++ [{ port := q.port, tag := q.tag, no := s.atu.nextNo, waitOn := p.unanswered }] } := by
  simp only [State.accept, hfree, State.shaken_cfg, Mode.servesOp_of_serves hserves, hfields, hp]
  rfl

theorem State.accept_pfence (hfields : fieldsOk .pfence q = true) :
    (s.shaken q.port).accept .pfence q = (s.tagged .pfence q).addFence q s.atu.nextNo p.unansweredWrites := by
  simp only [State.accept, hfree, State.shaken_cfg, Mode.servesOp_of_serves hserves, hfields, hp]
  rfl

end

/-- Bit 2 of a number below 8 is set where it is not below 4. -/
theorem getLsbD_two_iff {n : Nat} {x : BitVec n} (h : x.toNat < 8) : x.getLsbD 2 = true ↔ ¬ x.toNat < 4 := by
  rw [BitVec.getLsbD, Nat.testBit_eq_decide_div_mod_eq, decide_eq_true_eq]
  omega

/-- ATTR[2] says whether a PFENCE's stream is its port or its label (R59, R118). -/
theorem State.addFence_tagged {s : State} {q : HostReq} (op : HostOp) (waitOn : List (BitVec 12)) (hattr : q.attr.toNat < 8) :
    (s.tagged op q).addFence q s.atu.nextNo waitOn = (s.tagged op q).updAtu fun a => { a with
      nextFence := s.atu.nextFence + 1
      fences := a.fences ++ [{
        id := s.atu.nextFence, owner := .host q.port q.tag
        stream := if q.attr.toNat < 4 then .port q.port else .label q.label
        level := q.attr.toNat % 4, arrived := s.chron, tmo := max 1 (field (s.reg 0x0C0010) 0 16) * 1000000
        no := s.atu.nextNo, limit := s.atu.nextCov, waitOn := waitOn, target := none }] } := by
  have hstream : (if q.attr.getLsbD 2 then Stream.label q.label else .port q.port)
      = if q.attr.toNat < 4 then .port q.port else .label q.label := by
    simp only [getLsbD_two_iff hattr, ite_not]
  simp only [State.addFence, State.fld, State.tagged_atu, State.tagged_chron, State.tagged_reg, orOne_eq_max, hstream,
    State.updAtu]

/-- Settles O21: a request with the fields its fence asks for is recorded as above. -/
theorem hostFencesRecorded : Obligations.HostFencesRecorded := by
  unfold Obligations.HostFencesRecorded
  intro s q p hready htakes hserves haddr hp
  obtain ⟨hnone, hacks, hfree⟩ := State.portTakes_iff.mp htakes
  refine ⟨fun hattr => ?ofence, fun hattr hlevel => ?pfence⟩
  case ofence =>
    have hfields : fieldsOk .ofence q = true := by simp [fieldsOk, hattr, haddr]
    rw [exec_ofence, execOfence]
    exact State.hostCmd_goesOn hready hnone hacks (State.accept_ofence hp hfree hserves hfields)
  case pfence =>
    have hfields : fieldsOk .pfence q = true := by
      simp [fieldsOk, haddr, Nat.div_eq_of_lt hattr, hlevel]
    rw [exec_pfence, execPfence]
    refine State.hostCmd_goesOn hready hnone hacks ((State.accept_pfence hp hfree hserves hfields).trans ?_)
    exact State.addFence_tagged .pfence p.unansweredWrites hattr

end Sys2Proof.Machine
end

section
/-! PROOFS. Reservations, the granule, the dirty budget and the pins (O26): the effect of a write to each register of the
write path, and of a reservation's end. -/

namespace Sys2Proof.Machine

/-! ### Reservations (R95, R99, R100) -/

section
variable {s : State}

theorem State.resvExpires_of_find {who : ResvId} {r : Resv} (h : s.atu.resv.find? (fun x => x.who == who) = some r) :
    s.resvExpires who = { s with
      chron := max s.chron (r.placed + r.life)
      atu := { s.atu with
        resv := s.atu.resv.filter fun x => x.who != who
        resvPend := s.atu.resvPend.filter fun x => x.who != who } } := by
  rw [State.resvExpires, h]
  rfl

/-- No reservation is held, and no read is to place one. -/
def State.noResv (s : State) : State := s.updAtu fun a => { a with resv := [], resvPend := [] }

/-- ATU_RCLR clears every reservation. -/
theorem State.effect_rclr {w : Word} (h : bit w 0 = true) : s.effect 0x05000C w = (.ok, s.noResv) := by
  show (Code.ok, if bit w 0 then s.noResv else s) = _
  rw [if_pos h]

/-- ATU_RCFG clears every reservation where the granule changes. -/
theorem State.effect_rcfg (w : Word) : s.effect 0x050000 w = (.ok,
    if field w 0 3 = field (s.reg 0x050000) 0 3 then s.setReg 0x050000 w else (s.setReg 0x050000 w).noResv) := rfl

/-! ### The dirty budget and the pins (R113, R126) -/

theorem State.effect_budget (w : Word) : s.effect 0x0C0004 w = (.ok, (s.setReg 0x0C0004 w).plgRefresh) := rfl

theorem State.effect_pinctl (w : Word) : s.effect 0x0C0070 w = (.ok, s.pinCtl w) := rfl

/-- SET and CLR of pins 1 to 3 are writable. -/
theorem bit_pinctl_writable : ∀ j < 3, bit 0xE0E00 (9 + j) = true ∧ bit 0xE0E00 (17 + j) = true := by decide

/-- A write to PLG_PINCTL of one bit: its SET and CLR bits are 0 but for that one. -/
theorem State.bit_newWord_pinctl {m i : Nat} (hi : bit 0xE0E00 i = true) :
    bit (s.newWord 0x0C0070 (BitVec.ofNat 32 (2 ^ m))) i = decide (i = m) := by
  have hlt : i < 32 := by
    by_contra hge
    exact absurd hi (by simp [bit, BitVec.getLsbD_of_ge _ _ (Nat.not_lt.mp hge)])
  rw [bit] at hi
  rw [State.newWord_of (m := 0xE0E00) (by decide), bit, BitVec.getLsbD_or, BitVec.getLsbD_and, BitVec.getLsbD_and,
    BitVec.getLsbD_not, hi, BitVec.getLsbD_ofNat, Nat.testBit_two_pow]
  simp [hlt, eq_comm]

section
variable {f : State → Nat → State} {b : Nat → Bool}

/-- Of three steps, each taken where its bit is set, the one is taken whose bit alone is. -/
theorem foldl_range_three_single (k : Fin 3) (hb : ∀ j < 3, b j = decide (j = k.val)) :
    (List.range 3).foldl (fun t j => if b j then f t j else t) s = f s k.val := by
  fin_cases k <;> simp [List.range_succ, hb]

theorem foldl_range_three_none (hb : ∀ j < 3, b j = false) :
    (List.range 3).foldl (fun t j => if b j then f t j else t) s = s := by
  simp [List.range_succ, hb]

end

section
variable {w : Word} {m : Nat} (k : Fin 3) (hbit : ∀ i, bit 0xE0E00 i = true → bit w i = decide (i = m))
include hbit

/-- SET of one pin, and no CLR. -/
theorem State.pinCtl_set (hm : m = 9 + k.val) : s.pinCtl w = s.setPin (k.val + 1) s.plg.w := by
  have hk := k.isLt
  have hset : ∀ j < 3, bit w (9 + j) = decide (j = k.val) := fun j hj => by
    rw [hbit _ (bit_pinctl_writable j hj).1, decide_eq_decide]; omega
  have hclr : ∀ j < 3, bit w (17 + j) = false := fun j hj => by
    rw [hbit _ (bit_pinctl_writable j hj).2, decide_eq_false_iff_not]; omega
  rw [State.pinCtl, foldl_range_three_none hclr, foldl_range_three_single k hset]

/-- CLR of one pin, and no SET. -/
theorem State.pinCtl_clr (hm : m = 17 + k.val) : s.pinCtl w = s.clearPin (k.val + 1) := by
  have hk := k.isLt
  have hset : ∀ j < 3, bit w (9 + j) = false := fun j hj => by
    rw [hbit _ (bit_pinctl_writable j hj).1, decide_eq_false_iff_not]; omega
  have hclr : ∀ j < 3, bit w (17 + j) = decide (j = k.val) := fun j hj => by
    rw [hbit _ (bit_pinctl_writable j hj).2, decide_eq_decide]; omega
  rw [State.pinCtl, foldl_range_three_none hset, foldl_range_three_single k hclr]

end

end

/-- Settles O26: each write has its register's effect above. That a reservation a read is still to place goes with those
held (log entry 69) is the model's choice. -/
theorem writePathRegisters : Obligations.WritePathRegisters := by
  unfold Obligations.WritePathRegisters
  intro s p
  refine ⟨?expire, ?clearAll, ?granule, ?budget, ?pinSet, ?pinClr⟩
  case expire =>
    intro who r hready hfind
    rw [exec_reservationExpire, execReservationExpire]
    exact State.act_goesOn hready (State.resvExpires_of_find hfind)
  case clearAll =>
    intro hpass
    have hgo : bit (s.newWord 0x05000C 1) 0 = true := by
      rw [State.newWord_of (m := 1) (by decide), bit, BitVec.getLsbD_or]
      simp
    rw [exec_reservationClearAll, execReservationClearAll]
    exact State.act_writeReg hpass (State.effect_rclr hgo)
  case granule =>
    rintro v w hpass rfl
    have heffect := State.effect_rcfg (s := s) (s.newWord 0x050000 v)
    rw [exec_atuRcfgWrite, execAtuRcfgWrite]
    refine ⟨fun hsame => State.act_writeReg hpass ?_, fun hchange => State.act_writeReg hpass ?_⟩
    · rw [heffect, if_pos hsame]
    · rw [heffect, if_neg hchange]; rfl
  case budget =>
    intro v hpass
    rw [exec_plgBudgetWrite, execPlgBudgetWrite]
    exact State.act_writeReg hpass (State.effect_budget _)
  case pinSet =>
    intro k hpass
    rw [exec_pinSet, execPinSet]
    refine State.act_writeReg hpass ?_
    rw [State.effect_pinctl, State.pinCtl_set k (fun _ hi => State.bit_newWord_pinctl hi) rfl]
    rfl
  case pinClr =>
    intro k hpass
    rw [exec_pinClr, execPinClr]
    refine State.act_writeReg hpass ?_
    rw [State.effect_pinctl, State.pinCtl_clr k (fun _ hi => State.bit_newWord_pinctl hi) rfl]
    rfl

end Sys2Proof.Machine
end

section
/-! PROOFS. Drain and the Anchor (O27): the issue of a drain, what the deep port's answer makes of it, the stall of drain,
the timeout of a fence and the release of pins. -/

namespace Sys2Proof.Machine

variable {s : State}

/-! ### Issue (R108–R110) -/

section
variable {x : LogRec} {q : Plg} (hruns : s.drainRuns = true) (hroom : s.plg.drains.length < 1024) (hissue : s.plg.i < s.plg.w)
  (hfree : ∀ d ∈ s.plg.drains, d.retryAt = none ∧ d.leaf ≠ x.leaf) (hentry : aget s.plg.ring s.plg.i = some x)
  (hq : q = if s.plg.markOf x.leaf = some s.plg.i then s.plg.unmark x.leaf else s.plg)
include hruns hroom hissue hfree hentry hq

/-- The entry at I is taken from the mark directory where that names it, I moves on, and the leaf's state decides whether the
entry is read or counts as drained. -/
theorem State.drainIssue_entry : s.drainIssue =
    if s.leafState x.leaf ≠ 0 then { s with plg := { q with i := s.plg.i + 1 } }.credit s.plg.i
    else ({ s with plg := { q with
      i := s.plg.i + 1, drains := q.drains ++ [({ idx := s.plg.i, leaf := x.leaf } : Drain)] } }.qIn .plgDrain x.leaf).drainReads
        s.plg.i x.leaf := by
  have hnoRetry : (s.plg.drains.any fun d => d.retryAt.isSome) = false := by
    simpa using fun d hd => (hfree d hd).1
  have hnoDrain : (s.plg.drains.any fun d => d.leaf == x.leaf) = false := by
    simpa using fun d hd => (hfree d hd).2
  simp only [State.drainIssue, hruns, hnoRetry, hentry, hnoDrain, hq, Nat.not_le.mpr hissue, Nat.not_le.mpr hroom]
  rfl

theorem State.drainIssue_present (hleaf : s.leafState x.leaf = 0) : s.drainIssue =
    ({ s with plg := { q with
      i := s.plg.i + 1, drains := q.drains ++ [({ idx := s.plg.i, leaf := x.leaf } : Drain)] } }.qIn .plgDrain x.leaf).drainReads
        s.plg.i x.leaf := by
  rw [State.drainIssue_entry hruns hroom hissue hfree hentry hq, if_neg (not_not.mpr hleaf)]

theorem State.drainIssue_notPresent (hleaf : s.leafState x.leaf ≠ 0) :
    s.drainIssue = { s with plg := { q with i := s.plg.i + 1 } }.credit s.plg.i := by
  rw [State.drainIssue_entry hruns hroom hissue hfree hentry hq, if_pos hleaf]

end

/-! ### The deep port's answer (R110, R165, R170) -/

/-- A change of the drain of one entry. -/
theorem mapIf_idx (l : List Drain) (k : Nat) (f : Drain → Drain) :
    mapIf l (fun x => x.idx == k) f = l.map fun x => if x.idx = k then f x else x := by
  simp only [mapIf, beq_iff_eq]

section
variable {d : Drain} {k : Nat} (hfind : s.plg.drains.find? (fun d => d.idx == k) = some d)
include hfind

/-- A good answer: the leaf is in the vault, and the entry's charge is credited. -/
theorem State.drainComplete_written (hresult : d.result = some true)
    (hroom : s.leafCode d.leaf = 1 ∨ s.dirtyRoom (s.map.act.leafMapUnit d.leaf) = true) :
    s.drainComplete k = (((s.updBwr fun b => { b with
      vaultTimes := (b.vaultTimes.filter fun t => decide (s.chron < t + 1000000)) ++ [s.chron] }).setLeafCode d.leaf 1).credit
        k).qOut .plgDrain := by
  have hgo : ¬(s.leafCode d.leaf ≠ 1 && !s.dirtyRoom (s.map.act.leafMapUnit d.leaf)) = true := by
    rcases hroom with h | h <;> simp [h]
  simp only [State.drainComplete, hfind, hresult, if_neg hgo]

/-- A failed answer: the entry is drained again, no sooner than 1 ms from now. -/
theorem State.drainComplete_repeats (hresult : d.result = some false) (hmode : s.cfg.mode ≠ .save) :
    s.drainComplete k = s.updPlg fun p => { p with drains := p.drains.map fun x =>
      if x.idx = k then { x with result := none, retryAt := some (s.chron + 1000000) } else x } := by
  simp only [State.drainComplete, hfind, hresult, if_neg hmode, mapIf_idx]

/-- In Save a failed answer gives the leaf up. -/
theorem State.drainComplete_givesUp (hresult : d.result = some false) (hmode : s.cfg.mode = .save)
    (hroom : s.leafCode d.leaf = 2 ∨ s.dirtyRoom (s.map.act.leafMapUnit d.leaf) = true) :
    s.drainComplete k = (s.saveLeafFails k d.leaf).qOut .plgDrain := by
  have hgo : ¬(s.leafCode d.leaf ≠ 2 && !s.dirtyRoom (s.map.act.leafMapUnit d.leaf)) = true := by
    rcases hroom with h | h <;> simp [h]
  simp only [State.drainComplete, hfind, hresult, if_pos hmode, if_neg hgo]

/-- The repetition begins once its time has come, from the first line. -/
theorem State.drainReissue_again {due : Nat} (hdue : d.retryAt = some due) (hruns : s.drainRuns = true) :
    s.drainReissue k = (({ s with chron := max s.chron due }.updPlg fun p => { p with drains := p.drains.map fun (x : Drain) =>
      if x.idx = k then { idx := x.idx, leaf := x.leaf } else x }).drainReads k d.leaf) := by
  simp only [State.drainReissue, hfind, hdue, hruns, mapIf_idx]
  rfl

end

/-! ### Stall, fences and pins (R112, R118, R122) -/

/-- Drain stalls STALL_MS after the last drain that completed. -/
theorem State.drainStall_stalls (hlive : s.plg.d < s.plg.w) (hnew : s.plg.stalled = false) :
    s.drainStall = (({ s with
      chron := max s.chron (s.plg.lastDone + max 1 (field (s.reg 0x0C0000) 4 16) * 1000000)
      plg := { s.plg with stalled := true } }).logE 0x0C01 0x600C 0 0).event 0x0C0100 4 := by
  simp only [State.drainStall, State.stallNs, State.fld, orOne_eq_max, hnew, decide_eq_true hlive]
  rfl

section
variable {f g : PFence} {t : State} (hfind : s.atu.fences.find? (fun x => x.id == f.id) = some f) (hvault : s.bareSave = false)
  (ht : t = { s with chron := max s.chron (f.arrived + f.tmo) }) (hg : g = t.takeTarget f)
include hfind hvault ht hg

/-- A fence whose level its target has not reached ends by timeout. -/
theorem State.fenceTimeout_unmet (h : t.fenceMet g = false) : s.fenceTimeout f.id =
    ((t.logE 0x0C02 (match f.owner with | .host p _ => srcHost p | .engine e => srcEngine e) 0 (g.target.getD 0)).event
      0x0C0100 5).endFence g true := by
  have huntil : s.until_ (f.arrived + f.tmo) = t := ht.symm
  simp only [State.fenceTimeout, hvault, hfind, huntil, ← hg, h]
  rfl

/-- A fence whose level is met at its timeout ends as any other. -/
theorem State.fenceTimeout_met (h : t.fenceMet g = true) : s.fenceTimeout f.id = t.endFence g false := by
  have huntil : s.until_ (f.arrived + f.tmo) = t := ht.symm
  simp only [State.fenceTimeout, hvault, hfind, huntil, ← hg, h]
  rfl

end

/-- The hold timer's end releases pins, and their bitmap is logged with the old A. -/
theorem State.anchorRelease_releases {since : Nat} {t : State} {r : Nat × State} (hheld : s.plg.holdSince = some since)
    (ht : t = { s with chron := max s.chron (since + max 1 (field (s.reg 0x0C000C) 0 16) * 1000000) })
    (hr : r = t.releasePins [0, 1, 2, 3]) (hpins : r.1 ≠ 0) :
    s.anchorRelease = (r.2.logE 0x0C04 0x600C 0 (s.plg.a % 2 ^ 32 + r.1 * 2 ^ 32)).event 0x0C0100 3 := by
  have huntil : s.until_ (since + max 1 (field (s.reg 0x0C000C) 0 16) * 1000000) = t := ht.symm
  have hanchor : t.plg.a = s.plg.a := by rw [ht]
  simp only [State.anchorRelease, hheld, State.fld, orOne_eq_max, huntil, ← hr, if_neg hpins, hanchor]
  rfl

/-- Settles O27: each command's effect is one of the equations above, and lets the block go on. -/
theorem drainAndAnchor : Obligations.DrainAndAnchor := by
  unfold Obligations.DrainAndAnchor
  intro s hready
  refine ⟨?issue, ?answer, ?stall, ?fence, ?anchor⟩
  case issue =>
    intro x q hruns hroom hissue hfree hentry hq
    rw [exec_drainIssue, execDrainIssue]
    exact ⟨fun hleaf => State.act_goesOn hready (State.drainIssue_present hruns hroom hissue hfree hentry hq hleaf),
      fun hleaf => State.act_goesOn hready (State.drainIssue_notPresent hruns hroom hissue hfree hentry hq hleaf)⟩
  case answer =>
    intro d idx hfind
    rw [exec_drainComplete, execDrainComplete, exec_drainReissue, execDrainReissue]
    exact ⟨fun hresult hroom => State.act_goesOn hready (State.drainComplete_written hfind hresult hroom),
      fun hresult hmode => State.act_goesOn hready (State.drainComplete_repeats hfind hresult hmode),
      fun hresult hmode hroom => State.act_goesOn hready (State.drainComplete_givesUp hfind hresult hmode hroom),
      fun _ hdue hruns => State.act_goesOn hready (State.drainReissue_again hfind hdue hruns)⟩
  case stall =>
    intro hlive hnew
    rw [exec_drainStall, execDrainStall]
    exact State.act_goesOn hready (State.drainStall_stalls hlive hnew)
  case fence =>
    intro f g t hfind hvault ht hg
    rw [exec_fenceTimeout, execFenceTimeout]
    exact ⟨fun hunmet => State.act_goesOn hready (State.fenceTimeout_unmet hfind hvault ht hg hunmet),
      fun hmet => State.act_goesOn hready (State.fenceTimeout_met hfind hvault ht hg hmet)⟩
  case anchor =>
    intro since t r hheld ht hr hpins
    rw [exec_anchorReleased, execAnchorReleased]
    exact State.act_goesOn hready (State.anchorRelease_releases hheld ht hr hpins)

end Sys2Proof.Machine
end

section
/-! PROOFS. The frames of the control lane of the twin link (O29): what the checks have found where a frame is taken, one
equation for the effect of each frame, and the statement assembled from them. -/

namespace Sys2Proof.Machine

/-! ### A frame that is taken (R136, R137) -/

theorem State.suspendJob_regs (s : State) : s.suspendJob.regs = s.regs := by
  unfold State.suspendJob
  split
  · split <;> rfl
  · rfl

theorem State.cphJob_flag (s : State) (c : Fin 8) (h off i : Nat) : (s.cphJob c h).flag off i = s.flag off i := by
  have hregs : (s.cphJob c h).regs
      = (if c.val < 5 && s.activeCores ≤ s.cph.jobs.length then s.suspendJob else s).regs := rfl
  rw [apply_ite State.regs, State.suspendJob_regs, ite_self] at hregs
  rw [State.flag, State.flag, State.reg, State.reg, hregs]

section
variable {s a t u : State} {f g : Frame}

/-- Under AUTH a frame without a tag does not open. -/
theorem State.openFrame_tag (h : s.openFrame f = some g) (hauth : s.flag 0x0D0000 30 = true) : f.tag.isSome = true := by
  cases htag : f.tag with
  | some _ => rfl
  | none => simp [State.openFrame, hauth, htag] at h

/-- A frame that is taken has VER 1, and under AUTH a tag. -/
theorem State.arrive_take (h : s.arrive f = (.take g, a)) :
    f.ver = 1 ∧ (s.flag 0x0D0000 30 = true → f.tag.isSome = true) := by
  unfold State.arrive at h
  dsimp only at h
  split at h
  · simp at h
  next hchecks =>
    simp only [Bool.or_eq_true, not_or, bne_iff_ne, not_not] at hchecks
    obtain ⟨⟨-, hver⟩, -⟩ := hchecks
    refine ⟨hver, fun hauth => ?_⟩
    simp only [hauth, Bool.or_true, if_true] at h
    split at h
    · simp at h
    next hopen => exact State.openFrame_tag hopen (by rw [State.cphJob_flag, hauth])

/-- A control frame that is taken: its arrival, its own effect, and what may follow any control frame (R138, R142). -/
theorem State.control_take {typ : BitVec 4} {effect : State → Frame → State} (htyp : f.typ = typ)
    (harr : s.arrive f = (.take g, a)) (ht : t = a.receives s.chron g) (heffect : effect t g = u) :
    s.control f typ effect = u.helloDone.sendCtrl := by
  subst ht heffect
  simp [State.control, State.receives, htyp, harr]

theorem State.own_take {sub : BitVec 4} {effect : State → Frame → State} (htyp : f.typ = 5) (hsub : f.flags = sub)
    (harr : s.arrive f = (.take g, a)) (ht : t = a.receives s.chron g) (heffect : effect t g = u) :
    s.own f sub effect = u.helloDone.sendCtrl := by
  rw [State.own, if_neg (not_not.mpr hsub), State.control_take htyp harr ht heffect]

end

/-! ### FWD_ACK and BEAT (R129, R138) -/

section
variable {s : State} {f : Frame}

section
variable {x : Forward} {ftag : BitVec 12} (hftag : ftag = BitVec.ofNat 12 (field f.arg1 16 12))
  (hfind : s.twn.forwards.find? (fun x => x.ftag == ftag) = some x)
include hftag hfind

theorem State.fwdAckIn_ok (hcode : field f.arg1 12 4 = 0) : s.fwdAckIn f =
    ((s.updTwn fun w => { w with forwards := w.forwards.filter fun y => y.ftag != ftag }).setFwdFate ftag
      (.forwardAcked f.arg0.toNat (bit f.arg1 11))).answerForward x .ok := by
  subst hftag
  simp [State.fwdAckIn, hfind, hcode]

/-- With any other code the write stands at no fate: its requester has the code. -/
theorem State.fwdAckIn_fails {c : Code} (hc : c ≠ .ok) (hcode : field f.arg1 12 4 = c.bits.toNat) : s.fwdAckIn f =
    ((s.updTwn fun w => { w with forwards := w.forwards.filter fun y => y.ftag != ftag }).updAtu fun w => { w with
      covered := w.covered.filter fun y => y.fate != .forwarded ftag }).answerForward x c := by
  subst hftag
  cases c with
  | ok => exact absurd rfl hc
  | _ => simp [State.fwdAckIn, hfind, hcode, Code.bits]

end

/-- A BEAT that asks for nothing again and marks no lane busy. -/
theorem State.beatIn_acks (hflags : f.flags = 0) (h0 : bit f.arg1 0 = false) (h1 : bit f.arg1 1 = false) : s.beatIn f =
    ((s.updTwn fun w => { w with
      peerWpv := bytesNat (f.payload.take 8)
      peerWpl := bytesNat ((f.payload.drop 8).take 8) }).laneAck 0 (f.arg0.extractLsb' 0 32)).laneAck 1
        (f.arg0.extractLsb' 32 32) := by
  simp [State.beatIn, hflags, h0, h1]

/-! ### HELLO (R142) -/

/-- What a HELLO says of the twin (R135). -/
def helloOf (f : Frame) : PeerHello :=
  let w := bytesNat ((f.payload.drop 24).take 8)
  { node := f.arg0, reaches := f.arg1.toNat % 65536, image := BitVec.ofNat 64 (bytesNat (f.payload.take 8))
    peerImage := BitVec.ofNat 64 (bytesNat ((f.payload.drop 8).take 8))
    t0Top := BitVec.ofNat 64 (bytesNat ((f.payload.drop 16).take 8))
    auth := w.testBit 0, anchor := w.testBit 1, stale := w.testBit 2 }

theorem State.helloIn_calling (hlink : s.twn.link = 1) : s.helloIn f =
    if s.helloFits (helloOf f) = true then s.updTwn fun x => { x with hello := some (helloOf f), peerImage := (helloOf f).image }
    else (s.event 0x0D0100 8).linkDown 6 := by
  simp only [State.helloIn, hlink]
  rfl

/-- A HELLO that the checks take is neither of another version nor bare. -/
theorem State.helloArrive_take {a : State} {g : Frame} (harr : s.arrive f = (.take g, a)) :
    s.helloArrive f = s.control f 4 State.helloIn := by
  obtain ⟨hver, htag⟩ := State.arrive_take harr
  have hbare : (s.flag 0x0D0000 30 && f.tag.isNone) = false := by
    cases hauth : s.flag 0x0D0000 30 with
    | false => rfl
    | true => simpa using htag hauth
  simp [State.helloArrive, hver, hbare]

/-! ### Ownership (R143–R147, R151) -/

section
variable {r : Nat} (hr : r = bitsOf f.arg0.toNat 0 16)
include hr

section
variable {e : DWord} (hone : bitsOf f.arg0.toNat 16 16 = 1) (he : e = BitVec.ofNat 64 (bytesNat (f.payload.take 8)))
include hone he

theorem State.ownTableIn_one : s.ownTableIn f =
    if s.twn.link = 2 then ((s.updMap fun m => { m with twinTable := aputD m.twinTable r e 0 }).resolve r e).noteSplit
    else ((s.updMap fun m => { m with twinTable := aputD m.twinTable r e 0 }).updTwn fun w =>
      { w with tableIn := w.tableIn + 1 }).comeUp := by
  subst hr he
  simp [State.ownTableIn, ownRange, hone]

end

theorem State.ownHandoverIn_takes (hlater : serialLater f.epoch (s.reachEpoch r) = true) (htwin : s.reachState r = 2) :
    s.ownHandoverIn f = ((s.setReach r (mkReach f.epoch 1 false true)).updMap fun m => { m with
      twinTable := aputD m.twinTable r (mkReach f.epoch 2 true true) 0 }).pushOwn 2 f.epoch r 1 [] := by
  subst hr
  simp [State.ownHandoverIn, ownRange, hlater, htwin]

theorem State.ownAckIn_ends (h : (s.twn.handover.any fun h => h.reach == r && h.sent && h.epoch == f.epoch) = true) :
    s.ownAckIn f = ((s.updTwn fun w => { w with handover := w.handover.filter fun h => h.reach != r }).updMap fun m => { m with
      twinTable := aputD m.twinTable r (mkReach f.epoch 1 false true) 0 }).event 0x0D0100 10 := by
  subst hr
  simp only [State.ownAckIn, ownRange, h, if_true]

theorem State.ownTakeIn_one (hone : bitsOf f.arg0.toNat 16 16 = 1) (hearlier : epochEarlier (s.reachEpoch r) f.epoch = true)
    (hreaches : r < s.map.act.reaches) (hcarve : r < s.map.act.carveBase) : s.ownTakeIn f =
      ((s.setReach r (mkReach f.epoch 2 (s.reachFwd r) false)).updMap fun m => { m with
        unresolved := m.unresolved.filter (· != r), twinTable := aputD m.twinTable r (mkReach f.epoch 1 false false) 0 }).missReach
          r := by
  subst hr
  simp [State.ownTakeIn, ownRange, natsFrom, hone, hearlier, hreaches, hcarve]

section
variable {u : State} (hu : u = s.dropFrames r f.epoch)
include hu

theorem State.ownFenceIn_notLocal (h : s.reachState r ≠ 1) : s.ownFenceIn f = u := by
  subst hr hu
  simp [State.ownFenceIn, ownRange, h]

theorem State.ownFenceIn_sameEpoch (h : s.reachState r = 1) (he : s.reachEpoch r = f.epoch) :
    s.ownFenceIn f = (u.unresolve r).noteSplit := by
  subst hr hu
  simp [State.ownFenceIn, ownRange, h, he]

/-- A fence at a later epoch demotes this block's Reach. -/
theorem State.ownFenceIn_demotes (h : s.reachState r = 1) (hlater : serialLater f.epoch (s.reachEpoch r) = true) :
    s.ownFenceIn f = ((((u.setReach r (mkReach f.epoch 2 (s.reachFwd r) false)).updMap fun m => { m with
      unresolved := m.unresolved.filter (· != r)
      twinTable := aputD m.twinTable r (mkReach f.epoch 1 false false) 0 }).missReach r).logE 0x0D06 0x5000 0
        (r + f.epoch.toNat * 2 ^ 32)).event 0x0D0100 4 := by
  have hne : s.reachEpoch r ≠ f.epoch := fun he => by simp [serialLater, he] at hlater
  subst hr hu
  simp [State.ownFenceIn, ownRange, h, hlater, hne, srcTwin]

end
end

theorem State.ownSyncIn_eq : s.ownSyncIn f = (s.updTwn fun w => { w with
    syncIn := some (BitVec.ofNat 32 (bytesNat (f.payload.take 4)),
      BitVec.ofNat 32 (bytesNat ((f.payload.drop 4).take 4))) }).syncCheck := rfl

/-! ### FETCH and CTRL (R152, R153, R372) -/

section
variable {leaf : Nat} {v : Option Level × State} (hleaf : leaf = bitsOf f.arg0.toNat 0 34)
  (hv : v = s.admitAs (.fetch leaf) (field (s.reg 0x0D0008) 28 4) 64)
include hleaf

theorem State.fetchArrive_unfit (h : s.fetchable leaf = false) : s.fetchArrive f = s.control f 7 State.fetchIn := by
  subst hleaf
  simp [State.fetchArrive, h]

/-- A leaf that cannot be fetched is refused by a NAK with the FETCH's id. -/
theorem State.fetchIn_refuses (hflags : f.flags = 0) (h : s.fetchable leaf = false) : s.fetchIn f =
    s.ctrlPush (ctrlFrame 7 1 0 (BitVec.ofNat 64 leaf) (BitVec.ofNat 32 (field f.arg1 0 12)) []) := by
  have hid : at_ (field f.arg1 0 12) 0 12 = BitVec.ofNat 32 (field f.arg1 0 12) := by simp [at_, field, bitsOf]
  subst hleaf
  simp [State.fetchIn, hflags, h, hid]

variable (hfit : s.fetchable leaf = true)
include hv hfit

theorem State.fetchIn_reads (hflags : f.flags = 0) :
    s.fetchIn f = v.2.readLeaf leaf false (field f.arg1 0 12) (v.1.getD .normal) := by
  subst hleaf hv
  simp [State.fetchIn, State.fld, hflags, hfit]

theorem State.fetchArrive_held (hnone : v.1 = none) : s.fetchArrive f = v.2 := by
  subst hleaf hv
  simp [State.fetchArrive, State.fld, hfit, hnone]

variable (hsome : v.1 ≠ none)
include hsome

theorem State.fetchArrive_full (h : s.leafRoom leaf = false) : s.fetchArrive f = s := by
  subst hleaf hv
  simp [State.fetchArrive, State.fld, hfit, hsome, h]

theorem State.fetchArrive_fits (h : s.leafRoom leaf = true) : s.fetchArrive f = s.control f 7 State.fetchIn := by
  subst hleaf hv
  simp [State.fetchArrive, State.fld, hfit, hsome, h]

end

/-- The demand of the leaf has been fetched in vain, and R175 chooses again. -/
theorem State.fetchNakIn_chooses {leaf : Nat} (hflags : f.flags = 1)
    (h : aget s.twn.fetches (field f.arg1 0 12) = some leaf) : s.fetchNakIn f =
      ((s.updTwn fun w => { w with fetches := adel w.fetches (field f.arg1 0 12) }).updVlt fun v => { v with
        demands := v.demands.map fun d => if d.leaf = leaf then { d with inFlight := false, fetched := true } else d }).healFails
          leaf := by
  simp [State.fetchNakIn, hflags, h, mapIf]

end

section
variable {s a t : State} {f g : Frame}

/-- A message is for the engine its frame names. -/
theorem State.ctrlIn_take (htyp : f.typ = 8) (harr : s.arrive f = (.take g, a)) (ht : t = a.receives s.chron g)
    (hroom : s.msgRoom (field f.arg1 0 6) = true) :
    s.ctrlIn f = (t.updEngine (field g.arg1 0 6) fun n => { n with
      msgs := n.msgs ++ [(BitVec.ofNat 6 (bitsOf g.arg0.toNat 0 6), g.payload)] }).helloDone.sendCtrl := by
  have hno : ¬(!s.msgRoom (field f.arg1 0 6)) = true := by simp [hroom]
  rw [State.ctrlIn, if_neg hno]
  exact State.control_take htyp harr ht rfl

theorem State.ctrlIn_full (hroom : s.msgRoom (field f.arg1 0 6) = false) : s.ctrlIn f = s := by
  have hfull : (!s.msgRoom (field f.arg1 0 6)) = true := by simp [hroom]
  rw [State.ctrlIn, if_pos hfull]

end

/-- Settles O29: each frame that is taken goes through the common arrival and has one of the effects above. -/
theorem controlFrames : Obligations.ControlFrames := by
  unfold Obligations.ControlFrames
  intro s a t f g r hready harr ht hr
  refine ⟨?fwdAck, ?beat, ?hello, ?table, ?handover, ?ack, ?take, ?fence, ?sync, ?fetch, ?nak, ?ctrl⟩
  case fwdAck =>
    intro x ftag hf hftag hfind
    rw [exec_fwdAck, execFwdAck]
    exact ⟨fun hcode => State.act_goesOn hready (State.control_take hf harr ht (State.fwdAckIn_ok hftag hfind hcode)),
      fun c hc hcode =>
        State.act_goesOn hready (State.control_take hf harr ht (State.fwdAckIn_fails hftag hfind hc hcode))⟩
  case beat =>
    intro hf hflags h0 h1
    rw [exec_beat, execBeat]
    exact State.act_goesOn hready (State.control_take hf harr ht (State.beatIn_acks hflags h0 h1))
  case hello =>
    rintro w h hf hlink rfl hh
    have hsays : h = helloOf g := hh
    have hin := State.helloIn_calling (f := g) hlink
    rw [← hsays] at hin
    rw [exec_hello, execHello]
    refine ⟨fun hfits => State.act_goesOn hready ?_, fun hfits => State.act_goesOn hready ?_⟩
    all_goals rw [State.helloArrive_take harr]
    · exact State.control_take hf harr ht (hin.trans (if_pos hfits))
    · exact State.control_take hf harr ht (hin.trans (if_neg (by simp [hfits])))
  case table =>
    rintro e u hf hflags hone he rfl
    have hin := State.ownTableIn_one (s := t) hr hone he
    rw [exec_ownTable, execOwnTable]
    exact ⟨fun hlink => State.act_goesOn hready (State.own_take hf hflags harr ht (hin.trans (if_neg (by simp [hlink])))),
      fun hlink => State.act_goesOn hready (State.own_take hf hflags harr ht (hin.trans (if_pos hlink)))⟩
  case handover =>
    intro hf hflags hlater htwin
    rw [exec_ownHandover, execOwnHandover]
    exact State.act_goesOn hready (State.own_take hf hflags harr ht (State.ownHandoverIn_takes hr hlater htwin))
  case ack =>
    intro hf hflags hany
    rw [exec_ownAck, execOwnAck]
    exact State.act_goesOn hready (State.own_take hf hflags harr ht (State.ownAckIn_ends hr hany))
  case take =>
    intro hf hflags hone hearlier hreaches hcarve
    rw [exec_ownTake, execOwnTake]
    exact State.act_goesOn hready
      (State.own_take hf hflags harr ht (State.ownTakeIn_one hr hone hearlier hreaches hcarve))
  case fence =>
    intro u hf hflags hu
    rw [exec_ownFence, execOwnFence]
    exact ⟨fun h => State.act_goesOn hready (State.own_take hf hflags harr ht (State.ownFenceIn_notLocal hr hu h)),
      fun h he => State.act_goesOn hready (State.own_take hf hflags harr ht (State.ownFenceIn_sameEpoch hr hu h he)),
      fun h hlater => State.act_goesOn hready (State.own_take hf hflags harr ht (State.ownFenceIn_demotes hr hu h hlater))⟩
  case sync =>
    intro hf hflags
    rw [exec_ownSyncDone, execOwnSyncDone]
    exact State.act_goesOn hready (State.own_take hf hflags harr ht State.ownSyncIn_eq)
  case fetch =>
    intro leaf v w hf hflags hgflags hleafg hleaff hv hw
    have hexec : exec (.fetch f) s = s.act fun t => t.fetchArrive f := by
      rw [exec_fetch, execFetch, hflags]; rfl
    rw [hexec]
    refine ⟨fun hfit hnone => ?held, fun hfit hsome hfull => ?full, fun hfit hsome hroom htfit => ?reads, fun hunfit htunfit =>
      ?refused⟩
    case held => exact State.act_goesOn hready (State.fetchArrive_held hleaff hv hfit hnone)
    case full => exact State.act_goesOn hready (State.fetchArrive_full hleaff hv hfit hsome hfull)
    case reads =>
      refine State.act_goesOn hready ((State.fetchArrive_fits hleaff hv hfit hsome hroom).trans ?_)
      exact State.control_take hf harr ht (State.fetchIn_reads hleafg hw htfit hgflags)
    case refused =>
      refine State.act_goesOn hready ((State.fetchArrive_unfit hleaff hunfit).trans ?_)
      exact State.control_take hf harr ht (State.fetchIn_refuses hleafg hgflags htunfit)
  case nak =>
    intro leaf hf hflags hgflags hget
    rw [exec_fetchNak, execFetchNak, hflags]
    exact State.act_goesOn hready (State.control_take hf harr ht (State.fetchNakIn_chooses hgflags hget))
  case ctrl =>
    rintro e hf rfl
    rw [exec_ctrl, execCtrl]
    exact ⟨fun hroom => State.act_goesOn hready (State.ctrlIn_take hf harr ht hroom),
      fun hroom => State.act_goesOn hready (State.ctrlIn_full hroom)⟩

end Sys2Proof.Machine
end

section
/-! PROOFS. The timers of the twin link (O30): an equation for each timer where it is due, in the terms of the registers it
takes its time from. -/

namespace Sys2Proof.Machine

section
variable {s : State}

/-! ### BEAT and HELLO (R138, R142) -/

theorem State.heartbeat_due (hlink : s.twn.link ≠ 0) (hdue : s.twn.beatDue = true) : s.heartbeat = s.sendBeat := by
  rw [State.heartbeat, if_neg hlink, if_pos hdue]

theorem State.heartbeat_timed (hlink : s.twn.link ≠ 0) (hdue : s.twn.beatDue = false) : s.heartbeat =
    { s with chron := max s.chron (s.twn.lastBeat + max 1 (field s.twn.lcfg 16 8) * 1000) }.sendBeat := by
  rw [State.heartbeat, if_neg hlink, if_neg (by simp [hdue]), orOne_eq_max]
  rfl

/-- Bring-up is not over: no HELLO of the twin has come, or it has not acknowledged this block's. -/
theorem State.helloResend_again (hlink : s.twn.link = 1) (h : s.twn.hello = none ∨ s.twn.helloAcked = false) :
    s.helloResend = { s with chron := max s.chron (s.twn.lastHello + 100000) }.sendHello := by
  have hopen : (s.twn.hello.isSome && s.twn.helloAcked) = false := by rcases h with h | h <;> simp [h]
  rw [State.helloResend, if_pos (by simp [hlink, hopen])]
  rfl

/-! ### Timeouts (R130, R139, R140) -/

/-- A frame that waits for an epoch its Reach has not reached. -/
theorem State.epochTimeout_ends {b t k line : Nat} {f : Frame} (hwait : (s.lane b).waiting = some (f, t, k))
    (hline : line = if f.typ = 1 then bitsOf f.arg0.toNat 24 34 * 64 else bitsOf f.arg0.toNat 0 40)
    (hheld : ¬(f.typ = 2 ∧ k = 1)) (hne : f.epoch ≠ s.reachEpoch (reachOfLine line))
    (hlater : epochEarlier f.epoch (s.reachEpoch (reachOfLine line)) = false) :
    s.epochTimeout b = { s with chron := max s.chron (t + 1000000) }.linkDown 4 := by
  have hno : handedOver f k = false := by simpa [handedOver] using hheld
  simp only [State.epochTimeout, hwait, ← hline, hno, hlater]
  exact if_pos (by simpa using hne)

theorem State.retryTimeout_goesBack {b : Nat} (hlink : s.twn.link ≠ 0) (hretry : (s.lane b).retry ≠ []) :
    s.retryTimeout b = { s with
      chron := max s.chron (max (s.lane b).oldestAt (s.lane b).busyAt
        + max 1 (field (s.reg 0x0D0008) 16 8) * 1000) }.goBack b := by
  have hrto : s.rtoNs = max 1 (field (s.reg 0x0D0008) 16 8) * 1000 := by rw [State.rtoNs, orOne_eq_max, State.fld]
  rw [State.retryTimeout, if_neg (by simpa [hretry] using hlink), hrto]
  rfl

/-- Silence lasts as long as the link's limit, and at least two beats. -/
theorem State.silent_down (hlink : s.twn.link ≠ 0) : s.silent = { s with
    chron := max s.chron (s.twn.lastControl
      + max (field s.twn.lcfg 0 16) (2 * max 1 (field s.twn.lcfg 16 8)) * 1000) }.linkDown 1 := by
  rw [State.silent, if_neg hlink, orOne_eq_max]
  rfl

end

/-- Settles O30: each timer that is due has its effect above. -/
theorem linkTimers : Obligations.LinkTimers := by
  unfold Obligations.LinkTimers
  intro s hready
  refine ⟨?due, ?timed, ?hello, ?epoch, ?retry, ?silent⟩
  case due =>
    intro hlink hdue
    rw [exec_heartbeat, execHeartbeat]
    exact State.act_goesOn hready (State.heartbeat_due hlink hdue)
  case timed =>
    intro hlink hdue
    rw [exec_heartbeat, execHeartbeat]
    exact State.act_goesOn hready (State.heartbeat_timed hlink hdue)
  case hello =>
    intro hlink hopen
    rw [exec_helloResend, execHelloResend]
    exact State.act_goesOn hready (State.helloResend_again hlink hopen)
  case epoch =>
    intro lane f t k line hwait hline hheld hne hlater
    rw [exec_epochWait, execEpochWait]
    exact State.act_goesOn hready (State.epochTimeout_ends hwait hline hheld hne hlater)
  case retry =>
    intro lane hlink hretry
    rw [exec_retryTimeout, execRetryTimeout]
    exact State.act_goesOn hready (State.retryTimeout_goesBack hlink hretry)
  case silent =>
    intro hlink
    rw [exec_silentTimeout, execSilentTimeout]
    exact State.act_goesOn hready (State.silent_down hlink)

end Sys2Proof.Machine
end

section
/-! PROOFS. The firmware's controls of the twin link (O31): what a write to each control register has for an effect, the
handover and the grant, and the steps of a Resync. -/

namespace Sys2Proof.Machine

/-! ### Writable bits (R7) -/

theorem field_eq_of_bits {v w : Word} {lo n : Nat} (h : ∀ i < n, bit v (lo + i) = bit w (lo + i)) : field v lo n = field w lo n := by
  refine Nat.eq_of_testBit_eq fun i => ?_
  simp only [field, bitsOf, Nat.testBit_mod_two_pow, Nat.testBit_shiftRight]
  by_cases hi : i < n
  · have hbit := h i hi
    simp only [bit, BitVec.getLsbD] at hbit
    rw [hbit]
  · simp [hi]

section
variable {s : State} {off : Nat} {m v : Word}
  (hspec : (regSpec off).map (fun r => r.rw ||| r.lk ||| r.wo1 ||| r.w1p ||| r.wo) = some m)
include hspec

theorem State.bit_newWord {i : Nat} (hi : bit m i = true) : bit (s.newWord off v) i = bit v i := by
  rw [bit] at hi
  rw [State.newWord_of hspec, bit, bit, BitVec.getLsbD_or, BitVec.getLsbD_and, BitVec.getLsbD_and, BitVec.getLsbD_not, hi]
  simp

theorem State.field_newWord {lo n : Nat} (h : ∀ i < n, bit m (lo + i) = true) :
    field (s.newWord off v) lo n = field v lo n :=
  field_eq_of_bits fun i hi => State.bit_newWord hspec (h i hi)

end

/-! ### The control registers (R142, R144, R145) -/

section
variable {s : State}

/-- A write to TWN_CTL has the effect of the bits written. -/
theorem State.effect_twnCtl (v : Word) : s.effect 0x0D000C (s.newWord 0x0D000C v) = (.ok, s.twnCtl v) := by
  have hbit : ∀ i, bit 7 i = true → bit (s.newWord 0x0D000C v) i = bit v i := fun i hi =>
    State.bit_newWord (by decide) hi
  have heffect : s.effect 0x0D000C (s.newWord 0x0D000C v) = (.ok, s.twnCtl (s.newWord 0x0D000C v)) := rfl
  rw [heffect, State.twnCtl, hbit 0 (by decide), hbit 1 (by decide), hbit 2 (by decide), ← State.twnCtl]

theorem State.effect_hover (reach : BitVec 16) :
    s.effect 0x0D0014 (s.newWord 0x0D0014 (0x80000000 ||| reach.setWidth 32)) = (.ok, s.hover reach.toNat) := by
  have hspec : (regSpec 0x0D0014).map (fun r => r.rw ||| r.lk ||| r.wo1 ||| r.w1p ||| r.wo) = some 0x8000FFFF := by decide
  have hgo : bit (s.newWord 0x0D0014 (0x80000000 ||| reach.setWidth 32)) 31 = true := by
    rw [State.bit_newWord hspec (by decide), bit, BitVec.getLsbD_or]
    rfl
  have hreach : field (s.newWord 0x0D0014 (0x80000000 ||| reach.setWidth 32)) 0 16 = reach.toNat := by
    rw [State.field_newWord hspec (by decide), field, bitsOf, BitVec.toNat_or, Nat.shiftRight_zero, Nat.or_mod_two_pow]
    simpa using reach.isLt
  have heffect : ∀ w, s.effect 0x0D0014 w = (.ok, if bit w 31 then s.hover (field w 0 16) else s) := fun _ => rfl
  rw [heffect, if_pos hgo, hreach]

theorem State.effect_grantGo : s.effect 0x0D003C (s.newWord 0x0D003C 1) = (.ok, s.grantGo) := by
  have hgo : bit (s.newWord 0x0D003C 1) 0 = true := State.bit_newWord (m := 1) (by decide) (by decide)
  have heffect : ∀ w, s.effect 0x0D003C w = (.ok, if bit w 0 then s.grantGo else s) := fun _ => rfl
  rw [heffect, if_pos hgo]

/-! ### UP (R142, R346) -/

theorem State.twinUp_idle (h : bit (s.reg 0x0D0000) 31 = false ∨ s.twn.link ≠ 0) : s.twinUp = s := by
  have hno : (s.flag 0x0D0000 31 && s.twn.link == 0) = false := by
    rw [← beq_eq_false_iff_ne] at h
    rcases h with h | h
    · rw [State.flag, h, Bool.false_and]
    · rw [h, Bool.and_false]
  rw [State.twinUp, hno]
  rfl

section
variable {k : Nat} (hon : bit (s.reg 0x0D0000) 31 = true) (hdown : s.twn.link = 0) (hk : k = s.sessionSlot)
include hon hdown hk

theorem State.twinUp_calls (hfresh : (s.keySlot k).fresh = true) (hbound : s.boundSlot k = false) : s.twinUp =
    ((s.setKeySlot k { s.keySlot k with fresh := false }).updTwn fun t => { t with
      link := 1, lcfg := s.reg 0x0D0004, lsel := field (s.reg 0x0D0000) 4 4, staleRd := bit (s.reg 0x0D0000) 29
      lanes := [{}, {}, {}], splitBrain := false, lastControl := s.chron, lastBeat := s.chron, tableIn := 0
      tableOut := false }).sendHello := by
  subst hk
  simp [State.twinUp, State.flag, State.fld, hon, hdown, hfresh, hbound]

theorem State.twinUp_refused (h : (s.keySlot k).fresh = false ∨ s.boundSlot k = true) :
    s.twinUp = (s.logE 0x0B03 0x600B 0 k).event 0x0B0300 7 := by
  have hbad : (!(s.keySlot k).fresh || s.boundSlot k) = true := by rcases h with h | h <;> simp [h]
  subst hk
  simp [State.twinUp, State.flag, hon, hdown, hbad, srcInt]

end

/-! ### The handover (R144) -/

section
variable {r : Nat}

theorem State.hover_begins (hup : s.twn.link = 2) (hlocal : s.reachState r = 1) (hstep : s.reachInStep r = true)
    (hres : s.map.unresolved.contains r = false) : s.hover r =
      (s.setReach r (mkReach (s.reachEpoch r + 1) 2 true true)).updTwn fun t =>
        { t with handover := t.handover ++ [{ reach := r, epoch := s.reachEpoch r + 1 }] } := by
  rw [State.hover, if_pos (by rw [hup, hlocal, hstep, hres]; rfl)]

theorem State.hover_refused
    (h : s.twn.link ≠ 2 ∨ s.reachState r ≠ 1 ∨ s.reachInStep r = false ∨ s.map.unresolved.contains r = true) :
    s.hover r = s.event 0x0D0100 11 := by
  have hno : (s.twn.link == 2 && s.reachState r == 1 && s.reachInStep r && !s.map.unresolved.contains r) = false := by
    rw [← beq_eq_false_iff_ne, ← beq_eq_false_iff_ne] at h
    rcases h with h | h | h | h <;>
      simp only [h, Bool.false_and, Bool.and_false, Bool.not_true]
  rw [State.hover, hno, if_neg Bool.false_ne_true]

/-- Nothing of the Reach is still to be sent or acknowledged: OWN HANDOVER goes out. -/
theorem State.handoverSend_goes {h : Handover} (hfind : s.twn.handover.find? (fun x => x.reach == r && !x.sent) = some h)
    (hout : s.twn.out = []) (hretry : ∀ l ∈ s.twn.lanes, l.retry = []) :
    s.handoverSend r = ((s.pushOwn 1 h.epoch r 1 []).updTwn fun t => { t with
      handover := t.handover.map fun x => if x.reach = r then { x with sent := true } else x }).sendCtrl := by
  have hacked : (s.twn.lanes.any fun l => l.retry.any fun o => o.frame.typ == 1 && o.reach == some r) = false := by
    rw [List.any_eq_false]
    intro l hl
    simp [hretry l hl]
  simp only [State.handoverSend, hfind, hout, hacked, mapIf, beq_iff_eq]
  rfl

end

/-! ### The grant (R145) -/

section
variable {e : Word} {r : Nat}

theorem State.grantOne_applies (x : Nat × Nat) (hreaches : r < s.map.act.reaches) (hcarve : r < s.map.act.carveBase)
    (hst : s.reachState r = 1 ∨ s.reachState r = 2) (hlater : serialLater e (s.reachEpoch r) = true) :
    s.grantOne e x r = ((x.1 + 1, x.2), ((((((s.setReach r (mkReach e 1 false false)).updMap fun m => { m with
      unresolved := m.unresolved.filter (· != r) }).joinCopy r).missReach r).updTwn fun t =>
        { t with handover := t.handover.filter fun h => h.reach != r }).eventIf
          (s.twn.handover.any fun h => h.reach == r) 0x0D0100 11)) := by
  have howned : (s.reachState r == 1 || s.reachState r == 2) = true := by simpa using hst
  simp [State.grantOne, hreaches, hcarve, howned, hlater]

theorem State.grantOne_passes (x : Nat × Nat) (hlater : serialLater e (s.reachEpoch r) = false) :
    s.grantOne e x r = ((x.1, x.2 + 1), s) := by
  simp [State.grantOne, hlater]

/-- A grant of one Reach with the link not UP. -/
theorem State.grantGo_one {a j : Nat} {u : State} (hr : field (s.reg 0x0D0030) 0 16 = r) (hn : field (s.reg 0x0D0034) 0 17 = 1)
    (he : e = s.reg 0x0D0038) (hdown : s.twn.link ≠ 2) (hgrant : s.grantOne e (0, 0) r = ((a, j), u)) :
    s.grantGo = (u.updTwn fun t => { t with grantPend := some (a, j, e) }).sendCtrl := by
  have hone : natsFrom r 1 = [r] := by simp [natsFrom]
  subst he
  simp only [State.grantGo, State.fld, hr, hn, hone, List.foldl_cons, List.foldl_nil, hgrant, if_neg hdown]

/-- TWN_GRANT_RES holds both counts. -/
theorem at_or_at {a j : Nat} (ha : a < 2 ^ 16) (hj : j < 2 ^ 16) :
    at_ j 16 16 ||| at_ a 0 16 = BitVec.ofNat 32 (j * 2 ^ 16 + a) := by
  rw [at_, at_, Nat.mod_eq_of_lt ha, Nat.mod_eq_of_lt hj, Nat.shiftLeft_zero, ← BitVec.ofNat_or,
    ← Nat.shiftLeft_add_eq_or_of_lt ha, Nat.shiftLeft_eq]

theorem State.grantDone_counts {a j : Nat} (hpend : s.twn.grantPend = some (a, j, e)) (ha : a < 2 ^ 16) (hj : j < 2 ^ 16) :
    s.grantDone = (s.updTwn fun t => { t with
      grantPend := none, grantRes := BitVec.ofNat 32 (j * 2 ^ 16 + a) }).event 0x0D0100 9 := by
  simp only [State.grantDone, hpend, at_or_at ha hj]

end

/-! ### The Resync (R148, R149, R151) -/

section
variable {r next : Resync} (hup : s.twn.link = 2) (hresync : s.twn.resync = some r) (hwalked : r.walked = false)
include hup hresync hwalked

theorem State.resyncStep_unpinned (hpin : aget s.plg.pins 0 = none) : s.resyncStep = s.restartFull := by
  simp [State.resyncStep, hresync, hup, hwalked, hpin]

variable (hpin : (aget s.plg.pins 0).isSome = true) (hread : ∀ x ∈ s.twn.reading, x.resync = false)
include hpin hread

omit hup hresync hwalked in
/-- A pin is held and no leaf is being read: the step looks at the copy set. -/
theorem State.resync_free : ¬(aget s.plg.pins 0).isNone = true ∧ ¬(s.twn.reading.any fun x => x.resync) = true := by
  exact ⟨by simpa [Option.isSome_iff_ne_none] using hpin, by simpa using hread⟩

section
variable (hdone : ∀ q ∈ s.toCopy, q ∈ r.done)
include hdone

omit hup hresync hwalked hpin hread in
/-- Every Reach of the copy set has been copied: the one a Resync has begun is none of those left. -/
theorem State.toCopy_left_nil : ((r.reaches.filter fun q => (s.toCopy.filter fun q => !r.done.contains q).contains q)
    ++ s.toCopy.filter fun q => !r.done.contains q) = [] := by
  have hleft : (s.toCopy.filter fun q => !r.done.contains q) = [] := by simpa using hdone
  rw [hleft]
  simp

theorem State.resyncStep_ends (hw : s.plg.w ≤ r.walk) : s.resyncStep =
    ((s.localReaches.foldl (fun t q => t.setInStep q true) s).updMap fun m => { m with copySet := [] }).updTwn fun t =>
      { t with resync := some { r with reaches := [], leaf := 0, walked := true } } := by
  obtain ⟨hpinned, hidle⟩ := State.resync_free hpin hread
  simp only [State.resyncStep, hresync, hup, hwalked, if_neg hpinned, if_neg hidle, State.toCopy_left_nil hdone, if_pos hw,
    State.walkDone]
  rfl

/-- The walk goes past an index that holds no entry, or the entry of a Reach this block does not own. -/
theorem State.resyncStep_passes (hnext : next = { r with reaches := [], leaf := 0, walk := r.walk + 1 })
    (hw : r.walk < s.plg.w) (hring : ∀ x, aget s.plg.ring r.walk = some x → s.reachState (reachOfLeaf x.leaf) ≠ 1) :
    s.resyncStep = (s.updTwn fun t => { t with resync := some next }).pin0 := by
  obtain ⟨hpinned, hidle⟩ := State.resync_free hpin hread
  simp only [State.resyncStep, hresync, hup, hwalked, if_neg hpinned, if_neg hidle, State.toCopy_left_nil hdone,
    if_neg (Nat.not_le.mpr hw), hnext]
  cases hentry : aget s.plg.ring r.walk with
  | none => rfl
  | some x =>
    simp only [decide_eq_false (hring x hentry)]
    rfl

end

/-- The first leaf of the first Reach left in the copy set. -/
theorem State.resyncStep_copies {q : Nat} {l : List Nat} {c : Bool × State}
    (hleft : (s.toCopy.filter fun q => !r.done.contains q) = q :: l) (hnone : r.reaches = [])
    (hin : q * 2 ^ 18 < s.map.act.dataLeaves) (hroom : s.leafRoom (q * 2 ^ 18) = true)
    (hleaf : s.leafState (q * 2 ^ 18) = 0) (hc : c = s.copyLeaf (q * 2 ^ 18)) : s.resyncStep =
      if c.1 then c.2.updTwn fun t => { t with resync := some { r with reaches := [q], leaf := 1 } } else c.2 := by
  obtain ⟨hpinned, hidle⟩ := State.resync_free hpin hread
  have hout : ¬q * 2 ^ 18 ≥ s.map.act.dataLeaves := Nat.not_le.mpr hin
  simp only [State.resyncStep, hresync, hup, hwalked, if_neg hpinned, if_neg hidle, hleft, hnone, List.filter_nil,
    List.nil_append, List.head?_nil, reduceCtorEq, beq_iff_eq, if_false, Nat.add_zero, if_neg hout, State.resyncLeaf, hroom, hleaf,
    ← hc]
  rfl

end
end

/-- Settles O31: each write has its register's effect above, and each step its own. -/
theorem twinFirmware : Obligations.TwinFirmware := by
  unfold Obligations.TwinFirmware
  intro s p
  refine ⟨?up, ?upIdle, ?down, ?full, ?hover, ?handover, ?grant, ?granted, ?resync⟩
  case up =>
    intro k hpass hon hdown hk
    rw [exec_twnUp, execTwnUp]
    refine ⟨fun hfresh hbound => State.act_writeReg hpass ?_, fun h => State.act_writeReg hpass ?_⟩
    · rw [State.effect_twnCtl, ← State.twinUp_calls hon hdown hk hfresh hbound]; rfl
    · rw [State.effect_twnCtl, ← State.twinUp_refused hon hdown hk h]; rfl
  case upIdle =>
    intro hpass h
    rw [exec_twnUp, execTwnUp]
    refine State.act_writeReg hpass ?_
    have heffect : s.effect 0x0D000C (s.newWord 0x0D000C 1) = (.ok, s.twinUp) := State.effect_twnCtl 1
    rw [heffect, State.twinUp_idle h]
  case down =>
    intro hpass
    rw [exec_twnDown, execTwnDown]
    exact State.act_writeReg hpass (State.effect_twnCtl 2)
  case full =>
    intro hpass
    rw [exec_twnFull, execTwnFull]
    exact State.act_writeReg hpass (State.effect_twnCtl 4)
  case hover =>
    rintro reach r hpass rfl
    rw [exec_twnHover, execTwnHover]
    refine ⟨fun hup hlocal hstep hres => State.act_writeReg hpass ?_, fun h => State.act_writeReg hpass ?_⟩
    · rw [State.effect_hover, State.hover_begins hup hlocal hstep hres]
    · rw [State.effect_hover, State.hover_refused h]
  case handover =>
    intro reach h hready hfind hout hretry
    rw [exec_handoverSend, execHandoverSend]
    exact State.act_goesOn hready (State.handoverSend_goes hfind hout hretry)
  case grant =>
    rintro r e u hpass hr hn he hdown rfl
    rw [exec_twnGrantGo, execTwnGrantGo]
    refine ⟨fun hreaches hcarve hst hlater => State.act_writeReg hpass ?_, fun hlater => State.act_writeReg hpass ?_⟩
    · rw [State.effect_grantGo,
        State.grantGo_one hr hn he hdown (State.grantOne_applies (0, 0) hreaches hcarve hst hlater)]
    · rw [State.effect_grantGo, State.grantGo_one hr hn he hdown (State.grantOne_passes (0, 0) hlater)]
  case granted =>
    intro a j e hready hpend ha hj
    rw [exec_grantDone, execGrantDone]
    exact State.act_goesOn hready (State.grantDone_counts hpend ha hj)
  case resync =>
    intro r next hready hup hresync hwalked hnext
    rw [exec_resyncLeafCopy, execResyncLeafCopy]
    refine ⟨fun hpin => State.act_goesOn hready (State.resyncStep_unpinned hup hresync hwalked hpin),
      fun hpin hread => ⟨fun hdone => ⟨?ends, ?skips, ?passes⟩, ?copies⟩⟩
    case ends =>
      exact fun hw => State.act_goesOn hready (State.resyncStep_ends hup hresync hwalked hpin hread hdone hw)
    case skips =>
      intro hw hring
      refine State.act_goesOn hready (State.resyncStep_passes hup hresync hwalked hpin hread hdone hnext hw fun x hx => ?_)
      simp [hring] at hx
    case passes =>
      intro x hw hring hst
      refine State.act_goesOn hready (State.resyncStep_passes hup hresync hwalked hpin hread hdone hnext hw fun y hy => ?_)
      rwa [← Option.some.inj (hring.symm.trans hy)]
    case copies =>
      intro q l c hleft hnone hin hroom hleaf hc
      have hcopy := State.resyncStep_copies hup hresync hwalked hpin hread hleft hnone hin hroom hleaf hc
      exact ⟨fun hgo => State.act_goesOn hready (hcopy.trans (if_pos hgo)),
        fun hwait => State.act_goesOn hready (hcopy.trans (if_neg (by simp [hwait])))⟩

end Sys2Proof.Machine
end

section
/-! PROOFS. The shared units of a Pilot that act at once (O46): a GO of each unit that its engine holds and that is free, and
an equation for each outcome of a probe, a re-sight request, a message and a key-port job. -/

namespace Sys2Proof.Machine

section
variable {s : State} {e : EngineNo}

/-- A GO of a unit that is held and not BUSY has the unit's own effect. -/
theorem State.act_unitCmd {i u : Nat} {f : Nat → State → State} {t : State} (hready : s.ready = true)
    (hheld : s.heldInst e u = some i) (hfree : s.busyInst i = false) (hf : f i s = t) :
    s.act (fun r => r.unitCmd e u f) = s.goesOn t := by
  refine State.act_goesOn hready ?_
  simp [State.unitCmd, hheld, hfree, hf]

/-- What an engine holds of a unit is of that unit. -/
theorem State.unitOf_heldInst {i u : Nat} (h : s.heldInst e u = some i) : unitOf i = u := by
  obtain ⟨g, hgrant, rfl⟩ := Option.map_eq_some_iff.mp h
  have hfits := List.find?_some hgrant
  simp only [Bool.and_eq_true, beq_iff_eq] at hfits
  exact hfits.2

/-- The key port is one in number: an engine that holds one holds unit 27. -/
theorem State.heldInst_keyPort {i : Nat} (h : s.heldInst e 5 = some i) : i = 27 := by
  have hunit := State.unitOf_heldInst h
  unfold unitOf at hunit
  split_ifs at hunit <;> omega

/-! ### The probe (R385) -/

section
variable {a pa : Nat}

theorem State.probe_present (hregion : s.region a = .t0 pa) (hleaf : s.leafState (leafOfLine (pa / 64)) = 0) :
    s.probe a = (s.unitBusy 24).updEcc fun x => { x with probe := some (pa / 64) } := by
  simp only [State.probe, hregion, if_pos hleaf]

theorem State.probe_notPresent (hregion : s.region a = .t0 pa) (hleaf : s.leafState (leafOfLine (pa / 64)) ≠ 0) :
    s.probe a = s.setUnitReg 24 8 4 := by
  simp only [State.probe, hregion, if_neg hleaf]

theorem State.probe_unmapped (hregion : s.region a = .unmapped) : s.probe a = s.setUnitReg 24 8 4 := by
  simp only [State.probe, hregion]

end

/-! ### The re-sight unit (R248, R385) -/

/-- KIND of SG_REQ as its two bits: read training and write training. -/
theorem bitsOf_kind (v : Word) :
    (bitsOf v.toNat 0 2 % 2 == 1) = v.getLsbD 0 ∧ decide (2 ≤ bitsOf v.toNat 0 2) = v.getLsbD 1 := by
  have hlow : bitsOf v.toNat 0 2 = v.toNat % 4 := rfl
  simp only [hlow, BitVec.getLsbD, Nat.testBit_eq_decide_div_mod_eq, beq_eq_decide, decide_eq_decide]
  omega

section
variable {v : Word} {c : Sub} {cs : Nat} (hc : c = Fin.ofNat 32 (2 * bitsOf v.toNat 16 4 + bitsOf v.toNat 12 1))
  (hcs : cs = bitsOf v.toNat 8 2)
include hc hcs

theorem State.sgReq_refused (h : bitsOf v.toNat 0 2 = 0 ∨ s.csServes c cs = false) :
    s.sgReq e v.toNat = s.setUnitReg 25 8 3 := by
  have hno : (decide (bitsOf v.toNat 0 2 = 0) || !s.csServes c cs) = true := by rcases h with h | h <;> simp [h]
  simp only [State.sgReq, ← hc, ← hcs, if_pos hno]

/-- The chip select has no request yet: the unit waits for its own. -/
theorem State.sgReq_asks (hkind : bitsOf v.toNat 0 2 ≠ 0) (hserves : s.csServes c cs = true)
    (hnew : ∀ r ∈ s.sgt.resights, ¬(r.sub = c ∧ r.cs = cs)) :
    s.sgReq e v.toNat = (s.unitBusy 25).askResight c cs (v.getLsbD 0) (v.getLsbD 1) false (some e) := by
  have hyes : ¬(decide (bitsOf v.toNat 0 2 = 0) || !s.csServes c cs) = true := by simp [hkind, hserves]
  have hnone : ¬(s.sgt.resights.any fun r => r.sub == c && r.cs == cs) = true := by simpa using hnew
  obtain ⟨hrd, hwr⟩ := bitsOf_kind v
  simp only [State.sgReq, ← hc, ← hcs, if_neg hyes, if_neg hnone, hrd, hwr]

end

/-! ### The control-lane unit (R153, R386) -/

section
variable {n a : Nat} (hn : n = bitsOf (s.unitReg 26 0x10).toNat 0 9) (ha : a = bitsOf (s.unitReg 26 8).toNat 0 18)
include hn ha

theorem State.bcGo_refused {old : Nat} (hold : old = (s.unitReg 26 0x20).toNat % 65536)
    (h : s.twn.link ≠ 2 ∨ n = 0 ∨ 256 < n ∨ 2 ^ 18 < a + n) :
    s.bcGo e = s.setUnitReg 26 0x20 (BitVec.ofNat 64 old) := by
  have hbad : (!s.linkUp || n = 0 || 256 < n || 0x40000 < a + n) = true := by
    simpa [State.linkUp, or_assoc] using h
  simp only [State.bcGo, ← hn, ← ha, ← hold, if_pos hbad]

/-- The message is a CTRL frame to the engine that BC_DEST names. -/
theorem State.bcGo_sends {dest old : Nat} (hdest : dest = bitsOf (s.unitReg 26 0).toNat 0 6)
    (hold : old = (s.unitReg 26 0x20).toNat % 65536) (hup : s.twn.link = 2) (hsome : n ≠ 0) (hmax : n ≤ 256)
    (hin : a + n ≤ 2 ^ 18) : s.bcGo e =
      (((s.unitBusy 26).setUnitReg 26 0x20 (BitVec.ofNat 64 (2 ^ 31 + old))).ctrlPush (ctrlFrame 8 0 0 (BitVec.ofNat 64 e.val)
        (BitVec.ofNat 32 dest) (memBytes (s.engine e).dmem a n)) (some e)).sendCtrl := by
  have hok : ¬(!s.linkUp || n = 0 || 256 < n || 0x40000 < a + n) = true := by
    simpa [State.linkUp, hup, hsome, hmax] using hin
  simp only [State.bcGo, ← hn, ← ha, ← hold, ← hdest, if_neg hok]

end

/-! ### The key port's jobs (R347, R349, R386) -/

section
variable {k : Fin 64}

theorem State.jobSlot_of_op (hk : k.val = bitsOf (s.unitReg 27 0).toNat 8 6) : s.jobSlot = k := by
  rw [State.jobSlot, ← hk, Fin.ofNat_val_eq_self]

theorem State.kjZero_refused (h : s.boundSlot k = true ∨ k.val = s.sessionSlot) :
    s.kjZero k = s.setUnitReg 27 0x60 (BitVec.ofNat 64 (2 ^ 30 + 2)) := by
  rw [State.kjZero, if_pos (by simpa using h), kjDone]

theorem State.kjZero_zeroes (hbound : s.boundSlot k = false) (hsession : k.val ≠ s.sessionSlot) :
    s.kjZero k = (s.zeroSlot k).setUnitReg 27 0x60 (BitVec.ofNat 64 (2 ^ 30)) := by
  rw [State.kjZero, if_neg (by simp [hbound, hsession]), kjDone, Nat.add_zero]

section
variable {op : BitVec 2} {iv aad aadLen src dst len : Nat}
  (hiv : iv = (s.unitReg 27 8).toNat % 2 ^ 32 + (s.unitReg 27 0x10).toNat % 2 ^ 32 * 2 ^ 32
    + (s.unitReg 27 0x18).toNat % 2 ^ 32 * 2 ^ 64)
  (haad : aad = (s.unitReg 27 0x20).toNat) (haadLen : aadLen = (s.unitReg 27 0x28).toNat)
  (hsrc : src = (s.unitReg 27 0x30).toNat) (hdst : dst = (s.unitReg 27 0x38).toNat) (hlen : len = (s.unitReg 27 0x40).toNat)
include hiv haad haadLen hsrc hdst hlen

/-- An IV of the block's own spaces, a length out of range or an address that is not aligned. -/
theorem State.kjGo_refused
    (h : (1 ≤ iv / 2 ^ 92 ∧ iv / 2 ^ 92 ≤ 3) ∨ 4096 < aadLen ∨ aad % 64 ≠ 0
      ∨ (op ≠ 3 ∧ (len % 16 ≠ 0 ∨ len = 0 ∨ 4096 < len ∨ src % 64 ≠ 0 ∨ dst % 64 ≠ 0))) :
    s.kjGo e op k = s.setUnitReg 27 0x60 (BitVec.ofNat 64 (2 ^ 30 + 2)) := by
  have hbad : (ivTaken iv || (op != 3 && (len % 16 != 0 || len == 0 || decide (4096 < len)))
      || (aad % 64 != 0 || (op != 3 && (src % 64 != 0 || dst % 64 != 0))) || decide (4096 < aadLen)) = true := by
    simp only [ivTaken, Bool.or_eq_true, Bool.and_eq_true, decide_eq_true_eq, bne_iff_ne, beq_iff_eq]
    tauto
  simp only [State.kjGo, ← hiv, ← haad, ← haadLen, ← hsrc, ← hdst, ← hlen, if_pos hbad, kjDone]

/-- A job in good form under a loaded slot is queued. -/
theorem State.kjGo_starts (hfree : iv / 2 ^ 92 = 0 ∨ 3 < iv / 2 ^ 92) (hmax : aadLen ≤ 4096) (halign : aad % 64 = 0)
    (htext : op = 3 ∨ (len % 16 = 0 ∧ len ≠ 0 ∧ len ≤ 4096 ∧ src % 64 = 0 ∧ dst % 64 = 0))
    (hloaded : (s.keySlot k).loaded = true) : s.kjGo e op k =
      ((s.unitBusy 27).updCph fun c => { c with jobs := c.jobs ++
        [{ engine := e, op := op, slot := k, key := (s.keySlot k).key, iv := iv, aad := aad, aadLen := aadLen, src := src,
           dst := dst, len := len, tag := s.kjTag }] }).qIn (.cphJob 5) iv := by
  have hiv' : ivTaken iv = false := by
    simp only [ivTaken, Bool.and_eq_false_iff, decide_eq_false_iff_not]
    omega
  have hok : ¬(ivTaken iv || (op != 3 && (len % 16 != 0 || len == 0 || decide (4096 < len)))
      || (aad % 64 != 0 || (op != 3 && (src % 64 != 0 || dst % 64 != 0))) || decide (4096 < aadLen)) = true := by
    rcases htext with hop | ⟨h16, hne, h4096, hs, hd⟩
    · simp [hiv', hop, hmax, halign]
    · simp [hiv', hmax, halign, h16, hne, h4096, hs, hd]
  simp only [State.kjGo, ← hiv, ← haad, ← haadLen, ← hsrc, ← hdst, ← hlen, if_neg hok, hloaded]
  rfl

end

/-- A GO of the key port is the job that OP names. -/
theorem State.exec_kjGo {op : BitVec 2} {t : State} (hready : s.ready = true) (hheld : s.heldInst e 5 = some 27)
    (hfree : s.busyInst 27 = false) (hop : bitsOf (s.unitReg 27 0).toNat 0 2 = op.toNat) (hgo : s.kjGo e op s.jobSlot = t) :
    (op = 1 → exec (.kjGcmEnc e) s = s.goesOn t) ∧ (op = 2 → exec (.kjGcmDec e) s = s.goesOn t)
      ∧ (op = 3 → exec (.kjGmac e) s = s.goesOn t) := by
  rw [exec_kjGcmEnc, execKjGcmEnc, exec_kjGcmDec, execKjGcmDec, exec_kjGmac, execKjGmac]
  refine ⟨?enc, ?dec, ?mac⟩
  all_goals
    rintro rfl
    exact State.act_unitOp hready hheld hfree hop hgo

end
end

/-- Settles O46: each GO is its unit's own operation, and each clause one of the equations above. That a length or an
alignment is refused as a wrong IV is, with code 2 (log entry 80), is the model's choice. -/
theorem probeAndKeyJobs : Obligations.ProbeAndKeyJobs := by
  unfold Obligations.ProbeAndKeyJobs
  intro s e i hready hfree
  refine ⟨fun hheld => ?probe, fun hheld => ?resight, fun hheld => ?message, fun hheld => ?job⟩
  case probe =>
    intro a
    rw [exec_sdProbe, execSdProbe]
    exact ⟨fun _ hregion hleaf => State.act_unitCmd hready hheld hfree (State.probe_present hregion hleaf),
      fun _ hregion hleaf => State.act_unitCmd hready hheld hfree (State.probe_notPresent hregion hleaf),
      fun hregion => State.act_unitCmd hready hheld hfree (State.probe_unmapped hregion)⟩
  case resight =>
    intro v c cs hc hcs
    rw [exec_sgReq, execSgReq]
    exact ⟨fun h => State.act_unitCmd hready hheld hfree (State.sgReq_refused hc hcs h),
      fun hkind hserves hnew => State.act_unitCmd hready hheld hfree (State.sgReq_asks hc hcs hkind hserves hnew)⟩
  case message =>
    intro n a dest old hn ha hdest hold
    rw [exec_bcGo, execBcGo]
    exact ⟨fun h => State.act_unitCmd hready hheld hfree (State.bcGo_refused hn ha hold h),
      fun hup hsome hmax hin =>
        State.act_unitCmd hready hheld hfree (State.bcGo_sends hn ha hdest hold hup hsome hmax hin)⟩
  case job =>
    intro k iv aad aadLen src dst len hk hiv haad haadLen hsrc hdst hlen
    obtain rfl := State.heldInst_keyPort hheld
    have hslot := State.jobSlot_of_op hk
    refine ⟨fun hop => ?zero, fun op _ hop t => ⟨fun h ht => ?refused, fun hivs hmax halign htext hloaded ht => ?starts⟩⟩
    case zero =>
      rw [exec_kjZero, execKjZero]
      refine ⟨fun h => State.act_unitOp hready hheld hfree hop ?_,
        fun hbound hsession => State.act_unitOp hready hheld hfree hop ?_⟩
      · rw [hslot, State.kjZero_refused h]
      · rw [hslot, State.kjZero_zeroes hbound hsession]
    case refused =>
      refine State.exec_kjGo hready hheld hfree hop ?_
      rw [hslot, ht, State.kjGo_refused hiv haad haadLen hsrc hdst hlen h]
    case starts =>
      refine State.exec_kjGo hready hheld hfree hop ?_
      rw [hslot, ht, State.kjGo_starts hiv haad haadLen hsrc hdst hlen hivs hmax halign htext hloaded]

end Sys2Proof.Machine
end

section
/-! PROOFS. VLT in Save (O32): what the power-fail warning does in each mode, an equation for each step of Save that a command
ends, and the write-behind of a dirty unit. -/

namespace Sys2Proof.Machine

/-- No mode serves hosts while Save runs. -/
theorem Mode.ne_save_of_serves {m : Mode} (h : m.serves = true) : m ≠ .save := by
  rintro rfl
  cases h

section
variable {s : State}

/-! ### The power-fail warning (R166) -/

section
variable {u : State} (hu : u = { s with cfg := { s.cfg with pfWarn := true } })
include hu

/-- A block that is frozen, or already in Save, keeps only the pin. -/
theorem State.pfWarn_ignored (h : s.cfg.frozen = true ∨ s.cfg.mode = .save) : s.pfWarn = u := by
  have hin : (decide (s.cfg.mode = .save) || s.cfg.frozen) = true := by simpa using h.symm
  rw [State.pfWarn, if_pos hin, hu]

variable (hfrozen : s.cfg.frozen = false)
include hfrozen

/-- After the RUNNING superblock there is something to save. -/
theorem State.pfWarn_enters (hsave : s.cfg.mode ≠ .save)
    (h : s.cfg.mode.early = false ∨ (s.cfg.mode = .sighting ∧ s.vlt.running = true)) : s.pfWarn = u.enterSave := by
  have hlate : (s.cfg.mode.early && !(decide (s.cfg.mode = .sighting) && s.vlt.running)) = false := by
    rcases h with h | ⟨hmode, hrunning⟩
    · rw [h, Bool.false_and]
    · simp [hmode, hrunning]
  simp only [State.pfWarn, hfrozen, decide_eq_false hsave, hlate, hu]
  rfl

/-- Before the RUNNING superblock the vault stays as it is. -/
theorem State.pfWarn_freezes (h : s.cfg.mode = .reset ∨ (s.cfg.mode = .sighting ∧ s.vlt.running = false)) :
    s.pfWarn = { u.dropVault with cfg := { s.cfg with
      pfWarn := true, frozen := true, noSave := true, saveDonePin := true } }.updVlt fun v => { v with phase := .saved } := by
  subst hu
  rcases h with hmode | ⟨hmode, hrunning⟩
  · simp [State.pfWarn, hfrozen, hmode, Mode.early]
  · simp [State.pfWarn, hfrozen, hmode, hrunning, Mode.early]

end

/-! ### The steps of Save (R168, R170, R171) -/

section
variable (hsave : s.cfg.mode = .save)
include hsave

theorem State.saveMeta_writes (hon : s.vaultOn = true) (hd : s.plg.d = s.plg.w) (hdrains : s.plg.drains = [])
    (hquiet : s.quiesced = true) (hwriting : s.vlt.writing = []) (hphase : s.vlt.phase = .drain) : s.saveMeta =
      { s with vlt := { s.vlt with phase := .metaOut, dirty := [], waits := [] } }.beginStep .saveUnits
        ((s.vlt.dirty ++ s.vlt.waits).map (fun u => (u, 1)) ++ [(3, 64), (2, 1)]) := by
  have hdrained : s.drained = true := by simp [State.drained, hd, hdrains]
  rw [State.saveMeta, if_pos (by simp [hsave, hon, hdrained, hquiet, hwriting, hphase])]
  rfl

theorem State.saveFlush_writes (hover : s.stepOver .saveFlush = true) : s.saveFlush =
    s.superStep .saveSuper (if s.vlt.failedNow = 0 then 2 else 3) s.vlt.failedNow
      (min 0xFFFFFFFF ((s.chron - s.vlt.saveStart) / 1000)) := by
  rw [State.saveFlush, if_pos (by simp [hsave, hover])]
  rfl

variable (hpin : s.cfg.saveDonePin = false)
include hpin

theorem State.saveEnd_completes (hon : s.vaultOn = true) (hover : s.stepOver .saveLast = true) :
    s.saveEnd = s.finishSave true := by
  simp [State.saveEnd, hsave, hpin, hon, hover]

theorem State.saveEnd_bare (hoff : s.vaultOn = false) (hquiet : s.quiesced = true) : s.saveEnd = s.finishSave false := by
  simp [State.saveEnd, hsave, hpin, hoff, hquiet]

end

/-! ### Write-behind (R165) -/

/-- A dirty unit goes out at the drain reserve's level while hosts are served, and at that of Save before its metadata. -/
theorem State.metaWriteback_writes {unit level : Nat} (hon : s.vaultOn = true) (hdirty : s.vlt.dirty.contains unit = true)
    (hidle : s.vlt.writing.contains unit = false) (hrunning : s.vlt.running = true)
    (h : (s.cfg.mode.serves = true ∧ s.dti.down = false ∧ level = 3)
      ∨ (s.cfg.mode = .save ∧ (s.vlt.phase = .quiesce ∨ s.vlt.phase = .drain) ∧ level = 1)) : s.metaWriteback unit =
      { s with vlt := { s.vlt with
        dirty := s.vlt.dirty.filter (· != unit), writing := insertNat s.vlt.writing unit } }.dpPush
        { op := 1, tgt := false, unit := BitVec.ofNat 48 (s.vbase + unit), sb := s.unitSideband unit (s.unitBytes unit)
          data := s.unitBytes unit, owner := .vaultMeta unit, level := level } := by
  rcases h with ⟨hserves, hup, rfl⟩ | ⟨hsave, hphase, rfl⟩
  · have hsaves : (s.cfg.mode == .save && (s.vlt.phase == .quiesce || s.vlt.phase == .drain)) = false := by
      rw [beq_false_of_ne (Mode.ne_save_of_serves hserves), Bool.false_and]
    simp only [State.metaWriteback, hsaves]
    rw [if_pos (by rw [hon, hdirty, hidle, hrunning, hserves, hup]; rfl)]
    rfl
  · have hsaves : (s.cfg.mode == .save && (s.vlt.phase == .quiesce || s.vlt.phase == .drain)) = true := by
      simpa [hsave] using hphase
    simp only [State.metaWriteback, hsaves]
    rw [if_pos (by rw [hon, hdirty, hidle, hrunning]; rfl)]
    rfl

end

/-- Settles O32: each event of a Save has the effect of its equation above. That step 5 writes the dirty units, then the Reach
table and then the PLG record, and at which levels, is the model's choice (log entries 33 and 75). -/
theorem saveSequence : Obligations.SaveSequence := by
  unfold Obligations.SaveSequence
  intro s hready
  refine ⟨fun u hu => ?warn, fun hsave hon hd hdrains hquiet hwriting hphase => ?units, fun hsave hover => ?super,
    fun hsave hpin => ?done, fun unit level hon hdirty hidle hrunning h => ?behind⟩
  case warn =>
    rw [exec_pfWarn, execPfWarn]
    exact ⟨fun h => State.act_goesOn hready (State.pfWarn_ignored hu h),
      fun hfrozen hsave h => State.act_goesOn hready (State.pfWarn_enters hu hfrozen hsave h),
      fun hfrozen h => State.act_goesOn hready (State.pfWarn_freezes hu hfrozen h)⟩
  case units =>
    rw [exec_saveMetaWrite, execSaveMetaWrite]
    exact State.act_goesOn hready (State.saveMeta_writes hsave hon hd hdrains hquiet hwriting hphase)
  case super =>
    rw [exec_saveFirstFlushDone, execSaveFirstFlushDone]
    exact State.act_goesOn hready (State.saveFlush_writes hsave hover)
  case done =>
    rw [exec_saveDone, execSaveDone]
    exact ⟨fun hon hover => State.act_goesOn hready (State.saveEnd_completes hsave hpin hon hover),
      fun hoff hquiet => State.act_goesOn hready (State.saveEnd_bare hsave hpin hoff hquiet)⟩
  case behind =>
    rw [exec_vaultMetaWriteback, execVaultMetaWriteback]
    exact State.act_goesOn hready (State.metaWriteback_writes hon hdirty hidle hrunning h)

end Sys2Proof.Machine
end

section
/-! PROOFS. VLT in Restore (O33): what the end of Sighting starts, what the superblocks and the metadata read decide, when service
starts, the two writes of VLT_CTL, and the refill of leaves. -/

namespace Sys2Proof.Machine

section
variable {s : State}

/-! ### The end of Sighting (R172, R437) -/

theorem State.sightingDone_reads (hall : s.sightedAll = true) (hon : s.vaultOn = true) : s.sightingDone =
    { s with cfg := { s.cfg with sightingComplete := true }, vlt := { s.vlt with phase := .metaIn } }.beginStep
      .superRead [(0, 2)] := by
  simp only [State.sightingDone, hall, hon]
  rfl

theorem State.sightingDone_empty (hall : s.sightedAll = true) (hoff : s.vaultOn = false) : s.sightingDone =
    { s with cfg := { s.cfg with sightingComplete := true } }.emptyImage := by
  simp only [State.sightingDone, hall, hoff]
  rfl

/-! ### The superblocks (R172, R178) -/

/-- The superblock taken is the valid one of the higher GEN, the first where the GENs are the same. -/
theorem chooseSuper_eq_some {x y c : Super} {second : Bool}
    (h : (second = true ∧ c = y ∧ y.valid = true ∧ (x.valid = true → x.gen < y.gen))
      ∨ (second = false ∧ c = x ∧ x.valid = true ∧ (y.valid = true → y.gen ≤ x.gen))) : chooseSuper x y = some (second, c) := by
  rcases h with ⟨rfl, rfl, hvalid, hgen⟩ | ⟨rfl, rfl, hvalid, hgen⟩
  · cases hx : x.valid with
    | true => simp [chooseSuper, hx, hvalid, hgen hx]
    | false => simp [chooseSuper, hx, hvalid]
  · cases hy : y.valid with
    | true => simp [chooseSuper, hy, hvalid, Nat.not_lt.mpr (hgen hy)]
    | false => simp [chooseSuper, hy, hvalid]

theorem chooseSuper_eq_none {x y : Super} (hx : x.valid = false) (hy : y.valid = false) : chooseSuper x y = none := by
  simp [chooseSuper, hx, hy]

/-- A valid superblock shows MAGIC. -/
theorem readSuper_hasMagic {b : List Byte} (h : (readSuper b).valid = true) : (readSuper b).hasMagic = true := by
  simp only [readSuper, Bool.and_eq_true] at h ⊢
  obtain ⟨⟨hmagic, _⟩, _⟩ := h
  exact hmagic

/-- A medium on which a superblock shows MAGIC is not blank. -/
theorem not_blank {x y : Super} (h : x.hasMagic = true ∨ y.hasMagic = true) : (!x.hasMagic && !y.hasMagic) = false := by
  rcases h with h | h <;> simp [h]

section
variable {j : VltJob} (hjob : s.vlt.job = some j)
include hjob

/-- A step that is over is the job's own, and has had no failure. -/
theorem State.unfailed_of_stepOver {st : VltStep} (hover : s.stepOver st = true) : j.step = st ∧ j.failed = none := by
  simp only [State.stepOver, hjob, Bool.and_eq_true, beq_iff_eq, Option.isNone_iff_eq_none] at hover
  obtain ⟨⟨⟨hstep, _⟩, _⟩, hfailed⟩ := hover
  exact ⟨hstep, hfailed⟩

theorem State.superRead_fails {w : Nat × Nat} (hstep : j.step = .superRead) (hfailed : j.failed = some w) :
    s.superRead = s.vaultInvalid w.1 w.2 := by
  simp [State.superRead, hjob, hstep, hfailed]

section
variable {x y : Super} (hx : x = readSuper (j.unit 0)) (hy : y = readSuper (j.unit 1)) (hover : s.stepOver .superRead = true)
include hx hy hover

theorem State.superRead_blank (hnx : x.hasMagic = false) (hny : y.hasMagic = false) :
    s.superRead = { s with vlt := { s.vlt with phase := .waitInit, job := none } } := by
  obtain ⟨hstep, hfailed⟩ := State.unfailed_of_stepOver hjob hover
  subst hx hy
  simp [State.superRead, hjob, hstep, hfailed, hover, hnx, hny, State.updVlt]

variable (hmagic : x.hasMagic = true ∨ y.hasMagic = true)
include hmagic

theorem State.superRead_noneValid (hnone : chooseSuper x y = none) : s.superRead = s.vaultInvalid 1 0 := by
  obtain ⟨hstep, hfailed⟩ := State.unfailed_of_stepOver hjob hover
  have hsome := not_blank hmagic
  subst hx hy
  simp only [State.superRead, hjob, hstep, hfailed, hover, hsome, hnone]
  rfl

section
variable {second : Bool} {c : Super} {t : State} (hchosen : chooseSuper x y = some (second, c))
  (ht : t = s.updVlt (fun v => { v with onMedium := some (second, BitVec.ofNat 64 c.gen) }))
include hchosen ht

theorem State.superRead_misfit (hfits : s.superFits c = false) : s.superRead = t.vaultInvalid 2 0 := by
  obtain ⟨hstep, hfailed⟩ := State.unfailed_of_stepOver hjob hover
  have hsome := not_blank hmagic
  subst hx hy ht
  simp only [State.superRead, hjob, hstep, hfailed, hover, hsome, hchosen, hfits]
  rfl

/-- The superblock taken is the one in use; a RUNNING one tells of a Save that did not complete. -/
theorem State.superRead_takes {u : State} (hfits : s.superFits c = true) (hu : u = t.updVlt (fun v => { v with
      sbState := BitVec.ofNat 2 c.state, slot := second, gen := BitVec.ofNat 64 c.gen
      lastSave := BitVec.ofNat 32 c.saveUs, chosenRunning := c.state == 1 })) : s.superRead =
    (if c.state = 1 then (u.logE 0x0F03 0x600F 0 c.gen).event 0x0F0100 2 else u).readMeta := by
  obtain ⟨hstep, hfailed⟩ := State.unfailed_of_stepOver hjob hover
  have hsome := not_blank hmagic
  subst hx hy ht hu
  simp only [State.superRead, hjob, hstep, hfailed, hover, hsome, hchosen, hfits]
  rfl

end
end

/-! ### The metadata (R172, R173) -/

theorem State.metaRead_fails {w : Nat × Nat} (hstep : j.step = .metaRead ∨ j.step = .logRead) (hfailed : j.failed = some w) :
    s.metaRead = s.vaultInvalid w.1 w.2 := by
  rcases hstep with hstep | hstep <;> simp [State.metaRead, hjob, hstep, hfailed]

theorem State.metaRead_applies (hover : s.stepOver .logRead = true) :
    s.metaRead = (s.applyMeta j).superStep .runSuper 1 0 0 := by
  obtain ⟨hstep, hfailed⟩ := State.unfailed_of_stepOver hjob hover
  simp [State.metaRead, hjob, hstep, hfailed, hover]

end

/-! ### The start of service (R173, R174) -/

theorem State.serviceStart_begins {eager : Bool} (hsighted : s.cfg.sightingComplete = true) (hbegun : s.cfg.restoreBegun = false)
    (hmode : s.cfg.mode = .sighting) (hfrozen : s.cfg.frozen = false)
    (hdurable : s.vaultOn = false ∨ s.stepOver .runFlush = true)
    (heager : eager = true ↔ s.map.act.stageSize * 2 ^ 20 < s.map.act.restoreMap + 64 * 2 ^ 20) : s.serviceStart =
    ({ s with
      cfg := { s.cfg with restoreBegun := true }
      vlt := { s.vlt with phase := .refill, eager := eager, lazyRun := !eager, job := none } }.eventIf eager 0x0F0100 8).reeval := by
  have hclosed : ¬(!s.cfg.sightingComplete || s.cfg.restoreBegun || s.cfg.mode != .sighting || s.cfg.frozen) = true := by
    simp [hsighted, hbegun, hmode, hfrozen]
  have hwaits : ¬(s.vaultOn && !s.stepOver .runFlush) = true := by rcases hdurable with h | h <;> simp [h]
  have heager' : decide (s.map.act.stageSize * 2 ^ 20 < s.map.act.restoreMap + 64 * 2 ^ 20) = eager :=
    Bool.eq_iff_iff.mpr (by rw [decide_eq_true_iff, heager])
  simp only [State.serviceStart, if_neg hclosed, if_neg hwaits, heager']
  rfl

/-! ### The writes of VLT_CTL (R172, R179) -/

/-- A write to VLT_CTL has the effect of the bits written. -/
theorem State.effect_vltCtl (v : Word) : s.effect 0x0F0008 (s.newWord 0x0F0008 v) = (.ok, s.vltCtl v) := by
  have hbit : ∀ i, bit 3 i = true → bit (s.newWord 0x0F0008 v) i = bit v i := fun i hi =>
    State.bit_newWord (by decide) hi
  have heffect : s.effect 0x0F0008 (s.newWord 0x0F0008 v) = (.ok, s.vltCtl (s.newWord 0x0F0008 v)) := rfl
  rw [heffect, State.vltCtl, hbit 0 (by decide), hbit 1 (by decide), ← State.vltCtl]

theorem State.release_poisons {ls : List Nat}
    (hls : ls = (s.map.absent.filter fun x => x.2 == 2 && (s.sourceOf x.1).isNone).map (fun x => x.1)) (hne : ls ≠ []) :
    s.release = (((((ls.foldl (fun t l => (t.poisonLeaf l).setLeaf l 0) s).updVlt fun v =>
      { v with
        failed := satAdd v.failed ls.length
        demands := v.demands.filter fun d => !ls.contains d.leaf }).logE 0x0F04 0x600F 0 ls.length).event 0x0F0100 7).event
          0x0F0100 5).restoreDone := by
  have hsome : ¬ls.isEmpty = true := by simpa using hne
  simp only [State.release, ← hls, if_neg hsome]
  rfl

/-! ### The background refill (R174, R180, R184) -/

section
variable {l : Nat} (hrestoring : s.map.restoring = true) (hserves : s.cfg.mode.serves = true)
  (hroom : (s.vlt.demands.filter fun d => !d.demand && d.inFlight).length < field (s.reg 0x0F0004) 8 8)
include hrestoring hserves hroom

theorem State.bgRoom_of : s.bgRoom = true := by
  simp [State.bgRoom, State.fld, hrestoring, hserves, hroom]

variable (hnext : s.nextLeaf = some l)
include hnext

/-- The walk has gone past the leaf: its Restore state is already listed. -/
theorem State.backgroundRefill_listed (hpast : l < s.map.walk) : s.backgroundRefill = s.startRefill l false := by
  simp [State.backgroundRefill, State.bgRoom_of hrestoring hserves hroom, hnext, hpast]

/-- An eager walk first asks for the codes of the leaf's unit. -/
theorem State.backgroundRefill_asks (hahead : s.map.walk ≤ l) (hready : s.eagerReady l = false) :
    s.backgroundRefill = s.eagerAsk l := by
  simp [State.backgroundRefill, State.bgRoom_of hrestoring hserves hroom, hnext, hahead, hready]

end

/-! ### The end of a refill (R174, R178, R179) -/

section
variable {l : Nat} {d : Demand} (hdemand : s.demandOf l = some d) (hflight : d.inFlight = true) (habsent : s.leafState l ≠ 0)
include hdemand hflight habsent

theorem State.leafRefillDone_zeros (hsource : d.source = 0) : s.leafRefillDone l =
    ((List.range 64).foldl (fun t i => t.refillLine (l * 64 + i) none false) s).leafPresent l 0 := by
  simp [State.leafRefillDone, hdemand, hflight, habsent, hsource]

theorem State.leafRefillDone_poisons (hsource : d.source = 3) : s.leafRefillDone l = (s.poisonLeaf l).leafPresent l 3 := by
  simp [State.leafRefillDone, hdemand, hflight, habsent, hsource]

section
variable {data : List Byte} {sb : BitVec 256} (hsource : d.source = 1)
include hsource

theorem State.leafRefillDone_opens (harrived : d.arrived = some (true, data, sb)) (hopens : s.leafOpens l data sb = true) :
    s.leafRefillDone l = ((List.range 64).foldl (fun t i =>
      t.refillLine (l * 64 + i) (some (lineOf data i)) false) (s.cphJob 1 l)).leafPresent l 1 := by
  simp [State.leafRefillDone, hdemand, hflight, habsent, hsource, harrived, hopens]

/-- The unit failed its medium check: the twin is asked once, where it is in step. -/
theorem State.leafRefillDone_badUnit (harrived : d.arrived = some (false, data, sb)) : s.leafRefillDone l =
    if s.twinInStep (reachOfLeaf l) && !d.fetched then s.refillFrom l d.demand .twin else s.loseLeaf l := by
  simp [State.leafRefillDone, hdemand, hflight, habsent, hsource, harrived]

end
end
end

/-- Settles O33: each event of a Restore has the effect of its equation above. That no valid superblock gives slot 0 (log entry
64), and when the metadata takes effect (entries 46 and 75), is the model's choice. -/
theorem restoreSequence : Obligations.RestoreSequence := by
  unfold Obligations.RestoreSequence
  intro s p hready
  refine ⟨fun hall => ?sighted, fun j x y hjob hstep hx hy => ?superblocks, fun j hjob hstep => ?metadata,
    fun eager hsighted hbegun hmode hfrozen hdurable heager => ?service, fun hpass => ?init, fun ls hpass hls hne => ?release,
    fun l hrestoring hserves hroom hnext => ?background, fun l d hdemand hflight habsent => ?refill⟩
  case sighted =>
    rw [exec_sightingComplete, execSightingComplete]
    exact ⟨fun hon => State.act_goesOn hready (State.sightingDone_reads hall hon),
      fun hoff => State.act_goesOn hready (State.sightingDone_empty hall hoff)⟩
  case superblocks =>
    rw [exec_restoreSuperblockRead, execRestoreSuperblockRead]
    refine ⟨fun w hfailed => State.act_goesOn hready (State.superRead_fails hjob hstep hfailed), fun hover => ⟨?blank, ?invalid,
      ?chosen⟩⟩
    case blank => exact fun hnx hny => State.act_goesOn hready (State.superRead_blank hjob hx hy hover hnx hny)
    case invalid =>
      exact fun hmagic hvx hvy => State.act_goesOn hready
        (State.superRead_noneValid hjob hx hy hover hmagic (chooseSuper_eq_none hvx hvy))
    case chosen =>
      intro second c t hchosen ht
      have hmagic : x.hasMagic = true ∨ y.hasMagic = true := by
        subst hx hy
        rcases hchosen with ⟨_, _, hvalid, _⟩ | ⟨_, _, hvalid, _⟩
        · exact .inr (readSuper_hasMagic hvalid)
        · exact .inl (readSuper_hasMagic hvalid)
      have hchoice := chooseSuper_eq_some hchosen
      refine ⟨fun hfits => State.act_goesOn hready (State.superRead_misfit hjob hx hy hover hmagic hchoice ht hfits),
        fun u hfits hu => ?_⟩
      have htakes := State.superRead_takes hjob hx hy hover hmagic hchoice ht hfits hu
      exact ⟨fun hsaved => State.act_goesOn hready (htakes.trans (by rw [if_neg hsaved])),
        fun hrunning => State.act_goesOn hready (htakes.trans (by rw [if_pos hrunning]))⟩
  case metadata =>
    rw [exec_restoreMetadataRead, execRestoreMetadataRead]
    exact ⟨fun w hfailed => State.act_goesOn hready (State.metaRead_fails hjob hstep hfailed),
      fun hover => State.act_goesOn hready (State.metaRead_applies hjob hover)⟩
  case service =>
    rw [exec_restoreServiceStart, execRestoreServiceStart]
    exact State.act_goesOn hready (State.serviceStart_begins hsighted hbegun hmode hfrozen hdurable heager)
  case init =>
    rw [exec_vltInit, execVltInit]
    exact State.act_writeReg hpass (State.effect_vltCtl 1)
  case release =>
    rw [exec_vltRelease, execVltRelease]
    refine State.act_writeReg hpass ?_
    rw [State.effect_vltCtl, ← State.release_poisons hls hne]
    rfl
  case background =>
    rw [exec_backgroundRefill, execBackgroundRefill]
    exact ⟨fun hpast => State.act_goesOn hready (State.backgroundRefill_listed hrestoring hserves hroom hnext hpast),
      fun hahead hwait => State.act_goesOn hready
        (State.backgroundRefill_asks hrestoring hserves hroom hnext hahead hwait)⟩
  case refill =>
    rw [exec_leafRefillDone, execLeafRefillDone]
    refine ⟨fun hsource => State.act_goesOn hready (State.leafRefillDone_zeros hdemand hflight habsent hsource),
      fun hsource => State.act_goesOn hready (State.leafRefillDone_poisons hdemand hflight habsent hsource),
      fun data sb hsource harrived hopens => State.act_goesOn hready
        (State.leafRefillDone_opens hdemand hflight habsent hsource harrived hopens),
      fun data sb hsource harrived => ?bad⟩
    have hbad := State.leafRefillDone_badUnit hdemand hflight habsent hsource harrived
    refine ⟨fun h => State.act_goesOn hready (hbad.trans (if_neg ?_)),
      fun hinStep hfirst => State.act_goesOn hready (hbad.trans (if_pos ?_))⟩
    · rcases h with h | h <;> simp [h]
    · simp [hinStep, hfirst]

end Sys2Proof.Machine
end

section
/-! PROOFS. The channel schedulers (O34): the two outcomes of a decision, what a slot of the command edge launches, what the
oldest burst leaves as it returns, and the registers of a CHS page. -/

namespace Sys2Proof.Machine

section
variable {s : State}

/-- A command of the schedulers while they run. -/
theorem State.edgeCmd_goesOn {u : State} {f : State → State} (hready : s.ready = true) (hruns : s.cfg.saveDonePin = false)
    (hf : f s = u) : s.edgeCmd f = s.goesOn u :=
  State.act_goesOn hready (by rw [hruns, if_neg Bool.false_ne_true, hf])

/-! ### A decision (R194, R195) -/

section
variable {c : Nat} {q : SubState}

/-- A pause holds the subchannel before anything else is looked at. -/
theorem State.decision_paused (hq : q = s.sub c) (h : q.pause = true) : s.decision c = (.hold .pause, q.mode, false) := by
  subst hq
  rw [State.decision, if_pos (by rw [h, Bool.true_or])]

variable {d : Item × RW × Bool} (hq : q = s.sub c) (hroom : q.slotRoom = true) (hd : d = s.decision c)
include hq hroom hd

theorem State.chsDecide_keepsMode (hmode : d.2.1 = q.mode) :
    s.chsDecide c = ((s.setSub c q).count 2 11 c 0).handOver c d.1 := by
  subst hq
  simp only [State.chsDecide, hroom, ← hd, hmode, bne_self_eq_false]
  rfl

theorem State.chsDecide_changesMode (hmode : d.2.1 ≠ q.mode) : s.chsDecide c =
    (((s.setSub c { q with mode := d.2.1, batch := if d.2.1 = .wr then 0 else q.batch }).count 2 11 c 1).eventIf
      d.2.2 (chsPage (c / 2) + 0x200) 4).handOver c d.1 := by
  subst hq
  simp only [State.chsDecide, hroom, ← hd, bne_iff_ne.mpr hmode, Bool.true_and, beq_iff_eq]
  rfl

end

/-! ### The command edge (R199, R204) -/

section
variable {c slot k : Nat} {op : DOp} {l : Loc} {id : Option Nat} {why : Why} {r : List (Nat × Item)}

theorem State.tryLaunch_empty (hreg : (s.sub c).slotReg = []) : s.tryLaunch c slot = s.classDes c slot := by
  simp only [State.tryLaunch, hreg]

/-- A command at the head of the slot register. -/
theorem State.tryLaunch_cmd (hreg : (s.sub c).slotReg = (k, .cmd op l id why) :: r) : s.tryLaunch c slot =
    if slot < k + 2 then s.classDes c slot
    else if (s.tim c).allows (s.sub c).hist op l slot then s.launch c slot op l id why
    else (s.classDes c slot).event (chsPage (c / 2) + 0x200) 5 := by
  simp only [State.tryLaunch, hreg]

/-- The last launched command has had all its cycles: the slot is free for the next one. -/
theorem State.edgeSlot_free {q : SubState} {t : State} (hq : q = s.sub c) (hslot : slot = q.slot + 1)
    (hfree : ∀ l, q.hist.getLast? = some l → l.slot + l.op.cycles ≤ slot)
    (ht : t = s.setSub c { q with slot := slot, idle := if q.rq.isEmpty then q.idle + 1 else 0 }) :
    s.edgeSlot c = t.tryLaunch c slot := by
  subst hq hslot ht
  cases hlast : (s.sub c).hist.getLast? with
  | none => simp only [State.edgeSlot, hlast]
  | some last => simp only [State.edgeSlot, hlast, if_neg (Nat.not_lt.mpr (hfree last hlast))]

end

/-! ### The oldest burst (R199, R268) -/

section
variable {c : Sub} {r : ReadReturn} {b : Burst} {ch : Fin 16} {t : State}
  (hfind : (s.sub c.val).bursts.find? (fun b => !(s.sub c.val).awaitsReplay b) = some b) (hch : ch = Fin.ofNat 16 (c.val / 2))
  (ht : t = (((s.setSub c.val { s.sub c.val with
    bursts := dropFirst (s.sub c.val).bursts fun x => x == b }).qThrough (.eccReturn ch) b.entry.line).trackDqs
      b.entry.loc r.moved).count 2 (if b.discard then 1 else 2) c.val b.slots)
include hfind hch ht

theorem State.dataReturn_discarded (hdiscard : b.discard = true) : s.dataReturn c r = t := by
  subst hch ht
  simp only [State.dataReturn, hfind, hdiscard, if_true]

variable {x : (Option Line × Nat) × State} (hkept : b.discard = false) (htweak : r.tweakMiss = false)
  (hcore : r.coreFault = none)
  (hx : x = t.eccRead b.entry.loc b.entry.line b.line b.pois r.err (srcOf b.entry.who) (t.writesBack b.entry.dest))
include hkept htweak hcore hx

/-- A Sounding read of the walk delivers nothing: what ECC finds is all it does. -/
theorem State.dataReturn_sounding (hdest : b.entry.dest = .sounding false) : s.dataReturn c r = x.2 := by
  subst hch hx ht
  simp only [State.dataReturn, hfind, hkept, htweak, hcore, hdest]
  rfl

theorem State.dataReturn_drain {i k : Nat} (hdest : b.entry.dest = .drain i k) : s.dataReturn c r =
    x.2.deliver b.entry.dest b.entry.line (x.1.1.getD 0) x.1.1.isNone b.entry.level b.entry.reserved := by
  subst hch hx ht
  simp only [State.dataReturn, hfind, hkept, htweak, hcore, hdest]
  rfl

end

/-! ### The registers of a CHS page (R203, R209) -/

/-- A register of a channel's page only keeps its word. -/
theorem State.effect_chs (ch : Fin 16) {off : Nat} (hoff : off < 0x10000) (w : Word) :
    s.effect (chsPage ch.val + off) w = (.ok, s.setReg (chsPage ch.val + off) w) := by
  have hpage : (chsPage ch.val + off) / 0x10000 = ch.val + 16 := by
    unfold chsPage
    omega
  have hbelow : ¬0x300000 ≤ chsPage ch.val + off := by
    have hch := ch.isLt
    unfold chsPage
    omega
  have hnotPea : inPea (chsPage ch.val + off) = false := by rw [inPea, decide_eq_false hbelow, Bool.false_and]
  simp only [State.effect, hpage, hnotPea]
  rfl

/-- A write to such a register that passes every check. -/
theorem State.act_chsWrite {p : Path} {v : Word} (ch : Fin 16) {off : Nat} (hoff : off < 0x10000)
    (hpass : s.passes p (chsPage ch.val + off) v = true) :
    s.act (fun t => t.writeReg p (chsPage ch.val + off) v) = s.keepsWord p (chsPage ch.val + off) v :=
  State.act_writeReg hpass (State.effect_chs ch hoff _)

end

/-- Settles O34: the decision, the slot and the burst have the effects above, and each register keeps the word written. -/
theorem schedulerCommands : Obligations.SchedulerCommands := by
  unfold Obligations.SchedulerCommands
  intro s p
  refine ⟨?decide, ?launch, ?burst, fun ch v hpass => ?cfg, fun ch v hpass => ?wm, fun ch n v hpass => ?tim⟩
  case decide =>
    intro c q d hready hruns hq hroom hd
    rw [exec_chsDecide, execChsDecide]
    exact ⟨fun hpause => hd.trans (State.decision_paused hq hpause),
      fun hmode => State.edgeCmd_goesOn hready hruns (State.chsDecide_keepsMode hq hroom hd hmode),
      fun hmode => State.edgeCmd_goesOn hready hruns (State.chsDecide_changesMode hq hroom hd hmode)⟩
  case launch =>
    intro c q slot t hready hruns hq hslot hfree ht
    have hedge := State.edgeSlot_free hq hslot hfree ht
    rw [exec_commandLaunch, execCommandLaunch]
    refine ⟨fun hreg => State.edgeCmd_goesOn hready hruns (hedge.trans (State.tryLaunch_empty hreg)),
      fun k op l id why r hreg => ?cmd⟩
    have hlaunch := hedge.trans (State.tryLaunch_cmd hreg)
    refine ⟨fun hearly => State.edgeCmd_goesOn hready hruns (hlaunch.trans (if_pos hearly)),
      fun hdue hallows => State.edgeCmd_goesOn hready hruns ?_, fun hdue hallows => State.edgeCmd_goesOn hready hruns ?_⟩
    all_goals rw [hlaunch, if_neg (Nat.not_lt.mpr hdue), hallows]
    · exact if_pos rfl
    · exact if_neg Bool.false_ne_true
  case burst =>
    intro c r b t ch hready hfind hch ht
    rw [exec_readDataReturn, execReadDataReturn]
    exact ⟨fun hdiscard => State.act_goesOn hready (State.dataReturn_discarded hfind hch ht hdiscard),
      fun x hkept htweak hcore hdest hx =>
        State.act_goesOn hready (State.dataReturn_sounding hfind hch ht hkept htweak hcore hx hdest),
      fun i k x hkept htweak hcore hdest hx =>
        State.act_goesOn hready (State.dataReturn_drain hfind hch ht hkept htweak hcore hx hdest)⟩
  case cfg =>
    rw [exec_chsCfgWrite, execChsCfgWrite]
    exact State.act_chsWrite ch (off := 0) (by decide) hpass
  case wm =>
    rw [exec_chsWmWrite, execChsWmWrite]
    exact State.act_chsWrite ch (by decide) hpass
  case tim =>
    have hn := n.isLt
    rw [exec_chsTimWrite, execChsTimWrite]
    rw [Nat.add_assoc] at hpass ⊢
    exact State.act_chsWrite ch (by omega) hpass

end Sys2Proof.Machine
end

section
/-! PROOFS. The events of a sighted interface (O37): what a CA parity error leaves, a drift sample before and in its pause, a
re-sight that is due or asked for by its interval, and the outcomes of a chunk. -/

namespace Sys2Proof.Machine

section
variable {s : State} {c : Sub} {q : SubState}

/-! ### CA parity (R197, R238) -/

/-- The first error of a channel: its commands are issued again, and no channel re-sight starts. -/
theorem State.caParity_first (hq : q = s.sub c.val) (hin : s.inOutage c.val = false)
    (h0 : (s.sub (2 * (c.val / 2))).lastParity = none) (h1 : (s.sub (2 * (c.val / 2) + 1)).lastParity = none) :
    s.caParity c = (s.setSub c.val { q with
      pause := false, parityPre := List.range s.chipSelects
      replayPend := q.replayPend ++ q.replay.filter fun x => decide (q.slot ≤ x.slot + 64)
        && !q.replayPend.any fun y => y.op == x.op && y.loc == x.loc
      lastParity := some s.chron }).logE 0x0802 0x6008 0 (infoCs c.val 0) := by
  subst hq
  simp only [State.caParity, hin, h0, h1]
  rfl

/-! ### Drift samples (R223, R247) -/

section
variable (hq : q = s.sub c.val) (htrack : s.sgt.phase = .track) (hserves : s.cfg.mode.serves = true) (hfree : q.pause = false)
  (hin : s.inOutage c.val = false) (hpre : q.parityPre = []) (hpend : q.replayPend = [])
include hq htrack hserves hfree hin hpre hpend
variable {counts : List (BitVec 16)} {drifts : List (BitVec 8)} {t : State}
  (ht : t = { s with chron := max s.chron (agetD s.sgt.sampled c.val 0 + max 1 (field (s.reg 0x080008) 0 8) * 1000000) })
include ht

/-- Until its ranks are pulled in, the sample asks for its pause. -/
theorem State.oscSample_asks (hpulled : t.pulledIn c.val = false) : s.oscSample c counts drifts = t.askPause c.val := by
  have huntil : s.until_ (agetD s.sgt.sampled c.val 0 + max 1 (field (s.reg 0x080008) 0 8) * 1000000) = t := ht.symm
  subst hq
  simp only [State.oscSample, htrack, hserves, hfree, hin, hpre, hpend, State.fld, orOne_eq_max, huntil, hpulled]
  rfl

theorem State.oscSample_samples {u : State} (hpulled : t.pulledIn c.val = true)
    (hu : u = ((t.pauseServed c.val).updSgt fun g => { g with sampled := aput g.sampled c.val t.chron }).closeRows c.val) :
    s.oscSample c counts drifts = ((List.range 4).filter (u.csServes c)).foldl (fun x cs =>
      (((x.sends c.val .mpc cs).sends c.val .mrr cs).sends c.val .mrr cs).sampleCs c cs (counts.getD cs 0)
        (drifts.getD cs 0)) u := by
  have huntil : s.until_ (agetD s.sgt.sampled c.val 0 + max 1 (field (s.reg 0x080008) 0 8) * 1000000) = t := ht.symm
  subst hq
  simp only [State.oscSample, htrack, hserves, hfree, hin, hpre, hpend, State.fld, orOne_eq_max, huntil, hpulled, ← hu]
  rfl

end

/-! ### Re-sights (R248) -/

/-- A background re-sight has waited its DEFER_MS. -/
theorem State.resightDue_due {cs : Nat} {r : Resight}
    (hfind : s.sgt.resights.find? (fun r => r.sub == c && r.cs == cs && !r.due) = some r) : s.resightDue c cs =
      ({ s with
        chron := max s.chron (r.since + r.defer * 1000000)
        sgt := { s.sgt with resights := s.sgt.resights.map fun (x : Resight) =>
          if x.sub = c ∧ x.cs = cs then { x with due := true } else x } } : State).event 0x080100 1 := by
  simp only [State.resightDue, hfind, mapIf, Bool.and_eq_true, beq_iff_eq]
  rfl

theorem State.resightInterval_asks {cs k : Nat} {temp : Byte} (hlast : s.resightedAt c cs = some (k, temp))
    (hint : field (s.reg 0x080008) 8 8 ≠ 0) (htrack : s.sgt.phase = .track) (hserves : s.csServes c cs = true) :
    s.resightInterval c cs =
      ({ s with chron := max s.chron (k + field (s.reg 0x080008) 8 8 * 1000000000) } : State).askResight c cs true true false
        none := by
  have hgo : ¬(decide (s.fld 0x080008 8 8 = 0) || s.sgt.phase != .track || !s.csServes c cs) = true := by
    simp [State.fld, hint, htrack, hserves]
  simp only [State.resightInterval, hlast, if_neg hgo]
  rfl

/-! ### Chunks (R241, R249, R251) -/

section
variable {r : Resight} {rest : List Resight} {l : List (Nat × Word)} {t : State} (hq : q = s.sub c.val)
  (hpause : q.pause = true) (horder : s.resightOrder c = r :: rest) (ht : t = s.setSub c.val { q with pause := false })
include hq hpause horder ht

section
variable {u : State} (hu : u = (t.chunkResults r l).writeModes (c.val / 2) (c.val % 2) r.cs)
include hu

/-- The last chunk of a re-sight. -/
theorem State.resightChunk_ends (hlast : r.chunks ≤ r.chunk + 1) :
    s.resightChunk c true l = (u.noteResight r).resightOver r 0 := by
  subst hq ht hu
  simp only [State.resightChunk, hpause, horder, hlast, if_true, List.head?_cons]

theorem State.resightChunk_goesOn (hmore : r.chunk + 1 < r.chunks) : s.resightChunk c true l =
    u.updSgt fun g => { g with resights := g.resights.map fun (x : Resight) =>
      if x.sub = r.sub ∧ x.cs = r.cs then { x with chunk := x.chunk + 1, failed := false } else x } := by
  subst hq ht hu
  simp only [State.resightChunk, hpause, horder, Nat.not_le.mpr hmore, if_true, if_false, List.head?_cons, mapIf,
    Bool.and_eq_true, beq_iff_eq]

end

/-- A chunk that fails once is tried again. -/
theorem State.resightChunk_retries (hfirst : r.failed = false) : s.resightChunk c false l =
    t.updSgt fun g => { g with resights := g.resights.map fun (x : Resight) =>
      if x.sub = r.sub ∧ x.cs = r.cs then { x with failed := true } else x } := by
  subst hq ht
  simp only [State.resightChunk, hpause, horder, hfirst, if_true, List.head?_cons, mapIf, Bool.and_eq_true, beq_iff_eq]
  rfl

/-- A chunk that fails twice ends its re-sight: within a channel re-sight the chip select fails, else a channel re-sight starts. -/
theorem State.resightChunk_fails {n : Nat} {y : State} (hagain : r.failed = true)
    (hn : n = if r.rdTrack ∧ r.chunk < 8 then 0xC else 0xD)
    (hy : y = ((t.resightOver r 2).logE 0x0805 0x6008 0 (n + infoCs c.val r.cs)).event 0x080100 7) :
    s.resightChunk c false l =
      if r.whole then y.csFails (c.val / 2) n (c.val % 2, r.cs) else y.startOutage (c.val / 2) 1 := by
  subst hq ht hn hy
  simp only [State.resightChunk, hpause, horder, hagain, if_true, List.head?_cons, Bool.and_eq_true, decide_eq_true_eq]
  rfl

end

end

/-- Settles O37: each event has the effect of its equation above, and the block goes on from it. That a sample asks for its
pause and that a re-sight has eight chunks of each kind is log entry 35; the chip select that fails within a channel re-sight
is entry 59. -/
theorem interfaceEvents : Obligations.InterfaceEvents := by
  unfold Obligations.InterfaceEvents
  intro s c q hready hq
  refine ⟨?parity, ?sample, ?due, ?interval, ?chunk⟩
  case parity =>
    intro hin h0 h1
    rw [exec_caParity, execCaParity]
    exact State.act_goesOn hready (State.caParity_first hq hin h0 h1)
  case sample =>
    intro counts drifts t htrack hserves hfree hin hpre hpend ht
    rw [exec_oscSample, execOscSample]
    exact ⟨fun hpulled => State.act_goesOn hready
        (State.oscSample_asks hq htrack hserves hfree hin hpre hpend ht hpulled),
      fun u hpulled hu => State.act_goesOn hready
        (State.oscSample_samples hq htrack hserves hfree hin hpre hpend ht hpulled hu)⟩
  case due =>
    intro cs r hfind
    rw [exec_resightDue, execResightDue]
    exact State.act_goesOn hready (State.resightDue_due hfind)
  case interval =>
    intro cs k temp hlast hint htrack hserves
    rw [exec_resightInterval, execResightInterval]
    exact State.act_goesOn hready (State.resightInterval_asks hlast hint htrack hserves)
  case chunk =>
    intro r l rest t u hpause horder ht hu
    rw [exec_resightChunk, execResightChunk, exec_resightChunk, execResightChunk]
    refine ⟨fun hlast => State.act_goesOn hready (State.resightChunk_ends hq hpause horder ht hu hlast),
      fun hmore => State.act_goesOn hready (State.resightChunk_goesOn hq hpause horder ht hu hmore),
      fun hfirst => State.act_goesOn hready (State.resightChunk_retries hq hpause horder ht hfirst),
      fun n y hagain hn hy => ?twice⟩
    have hfails := State.resightChunk_fails (l := l) hq hpause horder ht hagain hn hy
    exact ⟨fun hrank => State.act_goesOn hready (hfails.trans (if_neg (by simp [hrank]))),
      fun hwhole => State.act_goesOn hready (hfails.trans (if_pos hwhole))⟩

end Sys2Proof.Machine
end

section
/-! PROOFS. Refresh and row protection (O35): what a tREFI tick leaves, with the pause it cuts and the chip select that is off,
the thermal poll with good and failed readings, the clearing of the row trackers, and the pause a re-sight waits for. -/

namespace Sys2Proof.Machine

section
variable {s : State}

/-! ### tREFI ticks (R213, R215, R221, R223) -/

/-- The channel of a subchannel is enabled and the block is out of Reset. -/
theorem State.refreshTick_enabled {c : Nat} (cs : Nat) (hmode : s.cfg.mode ≠ .reset)
    (hon : bit (s.reg (chsPage (c / 2))) 31 = true) :
    s.refreshTick c cs =
      if s.csen c cs then (s.until_ (s.nextTick c cs)).refTick c cs
      else if s.counts c cs then (s.until_ (s.nextTick c cs)).offTick c cs else s := by
  have hgo : ¬(s.cfg.mode == .reset || !s.flag (chsPage (c / 2)) 31) = true := by simp [State.flag, hmode, hon]
  rw [State.refreshTick, if_neg hgo]

section
variable {c cs : Nat} {t u : State} {r : RpmSub} {d : Int} (hr : r = t.rpmSub c) (hd : d = r.debtOf cs)
  (hu : u = (t.setRpm c { r with
    ticked := aput r.ticked cs t.chron, limits := aput r.limits cs (t.postpone, t.pullin)
    refiAt := aput r.refiAt cs (t.refi (c / 2))
    off := r.off.filter (· != cs) }).setDebt c cs (d + 1))
include hr hd hu

/-- A tick that leaves the debt below POSTPONE cuts no pause. -/
theorem State.refTick_below (hlow : d + 1 < t.postpone) :
    t.refTick c cs = if u.refDue c cs && !t.refDue c cs then u.event 0x070300 1 else u := by
  subst hr hd hu
  have hcut : ¬(decide (t.postpone ≤ (t.rpmSub c).debtOf cs + 1) && (t.sub c).pause) = true := by
    simp [Int.not_le.mpr hlow]
  simp only [State.refTick, if_neg hcut]
  rfl

/-- A tick that brings the debt to POSTPONE during a pause clears the pause. -/
theorem State.refTick_cutsPause (hhigh : t.postpone ≤ d + 1) (hpause : (t.sub c).pause = true) :
    ∃ x : State, (x = u ∨ x = u.event 0x070300 1) ∧ t.refTick c cs =
      ((x.setSub c { x.sub c with pause := false }).logE 0x0703 0x6007 0 (infoCs c 0)).event 0x070300 4 := by
  subst hr hd
  refine ⟨u.eventIf (u.refDue c cs && !t.refDue c cs) 0x070300 1, ?_, ?_⟩
  · rw [State.eventIf]
    split
    · exact .inr rfl
    · exact .inl rfl
  · subst hu
    simp only [State.refTick, hhigh, hpause, decide_true, Bool.and_self, if_true]
    rfl

end

/-! ### The thermal poll (R216, R228, R235) -/

theorem State.exec_thermalPoll_goesOn {ch : Fin 16} {l : List (Option Byte)} {w : State} (hready : s.ready = true)
    (h : s.thermalPoll ch.val l = w) : exec (.thermalPoll ch l) s = s.goesOn w := by
  rw [exec_thermalPoll, execThermalPoll]
  exact State.act_goesOn hready h

/-- A poll waits while a firmware transaction is on its channel's bus. -/
theorem State.thermalPoll_waits {ch : Nat} (hbusy : s.sgt.sbBusy = true) (hfirst : s.sgt.sbAfterPoll = false)
    (hch : field s.sgt.sbCmd 24 4 = ch) (l : List (Option Byte)) : s.thermalPoll ch l = s := by
  have hon : s.sbOn ch = true := by simp [State.sbOn, State.sbChannel, hbusy, hfirst, hch]
  rw [State.thermalPoll, if_pos hon]

section
variable {ch : Nat} {t u : State} {old : Thermal} (hidle : s.sgt.sbBusy = false)
  (ht : t = { s with chron := max s.chron ((s.therm ch).polled + max 1 (field (s.reg 0x070004) 0 8) * 1000000) })
  (hold : old = { s.therm ch with polled := t.chron })
  (hu : u = (t.setTherm ch old).updSgt (fun g => { g with i3c := insertNat g.i3c ch }))
include hidle ht hold hu

/-- A poll with no transaction in progress: its readings are judged when the poll is ready. -/
theorem State.thermalPoll_idle (l : List (Option Byte)) : s.thermalPoll ch l =
    if l.isEmpty || (l.filterMap fun x => x).length < l.length then u.badReading ch
    else (u.goodReading ch ((l.filterMap fun x => x).foldl (fun m v => if m.toNat < v.toNat then v else m) 0)).coolDown := by
  have huntil : s.until_ (s.pollAt ch) = t := by rw [ht, State.pollAt, orOne_eq_max]; rfl
  subst hold hu
  simp only [State.thermalPoll, State.sbOn, hidle, huntil, Bool.false_and]
  subst ht
  rfl

theorem State.thermalPoll_fails {l : List (Option Byte)} (hnone : none ∈ l) : s.thermalPoll ch l = u.badReading ch := by
  have hfew : (l.filterMap fun x => x).length < l.length :=
    List.length_filterMap_lt_length_iff_exists.mpr ⟨none, hnone, rfl⟩
  rw [State.thermalPoll_idle hidle ht hold hu, decide_eq_true hfew, Bool.or_true, if_pos rfl]

theorem State.thermalPoll_reads (v : Byte) : s.thermalPoll ch [some v] = (u.goodReading ch v).coolDown := by
  have hhottest : (if (0 : Byte).toNat < v.toNat then v else 0) = v := by
    split
    case isTrue => rfl
    case isFalse hzero => exact (BitVec.eq_of_toNat_eq (by simpa using hzero)).symm
  rw [State.thermalPoll_idle hidle ht hold hu]
  exact congrArg (fun w => (u.goodReading ch w).coolDown) hhottest

end

/-! ### Failed readings (R216) -/

theorem State.badReading_counts {ch : Nat} (h : (s.therm ch).bad + 1 ≠ 3) :
    s.badReading ch = s.setTherm ch { s.therm ch with bad := min 3 ((s.therm ch).bad + 1), good := 0 } := if_neg h

/-- The third failed reading in a row puts the channel on the hot tREFI. -/
theorem State.badReading_third {ch : Nat} (h : (s.therm ch).bad + 1 = 3) : s.badReading ch =
    ((s.setTherm ch { s.therm ch with bad := 3, good := 0, hot := true, byFail := true }).logE 0x0702 0x6007 0
      (ch * 2 ^ 32)).event 0x070300 6 := by
  simp only [State.badReading, h, if_true]
  rfl

/-! ### The pause of a re-sight (R223, R249) -/

section
variable {c : Sub} (hfree : (s.sub c.val).pause = false) (hin : s.inOutage c.val = false) (htrack : s.sgt.phase = .track)
  (hpre : (s.sub c.val).parityPre = []) (hpend : (s.sub c.val).replayPend = []) (hwanted : (s.resightNow c).isSome = true)
include hfree hin htrack hpre hpend hwanted

/-- A pause that is wanted is granted once every rank is pulled in; until then it is asked for. -/
theorem State.pauseGrant_wanted : s.pauseGrant c =
    if s.pulledIn c.val then ((s.setSub c.val { s.sub c.val with pause := true }).pauseServed c.val).closeRows c.val
    else s.askPause c.val := by
  have hnone : (s.resightNow c).isNone = false := by rw [← Option.not_isSome, hwanted]; rfl
  cases hpulled : s.pulledIn c.val <;>
    simp only [State.pauseGrant, hfree, hin, htrack, hpre, hpend, hnone, hpulled] <;> rfl

end

end

/-- Settles O35: each command has the effect of its equation above, and the block goes on from it. That a poll with any
unreadable sensor is a failed reading is log entry 38; that a pause which is not yet granted is asked for is entry 35. -/
theorem refreshCommands : Obligations.RefreshCommands := by
  unfold Obligations.RefreshCommands
  intro s p
  refine ⟨fun v hpass => State.act_writeReg hpass rfl, ?tick, ?poll, ?clear, ?pause⟩
  case tick =>
    intro c cs t u r d hready hruns hmode hon ht hr hd
    have hcmd := State.refreshTick_enabled cs.val hmode hon
    have huntil : s.until_ (s.nextTick c.val cs.val) = t := ht.symm
    rw [huntil] at hcmd
    rw [exec_refreshTick, execRefreshTick]
    refine ⟨fun hcsen hu => ⟨fun hlow => ?below, fun hhigh hpause => ?cut⟩, fun hcsen hcounts => ?off⟩
    case below =>
      exact State.edgeCmd_goesOn hready hruns (hcmd.trans ((if_pos hcsen).trans (State.refTick_below hr hd hu hlow)))
    case cut =>
      obtain ⟨x, hx, htick⟩ := State.refTick_cutsPause hr hd hu hhigh hpause
      exact ⟨x, hx, State.edgeCmd_goesOn hready hruns (hcmd.trans ((if_pos hcsen).trans htick))⟩
    case off =>
      rw [hcsen, hcounts] at hcmd
      subst hr
      exact State.edgeCmd_goesOn hready hruns hcmd
  case poll =>
    intro ch t u old hready ht hold hu
    refine ⟨fun hbusy hfirst hch l => State.exec_thermalPoll_goesOn hready (State.thermalPoll_waits hbusy hfirst hch l),
      fun hidle l hnone => ?failed,
      fun hidle v => State.exec_thermalPoll_goesOn hready (State.thermalPoll_reads hidle ht hold hu v)⟩
    have hfails := State.thermalPoll_fails hidle ht hold hu hnone
    exact ⟨fun hbad => State.exec_thermalPoll_goesOn hready (hfails.trans (State.badReading_counts hbad)),
      fun hthird => State.exec_thermalPoll_goesOn hready (hfails.trans (State.badReading_third hthird))⟩
  case clear =>
    rintro ch n hready rfl
    rw [exec_trackerClear, execTrackerClear]
    exact State.act_goesOn hready rfl
  case pause =>
    intro c hready hfree hin htrack hpre hpend hwanted
    have hgrant := State.pauseGrant_wanted hfree hin htrack hpre hpend hwanted
    rw [exec_pauseGrant, execPauseGrant]
    refine ⟨fun hpulled => State.act_goesOn hready (hgrant.trans (if_neg ?_)),
      fun hpulled => State.act_goesOn hready (hgrant.trans (if_pos hpulled))⟩
    rw [hpulled]
    exact Bool.false_ne_true

end Sys2Proof.Machine
end

section
/-! PROOFS. Sighting and the sideband (O36): what DISCOVER and START answer and do, the re-sights of SGT_CTL, a step that passes
and one that is tried again, and a transaction of the sideband from its GO to its result. -/

namespace Sys2Proof.Machine

section
variable {s : State}

/-! ### Writes that are answered with a code of their own (R233) -/

/-- A write command of a path that is taken: the answer and the effect it has. -/
theorem State.act_writeCmd {u : State} {p : Path} {c : Code} {f : State → Code × State} (h : s.takesReg p = true)
    (hf : f s = (c, u)) : s.act (fun t => t.writeCmd p f) = s.answers p c u := by
  refine State.act_goesOn (State.ready_of_takesReg h) ?_
  rw [State.writeCmd, if_pos (State.reaches_of_takesReg h), hf]

/-- A register write that passes every check, whatever code its effect has. -/
theorem State.act_writeReg_code {u : State} {p : Path} {off : Nat} {v : Word} {c : Code} (h : s.passes p off v = true)
    (hu : s.effect off (s.newWord off v) = (c, u)) : s.act (fun t => t.writeReg p off v) = s.answers p c u := by
  refine State.act_goesOn (State.ready_of_takesReg (State.takesReg_of_passes h)) ?_
  rw [State.writeReg_of_passes h, hu]

/-! ### DISCOVER (R233) -/

theorem State.discover_closed {hubs : List SpdModule} (h : s.sightClosed = true) : s.discover hubs = (.errMode, s) := if_pos h

section
variable {hubs : List SpdModule} (hopen : s.sightClosed = false)
include hopen

theorem State.discover_fits (hfits : popFault hubs = none) : s.discover hubs = (.ok, { s with sgt := { s.sgt with
    hubs := hubs, asked := true, pop := popWord hubs, discovered := true, i3c := List.range 16 } }) := by
  simp only [State.discover, hopen, hfits]
  rfl

/-- The first slot that breaks the population is logged. -/
theorem State.discover_mismatch {ch k : Nat} (hfault : popFault hubs = some (ch, k)) :
    s.discover hubs = (.ok, (({ s with sgt := { s.sgt with
      hubs := hubs, asked := true, pop := popWord hubs, discovered := false, i3c := List.range 16 } } : State).logE
        0x0801 0x6008 0 (k + ch * 2 ^ 32)).event 0x080100 3) := by
  simp only [State.discover, hopen, hfault]
  rfl

end

/-! ### START (R233, R236, R442) -/

theorem State.sgtStart_closed (h : s.sightClosed = true) : s.sgtStart = (.errMode, s) := if_pos h

section
variable (hopen : s.sightClosed = false)
include hopen

theorem State.sgtStart_code : s.sgtStart.1 = .ok := by
  rw [State.sgtStart, if_neg (by simp [hopen])]
  split
  · rfl
  · split <;> rfl

/-- START while initial Sighting runs changes nothing. -/
theorem State.sgtStart_running (hmode : s.cfg.mode = .sighting) (htrain : s.sgt.phase = .train) :
    s.sgtStart = (.ok, s) := by
  simp [State.sgtStart, hopen, hmode, htrain]

variable (hphase : s.sgt.phase ≠ .train)
include hphase

theorem State.sgtStart_misfit (hfits : s.startFits = false) : s.sgtStart = (.ok, s.event 0x080100 4) := by
  simp [State.sgtStart, hopen, hphase, hfits]

theorem State.sgtStart_begins {l : List (Nat × Nat × Nat × Nat)} (hfits : s.startFits = true)
    (htiming : s.timingAt (field (s.reg 0x080000) 0 4) = some l) : s.sgtStart = (.ok,
      (((s.writeTiming l).updCfg fun c => { c with startAccepted := true, sightDone := false }).beginSighting.updSgt fun g =>
        { g with started := s.chron, fallbacks := 0 }).reeval) := by
  simp [State.sgtStart, State.fld, hopen, hphase, hfits, htiming]

end

/-! ### SGT_CTL (R233, R248, R251, R254) -/

theorem State.effect_sgtCtl (w : Word) : s.effect 0x080010 w = s.sgtCtl w := rfl

/-- The action bits of SGT_CTL and the fields of RESIGHT are writable. -/
theorem State.bit_newWord_sgtCtl (v : Word) {i : Nat} (hi : bit 0xF00F1300 i = true) :
    bit (s.newWord 0x080010 v) i = bit v i :=
  State.bit_newWord (by decide) hi

/-- The word of RESIGHT names a rank outside its action bits: these stand in the new word as the command gives them. -/
theorem State.bit_newWord_resight (v a : Word) {i : Nat} (hi : bit 0xF00F1300 i = true) (hrank : bit 0x000F1300 i = false) :
    bit (s.newWord 0x080010 ((v &&& 0x000F1300) ||| a)) i = bit a i := by
  rw [bit] at hrank
  rw [State.bit_newWord_sgtCtl _ hi, bit, BitVec.getLsbD_or, BitVec.getLsbD_and, hrank, Bool.and_false, Bool.false_or, ← bit]

theorem State.sgtCtl_start {w : Word} (h29 : bit w 29 = false) (h30 : bit w 30 = false) (h31 : bit w 31 = true) :
    s.sgtCtl w = s.sgtStart := by
  have hctl : s.sgtCtl w = if s.sightClosed then (.errMode, s) else (.ok, s.sgtStart.2) := by
    simp [State.sgtCtl, h29, h30, h31]
  rw [hctl]
  split
  case isTrue hclosed => exact (State.sgtStart_closed hclosed).symm
  case isFalse hopen => rw [← State.sgtStart_code (Bool.eq_false_iff.mpr hopen)]

/-- The write of START alone. -/
theorem State.effect_start : s.effect 0x080010 (s.newWord 0x080010 0x80000000) = s.sgtStart :=
  State.sgtCtl_start (State.bit_newWord_sgtCtl _ (by decide)) (State.bit_newWord_sgtCtl _ (by decide))
    (State.bit_newWord_sgtCtl _ (by decide))

/-! ### RESIGHT (R248, R251) -/

/-- A write with RESIGHT alone among the commands. -/
theorem State.effect_resight (v : Word) {a w : Word} (h29 : bit a 29 = true) (h30 : bit a 30 = false) (h31 : bit a 31 = false)
    (hw : w = s.newWord 0x080010 ((v &&& 0x000F1300) ||| a)) : s.effect 0x080010 w = (.ok, s.ctlResight w) := by
  have hbit {i : Nat} (hi : bit 0xF00F1300 i = true) (hrank : bit 0x000F1300 i = false) : bit w i = bit a i :=
    hw ▸ State.bit_newWord_resight v a hi hrank
  rw [State.effect_sgtCtl]
  simp [State.sgtCtl, hbit (i := 29) (by decide) (by decide), hbit (i := 30) (by decide) (by decide),
    hbit (i := 31) (by decide) (by decide), h29, h30, h31]

section
variable (hphase : s.sgt.phase = .track ∨ s.sgt.phase = .outage)
include hphase

theorem State.ctlResight_full {w : Word} (h28 : bit w 28 = true) : s.ctlResight w = s.startOutage (field w 16 4) 3 := by
  rcases hphase with h | h <;> simp [State.ctlResight, h, h28]

theorem State.ctlResight_rank {w : Word} {c : Sub} (h28 : bit w 28 = false)
    (hc : c = Fin.ofNat 32 (2 * field w 16 4 + field w 12 1)) (hserves : s.csServes c (field w 8 2) = true) :
    s.ctlResight w = s.askResight c (field w 8 2) true true false none := by
  rcases hphase with h | h <;> simp only [State.ctlResight, h, h28, ← hc, hserves] <;> rfl

end

/-! ### The steps of Sighting (R240, R241) -/

section
variable {r : StepResult} {key : Nat} (hfrozen : s.cfg.frozen = false) (htrain : s.sgt.phase = .train)
  (hruns : s.stepRuns r = true) (hkey : key = scopeKey (stepScope r.step.toNat) r.channel.val r.sub.val r.unit.val)
include hfrozen htrain hruns hkey

theorem State.sightStep_passes (hpass : r.pass = true)
    (hmet : s.windowsMet r.channel.val r.step.toNat (r.sub.val, r.unit.val) r.results = true) :
    s.sightStep r = (s.stepPasses r key).stepSettled r.channel.val := by
  subst hkey
  simp [State.sightStep, hfrozen, htrain, hruns, hpass, hmet]

/-- A step that fails with tries left, but for IMPCAL, which raises IMP_RANGE besides. -/
theorem State.sightStep_retries
    (hfails : r.pass = false ∨ s.windowsMet r.channel.val r.step.toNat (r.sub.val, r.unit.val) r.results = false)
    (hstep : r.step ≠ 1) (hleft : agetD s.sgt.retries key 0 < field (s.reg 0x080000) 8 2) :
    s.sightStep r = { s with sgt := { s.sgt with
      retries := aput s.sgt.retries key (agetD s.sgt.retries key 0 + 1) } } := by
  have hno : (r.pass && s.windowsMet r.channel.val r.step.toNat (r.sub.val, r.unit.val) r.results) = false :=
    Bool.and_eq_false_iff.mpr hfails
  have hother : r.step.toNat ≠ 1 := fun h => hstep (BitVec.eq_of_toNat_eq h)
  have hgo : ¬(s.cfg.frozen || !(s.sgt.phase == .train || s.sgt.outages.contains r.channel.val) || !s.stepRuns r) = true := by
    simp [hfrozen, htrain, hruns]
  subst hkey
  simp only [State.sightStep, if_neg hgo, hno, if_neg hother, State.fld, if_pos hleft]
  rfl

end

/-! ### GO of the sideband (R234, R235, R259) -/

theorem State.effect_sidebandCmd (w : Word) : s.effect 0x080030 w = (.ok, s.sidebandCmd w) := rfl

theorem State.bit_newWord_go (v : Word) : bit (s.newWord 0x080030 (v ||| 0x80000000)) 31 = true := by
  rw [State.bit_newWord (m := 0xFF7F07FF) (by decide) (by decide), bit, BitVec.getLsbD_or]
  exact Bool.or_true _

theorem State.reg_setReg_other {off off' : Nat} (w : Word) (h : off' ≠ off) : (s.setReg off w).reg off' = s.reg off' := by
  have haget : aget (s.setReg off w).regs off' = aget s.regs off' := by
    rw [State.setReg, aputD]
    split
    · exact aget_adel_other _ h
    · exact aget_aput_other _ _ h
  rw [State.reg, haget, ← State.reg]

section
variable {w : Word} (hgo : bit w 31 = true) (hidle : s.sgt.sbBusy = false)
include hgo hidle

theorem State.sidebandCmd_refused (h : s.sidebandRefused w = true) :
    s.sidebandCmd w = (s.setReg 0x080030 (w &&& 0x7FFFFFFF)).updSgt fun g => { g with sbResult := 4 } := by
  simp [State.sidebandCmd, hgo, hidle, h]

/-- A transaction begins; a poll of its channel that is ready goes first. -/
theorem State.sidebandCmd_begins (h : s.sidebandRefused w = false) :
    s.sidebandCmd w = (s.setReg 0x080030 (w &&& 0x7FFFFFFF)).updSgt fun g => { g with
      sbBusy := true, sbCmd := w, sbSince := s.chron
      sbAfterPoll := s.sgt.discovered && bit s.sgt.pop (field w 24 4) && decide ((s.therm (field w 24 4)).polled
        + max 1 (field (s.reg 0x070004) 0 8) * 1000000 ≤ s.chron) } := by
  have hpoll : (s.setReg 0x080030 (w &&& 0x7FFFFFFF)).pollReady (field w 24 4) =
      (s.sgt.discovered && bit s.sgt.pop (field w 24 4) && decide ((s.therm (field w 24 4)).polled
        + max 1 (field (s.reg 0x070004) 0 8) * 1000000 ≤ s.chron)) := by
    rw [State.pollReady, State.pollAt, State.fld, State.reg_setReg_other _ (by decide), orOne_eq_max]
    rfl
  simp only [State.sidebandCmd, hgo, hidle, h, hpoll]
  rfl

end

/-! ### The end of a transaction (R234) -/

section
variable {r : BitVec 3} {data : Word} (hbusy : s.sgt.sbBusy = true) (hfirst : s.sgt.sbAfterPoll = false)
include hbusy hfirst

theorem State.sidebandDone_late (h : s.sgt.sbSince + 3000000 < s.chron ∨ r = 3) : s.sidebandDone r data =
    { s with chron := max s.chron (s.sgt.sbSince + 3000000)
             sgt := { s.sgt with
               i3c := insertNat s.sgt.i3c (field s.sgt.sbCmd 24 4), sbBusy := false, sbResult := 3 } } := by
  have hgo : ¬(!s.sgt.sbBusy || s.sgt.sbAfterPoll) = true := by simp [hbusy, hfirst]
  have hlate : (r == 3 || decide (s.sbLimit < s.chron)) = true := by
    rw [Bool.or_eq_true, beq_iff_eq, decide_eq_true_iff]
    exact h.symm
  simp only [State.sidebandDone, if_neg hgo, hlate, if_true]
  rfl

/-- A transaction in time: its result is kept, and a read that completed leaves its data. -/
theorem State.sidebandDone_inTime {t : State} (htime : s.chron ≤ s.sgt.sbSince + 3000000) (hr : r ≠ 3)
    (ht : t = { s with sgt := { s.sgt with
      i3c := insertNat s.sgt.i3c (field s.sgt.sbCmd 24 4), sbBusy := false, sbResult := r } }) :
    s.sidebandDone r data =
      if r = 0 && !bit s.sgt.sbCmd 30 then
        t.setReg 0x080034 (putField (s.reg 0x080034) 0 (8 * (field s.sgt.sbCmd 28 2 + 1)) data.toNat)
      else t := by
  have hgo : ¬(!s.sgt.sbBusy || s.sgt.sbAfterPoll) = true := by simp [hbusy, hfirst]
  have hlate : (r == 3 || decide (s.sbLimit < s.chron)) = false := by
    rw [Bool.or_eq_false_iff, beq_eq_false_iff_ne, decide_eq_false_iff_not]
    exact ⟨hr, Nat.not_lt.mpr htime⟩
  subst ht
  simp only [State.sidebandDone, if_neg hgo, hlate, Bool.false_eq_true, if_false]
  rfl

end

end

/-- Settles O36: each write has its effect above with the code it is answered with, and each step of Sighting and of the
sideband its own. That DISCOVER logs one POP_MISMATCH is log entry 35; that a transaction which does not complete ends with
code 3 at 3 ms is entry 82. -/
theorem sightingCommands : Obligations.SightingCommands := by
  unfold Obligations.SightingCommands
  intro s p
  refine ⟨?discover, ?start, ?resight, ?full, ?step, ?go, ?done⟩
  case discover =>
    intro hubs htakes
    rw [exec_sgtDiscover, execSgtDiscover]
    exact ⟨fun hclosed => State.act_writeCmd htakes (State.discover_closed hclosed),
      fun hopen hfits => State.act_writeCmd htakes (State.discover_fits hopen hfits),
      fun ch k hopen hfault => State.act_writeCmd htakes (State.discover_mismatch hopen hfault)⟩
  case start =>
    intro hpass
    rw [exec_sgtStart, execSgtStart]
    exact ⟨fun hclosed => State.act_writeReg_code hpass (State.effect_start.trans (State.sgtStart_closed hclosed)),
      fun hopen hmode htrain => State.act_writeReg hpass (State.effect_start.trans (State.sgtStart_running hopen hmode htrain)),
      fun hopen hphase hfits => State.act_writeReg hpass (State.effect_start.trans (State.sgtStart_misfit hopen hphase hfits)),
      fun l hopen hphase hfits htiming =>
        State.act_writeReg hpass (State.effect_start.trans (State.sgtStart_begins hopen hphase hfits htiming))⟩
  case resight =>
    rintro v w c hpass rfl hphase hc hserves
    have h28 := State.bit_newWord_resight (s := s) v 0x20000000 (i := 28) (by decide) (by decide)
    rw [exec_sgtResight, execSgtResight]
    refine State.act_writeReg hpass ?_
    rw [State.effect_resight v (by decide) (by decide) (by decide) rfl, State.ctlResight_rank hphase h28 hc hserves]
  case full =>
    rintro v w hpass rfl hphase
    have h28 := State.bit_newWord_resight (s := s) v 0x30000000 (i := 28) (by decide) (by decide)
    rw [exec_sgtResightFull, execSgtResightFull]
    refine State.act_writeReg hpass ?_
    rw [State.effect_resight v (by decide) (by decide) (by decide) rfl, State.ctlResight_full hphase h28]
  case step =>
    intro r key hready hfrozen htrain hruns hkey
    rw [exec_sightStepDone, execSightStepDone]
    exact ⟨fun hpass hmet => State.act_goesOn hready (State.sightStep_passes hfrozen htrain hruns hkey hpass hmet),
      fun hfails hstep hleft =>
        State.act_goesOn hready (State.sightStep_retries hfrozen htrain hruns hkey hfails hstep hleft)⟩
  case go =>
    rintro v w hpass rfl hidle
    rw [exec_sidebandCmdGo, execSidebandCmdGo]
    have hgo : bit (s.newWord 0x080030 (v ||| 0x80000000)) 31 = true := State.bit_newWord_go v
    refine ⟨fun hrefused => State.act_writeReg hpass ?_, fun hallowed => State.act_writeReg hpass ?_⟩
    · rw [State.effect_sidebandCmd, State.sidebandCmd_refused hgo hidle hrefused]
    · rw [State.effect_sidebandCmd, State.sidebandCmd_begins hgo hidle hallowed]
  case done =>
    intro r data t hready hbusy hfirst
    rw [exec_sidebandDone, execSidebandDone]
    refine ⟨fun htime hr ht => ?inTime, fun hlate => State.act_goesOn hready (State.sidebandDone_late hbusy hfirst hlate)⟩
    have hdone := State.sidebandDone_inTime (data := data) hbusy hfirst htime hr ht
    refine ⟨fun hfailed => State.act_goesOn hready (hdone.trans (if_neg ?_)),
      fun _ hwrite => State.act_goesOn hready (hdone.trans (if_neg (by simp [hwrite]))),
      fun hok hread => State.act_goesOn hready (hdone.trans (if_pos (by simp [hok, hread])))⟩
    rw [decide_eq_false hfailed]
    exact Bool.false_ne_true

end Sys2Proof.Machine
end

section
/-! PROOFS. The whole block (O55–O59): every command has the form of an own effect or is one of the board's, and a step is
the command in front or a period of REFCLK. -/

namespace Sys2Proof.Machine

/-! ### What every command keeps -/

/-- A command in the common form leaves nothing to record. -/
theorem State.within_recorded {s t : State} {f : State → State} (hs : s.recorded = true) (h : s.within f = .next t) :
    t.recorded = true := by
  unfold State.within at h
  split at h
  · cases h; exact hs
  · cases h; exact State.flush_recorded _

/-- What the board's commands have in common: they answer a next state with the queue they found, and record nothing. -/
theorem exec_boardRow {c : Instr} (h : boardRow c = true) (s : State) :
    ∃ t, exec c s = .next t ∧ t.pending = s.pending ∧ (s.recorded = true → t.recorded = true) := by
  cases c
  case rstNAssert => exact ⟨_, rfl, rfl, fun _ => rfl⟩
  case rstNRelease edgeSync =>
    refine ⟨s.rstRelease edgeSync, rfl, ?_⟩
    unfold State.rstRelease
    split
    · exact ⟨rfl, id⟩
    · exact ⟨rfl, id⟩
  case bypass => exact ⟨_, rfl, rfl, id⟩
  case idcode => exact ⟨_, rfl, rfl, id⟩
  case samplePreload cells => exact ⟨_, rfl, rfl, id⟩
  case extest cells => exact ⟨_, rfl, rfl, fun _ => rfl⟩
  case ijtag mbist fuse =>
    cases fuse
    · exact ⟨_, rfl, rfl, id⟩
    · exact ⟨_, rfl, rfl, fun _ => rfl⟩
  case scan => exact ⟨_, rfl, rfl, fun _ => rfl⟩
  all_goals cases h

/-- Every command answers a next state with the queue it found. -/
theorem exec_completes (c : Instr) (s : State) : ∃ t, exec c s = .next t ∧ t.pending = s.pending := by
  obtain hboard | ⟨f, hf⟩ := exec_form c
  · obtain ⟨t, ht, hq, -⟩ := exec_boardRow hboard s
    exact ⟨t, ht, hq⟩
  · rw [hf s]
    exact State.within_completes s f

/-- Every command leaves nothing to record where it found nothing. -/
theorem exec_recorded {c : Instr} {s t : State} (hs : s.recorded = true) (h : exec c s = .next t) : t.recorded = true := by
  obtain hboard | ⟨f, hf⟩ := exec_form c
  · obtain ⟨u, hu, -, hrec⟩ := exec_boardRow hboard s
    cases hu.symm.trans h
    exact hrec hs
  · exact State.within_recorded hs ((hf s).symm.trans h)

/-- A period of REFCLK is an effect in the common form. -/
theorem State.next_tick (s : State) : Host.Outcome.next s.tick = s.within State.refclk := by
  unfold State.tick State.within
  split <;> rfl

/-- A step takes the command in front, or is a period of REFCLK. -/
theorem step_cases (s : State) :
    (s.pending = [] ∧ step s = s.within State.refclk)
      ∨ ∃ c rest, s.pending = c :: rest ∧ step s = exec c { s with pending := rest } := by
  unfold step
  cases s.pending with
  | nil => exact .inl ⟨rfl, s.next_tick⟩
  | cons c rest => exact .inr ⟨c, rest, rfl, rfl⟩

/-- Settles O57: a step is a command or a period of REFCLK, and both end with everything recorded. -/
theorem stepsRecordEverything : Obligations.StepsRecordEverything := by
  unfold Obligations.StepsRecordEverything
  intro s t hs h
  obtain ⟨-, hstep⟩ | ⟨c, rest, -, hstep⟩ := step_cases s
  · exact State.within_recorded hs (hstep.symm.trans h)
  · exact exec_recorded (s := { s with pending := rest }) hs (hstep.symm.trans h)

/-- Settles O58: each command has the queue it found. That the commands wait in one queue is the model's own choice (log
entry 4). -/
theorem commandsLeaveTheQueue : Obligations.CommandsLeaveTheQueue := by
  unfold Obligations.CommandsLeaveTheQueue
  have hexec : ∀ (c : Instr) (s t : State), exec c s = .next t → t.pending = s.pending := by
    intro c s t h
    obtain ⟨u, hu, hq⟩ := exec_completes c s
    cases hu.symm.trans h
    exact hq
  refine ⟨hexec, fun s t h => ?_⟩
  obtain ⟨hempty, hstep⟩ | ⟨c, rest, hpending, hstep⟩ := step_cases s
  · obtain ⟨u, hu, hq⟩ := State.within_completes s State.refclk
    cases (hu.symm.trans hstep.symm).trans h
    simp [hq, hempty]
  · rw [hpending]
    exact hexec c _ t (hstep.symm.trans h)

/-- Settles O55: with an empty queue a step is a period of REFCLK (the model's own choice, log entry 1), by the cases of its
slew. -/
theorem stepRunsFrontCommand : Obligations.StepRunsFrontCommand := by
  unfold Obligations.StepRunsFrontCommand
  intro s
  have hstep (hempty : s.pending = []) : step s = s.within State.refclk := by
    obtain ⟨-, h⟩ | ⟨c, rest, h, -⟩ := step_cases s
    · exact h
    · rw [hempty] at h; cases h
  refine ⟨fun c rest => rfl, fun hempty hheld => ?_, fun hempty hfree => ?_⟩
  · rw [hstep hempty, State.within, if_pos hheld]
  · have hready : s.ready = true := by rw [State.ready, hfree]; rfl
    rw [hstep hempty]
    refine ⟨fun h => ?_, fun h hmore => ?_, fun h hlast => ?_, fun h hlast => ?_⟩ <;> apply State.within_becomes hready
    · rw [State.refclk, if_pos h]
    · rw [State.refclk, if_neg h, if_pos hmore]
    · rw [State.refclk, if_neg h.ne', if_neg (Nat.not_lt.mpr hlast), if_pos h]
    · rw [State.refclk, if_neg h.ne, if_neg (Nat.not_lt.mpr hlast), if_neg h.le.not_gt]

/-- Settles O56: each part of the state after reset as the model lists it. -/
theorem stateAfterReset : Obligations.StateAfterReset := by
  unfold Obligations.StateAfterReset
  refine ⟨rfl, rfl, rfl, rfl, rfl, ?_, rfl, rfl, fun _ => rfl, fun _ => rfl, fun _ => rfl, rfl, rfl, rfl, rfl, fun _ => rfl, rfl, ?_⟩
  · decide
  · decide

end Sys2Proof.Machine
end

section
/-! PROOFS. Status words (O60): what a handshake with events does to a register's sequence and bits, and what a clear does. -/

namespace Sys2Proof.Machine

/-! ### The events of a handshake (R454) -/

theorem nodup_eraseDups : ∀ l : List Nat, l.eraseDups.Nodup
  | [] => List.nodup_nil
  | a :: r => by
    rw [List.eraseDups_cons, List.nodup_cons]
    refine ⟨fun h => ?_, nodup_eraseDups _⟩
    rw [List.mem_eraseDups, List.mem_filter] at h
    simp at h
termination_by l => l.length
decreasing_by exact Nat.lt_succ_of_le (List.length_filter_le _ r)

section
variable {α : Type} (g : Nat → Option α → α)

/-- What a key holds after each key of a list has been set once from what it held. -/
def setEach (m : List (Nat × α)) (ks : List Nat) : List (Nat × α) := ks.foldl (fun m k => aput m k (g k (aget m k))) m

theorem aget_setEach_notMem {k : Nat} : ∀ (ks : List Nat) (m : List (Nat × α)), k ∉ ks → aget (setEach g m ks) k = aget m k
  | [], _, _ => rfl
  | j :: ks, m, h => by
    obtain ⟨hj, hks⟩ := not_or.mp (mt List.mem_cons.mpr h)
    exact (aget_setEach_notMem ks _ hks).trans (aget_aput_other _ _ hj)

theorem aget_setEach_mem {k : Nat} : ∀ (ks : List Nat) (m : List (Nat × α)), ks.Nodup → k ∈ ks →
    aget (setEach g m ks) k = some (g k (aget m k))
  | j :: ks, m, hnodup, h => by
    obtain ⟨hj, hks⟩ := List.nodup_cons.mp hnodup
    by_cases hkj : k = j
    · subst hkj
      exact (aget_setEach_notMem g ks _ hj).trans (aget_aput_same _ _ _)
    · have hk : k ∈ ks := (List.mem_cons.mp h).resolve_left hkj
      refine (aget_setEach_mem ks _ hks hk).trans ?_
      rw [aget_aput_other _ _ hkj]

end

/-- The bits of a register's events in this handshake. -/
def State.eventBits (s : State) (sts : Nat) : List Nat := (s.evts.filter fun e => e.sts == sts).map fun e => e.bit

theorem State.recordEvts_sts (s : State) :
    s.recordEvts.sts = setEach (fun r c => (c.getD {}).record (s.eventBits r)) s.sts (s.evts.map fun e => e.sts).eraseDups := rfl

theorem State.eventBits_eq_nil_iff {s : State} {sts : Nat} :
    s.eventBits sts = [] ↔ sts ∉ (s.evts.map fun e => e.sts).eraseDups := by
  simp only [State.eventBits, List.map_eq_nil_iff, List.filter_eq_nil_iff, List.mem_eraseDups, List.mem_map, not_exists,
    not_and, beq_iff_eq]

theorem State.recordEvts_none {s : State} {sts : Nat} (h : s.eventBits sts = []) :
    aget s.recordEvts.sts sts = aget s.sts sts := by
  rw [State.recordEvts_sts, aget_setEach_notMem _ _ _ (State.eventBits_eq_nil_iff.mp h)]

theorem State.recordEvts_some {s : State} {sts : Nat} (h : s.eventBits sts ≠ []) :
    aget s.recordEvts.sts sts = some ((agetD s.sts sts {}).record (s.eventBits sts)) := by
  rw [State.recordEvts_sts, aget_setEach_mem _ _ _ (nodup_eraseDups _)]
  · rfl
  · exact not_not.mp (mt State.eventBits_eq_nil_iff.mpr h)

/-! ### One register (R454) -/

/-- Bit `b` of a word that has bit `k` alone. -/
theorem getLsbD_oneBit {k b : Nat} (hb : b < 24) : (BitVec.ofNat 24 (1 <<< k)).getLsbD b = decide (b = k) := by
  rw [BitVec.getLsbD_ofNat, Nat.one_shiftLeft, Nat.testBit_two_pow]
  simp [hb, eq_comm]

theorem getLsbD_foldl_set {b : Nat} (hb : b < 24) : ∀ (l : List Nat) (w : BitVec 24),
    (l.foldl (fun w k => w ||| BitVec.ofNat 24 (1 <<< k)) w).getLsbD b = (decide (b ∈ l) || w.getLsbD b)
  | [], w => by simp
  | k :: l, w => by
    rw [List.foldl_cons, getLsbD_foldl_set hb l, BitVec.getLsbD_or, getLsbD_oneBit hb]
    simp only [List.mem_cons, Bool.decide_or]
    cases decide (b = k) <;> cases decide (b ∈ l) <;> simp

theorem getLsbD_foldl_clear {b : Nat} (hb : b < 24) : ∀ (l : List (Nat × BitVec 8)) (w : BitVec 24),
    (l.foldl (fun w x => w &&& ~~~(BitVec.ofNat 24 (1 <<< x.1))) w).getLsbD b
      = (!decide (∃ x ∈ l, x.1 = b) && w.getLsbD b)
  | [], w => by simp
  | x :: l, w => by
    rw [List.foldl_cons, getLsbD_foldl_clear hb l, BitVec.getLsbD_and, BitVec.getLsbD_not, getLsbD_oneBit hb]
    simp only [List.exists_mem_cons_iff, Bool.decide_or, hb, decide_true, Bool.true_and, eq_comm (a := b)]
    cases decide (x.1 = b) <;> simp

theorem aget_foldl_aput {α : Type} {b : Nat} (v : α) : ∀ (l : List Nat) (m : List (Nat × α)),
    aget (l.foldl (fun m k => aput m k v) m) b = if b ∈ l then some v else aget m b
  | [], m => by simp
  | k :: l, m => by
    rw [List.foldl_cons, aget_foldl_aput v l]
    by_cases hl : b ∈ l
    · simp [hl]
    · by_cases hk : b = k
      · subst hk; simp [hl]
      · simp [hl, hk, aget_aput_other m v hk]

theorem StsCell.record_last (c : StsCell) (l : List Nat) (b : Nat) :
    aget (c.record l).last b = if b ∈ l then some (c.seq + 1) else aget c.last b := aget_foldl_aput _ l c.last

section
variable (c : StsCell) (v : Word) {q : BitVec 8} (hq : q = v.extractLsb' 24 8)
include hq

/-- A clear whose sequence the register's is not ahead of by less than 128 has no effect. -/
theorem StsCell.clear_ahead (h : 128 ≤ (c.seq - q).toNat) : c.clear v = c := by
  subst hq
  rw [StsCell.clear, if_pos h]

/-- The bits a clear with another sequence leaves. -/
theorem StsCell.clear_bits {b : Nat} (hb : b < 24) (h : (c.seq - q).toNat < 128) :
    (c.clear v).bits.getLsbD b
      = (!decide (∃ x ∈ c.last, (bit v x.1 = true ∧ (q - x.2).toNat < 128) ∧ x.1 = b) && c.bits.getLsbD b) := by
  subst hq
  rw [StsCell.clear, if_neg (Nat.not_le.mpr h)]
  refine (getLsbD_foldl_clear hb _ c.bits).trans ?_
  simp only [List.mem_filter, Bool.and_eq_true, decide_eq_true_eq, and_assoc]

omit hq in
theorem StsCell.clear_seq_last : (c.clear v).seq = c.seq ∧ (c.clear v).last = c.last := by
  unfold StsCell.clear
  dsimp only
  split
  · exact ⟨rfl, rfl⟩
  · exact ⟨rfl, rfl⟩

theorem StsCell.clear_unmasked {b : Nat} (hb : b < 24) (h : v.getLsbD b = false) :
    (c.clear v).bits.getLsbD b = c.bits.getLsbD b := by
  by_cases hseq : 128 ≤ (c.seq - q).toNat
  · rw [StsCell.clear_ahead c v hq hseq]
  · rw [StsCell.clear_bits c v hq hb (Nat.not_le.mp hseq)]
    have hnone : ¬ ∃ x ∈ c.last, (bit v x.1 = true ∧ (q - x.2).toNat < 128) ∧ x.1 = b := by
      rintro ⟨x, -, ⟨hbit, -⟩, rfl⟩
      exact Bool.false_ne_true (h.symm.trans hbit)
    rw [decide_eq_false hnone, Bool.not_false, Bool.true_and]

/-- A masked bit with one latest event stays where that event is ahead of the clear's sequence. -/
theorem StsCell.clear_masked {b : Nat} {k : BitVec 8} (hb : b < 24) (hlast : ∀ j, (b, j) ∈ c.last ↔ j = k)
    (hseq : (c.seq - q).toNat < 128) (h : v.getLsbD b = true) :
    (c.clear v).bits.getLsbD b = (decide (128 ≤ (q - k).toNat) && c.bits.getLsbD b) := by
  have hcleared : (∃ x ∈ c.last, (bit v x.1 = true ∧ (q - x.2).toNat < 128) ∧ x.1 = b) ↔ (q - k).toNat < 128 := by
    constructor
    · rintro ⟨⟨a, j⟩, hx, ⟨-, hj⟩, rfl⟩
      exact (hlast j).mp hx ▸ hj
    · exact fun hk => ⟨(b, k), (hlast k).mpr rfl, ⟨h, hk⟩, rfl⟩
  rw [StsCell.clear_bits c v hq hb hseq, decide_eq_decide.mpr hcleared, ← decide_not, decide_eq_decide.mpr Nat.not_lt]

end

/-! ### The clear partner as a register -/

/-- A *_STS_CLR word is no data word. -/
theorem dataPort_of_isStsClr {off : Nat} (h : isStsClr off = true) : dataPort off = none := by
  unfold dataPort
  split
  · next hoff => subst hoff; exact absurd h (by decide)
  · split
    · next hoff => subst hoff; exact absurd h (by decide)
    · rfl

theorem State.exec_stsClr_answers {s : State} {p : Path} {off : BitVec 24} {v : Word} (htakes : s.takesReg p = true)
    (hclr : isStsClr off.toNat = true) (hspec : (regSpec off.toNat).isSome = true) :
    exec (.stsClr p off v) s = s.answers p .ok (s.stsClear (off.toNat - 4) v) := by
  obtain ⟨r, hr⟩ := Option.isSome_iff_exists.mp hspec
  rw [exec_stsClr, execStsClr]
  refine State.act_goesOn (State.ready_of_takesReg htakes) ?_
  simp [State.writeReg, State.writeCmd, State.reaches_of_takesReg htakes, State.regWrite, dataPort_of_isStsClr hclr,
    State.write4, hr, hclr]

/-- Settles O60: the recording of a register's events, its clear, and the clear as a write. -/
theorem statusWords : Obligations.StatusWords := by
  unfold Obligations.StatusWords
  refine ⟨?record, ?events, ?clear, ?command⟩
  case record =>
    rintro s sts l rfl
    exact ⟨State.recordEvts_none, State.recordEvts_some⟩
  case events =>
    intro c l b hb
    refine ⟨rfl, getLsbD_foldl_set hb l c.bits, fun h => ?_, fun h => ?_⟩
    · rw [StsCell.record_last, if_pos h]
    · rw [StsCell.record_last, if_neg h]
  case clear =>
    intro c v q b hb hq
    obtain ⟨hseq, hlast⟩ := c.clear_seq_last v
    exact ⟨hseq, hlast, c.clear_ahead v hq, c.clear_unmasked v hq hb, fun k => c.clear_masked v hq hb⟩
  case command =>
    intro s p off v c htakes hclr hspec hcell
    rw [State.exec_stsClr_answers htakes hclr hspec, State.stsClear, hcell]

end Sys2Proof.Machine
end

section
/-! PROOFS. Register accesses by any path (O52) and what every command answers (O59): one equation for each check a write
passes through, for each kind of access, and the commands as these. -/

namespace Sys2Proof.Machine

/-! ### A write of one word, check by check (R451, R456–R458) -/

section
variable {s : State} {p : Path} {off : Nat} {v : Word} {r : RegSpec}

theorem RegSpec.merge_eq_newWord (hspec : regSpec off = some r) (v : Word) : r.merge (s.reg off) v = s.newWord off v := by
  simp [State.newWord, hspec, RegSpec.merge, RegSpec.writable]

theorem State.write4_plain (hspec : regSpec off = some r) (hclr : isStsClr off = false) (hpair : r.pair = false)
    (hhi : isPairHi off = false) : s.write4 p off v = s.applyWord p r off off v := by
  simp [State.write4, hspec, hclr, hpair, hhi]

theorem State.applyWord_mode (a : Nat) (hmode : s.modeRefuses off v = true) : s.applyWord p r off a v = (.errMode, s) := by
  rw [State.applyWord, if_pos hmode]

theorem State.applyWord_violates (a : Nat) (hmode : s.modeRefuses off v = false) (hviol : s.violates r off v = true) :
    s.applyWord p r off a v = (.errAccess, s.lockViol p off) := by
  simp [State.applyWord, hmode, hviol]

/-- A write no check refuses has its effect after the reserved bits it changes are noted. -/
theorem State.applyWord_effect (a : Nat) (hspec : regSpec off = some r) (hmode : s.modeRefuses off v = false)
    (hviol : s.violates r off v = false) (hmark : s.markRefuses off v = false) (hrange : s.rangeRefuses off v = none) :
    s.applyWord p r off a v = (s.noteRsv p r off v).effect off ((s.noteRsv p r off v).newWord off v) := by
  simp [State.applyWord, hmode, hviol, hmark, hrange, RegSpec.merge_eq_newWord hspec]

theorem State.noteRsv_kept (h : (v ^^^ s.view off) &&& r.rsv = 0) : s.noteRsv p r off v = s := if_pos h

theorem State.noteRsv_changed (h : (v ^^^ s.view off) &&& r.rsv ≠ 0) :
    s.noteRsv p r off v = if s.locked then s.rsvdWrite p off else
      { s.setReg off ((s.reg off &&& ~~~r.rsv) ||| (v &&& r.rsv)) with testCtl := true } := if_neg h

/-- The checks a passing write has passed. -/
theorem State.passes_checks (h : s.passes p off v = true) :
    dataPort off = none ∧ ∃ r, regSpec off = some r ∧ isStsClr off = false ∧ r.pair = false ∧ isPairHi off = false
      ∧ s.modeRefuses off v = false ∧ s.violates r off v = false ∧ s.markRefuses off v = false
      ∧ s.rangeRefuses off v = none ∧ (v ^^^ s.view off) &&& r.rsv = 0 := by
  unfold State.passes at h
  rw [Bool.and_eq_true] at h
  obtain ⟨-, h⟩ := h
  cases hspec : regSpec off with
  | none => simp [hspec] at h
  | some r =>
    simp only [hspec, Bool.and_eq_true, Bool.not_eq_true', Option.isNone_iff_eq_none, beq_iff_eq] at h
    obtain ⟨⟨⟨⟨⟨⟨⟨⟨hclr, hpair⟩, hhi⟩, hport⟩, hmode⟩, hviol⟩, hmark⟩, hrange⟩, hrsv⟩ := h
    exact ⟨hport, r, rfl, hclr, hpair, hhi, hmode, hviol, hmark, hrange, hrsv⟩

/-- A write that passes every check, whatever the address it is logged by, has the register's own effect. -/
theorem State.applyWord_passes (a : Nat) (hspec : regSpec off = some r) (h : s.passes p off v = true) :
    s.applyWord p r off a v = s.effect off (s.newWord off v) := by
  obtain ⟨-, q, hq, -, -, -, hmode, hviol, hmark, hrange, hrsv⟩ := State.passes_checks h
  cases hspec.symm.trans hq
  rw [State.applyWord_effect a hspec hmode hviol hmark hrange, State.noteRsv_kept hrsv]

theorem State.write4_passes (h : s.passes p off v = true) : s.write4 p off v = s.effect off (s.newWord off v) := by
  obtain ⟨-, r, hspec, hclr, hpair, hhi, -⟩ := State.passes_checks h
  rw [State.write4_plain hspec hclr hpair hhi, State.applyWord_passes off hspec h]

end

/-! ### The commands of a path -/

section
variable {s u : State} {p : Path} {c : Code} (htakes : s.takesReg p = true)
include htakes

/-- A write command whose write answers `c` and leaves `u`. -/
theorem State.writeCmd_answers {f : State → Code × State} (hf : f s = (c, u)) :
    (s.act fun t => t.writeCmd p f) = s.answers p c u := by
  refine State.act_goesOn (State.ready_of_takesReg htakes) ?_
  rw [State.writeCmd, if_pos (State.reaches_of_takesReg htakes), hf]

/-- A read command whose read answers `c` with data and leaves `u`. -/
theorem State.readCmd_goesOn {d : Line} {f : State → Code × Line × State} (hf : f s = (c, d, u)) :
    (s.act fun t => t.readCmd p f) = s.goesOn (u.answered p c d) := by
  refine State.act_goesOn (State.ready_of_takesReg htakes) ?_
  rw [State.readCmd, if_pos (State.reaches_of_takesReg htakes), hf]

/-- A register write that is aligned. -/
theorem State.exec_registerWrite_answers {off : BitVec 24} {v : Word} (halign : off.toNat % 4 = 0)
    (hport : dataPort off.toNat = none) (hwrite : s.write4 p off.toNat v = (c, u)) :
    exec (.registerWrite p off v) s = s.answers p c u := by
  rw [exec_registerWrite, execRegisterWrite]
  exact State.writeCmd_answers htakes (by rw [if_pos halign, State.regWrite, hport, hwrite])

/-- A read of a register that is no data word answers what the word shows. -/
theorem State.readReg_reads {off : Nat} (halign : off % 4 = 0) (hport : dataPort off = none)
    (hspec : (regSpec off).isSome = true) :
    (s.act fun t => t.readReg p off) = s.reads p (s.peek4 p off) (s.readEffect p off) :=
  State.act_goesOn (State.ready_of_takesReg htakes)
    (State.readReg_of (State.reaches_of_takesReg htakes) halign hport hspec)

end

/-! ### Status words read (R454, R455) -/

/-- The *_STS registers of the block's pages. -/
def statusPages : List Nat := [0x000050, 0x010100, 0x020200, 0x030100, 0x040048, 0x050010, 0x060300, 0x070300, 0x080100,
  0x090300, 0x0A0100, 0x0B0300, 0x0C0100, 0x0D0100, 0x0E0300, 0x0F0100, 0x340300]

/-- Each is a plain status register without reserved bits. -/
theorem statusPages_plain : ∀ off ∈ statusPages, isSts off = true ∧ (regSpec off).elim 0 RegSpec.rsv = 0
    ∧ isPairLo off = false ∧ isPairHi off = false ∧ off % 4 = 0 ∧ dataPort off = none ∧ (regSpec off).isSome = true
    ∧ off ≠ 0x04005C ∧ ¬(0x011000 ≤ off ∧ off < 0x019000) ∧ ¬(0x01B000 ≤ off ∧ off < 0x01B020) := by decide

theorem State.view_of_isSts {s : State} {off : Nat} (hsts : isSts off = true)
    (hrsv : (regSpec off).elim 0 RegSpec.rsv = 0) : s.view off = (agetD s.sts off {}).word := by
  have hfields : s.fields off = (agetD s.sts off {}).word := if_pos hsts
  rw [State.view, hfields]
  cases hspec : regSpec off with
  | none => simp
  | some r => rw [hspec] at hrsv; simp [show r.rsv = 0 from hrsv]

theorem State.peek4_status {s : State} {p : Path} {off : Nat} (h : off ∈ statusPages) :
    s.peek4 p off = (agetD s.sts off {}).word := by
  obtain ⟨hsts, hrsv, -, hhi, -, -, -, -, hlog, htrace⟩ := statusPages_plain off h
  rw [State.peek4, hhi, if_neg Bool.false_ne_true, if_neg hlog, if_neg htrace, State.view_of_isSts hsts hrsv]

/-- A read of a status register clears its bits where CFG_COR asks for it. -/
theorem State.readEffect_status {s : State} {p : Path} {off : Nat} (h : off ∈ statusPages) :
    s.readEffect p off = if s.flag 0x000008 0 then
        (aget s.sts off).elim s fun c => { s with sts := aput s.sts off { c with bits := 0 } }
      else s := by
  obtain ⟨hsts, -, hlo, -, -, -, -, hreach, hlog, htrace⟩ := statusPages_plain off h
  rw [State.readEffect, hlo, if_neg Bool.false_ne_true, if_neg hreach, if_neg hlog, if_neg htrace, hsts, Bool.true_and]
  cases aget s.sts off <;> rfl

/-! ### Marked pairs (R452) -/

theorem State.pairLo_reads {s : State} {p : Path} {off : Nat} (htakes : s.takesReg p = true) (hpair : isPairLo off = true)
    (halign : off % 8 = 0) (hrange : off < 0x011000 ∨ 0x01B020 ≤ off) :
    (s.act fun t => t.readReg p off) = s.reads p (s.view off)
      (s.setLatch p off { s.latch p off with hi := some (s.view (off + 4)) }) := by
  have hport : dataPort off = none := by rw [dataPort, if_neg (by omega), if_neg (by omega)]
  have hspec : (regSpec off).isSome = true := by
    unfold isPairLo at hpair
    split at hpair
    · next hr => rw [hr]; rfl
    · cases hpair
  have hhi : isPairHi off = false := by simp [isPairHi, halign]
  rw [State.readReg_reads htakes (by omega) hport hspec, State.peek4, hhi, if_neg Bool.false_ne_true, if_neg (by omega),
    if_neg (by omega), State.readEffect, if_pos hpair]

/-- A submission ring's BASE is a marked pair of words that are written in full. -/
theorem regSpec_sqBase : ∀ q : Fin 64,
    regSpec (sqPage q) = some { off := 0x1000, dims := [(64, 0x20)], rw := 0xFFFFFFFF, pair := true }
      ∧ regSpec (sqPage q + 4) = some { off := 0x1004, dims := [(64, 0x20)], rw := 0xFFFFFFFF }
      ∧ isStsClr (sqPage q + 4) = false ∧ (sqPage q + 4) % 4 = 0 ∧ dataPort (sqPage q + 4) = none := by decide

theorem sqPage_bounds (q : Fin 64) : 0x031000 ≤ sqPage q ∧ sqPage q < 0x031800 ∧ sqPage q % 0x20 = 0 := by
  unfold sqPage
  omega

theorem State.modeRefuses_sqBase (s : State) (q : Fin 64) (v : Word) : s.modeRefuses (sqPage q) v = false := by
  have hq := sqPage_bounds q
  have hchs : inChs (sqPage q) = false := by simp only [inChs, Bool.and_eq_false_iff, decide_eq_false_iff_not]; omega
  unfold State.modeRefuses
  rw [if_neg (by omega), if_neg (by omega), if_neg (by omega), if_neg (by omega), if_neg (by omega), if_neg (by omega), hchs]
  rfl

/-- Only a lock bit, CFG_LOCK itself or PLG_BUDGET can be written in breach of a lock. -/
theorem State.violates_unlocked {s : State} {r : RegSpec} {off : Nat} (v : Word) (hlk : r.lk = 0) (hlock : off ≠ 0x000004)
    (hbudget : off ≠ 0x0C0004) : s.violates r off v = false := by
  simp [State.violates, hlk, hlock, hbudget]

theorem State.baseFixed_sqBase (s : State) (q : Fin 64) : s.baseFixed (sqPage q) = bit (s.reg (sqPage q + 8)) 31 := by
  have hq := sqPage_bounds q
  have hlo : decide (0x031000 ≤ sqPage q) = true := decide_eq_true hq.1
  have hhi : decide (sqPage q < 0x032800) = true := decide_eq_true (by omega)
  rw [State.baseFixed, hlo, hhi, hq.2.2]
  rfl

/-- The HI word of a ring's BASE writes the pair with the LO word the path has latched, or the one that stands there. -/
theorem State.write4_sqBase {s t : State} {p : Path} {q : Fin 64} {lo v : Word}
    (hlo : lo = (s.latch p (sqPage q)).lo.getD (s.view (sqPage q)))
    (ht : t = s.setLatch p (sqPage q) { s.latch p (sqPage q) with lo := none }) :
    s.write4 p (sqPage q + 4) v = if bit (s.reg (sqPage q + 8)) 31 then (.ok, t.event 0x030100 5)
      else (.ok, (t.setReg (sqPage q) (s.newWord (sqPage q) lo)).setReg (sqPage q + 4) (s.newWord (sqPage q + 4) v)) := by
  subst hlo ht
  obtain ⟨hlow, hhigh, hclr, -⟩ := regSpec_sqBase q
  have hq := sqPage_bounds q
  have hpairHi : isPairHi (sqPage q + 4) = true := by simp [isPairHi, isPairLo, hlow]; omega
  have hhiSpec : hiSpec (sqPage q) = { off := 0x1004, dims := [(64, 0x20)], rw := 0xFFFFFFFF } := by
    rw [hiSpec, hhigh]; rfl
  have hnoStep : ∀ (u : State) (w : DWord) (x : Code × State), u.stepIndex (sqPage q) w x = x := by
    intro u w x
    have hne : (decide (sqPage q = 0x040058)) = false := decide_eq_false (by omega)
    simp [State.stepIndex, hne]
  simp only [State.write4, hhigh, hclr, hpairHi, Nat.add_sub_cancel, hlow, Bool.false_eq_true, if_false, if_true, hnoStep]
  unfold State.applyPair
  rw [State.modeRefuses_sqBase, if_neg Bool.false_ne_true, if_neg (by omega), if_neg (by omega),
    State.violates_unlocked _ rfl (by omega) (by omega), hhiSpec, State.violates_unlocked _ rfl (by omega) (by omega),
    State.baseFixed_sqBase]
  have hkept : ∀ (u : State) (r : RegSpec) (off : Nat) (w : Word), r.rsv = 0 → u.noteRsv p r off w = u :=
    fun u r off w h => State.noteRsv_kept (by simp [h])
  cases hen : bit (s.reg (sqPage q + 8)) 31 with
  | true =>
    rw [if_neg (by simp), if_pos (by exact hen), if_pos rfl]
  | false =>
    rw [if_neg (by simp), if_neg (by rw [show State.reg (s.setLatch p (sqPage q) _) _ = s.reg (sqPage q + 8) from rfl, hen]; simp),
      if_neg Bool.false_ne_true]
    simp only [hkept]
    rw [if_neg (by omega), if_neg (by omega), if_neg (by decide), ← RegSpec.merge_eq_newWord hlow, ← RegSpec.merge_eq_newWord hhigh]
    rfl

/-! ### Bit aliases (R459–R461) -/

/-- A word placed in the lanes of an aligned address is found there again. -/
theorem bitsOf_lane {x a : Nat} (hx : x < 2 ^ 32) (ha : a % 4 = 0) :
    bitsOf (x <<< (8 * (a % 64)) % 2 ^ 512) (8 * (a % 64)) 32 = x := by
  have hfits : x <<< (8 * (a % 64)) < 2 ^ 512 := by
    rw [Nat.shiftLeft_eq]
    calc x * 2 ^ (8 * (a % 64)) < 2 ^ 32 * 2 ^ (8 * (a % 64)) := Nat.mul_lt_mul_of_pos_right hx (Nat.two_pow_pos _)
      _ = 2 ^ (32 + 8 * (a % 64)) := (Nat.pow_add 2 32 _).symm
      _ ≤ 2 ^ 512 := Nat.pow_le_pow_right (by omega) (by omega)
  rw [bitsOf, Nat.mod_eq_of_lt hfits, Nat.shiftLeft_shiftRight, Nat.mod_eq_of_lt hx]

section
variable {s : State} {p : Path} {a : Nat} (hregion : 0x2000000 ≤ a) (halign : a % 4 = 0)
include hregion halign

theorem State.windowWrite_alias (v : Word) :
    s.windowWrite p a 2 (BitVec.ofNat 512 (v.toNat <<< (8 * (a % 64)))) = s.aliasWrite p a v := by
  have hlane := bitsOf_lane v.isLt halign
  have hsmall : ¬ a < 0x1000000 := by omega
  have hburst : ¬ a < 0x2000000 := by omega
  simp [State.windowWrite, halign, hsmall, hburst, hlane]

theorem State.windowRead_alias {c : Code} {w : Word} {u : State} (h : s.aliasRead p a = (c, w, u)) :
    s.windowRead p a 2 = (c, BitVec.ofNat 512 (w.toNat <<< (8 * (a % 64))), u) := by
  have hsmall : ¬ a < 0x1000000 := by omega
  have hburst : ¬ a < 0x2000000 := by omega
  simp [State.windowRead, halign, hsmall, hburst, h]

end

/-! The offset an aliased bit stands for is a difference with a large literal, which no check may evaluate step by step: an access is
unfolded as a function, before it is applied to the address. -/

section
variable {s : State} {p : Path} {a o i : Nat} (hx : aliasOf a = (o, i))
include hx

theorem State.aliasWrite_undefined (v : Word) (hspec : regSpec o = none) :
    s.aliasWrite p a v = (.errAccess, s.regUndef p a 2) := by
  have hdef : @State.aliasWrite = @State.aliasWrite := rfl
  conv at hdef => rhs; delta State.aliasWrite
  rw [hdef]
  beta_reduce
  rw [hx]
  simp only [hspec]

theorem State.aliasRead_bit (hspec : (regSpec o).isSome = true) :
    s.aliasRead p a = (.ok, if (s.peek4 p o).getLsbD i then 1 else 0, s) := by
  obtain ⟨r, hr⟩ := Option.isSome_iff_exists.mp hspec
  have hdef : @State.aliasRead = @State.aliasRead := rfl
  conv at hdef => rhs; delta State.aliasRead
  rw [hdef]
  beta_reduce
  rw [hx]
  simp only [hr, bit]
  rfl

/-- An access to an aliased plain bit that can be written is a write of the register with that bit (R461). -/
theorem State.aliasWrite_bit {v w : Word} {r : RegSpec} (hspec : regSpec o = some r) (hpair : r.pair = false)
    (hhi : isPairHi o = false) (hport : dataPort o = none) (hwo : r.wo.getLsbD i = false) (hsqc : r.sqc.getLsbD i = false)
    (hw1p : r.w1p.getLsbD i = false) (hrw : r.rw.getLsbD i = true)
    (hw : w = if v.getLsbD 0 then s.view o ||| BitVec.ofNat 32 (2 ^ i) else s.view o &&& ~~~(BitVec.ofNat 32 (2 ^ i))) :
    s.aliasWrite p a v = s.applyWord p r o a w := by
  have hset : setBit (s.view o) i (bit v 0) = w := by rw [hw, setBit, Nat.one_shiftLeft]; rfl
  have hdef : @State.aliasWrite = @State.aliasWrite := rfl
  conv at hdef => rhs; delta State.aliasWrite
  rw [hdef]
  beta_reduce
  rw [hx]
  simp [hspec, hport, bit, hwo, hsqc, hw1p, hrw, hpair, hhi, ← hset]

end

section
variable {s : State} {p : Path} {a : BitVec 26} (htakes : s.takesReg p = true) (hregion : 0x2000000 ≤ a.toNat)
  (halign : a.toNat % 4 = 0)
include htakes hregion halign

theorem State.exec_aliasWrite_answers {v : Word} {c : Code} {u : State} (h : s.aliasWrite p a.toNat v = (c, u)) :
    exec (.aliasWrite p a v) s = s.answers p c u := by
  rw [exec_aliasWrite, execAliasWrite]
  refine State.writeCmd_answers htakes ?_
  rw [State.windowWrite_alias hregion halign, h]

theorem State.exec_aliasRead_reads {w : Word} {u : State} (h : s.aliasRead p a.toNat = (.ok, w, u)) :
    exec (.aliasRead p a) s = s.reads p w u := by
  rw [exec_aliasRead, execAliasRead]
  refine State.readCmd_goesOn htakes ?_
  rw [State.windowRead_alias hregion halign h]
  simp only [BitVec.toNat_ofNat, bitsOf_lane w.isLt halign]
  rw [← BitVec.setWidth_eq w, BitVec.ofNat_toNat]

end

/-! ### The data ports (R462, R463) -/

section
variable {s : State} {p : Path} {n t : Nat} (hn : n = if p = .chain then 1 else 0)
include hn

omit hn in
theorem ownTarget_iff : ownTarget t = true ↔ 0x20 ≤ t ∧ t ≤ 0x3C := by simp [ownTarget]

theorem pathPort_eq : pathPort p = n := by
  subst hn
  cases p <;> rfl

variable (ht : t = 4 * field (s.reg (0x20 + 0x10 * n)) 2 22)
include ht

omit hn in
theorem State.dpTarget_eq : s.dpTarget n = t := by rw [ht, Nat.mul_comm]; rfl

omit hn in
theorem State.dpWrite_own (v : Word) (h : 0x20 ≤ t ∧ t ≤ 0x3C) :
    s.dpWrite p n v = (.errAccess, (s.regAccess p t 2).dpAdvance n .errAccess) := by
  simp only [State.dpWrite, State.dpTarget_eq ht, ownTarget_iff.mpr h, if_true]

omit hn in
theorem State.dpWrite_other {v : Word} {c : Code} {u : State} (h : t < 0x20 ∨ 0x3C < t) (hwrite : s.write4 p t v = (c, u)) :
    s.dpWrite p n v = (c, u.dpAdvance n c) := by
  have hown : ownTarget t = false := by rw [← Bool.not_eq_true, ownTarget_iff]; omega
  simp only [State.dpWrite, State.dpTarget_eq ht, hown, Bool.false_eq_true, if_false, hwrite]

omit hn in
theorem State.dpRead_other (h : t < 0x20 ∨ 0x3C < t) (hspec : (regSpec t).isSome = true) :
    s.dpRead p n = (.ok, s.peek4 p t, (s.readEffect p t).dpAdvance n .ok) := by
  have hown : ownTarget t = false := by rw [← Bool.not_eq_true, ownTarget_iff]; omega
  obtain ⟨r, hr⟩ := Option.isSome_iff_exists.mp hspec
  simp only [State.dpRead, State.dpTarget_eq ht, hown, Bool.false_eq_true, if_false, State.read4, hr]

/-- A read of the path's DATA word is a read at its target. -/
theorem State.exec_dpDataAccess_reads (htakes : s.takesReg p = true) (h : t < 0x20 ∨ 0x3C < t)
    (hspec : (regSpec t).isSome = true) :
    exec (.dpDataAccess p none) s = s.reads p (s.peek4 p t) ((s.readEffect p t).dpAdvance n .ok) := by
  have hport : dataPort (dpAddr n + 4) = some n ∧ (dpAddr n + 4) % 4 = 0 := by
    subst hn
    split <;> decide
  rw [exec_dpDataAccess, execDpDataAccess, pathPort_eq hn]
  refine State.readCmd_goesOn htakes ?_
  rw [if_pos hport.2, State.regRead, hport.1]
  simp only [State.dpRead_other ht h hspec]

end

/-- Settles O52: the checks of a write in their order, and each kind of access by its equation above. That a LO word is used
up by the HI write, refused or not, and what a failed burst returns are the model's choices (log entry 13), and so is what
a write of reserved bits before the lock does (log entry 8). -/
theorem registerAccesses : Obligations.RegisterAccesses := by
  unfold Obligations.RegisterAccesses
  intro s p off v htakes
  refine ⟨?misaligned, ?undefined, ?refused, ?passes, ?reserved, ?plain, ?clear, ?status, ?pairLo, ?pairHi, ?bits, ?port⟩
  case misaligned =>
    intro halign
    rw [exec_registerWrite, execRegisterWrite]
    exact State.writeCmd_answers htakes (if_neg halign)
  case undefined =>
    intro halign hspec
    refine State.exec_registerWrite_answers htakes halign ?_ ?_
    · unfold dataPort
      split
      · next h => rw [h] at hspec; exact absurd hspec (by decide)
      · split
        · next h => rw [h] at hspec; exact absurd hspec (by decide)
        · rfl
    · simp only [State.write4, hspec]
  case refused =>
    intro r halign hspec hport hclr hpair hhi
    have hplain := State.write4_plain (s := s) (p := p) (v := v) hspec hclr hpair hhi
    refine ⟨fun hmode => ?_, fun hmode hlocked hlk => ?_⟩
    · exact State.exec_registerWrite_answers htakes halign hport (hplain.trans (State.applyWord_mode _ hmode))
    · have hviol : s.violates r off.toNat v = true := by
        simp only [State.violates, hlocked, bne_iff_ne.mpr hlk, Bool.true_and, Bool.true_or]
      exact State.exec_registerWrite_answers htakes halign hport (hplain.trans (State.applyWord_violates _ hmode hviol))
  case passes =>
    intro c u halign hpass heffect
    exact State.exec_registerWrite_answers htakes halign (State.passes_checks hpass).1
      ((State.write4_passes hpass).trans heffect)
  case reserved =>
    intro r t c u halign hspec hport hclr hpair hhi hmode hviol hmark hrange hrsv ht heffect
    rw [← State.noteRsv_changed (p := p) hrsv] at ht
    subst ht
    exact State.exec_registerWrite_answers htakes halign hport ((State.write4_plain hspec hclr hpair hhi).trans
      ((State.applyWord_effect _ hspec hmode hviol hmark hrange).trans heffect))
  case plain =>
    intro hoff hpass
    rw [← hoff] at hpass
    refine State.exec_registerWrite_answers htakes (by rw [hoff]) (State.passes_checks hpass).1
      ((State.write4_passes hpass).trans ?_)
    rw [hoff]
    rfl
  case clear =>
    intro hclr hspec
    exact (State.exec_stsClr_answers htakes hclr hspec).trans rfl
  case status =>
    intro hoff
    change off.toNat ∈ statusPages at hoff
    obtain ⟨-, -, -, -, halign, hport, hspec, -⟩ := statusPages_plain _ hoff
    rw [exec_stsCorRead, execStsCorRead, State.readReg_reads htakes halign hport hspec, State.peek4_status hoff,
      State.readEffect_status hoff]
    refine ⟨fun hcor => ?_, fun c hcor hcell => ?_⟩
    · rw [State.flag, hcor, if_neg Bool.false_ne_true]
    · rw [State.flag, hcor, if_pos rfl, agetD, hcell]
      rfl
  case pairLo => exact fun hpair halign hrange => State.pairLo_reads htakes hpair halign hrange
  case pairHi =>
    intro q lo t hoff hlo ht
    obtain ⟨-, -, -, -, hport⟩ := regSpec_sqBase q
    have hwrite := State.write4_sqBase (v := v) hlo ht
    rw [exec_pairHiWrite, execPairHiWrite, hoff]
    simp only [State.writeReg, State.regWrite, hport]
    exact ⟨fun hen => State.writeCmd_answers htakes (by rw [hwrite, if_pos hen]),
      fun hen _ _ => State.writeCmd_answers htakes (by rw [hwrite, hen, if_neg Bool.false_ne_true])⟩
  case bits =>
    intro a o i hregion halign ho hi
    have hx : aliasOf a.toNat = (o, i) := by rw [aliasOf, ← ho, ← hi]
    refine ⟨fun hspec => ?_, fun hspec => ?_, ?_⟩
    · exact State.exec_aliasWrite_answers htakes hregion halign (State.aliasWrite_undefined hx v hspec)
    · exact State.exec_aliasRead_reads htakes hregion halign (State.aliasRead_bit hx hspec)
    · intro r w hspec hpair hhi hport hwo hsqc hw1p hrw hw hpass c u heffect
      refine State.exec_aliasWrite_answers htakes hregion halign ?_
      rw [State.aliasWrite_bit hx hspec hpair hhi hport hwo hsqc hw1p hrw hw, State.applyWord_passes _ hspec hpass, heffect]
  case port =>
    intro n t hn ht
    have hexec : ∀ {c u}, s.dpWrite p n v = (c, u) → exec (.dpDataAccess p (some v)) s = s.answers p c u := by
      intro c u h
      rw [exec_dpDataAccess, execDpDataAccess, pathPort_eq hn]
      exact State.writeCmd_answers htakes h
    refine ⟨fun hown => hexec (State.dpWrite_own ht v hown), fun c u hother hpass heffect => ?_,
      State.exec_dpDataAccess_reads hn ht htakes, fun wr c d u hburst => ?_⟩
    · exact hexec (State.dpWrite_other ht hother ((State.write4_passes hpass).trans heffect))
    · rw [exec_dpBurst, execDpBurst]
      exact State.readCmd_goesOn htakes (by rw [hburst])

/-- Settles O59: every command has the common form or is one of the board's; CFG_SCRATCH is a register whose write no check but
that of its reserved bits concerns. That only the board's commands act while the reset input is held, and that reserved bits
change before the lock, are the model's choices (log entries 9 and 8). -/
theorem everyCommandCompletes : Obligations.EveryCommandCompletes := by
  unfold Obligations.EveryCommandCompletes
  intro c s
  refine ⟨exec_completes c s, fun hheld hboard => ?_, ?_⟩
  · obtain h | ⟨f, hf⟩ := exec_form c
    · exact absurd (hboard.symm.trans h) Bool.false_ne_true
    · rw [hf s, State.within, if_pos hheld]
  · rintro p v t hready hreaches hlocked rfl hrsv rfl
    have htakes : s.takesReg p = true := by rw [State.takesReg, hready, hreaches]; rfl
    obtain ⟨r, hspec⟩ := Option.isSome_iff_exists.mp (show (regSpec 0x000010).isSome = true by decide)
    have hplain : r.pair = false ∧ r.lk = 0 := by
      have h : (regSpec 0x000010).elim false (fun r => !r.pair && r.lk == 0) = true := by decide
      rw [hspec] at h
      simpa using h
    rw [hspec] at hrsv ⊢
    refine State.exec_registerWrite_answers htakes rfl rfl ((State.write4_plain hspec (by decide) hplain.1 (by decide)).trans
      ((State.applyWord_effect _ hspec rfl (State.violates_unlocked v hplain.2 (by decide) (by decide)) rfl rfl).trans ?_))
    rw [State.noteRsv_changed hrsv, hlocked, if_neg Bool.false_ne_true]
    rfl

end Sys2Proof.Machine
end

section
/-! PROOFS. The registers of TEL (O24): the effect of a write to each, and the reads that load a path's latch. -/

namespace Sys2Proof.Machine

/-! ### The Chronometer and the PTP reference (R475, R476) -/

/-- An 8-byte value is its two words. -/
theorem words_append (v : DWord) : v.extractLsb' 32 32 ++ v.setWidth 32 = v := by
  ext i hi
  simp only [BitVec.getElem_append, BitVec.getElem_setWidth, BitVec.getElem_extractLsb']
  split
  · exact BitVec.getLsbD_eq_getElem hi
  · rw [show 32 + (i - 32) = i by omega]
    exact BitVec.getLsbD_eq_getElem hi

section
variable {s u : State} {p : Path} {v : DWord} {c : Code}

/-- A pair written as a whole by a command. -/
theorem State.act_writePair {off : Nat} {r : RegSpec} (htakes : s.takesReg p = true) (hspec : regSpec off = some r)
    (hpair : r.pair = true) (hindex : off ≠ 0x040058)
    (h : s.applyPair p r off (v.setWidth 32) (v.extractLsb' 32 32) = (c, u)) :
    (s.act fun t => t.writePair p off v) = s.answers p c u := by
  refine State.act_goesOn (State.ready_of_takesReg htakes) ?_
  rw [State.writePair_of (State.reaches_of_takesReg htakes) hspec hpair, h]
  simp [State.stepIndex, hindex]

end

theorem regSpec_chrSet : regSpec 0x010008 = some { off := 0x8, wo1 := 0xFFFFFFFF, pair := true } := by decide

theorem regSpec_ptpRef : regSpec 0x010018 = some { off := 0x18, rw := 0xFFFFFFFF, pair := true }
    ∧ hiSpec 0x010018 = { off := 0x1C, rw := 0xFFFFFFFF } := by decide

section
variable {s t u : State} {p : Path} {v : DWord}

section
variable (hmode : s.modeRefuses 0x010008 (v.setWidth 32) = false)
include hmode

theorem State.applyPair_chrSet_again (r : RegSpec) (htaken : s.tel.chrSetTaken = true) :
    s.applyPair p r 0x010008 (v.setWidth 32) (v.extractLsb' 32 32) = (.errAccess, s.lockViol p 0x010008) := by
  unfold State.applyPair
  rw [hmode, if_neg Bool.false_ne_true, if_pos rfl, if_pos htaken]

theorem State.applyPair_chrSet (r : RegSpec) (htaken : s.tel.chrSetTaken = false) :
    s.applyPair p r 0x010008 (v.setWidth 32) (v.extractLsb' 32 32) =
      if v = 0 ∧ s.chron = 0 then (.ok, s)
      else if v.toNat < s.chron then (.errAccess, s.updTel fun t => { t with chrSetTaken := true })
      else (.ok, (State.setReg { s with chron := v.toNat, tel := { s.tel with chrSetTaken := true } } 0x010008
        (v.setWidth 32)).setReg 0x01000C (v.extractLsb' 32 32)) := by
  unfold State.applyPair
  rw [hmode, if_neg Bool.false_ne_true, if_pos rfl, htaken, if_neg Bool.false_ne_true]
  simp only [words_append, State.chrLoad]
  by_cases hlow : v.toNat < s.chron
  · simp only [hlow, if_true]
  · simp only [hlow, if_false]

end

/-- A register whose every bit is written keeps the word written. -/
theorem RegSpec.merge_full {r : RegSpec} (h : r.writable = BitVec.allOnes 32) (old w : Word) : r.merge old w = w := by
  rw [RegSpec.merge, h, BitVec.and_allOnes, BitVec.not_allOnes, BitVec.and_zero, BitVec.zero_or]

theorem State.applyPair_ptpRef_stale (htaken : s.tel.ptpFresh = false) (r : RegSpec) (lo hi : Word) :
    s.applyPair p r 0x010018 lo hi = (.ok, s) := by
  unfold State.applyPair
  rw [show s.modeRefuses 0x010018 lo = false from rfl, if_neg Bool.false_ne_true, if_neg (by decide), htaken,
    if_pos ⟨rfl, rfl⟩]

theorem State.applyPair_ptpRef (hfresh : s.tel.ptpFresh = true)
    (ht : t = (s.setReg 0x010018 (v.setWidth 32)).setReg 0x01001C (v.extractLsb' 32 32)) :
    s.applyPair p { off := 0x18, rw := 0xFFFFFFFF, pair := true } 0x010018 (v.setWidth 32) (v.extractLsb' 32 32)
      = (.ok, t.ptpRef v.toNat) := by
  have hkept : ∀ (u : State) (r : RegSpec) (off : Nat) (w : Word), r.rsv = 0 → u.noteRsv p r off w = u :=
    fun u r off w h => State.noteRsv_kept (by simp [h])
  have hplain : ∀ (off : Nat) (w : Word) (r : RegSpec), r.lk = 0 → off = 0x010018 ∨ off = 0x01001C →
      s.violates r off w = false :=
    fun off w r hlk hoff => State.violates_unlocked w hlk (by omega) (by omega)
  unfold State.applyPair
  rw [show s.modeRefuses 0x010018 (v.setWidth 32) = false from rfl, if_neg Bool.false_ne_true, if_neg (by decide), hfresh,
    if_neg (by simp), regSpec_ptpRef.2, hplain 0x010018 _ _ rfl (.inl rfl), hplain (0x010018 + 4) _ _ rfl (.inr rfl),
    if_neg (by decide), show s.baseFixed 0x010018 = false from rfl, if_neg Bool.false_ne_true]
  simp only [hkept, words_append, if_true]
  rw [if_neg (by decide), if_neg (by decide), RegSpec.merge_full rfl, RegSpec.merge_full rfl, ht]

/-- The slew a captured edge and its reference start, and the entry of one beyond the limit (R476). -/
theorem State.ptpRef_of {ofs : Int} {lim : Nat} (hfresh : s.tel.ptpFresh = true)
    (hofs : ofs = (v - BitVec.ofNat 64 s.tel.ptpCap).toInt) (hlim : lim = 1000 * max 1 (field (s.reg 0x010020) 1 15))
    (hu : u = { s with tel := { s.tel with
      ptpFresh := false, ptpOfs := ofs, slewLeft := ofs, slewDiv := s.slewPeriods ofs, slewCount := 0 } }) :
    s.ptpRef v.toNat = if lim < ofs.natAbs then
      (u.logE 0x0102 0x6001 0 (BitVec.ofInt 64 ofs).toNat).event 0x010100 8 else u := by
  have hdelta : s.ptpDelta v.toNat = ofs := by rw [State.ptpDelta, hofs, BitVec.ofNat_toNat, BitVec.setWidth_eq]
  unfold State.ptpRef
  rw [hfresh, hdelta]
  simp only [State.fld, orOne_eq_max, ← hlim, Bool.not_true, Bool.false_eq_true, if_false, hu]
  rfl

end

/-! ### Counters, the trace and the Lookout's configuration (R477, R479, R484–R486) -/

section
variable {s : State}

theorem State.effect_csel (k : Fin 512) (w : Word) :
    s.effect (0x01A000 + 4 * k.val) w = (.ok, s.cselWrite k.val w) := by
  have hpage : (0x01A000 + 4 * k.val) / 0x10000 = 1 := by omega
  have hidx : (0x01A000 + 4 * k.val - 0x01A000) / 4 = k.val := by omega
  unfold State.effect
  simp only [hpage]
  rw [if_neg (by omega), if_neg (by omega), if_neg (by omega), if_neg (by omega), if_pos (by omega), hidx]

theorem State.effect_snap {w : Word} (h0 : bit w 0 = true) (h1 : bit w 1 = false) :
    s.effect 0x010060 w = (.ok, s.snap) := by
  rw [show s.effect 0x010060 w = (.ok, s.cctlWrite w) from rfl, State.cctlWrite]
  simp [h0, h1]

theorem State.effect_clear {w : Word} (h0 : bit w 0 = false) (h1 : bit w 1 = true) :
    s.effect 0x010060 w = (.ok, s.clearCounters) := by
  rw [show s.effect 0x010060 w = (.ok, s.cctlWrite w) from rfl, State.cctlWrite]
  simp [h0, h1]

theorem State.effect_traceArm {w : Word} (h0 : bit w 0 = true) (h1 : bit w 1 = false) :
    s.effect 0x010084 w = (.ok, s.traceArm) := by
  rw [show s.effect 0x010084 w = (.ok, s.trcCtlWrite w) from rfl, State.trcCtlWrite]
  simp [h0, h1]

theorem State.effect_traceStop {w : Word} (h0 : bit w 0 = false) (h1 : bit w 1 = true) :
    s.effect 0x010084 w = (.ok, s.traceStop) := by
  rw [show s.effect 0x010084 w = (.ok, s.trcCtlWrite w) from rfl, State.trcCtlWrite]
  simp [h0, h1]

theorem State.effect_kick {w : Word} (h0 : bit w 0 = true) : s.effect 0x0100C4 w = (.ok, s.kick) := by
  rw [show s.effect 0x0100C4 w = (.ok, if bit w 0 then s.kick else s) from rfl, h0, if_pos rfl]

end

/-! ### Reads that load a latch (R481, R485) -/

/-- Word 0 of a log slot, and of the trace, is a plain register. -/
theorem regSpec_logSlot : ∀ k : Fin 1024, (regSpec (0x011000 + 0x20 * k.val)).isSome = true
    ∧ isPairLo (0x011000 + 0x20 * k.val) = false ∧ isPairHi (0x011000 + 0x20 * k.val) = false := by decide +kernel

section
variable {s : State} {p : Path}

theorem State.logSlot_reads (k : Fin 1024) :
    s.peek4 p (0x011000 + 0x20 * k.val) = (s.logRead p k.val 0).1
      ∧ s.readEffect p (0x011000 + 0x20 * k.val) = (s.logRead p k.val 0).2 := by
  obtain ⟨-, hlo, hhi⟩ := regSpec_logSlot k
  have hslot : (0x011000 + 0x20 * k.val - 0x011000) / 32 = k.val := by omega
  have hword : (0x011000 + 0x20 * k.val) % 32 / 4 = 0 := by omega
  constructor
  · rw [State.peek4, hhi, if_neg Bool.false_ne_true, if_pos (by omega), hslot, hword]
  · rw [State.readEffect, hlo, if_neg Bool.false_ne_true, if_neg (by omega), if_pos (by omega), hslot, hword]

end

/-- Settles O24: each register of TEL has the effect its chapter gives, a pair in one handshake; that a write of TEL_CHRSET
that leaves the reset value does not count is the model's choice (log entry 84). -/
theorem telemetryRegisters : Obligations.TelemetryRegisters := by
  unfold Obligations.TelemetryRegisters
  intro s p
  refine ⟨fun v htakes hmode => ?chrset, fun v htakes => ?ptpRef, fun k v w hpass hw => ?csel, fun hpass => ?snap,
    fun hpass => ?clear, fun v hpass => ?logRd, fun k e htakes he => ?logLatch, fun hpass => ?arm, fun hpass => ?stop,
    fun e htakes he => ?traceLatch, fun ms hpass hms => ?kick, fun v w t hpass hw ht => ?lookout⟩
  case chrset =>
    have hwrite : ∀ {c u}, s.applyPair p { off := 0x8, wo1 := 0xFFFFFFFF, pair := true } 0x010008 (v.setWidth 32)
        (v.extractLsb' 32 32) = (c, u) → exec (.chrsetWrite p v) s = s.answers p c u := by
      intro c u h
      rw [exec_chrsetWrite, execChrsetWrite]
      exact State.act_writePair htakes regSpec_chrSet rfl (by decide) h
    refine ⟨fun h => hwrite (State.applyPair_chrSet_again hmode _ h), fun h h0 hc => hwrite ?_,
      fun h hlow => hwrite ?_, fun h h0 hge => hwrite ?_⟩ <;> rw [State.applyPair_chrSet hmode _ h]
    · rw [if_pos ⟨h0, hc⟩]
    · rw [if_neg (by omega), if_pos hlow]
      rfl
    · rw [if_neg (fun hz => h0 hz.1), if_neg (by omega)]
  case ptpRef =>
    have hwrite : ∀ {c u}, s.applyPair p { off := 0x18, rw := 0xFFFFFFFF, pair := true } 0x010018 (v.setWidth 32)
        (v.extractLsb' 32 32) = (c, u) → exec (.ptpRefWrite p v) s = s.answers p c u := by
      intro c u h
      rw [exec_ptpRefWrite, execPtpRefWrite]
      exact State.act_writePair htakes regSpec_ptpRef.1 rfl (by decide) h
    refine ⟨fun h => hwrite (State.applyPair_ptpRef_stale h _ _ _), fun t u ofs lim h ht hofs hlim hu => ?_⟩
    have htel : t.tel = s.tel := by rw [ht]; rfl
    have href := State.ptpRef_of (htel ▸ h) (htel ▸ hofs) hlim (htel ▸ hu)
    refine ⟨fun hle => hwrite ?_, fun hlt => hwrite ?_⟩ <;> rw [State.applyPair_ptpRef h ht, href]
    · rw [if_neg (by omega)]
    · rw [if_pos hlt]
  case csel =>
    rw [exec_cselWrite, execCselWrite]
    have hwrite := State.act_writeReg hpass (State.effect_csel k _)
    rw [hwrite, ← hw, State.cselWrite]
    exact ⟨fun h => by rw [h, if_pos rfl], fun h => by rw [h, if_neg Bool.false_ne_true]⟩
  case snap =>
    have hbit : ∀ {i}, bit 0x3 i = true → bit (s.newWord 0x010060 1) i = bit 1 i := State.bit_newWord (by decide)
    rw [exec_counterSnap, execCounterSnap]
    exact State.act_writeReg hpass (State.effect_snap (hbit (by decide)) (hbit (by decide)))
  case clear =>
    have hbit : ∀ {i}, bit 0x3 i = true → bit (s.newWord 0x010060 2) i = bit 2 i := State.bit_newWord (by decide)
    rw [exec_counterClear, execCounterClear]
    exact State.act_writeReg hpass (State.effect_clear (hbit (by decide)) (hbit (by decide)))
  case logRd =>
    rw [exec_logRdWrite, execLogRdWrite]
    exact State.act_writeReg hpass rfl
  case logLatch =>
    obtain ⟨hspec, -⟩ := regSpec_logSlot k
    have hport : dataPort (0x011000 + 0x20 * k.val) = none := by rw [dataPort, if_neg (by omega), if_neg (by omega)]
    obtain ⟨hword, heffect⟩ := State.logSlot_reads (s := s) (p := p) k
    rw [exec_logLatchRead, execLogLatchRead, State.readReg_reads htakes (by omega) hport hspec, hword, heffect, he]
    rfl
  case arm =>
    have hbit : ∀ {i}, bit 0x3 i = true → bit (s.newWord 0x010084 1) i = bit 1 i := State.bit_newWord (by decide)
    rw [exec_traceArm, execTraceArm,
      State.act_writeReg hpass (State.effect_traceArm (hbit (by decide)) (hbit (by decide))), State.traceArm, State.flag]
    exact ⟨fun h => by rw [h, if_pos rfl], fun h => by rw [h, if_neg Bool.false_ne_true]⟩
  case stop =>
    have hbit : ∀ {i}, bit 0x3 i = true → bit (s.newWord 0x010084 2) i = bit 2 i := State.bit_newWord (by decide)
    rw [exec_traceStop, execTraceStop]
    exact State.act_writeReg hpass (State.effect_traceStop (hbit (by decide)) (hbit (by decide)))
  case traceLatch =>
    rw [exec_traceLatchRead, execTraceLatchRead, State.readReg_reads htakes (by decide) (by decide) (by decide), he]
    rfl
  case kick =>
    have hbit : bit (s.newWord 0x0100C4 1) 0 = true :=
      (State.bit_newWord (m := 0x1) (by decide) (by decide)).trans (by decide)
    rw [exec_lookoutKick, execLookoutKick, State.act_writeReg hpass (State.effect_kick hbit), State.kick, hms]
    exact ⟨fun h => by rw [State.fld, if_pos h], fun h => by rw [State.fld, if_neg h]⟩
  case lookout =>
    rw [exec_lkoCfgWrite, execLkoCfgWrite, State.act_writeReg hpass rfl, ← hw, State.lkoWrite, ht]
    refine ⟨fun h => ?_, fun h hold => ?_, fun h hold => ?_⟩
    · rw [if_pos h]
      rfl
    · rw [if_neg h, State.fld, if_pos hold]
      rfl
    · rw [if_neg h, State.fld, if_neg hold]

end Sys2Proof.Machine
end

section
/-! PROOFS. The board (O54): what the end of the power-up self-test makes of the engines that failed, and the reset input and the
test access port, which act as they are defined. -/

namespace Sys2Proof.Machine

/-- Without a failed unit the self-test is only noted. -/
theorem State.selfTest_passed (s : State) : s.selfTest [] [] = s.updPins fun x => { x with selftestDone := true } := rfl

/-- A failed engine of the 32 in service fails, and no spare is set aside. -/
theorem State.selfTest_engine (s : State) (e : EngineNo) :
    s.selfTest [e.castLE (by omega)] [] = (s.failEngine e).updPins fun x => { x with selftestDone := true } := by
  have hservice : (e.castLE (by omega) : Fin 34).val = e.val := rfl
  have hnotSpare : decide (32 ≤ e.val) = false := decide_eq_false (by omega)
  have hserves : decide (e.val < 32) = true := decide_eq_true e.isLt
  have hsame : Fin.ofNat 32 e.val = e := Fin.ext (Nat.mod_eq_of_lt e.isLt)
  have hunchanged : s.updEcc (fun x => { x with peSpare := x.peSpare }) = s := rfl
  simp only [State.selfTest, List.filter_cons, List.filter_nil, hservice, hnotSpare, hserves, Bool.false_eq_true, if_false,
    if_true, List.foldl_cons, List.foldl_nil, hsame, hunchanged]

/-- The boundary cells preloaded are the ones a scan shows. -/
theorem State.preloads {s : State} (i : TapInstr) (cells : BitVec 2384) :
    (s.tapSelect i (cellBits cells)).updPins (fun x => { x with cells := cells }) = s.updPins fun x =>
      { x with tap := i, tapData := (List.range 2384).map cells.getLsbD, cells := cells } := by
  rw [cellBits]
  generalize (List.range 2384).map cells.getLsbD = shown
  rfl

/-- Settles O54: the instructions of the test access port act as the model defines them. That the reset of EXTEST, SCAN and fuse
programming stays asserted until RST_n is released (log entry 9), that the last PTP_SYNC edge is forgotten (log entry 83), and
what the test chains and IDCODE hold (log entries 6 and 51) are the model's choices. -/
theorem boardCommands : Obligations.BoardCommands := by
  unfold Obligations.BoardCommands
  intro s r hr
  obtain rfl : r = s.afterReset true := hr
  have hidcode : ∃ l : List Bool, idcodeBits = true :: l ∧ l.length = 31 :=
    ⟨_, idcodeBits.eq_def, by rw [List.length_map, List.length_range]⟩
  refine ⟨rfl, fun edgeSync => ⟨fun hheld => ?_, fun hheld => ?_⟩, fun hready hdone l k => ?_, fun hready hdone => ?_,
    fun hready hdone e => ?_, rfl, hidcode.imp fun l h => ⟨by rw [exec_idcode, execIdcode, State.tapSelect, h.1], h.2⟩,
    fun cells => by rw [exec_samplePreload, execSamplePreload, State.preloads],
    fun cells => by rw [exec_extest, execExtest, State.tapReset, State.preloads], fun _ => ⟨rfl, rfl⟩, rfl⟩
  · rw [exec_rstNRelease, execRstNRelease, State.rstRelease, if_pos hheld]
  · rw [exec_rstNRelease, execRstNRelease, State.rstRelease, hheld, if_neg Bool.false_ne_true]
  · rw [exec_powerUpSelftestDone, execPowerUpSelftestDone]
    exact State.act_goesOn hready (if_pos hdone)
  · rw [exec_powerUpSelftestDone, execPowerUpSelftestDone]
    exact State.act_goesOn hready (by rw [hdone, if_neg Bool.false_ne_true, State.selfTest_passed])
  · rw [exec_powerUpSelftestDone, execPowerUpSelftestDone]
    exact State.act_goesOn hready (by rw [hdone, if_neg Bool.false_ne_true, State.selfTest_engine])

end Sys2Proof.Machine
end

section
/-! PROOFS. The scalar instructions of an engine (O1–O4) and what an exception leaves (O19): the two outcomes of an instruction
that the block answers at once, then the arithmetic of each. -/

namespace Sys2Proof.Machine

/-! ### Instructions that are answered at once (R373, R399, R409) -/

@[simp] theorem State.capture_pending (s : State) (t : TraceEntry) : (s.capture t).pending = s.pending := by
  unfold State.capture
  dsimp only
  split
  · rfl
  · unfold State.eventIf
    split <;> rfl

@[simp] theorem State.writeLog_pending (s : State) (q : LogReq) : (s.writeLog q).pending = s.pending := by
  simp only [State.writeLog, State.eventIf, apply_ite State.pending, State.event_pending, State.capture_pending, ite_self]

/-- Recording leaves the queue of commands. -/
@[simp] theorem State.flush_pending (s : State) : s.flush.pending = s.pending := by
  have hwrite : ∀ (l : List LogReq) (t : State), (l.foldl State.writeLog t).pending = t.pending := by
    intro l
    induction l with
    | nil => exact fun _ => rfl
    | cons q r ih => exact fun t => (ih _).trans (State.writeLog_pending t q)
  unfold State.flush
  split
  · rfl
  · exact hwrite _ _

/-- Time that has not moved on adds nothing to the counters of time. -/
theorem State.lapse_of_chron {s t : State} (h : t.chron = s.chron) : t.lapse s = t := by
  unfold State.lapse
  rw [if_pos]
  rw [h, decide_eq_true (Nat.le_refl _)]
  rfl

@[simp] theorem State.stopEngine_chron (s : State) (e : Nat) : (s.stopEngine e).chron = s.chron := by
  unfold State.stopEngine
  split <;> rfl

@[simp] theorem State.stopEngine_pending (s : State) (e : Nat) : (s.stopEngine e).pending = s.pending := by
  unfold State.stopEngine
  split <;> rfl

@[simp] theorem State.traps_chron (s : State) (e : EngineNo) (cause : BitVec 8) (log : Option (Nat × Nat)) :
    (s.traps e cause log).chron = s.chron := by
  cases log <;> simp [State.traps, State.raiseExc]

@[simp] theorem State.traps_pending (s : State) (e : EngineNo) (cause : BitVec 8) (log : Option (Nat × Nat)) :
    (s.traps e cause log).pending = s.pending := by
  cases log <;> simp [State.traps, State.raiseExc]

section
variable {s : State} {e : EngineNo}

theorem State.pilotReady_parts (h : s.pilotReady e = true) : s.ready = true ∧ s.recorded = true ∧ s.issues e = true := by
  simpa [State.pilotReady, and_assoc] using h

/-- An instruction whose own effect only changes the engine. -/
theorem State.within_engineBecomes {f : State → State} {g : Engine → Engine} (h : s.pilotReady e = true)
    (hf : f s = s.updEngine e g) : s.within f = s.engineBecomes e g := by
  obtain ⟨hready, hrecorded, -⟩ := State.pilotReady_parts h
  have hrec : (s.updEngine e g).recorded = true := hrecorded
  rw [State.within_next s f hready, hf, State.lapse_of_chron (s.updEngine_chron e g), State.flush_of_recorded _ hrec,
    State.withQueue_of_eq _ _ (s.updEngine_pending e g)]
  rfl

/-- An instruction that raises an exception. -/
theorem State.within_traps {f : State → State} {cause : BitVec 8} {log : Option (Nat × Nat)} (hready : s.ready = true)
    (hf : f s = s.traps e cause log) : s.within f = .next (s.traps e cause log).flush := by
  rw [State.within_next s f hready, hf, State.lapse_of_chron (s.traps_chron e cause log),
    State.withQueue_of_eq _ _ (by simp)]

/-- A legal register operation. -/
theorem State.regOp_legal {legal : Bool} {f g : Engine → Engine} (h : s.pilotReady e = true) (hlegal : legal = true)
    (hf : (f (s.engine e)).next = g (s.engine e)) : s.regOp e legal f = s.engineBecomes e g := by
  obtain ⟨-, -, hissues⟩ := State.pilotReady_parts h
  refine State.within_engineBecomes h ?_
  rw [hissues, hlegal]
  exact State.updEngine_congr (f := fun n => (f n).next) hf

theorem State.regOp_illegal {legal : Bool} {f : Engine → Engine} (hready : s.ready = true) (hissues : s.issues e = true)
    (hlegal : legal = false) : s.regOp e legal f = .next (s.traps e 0x10 none).flush :=
  State.within_traps hready (by rw [hissues, hlegal]; rfl)

/-- A legal operation that writes `v` to rd. -/
theorem State.regOp_writesReg {legal : Bool} {rd : BitVec 5} {f : Engine → DWord} {v : DWord} (h : s.pilotReady e = true)
    (hlegal : legal = true) (hv : f (s.engine e) = v) : s.regOp e legal (fun n => n.setG rd (f n)) = s.writesReg e rd v :=
  State.regOp_legal h hlegal (by rw [hv])

end

/-! ### Arithmetic of 64 bits (R401) -/

theorem boolWord_eq (p : Prop) [Decidable p] {b : Bool} (h : b = decide p) : boolWord b = if p then 1 else 0 := by
  rw [boolWord, h]
  by_cases hp : p <;> simp [hp]

theorem ofNat_toNat_add (a b : DWord) : a + b = BitVec.ofNat 64 (a.toNat + b.toNat) := by
  apply BitVec.eq_of_toNat_eq
  simp

theorem ofInt_toNat_sub (a b : DWord) : a - b = BitVec.ofInt 64 ((a.toNat : Int) - b.toNat) := by
  apply BitVec.eq_of_toInt_eq
  rw [BitVec.toInt_sub, BitVec.toInt_ofInt, BitVec.toInt_eq_toNat_bmod, BitVec.toInt_eq_toNat_bmod, Int.sub_bmod_bmod,
    Int.bmod_sub_bmod]

theorem ofNat_toNat_mul (a b : DWord) : a * b = BitVec.ofNat 64 (a.toNat * b.toNat) := by
  apply BitVec.eq_of_toNat_eq
  simp

theorem sdiv_eq_ofInt (a b : DWord) : a.sdiv b = BitVec.ofInt 64 (a.toInt.tdiv b.toInt) := by
  apply BitVec.eq_of_toInt_eq
  rw [BitVec.toInt_sdiv, BitVec.toInt_ofInt]

theorem srem_eq_ofInt (a b : DWord) : a.srem b = BitVec.ofInt 64 (a.toInt.tmod b.toInt) := by
  rw [← BitVec.toInt_srem, BitVec.ofInt_toInt]

/-- The first index of a range at which a predicate holds, or its end. -/
theorem find_range_first (p : Nat → Bool) (n : Nat) : ((List.range n).find? p).getD n ≤ n
    ∧ (∀ i, i < ((List.range n).find? p).getD n → p i = false)
    ∧ (((List.range n).find? p).getD n < n → p (((List.range n).find? p).getD n) = true) := by
  cases h : (List.range n).find? p with
  | none =>
    rw [List.find?_range_eq_none] at h
    simpa using h
  | some k =>
    rw [List.find?_range_eq_some] at h
    obtain ⟨hp, hmem, hbefore⟩ := h
    simp only [List.mem_range] at hmem
    refine ⟨hmem.le, fun i hi => by simpa using hbefore i hi, fun _ => hp⟩

@[simp] theorem length_natBytes (n v : Nat) : (natBytes n v).length = n := by
  induction n generalizing v with
  | zero => rfl
  | succ k ih => rw [natBytes, List.length_cons, ih]

theorem getElem?_natBytes {n i : Nat} (v : Nat) (h : i < n) : (natBytes n v)[i]? = some (BitVec.ofNat 8 (v >>> (8 * i))) := by
  induction n generalizing v i with
  | zero => omega
  | succ k ih =>
    cases i with
    | zero => rfl
    | succ j =>
      rw [natBytes, List.getElem?_cons_succ, ih _ (by omega), Nat.mul_succ, Nat.add_comm, Nat.shiftRight_add,
        Nat.shiftRight_eq_div_pow v 8]

/-- Byte i of the reversed bytes is byte 7 − i. -/
theorem bswap64_byte (a : DWord) {i : Nat} (hi : i < 8) :
    (bswap64 a).extractLsb' (8 * i) 8 = a.extractLsb' (8 * (7 - i)) 8 := by
  have hbyte : (natBytes 8 a.toNat).reverse.getD i 0 = BitVec.ofNat 8 (a.toNat >>> (8 * (7 - i))) := by
    rw [List.getD_eq_getElem?_getD, List.getElem?_reverse (by simpa using hi), length_natBytes,
      show 8 - 1 - i = 7 - i by omega, getElem?_natBytes _ (by omega)]
    rfl
  refine BitVec.eq_of_getLsbD_eq fun j hj => ?_
  rw [BitVec.getLsbD_extractLsb', BitVec.getLsbD_extractLsb', bswap64, BitVec.getLsbD_ofNat, testBit_bytesNat,
    show (8 * i + j) / 8 = i by omega, show (8 * i + j) % 8 = j by omega, hbyte, BitVec.getLsbD_ofNat, Nat.testBit_shiftRight]
  simp [hj, show 8 * i + j < 64 by omega, BitVec.getLsbD]

/-- Settles O1: each operation is one register operation, with the value the table gives. That CRC starts from rs1 as it stands,
nothing inverted, is the model's choice (log entry 23). -/
theorem scalarResults : Obligations.ScalarResults := by
  unfold Obligations.ScalarResults
  rintro s e rd rs1 rs2 a b hpilot rfl rfl
  obtain ⟨hready, -, hissues⟩ := State.pilotReady_parts hpilot
  have two : ∀ {f : DWord → DWord → DWord} {v : DWord}, f ((s.engine e).reg rs1) ((s.engine e).reg rs2) = v →
      s.alu2 e rd rs1 rs2 f = s.writesReg e rd v :=
    fun {f} _ => State.regOp_writesReg (f := fun n => f (n.reg rs1) (n.reg rs2)) hpilot rfl
  have one : ∀ {f : DWord → DWord} {v : DWord}, f ((s.engine e).reg rs1) = v → s.alu1 e rd rs1 0 f = s.writesReg e rd v :=
    fun {f} _ => State.regOp_writesReg (f := fun n => f (n.reg rs1)) hpilot rfl
  have divides : ∀ {zero f : DWord → DWord → DWord} {v : DWord}, (s.engine e).reg rs2 ≠ 0 →
      f ((s.engine e).reg rs1) ((s.engine e).reg rs2) = v → s.aluDiv e rd rs1 rs2 zero f = s.writesReg e rd v :=
    fun hdivisor hv => State.regOp_legal hpilot rfl (by rw [Engine.divide, if_neg hdivisor, hv])
  have byZero : ∀ {zero f : DWord → DWord → DWord} {v : DWord}, (s.engine e).reg rs2 = 0 →
      zero ((s.engine e).reg rs1) ((s.engine e).reg rs2) = v →
      s.aluDiv e rd rs1 rs2 zero f = s.engineBecomes e fun n => { n.setG rd v with arith := n.arith ||| 1 }.next :=
    fun hdivisor hv => State.regOp_legal hpilot rfl (by rw [Engine.divide, if_pos hdivisor, hv])
  simp only [exec_add, execAdd, exec_sub, execSub, exec_and, execAnd, exec_or, execOr, exec_xor, execXor, exec_sll,
    execSll, exec_srl, execSrl, exec_sra, execSra, exec_cmplt, execCmplt, exec_cmpltu, execCmpltu, exec_cmpeq,
    execCmpeq, exec_cmple, execCmple, exec_cmpleu, execCmpleu, exec_mul, execMul, exec_mulhu, execMulhu, exec_min,
    execMin, exec_max, execMax, exec_minu, execMinu, exec_maxu, execMaxu, exec_crc, execCrc, exec_divu, execDivu,
    exec_remu, execRemu, exec_div, execDiv, exec_rem, execRem, exec_clz, execClz, exec_ctz, execCtz, exec_popc,
    execPopc, exec_bswap, execBswap]
  refine ⟨two (ofNat_toNat_add _ _), two (ofInt_toNat_sub _ _), two rfl, two rfl, two rfl, two rfl, two rfl, two rfl,
    two (boolWord_eq _ BitVec.slt_eq_decide), two (boolWord_eq _ BitVec.ult_eq_decide), two (boolWord_eq _ rfl),
    two (boolWord_eq _ BitVec.sle_eq_decide), two (boolWord_eq _ BitVec.ule_eq_decide), two (ofNat_toNat_mul _ _), two rfl,
    two ?min, two ?max, two ?minu, two ?maxu, two rfl,
    fun hzero => ⟨byZero hzero rfl, byZero hzero rfl, byZero hzero rfl, byZero hzero rfl⟩,
    fun hzero => ⟨divides hzero BitVec.udiv_def, divides hzero BitVec.umod_def, divides hzero (sdiv_eq_ofInt _ _), divides hzero (srem_eq_ofInt _ _)⟩,
    ⟨_, one rfl, find_range_first _ 64⟩, ⟨_, one rfl, find_range_first _ 64⟩, one ?popc, _, one rfl,
    fun i hi => ⟨bswap64_byte _ hi, fun hrs2 t ht => ?illegal⟩⟩
  case min => simp only [BitVec.sle_iff_toInt_le]
  case max => simp only [BitVec.sle_iff_toInt_le]
  case minu => simp only [BitVec.ule_iff_toNat_le]
  case maxu => simp only [BitVec.ule_iff_toNat_le]
  case popc => rw [popc64, List.countP_eq_length_filter]
  case illegal =>
    have illegal : ∀ f, s.alu1 e rd rs1 rs2 f = t := fun f =>
      (State.regOp_illegal hready hissues (by simpa [legalUnary] using hrs2)).trans ht.symm
    exact ⟨illegal _, illegal _, illegal _, illegal _⟩

/-! ### Immediates (R398, R400) -/

theorem toInt_signExtend_imm (imm : BitVec 16) : (imm.signExtend 64).toInt = imm.toInt :=
  BitVec.toInt_signExtend_of_le (by decide)

/-- A right rotation by less than 64 is two shifts. -/
theorem ror64_eq_shifts (a : DWord) {n : Nat} (h : n < 64) : ror64 a n = (a >>> n) ||| (a <<< ((64 - n) % 64)) := by
  rw [ror64, BitVec.rotateRight_def, Nat.mod_eq_of_lt h]
  obtain rfl | hpos := Nat.eq_zero_or_pos n
  · simp [BitVec.shiftLeft_eq_zero]
  · rw [Nat.mod_eq_of_lt (show 64 - n < 64 by omega)]

/-- Settles O2: each instruction with an immediate is one register operation. -/
theorem immediateResults : Obligations.ImmediateResults := by
  unfold Obligations.ImmediateResults
  rintro s e rd rs1 imm a hpilot rfl
  have result : ∀ {legal : Bool} {f : DWord → DWord} {v : DWord}, legal = true → f ((s.engine e).reg rs1) = v →
      s.aluImm e legal rd rs1 f = s.writesReg e rd v :=
    fun {_ f _} hlegal => State.regOp_writesReg (f := fun n => f (n.reg rs1)) hpilot hlegal
  have zero : ∀ {v : DWord}, s.aluImm e (legalMovi 0) rd 0 (fun _ => v) = s.writesReg e rd v :=
    fun {v} => State.regOp_writesReg (f := fun _ => v) hpilot rfl rfl
  have shift : imm.toNat < 256 → legalShi imm = true := fun h => by simp [legalShi, Nat.div_eq_of_lt h]
  simp only [exec_addi, execAddi, exec_andi, execAndi, exec_ori, execOri, exec_xori, execXori, exec_cmplti, execCmplti,
    exec_cmpltui, execCmpltui, exec_shin, execShin, exec_movi, execMovi, exec_shiSll, execShiSll, exec_shiSrl, execShiSrl,
    exec_shiSra, execShiSra, exec_shiRor, execShiRor]
  exact ⟨result rfl rfl, result rfl rfl, result rfl rfl, result rfl rfl,
    result rfl (boolWord_eq _ (by rw [BitVec.slt_eq_decide, toInt_signExtend_imm])),
    result rfl (boolWord_eq _ BitVec.ult_eq_decide), result rfl rfl, zero, fun h =>
    ⟨result (shift h) rfl, result (shift h) rfl, result (shift h) rfl,
      result (shift h) (ror64_eq_shifts _ (Nat.mod_lt _ (by decide)))⟩⟩

/-! ### Branches and jumps (R400) -/

/-- A sum modulo 2^16 of an address and a signed distance. -/
theorem pc_add_eq_ofInt (pc d : BitVec 16) {i : Int} (h : d = BitVec.ofInt 16 i) : pc + d = BitVec.ofInt 16 ((pc.toNat : Int) + i) := by
  rw [h, BitVec.ofInt_add, BitVec.ofInt_natCast, BitVec.ofNat_toNat, BitVec.setWidth_eq]

theorem mul_four_eq_ofInt (woff : BitVec 16) {i : Int} (h : woff = BitVec.ofInt 16 i) : woff * 4 = BitVec.ofInt 16 (4 * i) := by
  rw [h, BitVec.mul_comm, BitVec.ofInt_mul]
  rfl

theorem Engine.branch_eq (n : Engine) (taken : Bool) (woff : BitVec 16) :
    n.branch taken woff = { n with pc := BitVec.ofInt 16 ((n.pc.toNat : Int) + if taken then 4 * woff.toInt else 4) } := by
  cases taken with
  | true => simp only [Engine.branch, if_true, pc_add_eq_ofInt n.pc _ (mul_four_eq_ofInt woff (BitVec.ofInt_toInt (x := woff)).symm)]
  | false =>
    simp only [Engine.branch, Engine.next, Bool.false_eq_true, if_false, pc_add_eq_ofInt n.pc 4 (i := 4) rfl]

theorem lowBit_eq (a : DWord) : a.getLsbD 0 = decide (a.toNat % 2 = 1) := Nat.testBit_zero _

/-- Settles O3: each branch is one register operation that changes the pc. -/
theorem branchTargets : Obligations.BranchTargets := by
  unfold Obligations.BranchTargets
  rintro s e rs1 woff a hpilot rfl
  obtain ⟨-, -, hissues⟩ := State.pilotReady_parts hpilot
  have branch : ∀ {legal : Bool} {r : BitVec 5} {cond : DWord → Bool} {taken : Bool}, legal = true →
      cond ((s.engine e).reg r) = taken → s.branchCmd e legal r woff cond = s.branches e woff taken := by
    rintro legal r cond taken rfl rfl
    refine State.within_engineBecomes hpilot ?_
    rw [hissues]
    exact State.updEngine_congr (f := fun n => n.branch (cond (n.reg r)) woff) (Engine.branch_eq _ _ _)
  simp only [exec_bcondEqz, execBcondEqz, exec_bcondNez, execBcondNez, exec_bcondLtz, execBcondLtz, exec_bcondGez, execBcondGez,
    exec_bcondGtz, execBcondGtz, exec_bcondLez, execBcondLez, exec_bcondOdd, execBcondOdd, exec_bcondEven, execBcondEven,
    exec_bcondAlways, execBcondAlways]
  refine ⟨branch rfl rfl, branch rfl ?_, branch rfl BitVec.slt_eq_decide, branch rfl ?_, branch rfl ?_,
    branch rfl BitVec.sle_eq_decide, branch rfl ?_, branch rfl ?_, branch rfl rfl⟩
  · exact (Bool.eq_iff_iff.mpr (by simp))
  · rw [BitVec.slt_eq_decide, ← decide_not]
    exact decide_eq_decide.mpr Int.not_lt
  · rw [BitVec.sle_eq_decide, ← decide_not]
    exact decide_eq_decide.mpr Int.not_le
  · exact lowBit_eq _
  · rw [lowBit_eq, ← decide_not]
    exact decide_eq_decide.mpr Nat.mod_two_ne_one

/-- Settles O4: CALL is a branch after the link, JUMPR and CALLR go to the target or raise MISALIGNED. That CALLR reads rs1
before it writes rd, and that the return address is pc + 4 unreduced, are the model's choices (log entry 23). -/
theorem jumpTargets : Obligations.JumpTargets := by
  unfold Obligations.JumpTargets
  rintro s e rd rs1 imm woff pc target hpilot rfl htarget
  obtain ⟨hready, -, hissues⟩ := State.pilotReady_parts hpilot
  have hjump : (s.engine e).jumpTarget rs1 imm = target := by
    rw [htarget, BitVec.ofInt_add, BitVec.ofInt_natCast, BitVec.ofInt_toInt, Engine.jumpTarget]
    rfl
  have goes : ∀ {legal : Bool} {f : Engine → Engine} {g : Engine → Engine}, legal = true → target.toNat % 4 = 0 →
      { f (s.engine e) with pc := target } = g (s.engine e) → s.jumpCmd e legal rs1 imm f = s.engineBecomes e g := by
    intro legal f g hlegal halign hf
    refine State.within_engineBecomes hpilot ?_
    simp only [hissues, hlegal, hjump, halign]
    exact State.updEngine_congr (f := fun n => { f n with pc := target }) hf
  have misaligned : ∀ {legal : Bool} {f : Engine → Engine}, legal = true → target.toNat % 4 ≠ 0 →
      s.jumpCmd e legal rs1 imm f = .next (s.traps e 0x11 (some (target.toNat, 0))).flush := by
    intro legal f hlegal halign
    refine State.within_traps hready ?_
    simp only [hissues, hlegal, hjump, bne_iff_ne, ne_eq, halign, not_false_iff, if_true, Bool.not_true, Bool.false_eq_true,
      if_false]
    rfl
  rw [exec_call, exec_jumpr, exec_callr, execCall, execJumpr, execCallr]
  refine ⟨State.within_engineBecomes hpilot ?_, fun h => ⟨goes rfl h rfl, goes rfl h rfl⟩,
    fun h => ⟨misaligned rfl h, misaligned rfl h⟩⟩
  rw [hissues, if_pos rfl]
  have hdistance : woff.setWidth 16 = BitVec.ofInt 16 woff.toInt := by
    refine BitVec.eq_of_toInt_eq ?_
    rw [BitVec.toInt_setWidth, BitVec.toInt_ofInt, BitVec.toInt_eq_toNat_bmod, Int.bmod_bmod_of_dvd (by decide)]
  refine State.updEngine_congr ?_
  rw [Engine.branch, if_pos rfl, pc_add_eq_ofInt _ _ (mul_four_eq_ofInt _ hdistance)]
  rfl

/-! ### Exceptions (R368, R409) -/

/-- A value that is listed is found, whatever the list. -/
theorem agetD_aputD_of_ne {α : Type} [DecidableEq α] (l : List (Nat × α)) (k : Nat) {v d : α} (d' : α) (h : v ≠ d) :
    agetD (aputD l k v d) k d' = v := by
  rw [aputD, if_neg h, agetD, aget_aput_same]
  rfl

/-- An engine that stops is listed. -/
theorem State.engine_updEngine_stopping {s : State} {e : Nat} {f : Engine → Engine} (h : (f (s.engine e)).state = .stopping) :
    (s.updEngine e f).engine e = f (s.engine e) :=
  agetD_aputD_of_ne _ _ _ fun heq => by simp [heq] at h

section
variable {s : State} {e : EngineNo}

theorem State.stopEngine_running (h : (s.engine e).state = .running) :
    s.stopEngine e = (s.updEngine e Engine.leaveRunning).updAtu fun a =>
      { a with fences := a.fences.filter fun f => match f.owner with | .engine x => x.val != e | _ => true } := by
  rw [State.stopEngine, h]
  rfl

/-- The engine an exception leaves. -/
theorem State.engine_traps (cause : BitVec 8) (log : Option (Nat × Nat)) (h : (s.engine e).state = .running) :
    (s.traps e cause log).engine e = { (s.engine e).leaveRunning with
      state := .stopping, pendExc := some cause, pc := (s.engine e).pc
      exc := at_ cause.toNat 24 8 ||| at_ (s.engine e).pc.toNat 0 16 } := by
  have hstopped : (s.stopEngine e).engine e = (s.engine e).leaveRunning := by
    rw [State.stopEngine_running h]
    exact State.engine_updEngine_stopping rfl
  have hraised := State.engine_updEngine_stopping (s := s.stopEngine e) (e := e) (f := fun n =>
    { n with state := .stopping, pendExc := some cause, pc := (s.engine e).pc
             exc := at_ cause.toNat 24 8 ||| at_ (s.engine e).pc.toNat 0 16 }) rfl
  rw [hstopped] at hraised
  cases log <;> exact hraised

theorem State.engine_traps_other (cause : BitVec 8) (log : Option (Nat × Nat)) {x : EngineNo} (h : x ≠ e) :
    (s.traps e cause log).engine x = s.engine x := by
  have hne : x.val ≠ e.val := fun heq => h (Fin.ext heq)
  have hstopped : (s.stopEngine e).engine x = s.engine x := by
    unfold State.stopEngine
    split
    · rfl
    · exact State.engine_updEngine_other s _ hne
  have hraised := State.engine_updEngine_other (s.stopEngine e) (e := e) (k := x) (fun n =>
    { n with state := .stopping, pendExc := some cause, pc := (s.engine e).pc
             exc := at_ cause.toNat 24 8 ||| at_ (s.engine e).pc.toNat 0 16 }) hne
  rw [hstopped] at hraised
  cases log <;> exact hraised

end

@[simp] theorem State.stopEngine_mem (s : State) (e : Nat) : (s.stopEngine e).mem = s.mem := by
  unfold State.stopEngine
  split <;> rfl

@[simp] theorem State.stopEngine_logq (s : State) (e : Nat) : (s.stopEngine e).logq = s.logq := by
  unfold State.stopEngine
  split <;> rfl

/-- A field placed in a word. -/
theorem at_toNat {n : Nat} (v : BitVec n) (lo : Nat) : at_ v.toNat lo n = v.zeroExtend 32 <<< lo := by
  apply BitVec.eq_of_toNat_eq
  simp [at_, Nat.mod_eq_of_lt v.isLt, Nat.shiftLeft_eq]

/-- The word of PEA_EXC. -/
theorem excWord_eq (cause : BitVec 8) (pc : BitVec 16) :
    at_ cause.toNat 24 8 ||| at_ pc.toNat 0 16 = (cause.zeroExtend 32 <<< 24) ||| pc.zeroExtend 32 := by
  rw [at_toNat, at_toNat, BitVec.shiftLeft_zero]

/-- Settles O19: an exception first stops the engine, which keeps all but its state and its wait. -/
theorem exceptionsArePrecise : Obligations.ExceptionsArePrecise := by
  unfold Obligations.ExceptionsArePrecise
  rintro s e cause log n hrunning rfl
  rw [State.engine_traps cause log hrunning]
  refine ⟨rfl, rfl, excWord_eq _ _, rfl, rfl, rfl, rfl, rfl, rfl, rfl, fun x hx => State.engine_traps_other cause log hx, ?_, ?_⟩
  · cases log <;> simp [State.traps, State.raiseExc]
  · rintro addr code rfl
    simp [State.traps, State.raiseExc, State.logE]

end Sys2Proof.Machine
end

section
/-! PROOFS. The instructions of an engine that go beyond its registers: local accesses (O10), what traps (O11, O18), what leaves
for the memory port (O12), the control registers (O16) and the services (O17). -/

namespace Sys2Proof.Machine

/-! ### Bytes of a memory -/

theorem bytesNat_append (a b : List Byte) : bytesNat (a ++ b) = bytesNat a + 2 ^ (8 * a.length) * bytesNat b := by
  induction a with
  | nil => simp [bytesNat]
  | cons x r ih =>
    have hcons : ∀ l : List Byte, bytesNat (x :: l) = x.toNat + 256 * bytesNat l := fun _ => rfl
    rw [List.cons_append, hcons, hcons, ih, List.length_cons, Nat.mul_succ, Nat.pow_add]
    ring

theorem bytesNat_lt (bs : List Byte) : bytesNat bs < 2 ^ (8 * bs.length) := by
  induction bs with
  | nil => decide
  | cons x r ih =>
    have hcons : bytesNat (x :: r) = x.toNat + 256 * bytesNat r := rfl
    have hx := x.isLt
    rw [hcons, List.length_cons, Nat.mul_succ, Nat.pow_add]
    omega

@[simp] theorem length_memBytes (m : List Host.Cell) (a n : Nat) : (memBytes m a n).length = n := by simp [memBytes]

theorem memBytes_add (m : List Host.Cell) (a i j : Nat) : memBytes m a (i + j) = memBytes m a i ++ memBytes m (a + i) j := by
  simp [memBytes, List.range_add, Nat.add_assoc]

theorem natBytes_add (i j v : Nat) : natBytes (i + j) v = natBytes i v ++ natBytes j (v / 2 ^ (8 * i)) := by
  induction i generalizing v with
  | zero => simp [natBytes]
  | succ i ih =>
    rw [Nat.succ_add, natBytes, natBytes, ih, Nat.div_div_eq_div_mul, Nat.mul_succ, Nat.add_comm (8 * i), Nat.pow_add]
    rfl

/-- What stands above n bytes is not among them. -/
theorem natBytes_add_mul (n x y : Nat) : natBytes n (x + y * 2 ^ (8 * n)) = natBytes n x := by
  induction n generalizing x with
  | zero => rfl
  | succ n ih =>
    have hshift : y * 2 ^ (8 * (n + 1)) = 256 * (y * 2 ^ (8 * n)) := by rw [Nat.mul_succ, Nat.pow_add]; ring
    have hbyte : BitVec.ofNat 8 (x + 256 * (y * 2 ^ (8 * n))) = BitVec.ofNat 8 x := by
      apply BitVec.eq_of_toNat_eq
      simp only [BitVec.toNat_ofNat]
      omega
    rw [hshift, natBytes, natBytes, hbyte, Nat.add_mul_div_left x _ (by decide), ih]

/-- The bytes of two registers. -/
theorem natBytes_pair (x y : DWord) : natBytes 16 (x.toNat + y.toNat * 2 ^ 64) = natBytes 8 x.toNat ++ natBytes 8 y.toNat := by
  have hx := x.isLt
  rw [show 16 = 8 + 8 from rfl, natBytes_add, natBytes_add_mul 8 x.toNat y.toNat,
    show (x.toNat + y.toNat * 2 ^ 64) / 2 ^ (8 * 8) = y.toNat by omega]

/-! ### Instructions that let the block go on (R396, R397, R405) -/

section
variable {s u : State} {e : EngineNo} (hready : s.ready = true) (hissues : s.issues e = true)
include hready hissues

/-- An instruction that raises an exception. -/
theorem State.pilotOp_illegal {legal : Bool} {f : State → State} (hlegal : legal = false) :
    s.pilotOp e legal f = s.goesOn (s.traps e 0x10 none) :=
  State.act_goesOn hready (by rw [hissues, hlegal]; rfl)

section
variable {legal : Bool} {rs1 : BitVec 5} {off : BitVec 13} {a : Nat} (ha : a = ((s.engine e).reg rs1 + off.signExtend 64).toNat)
include ha

/-- A legal load does what it does at its address. -/
theorem State.loadCmd_goesOn {kind : LoadKind} (hlegal : legal = true) (hf : s.loadOp e kind a = u) :
    s.loadCmd e legal rs1 off kind = s.goesOn u :=
  State.act_goesOn hready (by rw [hissues, hlegal, Engine.memAddr, ← ha]; exact hf)

theorem State.storeCmd_goesOn {len : Nat} {v : Engine → Nat} (hlegal : legal = true)
    (hf : s.storeOp e a len (v (s.engine e)) = u) : s.storeCmd e legal rs1 off len v = s.goesOn u :=
  State.pilotOp_goesOn hready hissues hlegal (by rw [Engine.memAddr, ← ha]; exact hf)

end

theorem State.loadCmd_illegal {legal : Bool} {rs1 : BitVec 5} {off : BitVec 13} {kind : LoadKind} (hlegal : legal = false) :
    s.loadCmd e legal rs1 off kind = s.goesOn (s.traps e 0x10 none) :=
  State.act_goesOn hready (by rw [hissues, hlegal]; rfl)

end

section
variable {s : State} {e : EngineNo} {a o n : Nat}

section
variable (hlocal : inLocal a = true)
include hlocal

theorem State.loadOp_localFault {kind : LoadKind} (h : badLocal a kind.size = true) :
    s.loadOp e kind a = s.traps e 0x12 (some (a, 0)) := by
  rw [State.loadOp, hlocal, if_pos rfl, h, if_pos rfl]
  rfl

theorem State.storeOp_localFault {v : Nat} (h : badLocal a n = true) :
    s.storeOp e a n v = s.traps e 0x12 (some (a, 0)) := by
  rw [State.storeOp, hlocal, if_pos rfl, h, if_pos rfl]
  rfl

end

section
variable (ha : a = 0x00FD000000000000 + o)
include ha

theorem inLocal_of_offset (ho : o < 0x40000) : inLocal a = true := by
  have hbase : localBase = 0x00FD000000000000 := rfl
  simp only [inLocal, Bool.and_eq_true, decide_eq_true_eq]
  omega

/-- A local access of an offset that is naturally aligned and inside data memory is not refused. -/
theorem badLocal_of_offset (hdvd : n ∣ 0x00FD000000000000) (halign : o % n = 0) (hfits : o + n ≤ 0x40000) :
    badLocal a n = false := by
  have hbase : localBase = 0x00FD000000000000 := rfl
  have hmod : a % n = 0 := by rw [ha, Nat.add_mod, Nat.mod_eq_zero_of_dvd hdvd, halign]; simp
  simp only [badLocal, hmod, bne_self_eq_false, Bool.false_or, decide_eq_false_iff_not]
  omega

theorem State.loadOp_local {kind : LoadKind} {g : Engine → Engine} (ho : o < 0x40000) (h : badLocal a kind.size = false)
    (hg : (s.engine e).localLoad kind (localBase + o) = g (s.engine e)) : s.loadOp e kind a = s.updEngine e g := by
  rw [State.loadOp, inLocal_of_offset ha ho, if_pos rfl, h, if_neg Bool.false_ne_true, ha]
  exact State.updEngine_congr hg

theorem State.storeOp_local {v : Nat} {bytes : Engine → List Byte} (ho : o < 0x40000) (h : badLocal a n = false)
    (hv : natBytes n v = bytes (s.engine e)) : s.storeOp e a n v =
      s.updEngine e fun g => { g with dmem := memPut g.dmem o (bytes g) }.next := by
  have hoff : a - localBase = o := by rw [ha]; exact Nat.add_sub_cancel_left ..
  rw [State.storeOp, inLocal_of_offset ha ho, if_pos rfl, h, if_neg Bool.false_ne_true, hoff]
  exact State.updEngine_congr (by rw [hv])

end

end

theorem Engine.localLoad_gpr (n : Engine) (rd : BitVec 5) (k : Nat) (signed : Bool) (o : Nat) :
    n.localLoad (.gpr rd k signed) (localBase + o) = (n.setG rd (extend k (bytesNat (memBytes n.dmem o k)) signed)).next := by
  rw [Engine.localLoad, Nat.add_sub_cancel_left, LoadKind.size]

theorem Engine.localLoad_pair (n : Engine) (rd : BitVec 5) (o : Nat) : n.localLoad (.pair rd) (localBase + o) =
    ((n.setG rd (BitVec.ofNat 64 (bytesNat (memBytes n.dmem o 8)))).setG (rd + 1)
      (BitVec.ofNat 64 (bytesNat (memBytes n.dmem (o + 8) 8)))).next := by
  have hlow := bytesNat_lt (memBytes n.dmem o 8)
  rw [length_memBytes] at hlow
  have hbytes : bytesNat (memBytes n.dmem o 16) = bytesNat (memBytes n.dmem o 8) + 2 ^ 64 * bytesNat (memBytes n.dmem (o + 8) 8) := by
    rw [show 16 = 8 + 8 from rfl, memBytes_add, bytesNat_append, length_memBytes]
  have hfirst : BitVec.ofNat 64 (bytesNat (memBytes n.dmem o 16)) = BitVec.ofNat 64 (bytesNat (memBytes n.dmem o 8)) := by
    apply BitVec.eq_of_toNat_eq
    simp only [BitVec.toNat_ofNat, hbytes]
    omega
  have hsecond : bytesNat (memBytes n.dmem o 16) / 2 ^ 64 = bytesNat (memBytes n.dmem (o + 8) 8) := by omega
  simp only [Engine.localLoad, Nat.add_sub_cancel_left, LoadKind.size, hfirst, hsecond]

theorem extend_unsigned (m : List Host.Cell) (o k : Nat) :
    extend k (bytesNat (memBytes m o k)) false = BitVec.ofNat 64 (bytesNat (memBytes m o k)) := by
  have hlt := bytesNat_lt (memBytes m o k)
  rw [length_memBytes] at hlt
  rw [extend, if_neg Bool.false_ne_true, Nat.mod_eq_of_lt hlt]

/-- Settles O10: each access of the local window is performed on data memory at its offset. -/
theorem localAccesses : Obligations.LocalAccesses := by
  unfold Obligations.LocalAccesses
  intro s e rd rs1 size off a n o hready hissues ha hlocal
  refine ⟨fun hsize hn halign hfits => ?word, fun hsize hrd halign hfits => ?pair, fun hsize hrd halign hfits => ?line⟩
  case word =>
    have hpos : 0 < n := by rw [hn]; exact Nat.two_pow_pos _
    have hlegal : legalSize size = true := decide_eq_true hsize
    have hdvd : n ∣ 0x00FD000000000000 := by
      rw [hn]
      exact (Nat.pow_dvd_pow 2 (Nat.le_of_lt hsize)).trans (by decide)
    have hgood := badLocal_of_offset hlocal hdvd halign hfits
    rw [exec_ld, exec_ldu, exec_st, execLd, execLdu, execSt, mSize, ← hn]
    refine ⟨State.loadCmd_goesOn hready hissues ha hlegal (State.loadOp_local hlocal (by omega) hgood ?_),
      State.loadCmd_goesOn hready hissues ha hlegal (State.loadOp_local hlocal (by omega) hgood ?_),
      State.storeCmd_goesOn hready hissues ha hlegal (State.storeOp_local hlocal (by omega) hgood rfl)⟩
    · rw [Engine.localLoad_gpr, extend, if_pos rfl]
    · rw [Engine.localLoad_gpr, extend_unsigned]
  case pair =>
    subst hsize
    have hlegal : legalPair rd 0 = true := by simp [legalPair, evenReg, hrd]
    have hgood := badLocal_of_offset (n := 16) hlocal (by decide) halign (by omega)
    rw [exec_ldp, exec_stp, execLdp, execStp]
    exact ⟨State.loadCmd_goesOn hready hissues ha hlegal (State.loadOp_local hlocal hfits hgood (Engine.localLoad_pair _ _ _)),
      State.storeCmd_goesOn hready hissues ha hlegal
        (State.storeOp_local (bytes := fun g => natBytes 8 (g.reg rd).toNat ++ natBytes 8 (g.reg (rd + 1)).toNat) hlocal hfits
          hgood (natBytes_pair _ _))⟩
  case line =>
    subst hsize
    have hlegal : legalVmem rd 0 = true := by simp [legalVmem, legalSweep, hrd]
    have hgood := badLocal_of_offset (n := 64) hlocal (by decide) halign (by omega)
    rw [exec_vld, exec_vst, execVld, execVst]
    refine ⟨State.loadCmd_goesOn hready hissues ha hlegal (State.loadOp_local hlocal hfits hgood ?_),
      State.storeCmd_goesOn hready hissues ha hlegal
        (State.storeOp_local (bytes := fun g => natBytes 64 (g.vec (rd.setWidth 4)).toNat) hlocal hfits hgood rfl)⟩
    simp only [Engine.localLoad, Nat.add_sub_cancel_left, LoadKind.size, BitVec.setWidth_eq]

/-! ### Where an access goes (R396, R397, R403, R404) -/

theorem inLocal_of_bounds {a : Nat} (hlo : 0x00FD000000000000 ≤ a) (hhi : a < 0x00FD000000040000) : inLocal a = true := by
  have hbase : localBase = 0x00FD000000000000 := rfl
  simp only [inLocal, Bool.and_eq_true, decide_eq_true_eq]
  omega

theorem badLocal_of_misaligned {a n : Nat} (h : a % n ≠ 0) : badLocal a n = true := by simp [badLocal, h]

/-- An address below the windows or from the register window on lies in neither window of an engine. -/
theorem outside_windows {a : Nat} (h : a < 0x00FD000000000000 ∨ 0x00FF000000000000 ≤ a) :
    inLocal a = false ∧ inUnits a = false := by
  have hbase : localBase = 0x00FD000000000000 := rfl
  have hunits : unitBase = 0x00FE000000000000 := rfl
  simp only [inLocal, inUnits, Bool.and_eq_false_iff, decide_eq_false_iff_not]
  omega

section
variable {s : State} {e : EngineNo} {kind : LoadKind} {a : Nat}

theorem State.farOp_misaligned (h : a % kind.size ≠ 0) : s.farOp e kind a = s.traps e 0x11 (some (a, 0)) :=
  if_pos (bne_iff_ne.mpr h)

theorem State.farOp_local (halign : a % kind.size = 0) (hlocal : inLocal a = true) :
    s.farOp e kind a = s.traps e 0x12 (some (a, 0)) := by
  rw [State.farOp, halign, hlocal]
  rfl

section
variable (hout : a < 0x00FD000000000000 ∨ 0x00FF000000000000 ≤ a)
include hout

theorem State.loadOp_outside : s.loadOp e kind a = s.updEngine e fun n => n.startLoad kind a := by
  obtain ⟨hlocal, hunits⟩ := outside_windows hout
  rw [State.loadOp, hlocal, hunits]
  rfl

theorem State.farOp_outside (halign : a % kind.size = 0) : s.farOp e kind a = s.updEngine e fun n => n.startLoad kind a := by
  obtain ⟨hlocal, hunits⟩ := outside_windows hout
  rw [State.farOp, halign, hlocal, hunits]
  rfl

end
end

theorem map_close (l : List SbEntry) (line : Nat) :
    mapIf l (fun b => b.line == line) SbEntry.close = l.map fun b => if b.line = line then { b with closed := true } else b := by
  simp only [mapIf, beq_iff_eq, SbEntry.close]

/-- An atomic leaves for the memory port. -/
theorem State.asks_atom (s : State) (e : EngineNo) (op : AtomOp) (rd : BitVec 5) (d : Line) (a : Nat) :
    (s.updEngine e fun n => n.startLoad (.atom op rd d) a) = s.asks e (.atom op rd d) a .load := by
  simp only [State.asks, Engine.startLoad, map_close]

/-- A conditional store leaves for the memory port. -/
theorem State.asks_cond (s : State) (e : EngineNo) (rd : BitVec 5) (d : DWord) (a : Nat) :
    (s.updEngine e fun n => n.startLoad (.cond rd d) a) = s.asks e (.cond rd d) a .cond := by
  simp only [State.asks, Engine.startLoad, map_close]

section
variable {s u : State} {e : EngineNo} {rd rs1 rs2 : BitVec 5} {b : Nat} (hready : s.ready = true) (hissues : s.issues e = true)
  (hb : b = ((s.engine e).reg rs1).toNat)
include hready hissues hb

/-- What the instructions on one aligned doubleword do with the address in rs1. -/
theorem State.execResv_goesOn (h : s.farOp e (.resv rd) b = u) : exec (.ldr e rd rs1 rs2 0) s = s.goesOn u := by
  rw [exec_ldr, execLdr]
  exact State.pilotOp_goesOn hready hissues rfl (by rw [← hb, h])

theorem State.execCond_goesOn (h : s.farOp e (.cond rd ((s.engine e).reg rs2)) b = u) :
    exec (.stc e rd rs1 rs2 0) s = s.goesOn u := by
  rw [exec_stc, execStc]
  exact State.pilotOp_goesOn hready hissues rfl (by rw [← hb, h])

theorem State.farCmd_goesOn {legal : Bool} {op : AtomOp} {d : Line} (hlegal : legal = true) (hd : (s.engine e).farData op rd rs2 = d)
    (h : s.farOp e (.atom op rd d) b = u) : s.farCmd e legal op rd rs1 rs2 = s.goesOn u :=
  State.pilotOp_goesOn hready hissues hlegal (by rw [← hb, hd, h])

/-- LDR, STC and the atomics of one doubleword all trap where none may act. -/
theorem State.farOps_trap {cause : BitVec 8} {log : Option (Nat × Nat)}
    (h : ∀ kind : LoadKind, kind.size = 8 → s.farOp e kind b = s.traps e cause log) :
    exec (.ldr e rd rs1 rs2 0) s = s.goesOn (s.traps e cause log)
      ∧ exec (.stc e rd rs1 rs2 0) s = s.goesOn (s.traps e cause log)
      ∧ exec (.farCas8 e rd rs1 rs2 0) s = s.goesOn (s.traps e cause log)
      ∧ exec (.farFadd e rd rs1 rs2 2) s = s.goesOn (s.traps e cause log)
      ∧ exec (.farSwap e rd rs1 rs2 3) s = s.goesOn (s.traps e cause log)
      ∧ exec (.farAnd e rd rs1 rs2 4) s = s.goesOn (s.traps e cause log)
      ∧ exec (.farOr e rd rs1 rs2 5) s = s.goesOn (s.traps e cause log) := by
  rw [exec_farCas8, exec_farFadd, exec_farSwap, exec_farAnd, exec_farOr, execFarCas8, execFarFadd, execFarSwap, execFarAnd,
    execFarOr]
  exact ⟨State.execResv_goesOn hready hissues hb (h _ rfl), State.execCond_goesOn hready hissues hb (h _ rfl),
    State.farCmd_goesOn hready hissues hb rfl rfl (h _ rfl), State.farCmd_goesOn hready hissues hb rfl rfl (h _ rfl),
    State.farCmd_goesOn hready hissues hb rfl rfl (h _ rfl), State.farCmd_goesOn hready hissues hb rfl rfl (h _ rfl),
    State.farCmd_goesOn hready hissues hb rfl rfl (h _ rfl)⟩

end

/-- Settles O11: a local access that is refused, and an atomic that is misaligned or local, raise their exception. -/
theorem addressTraps : Obligations.AddressTraps := by
  unfold Obligations.AddressTraps
  intro s e rd rs1 rs2 size off a b hready hissues ha hb
  have load : ∀ {legal : Bool} {kind : LoadKind}, legal = true → inLocal a = true → a % kind.size ≠ 0 →
      s.loadCmd e legal rs1 off kind = s.goesOn (s.traps e 0x12 (some (a, 0))) := fun hlegal hlocal h =>
    State.loadCmd_goesOn hready hissues ha hlegal (State.loadOp_localFault hlocal (badLocal_of_misaligned h))
  have store : ∀ {legal : Bool} {len : Nat} {v : Engine → Nat}, legal = true → inLocal a = true → a % len ≠ 0 →
      s.storeCmd e legal rs1 off len v = s.goesOn (s.traps e 0x12 (some (a, 0))) := fun hlegal hlocal h =>
    State.storeCmd_goesOn hready hissues ha hlegal (State.storeOp_localFault hlocal (badLocal_of_misaligned h))
  rw [exec_ld, exec_ldu, exec_st, exec_ldp, exec_stp, exec_vld, exec_vst, execLd, execLdu, execSt, execLdp, execStp, execVld,
    execVst]
  refine ⟨fun hsize hlo hhi h => ?word, fun hlo hhi h hrd => ?pair, fun hlo hhi h hrd => ?line, fun h _ => ?misaligned,
    fun halign hlo hhi => ?local_, fun hrd hrs2 h _ => ?cas16⟩
  case word =>
    have hlegal : legalSize size = true := decide_eq_true hsize
    have hlocal := inLocal_of_bounds hlo hhi
    exact ⟨load hlegal hlocal h, load hlegal hlocal h, store hlegal hlocal h⟩
  case pair =>
    have hlegal : legalPair rd 0 = true := by simp [legalPair, evenReg, hrd]
    have hlocal := inLocal_of_bounds hlo hhi
    exact ⟨load hlegal hlocal h, store hlegal hlocal h⟩
  case line =>
    have hlegal : legalVmem rd 0 = true := by simp [legalVmem, legalSweep, hrd]
    have hlocal := inLocal_of_bounds hlo hhi
    exact ⟨load hlegal hlocal h, store hlegal hlocal h⟩
  case misaligned =>
    exact State.farOps_trap hready hissues hb fun kind hkind => State.farOp_misaligned (by rw [hkind]; exact h)
  case local_ =>
    exact State.farOps_trap hready hissues hb fun kind hkind =>
      State.farOp_local (by rw [hkind]; exact halign) (inLocal_of_bounds hlo hhi)
  case cas16 =>
    have hlegal : legalFar16 rd rs2 1 = true := by simp [legalFar16, legalFar, evenReg, hrd, hrs2]
    rw [exec_farCas16, execFarCas16]
    exact State.farCmd_goesOn hready hissues hb hlegal rfl (State.farOp_misaligned h)

theorem ofNat_toNat_zeroExtend (v : DWord) : BitVec.ofNat 512 v.toNat = v.zeroExtend 512 := BitVec.ofNat_toNat 512 v

/-- Settles O12: outside the windows an access leaves with what it asked for. That the engine goes to the next instruction with
loads in flight (log entry 25) and the pieces an unaligned one is taken in (log entry 26) are the model's choices. -/
theorem portLoadsIssue : Obligations.PortLoadsIssue := by
  unfold Obligations.PortLoadsIssue
  intro s e rd rs1 rs2 size off a b hready hissues ha hb
  rw [exec_ld, exec_ldu, exec_ldp, exec_vld, exec_farCas8, exec_farFadd, exec_farSwap, exec_farAnd, exec_farOr, exec_farCas16,
    execLd, execLdu, execLdp, execVld, execFarCas8, execFarFadd, execFarSwap, execFarAnd, execFarOr, execFarCas16]
  refine ⟨fun hout => ⟨fun hsize => ?word, fun hrd => ?pair, fun hrd => ?line⟩, fun hout halign => ?far, fun hout halign hrd hrs2 => ?far16⟩
  case word =>
    have hlegal : legalSize size = true := decide_eq_true hsize
    exact ⟨State.loadCmd_goesOn hready hissues ha hlegal (State.loadOp_outside hout),
      State.loadCmd_goesOn hready hissues ha hlegal (State.loadOp_outside hout)⟩
  case pair =>
    exact State.loadCmd_goesOn hready hissues ha (by simp [legalPair, evenReg, hrd]) (State.loadOp_outside hout)
  case line =>
    exact State.loadCmd_goesOn hready hissues ha (by simp [legalVmem, legalSweep, hrd]) (State.loadOp_outside hout)
  case far =>
    have atom : ∀ {op : AtomOp} {d : Line}, op.size = 8 → (s.engine e).farData op rd rs2 = d →
        s.farCmd e true op rd rs1 rs2 = s.goesOn (s.asks e (.atom op rd d) b .load) := fun hsize hd =>
      State.farCmd_goesOn hready hissues hb rfl hd
        ((State.farOp_outside hout (by rw [LoadKind.size, hsize, halign])).trans (State.asks_atom ..))
    exact ⟨State.execResv_goesOn hready hissues hb (State.farOp_outside hout halign),
      State.execCond_goesOn hready hissues hb ((State.farOp_outside (kind := .cond rd ((s.engine e).reg rs2)) hout halign).trans
        (State.asks_cond ..)),
      atom rfl rfl, atom rfl (ofNat_toNat_zeroExtend _), atom rfl (ofNat_toNat_zeroExtend _), atom rfl (ofNat_toNat_zeroExtend _),
      atom rfl (ofNat_toNat_zeroExtend _)⟩
  case far16 =>
    have hlegal : legalFar16 rd rs2 1 = true := by simp [legalFar16, legalFar, evenReg, hrd, hrs2]
    exact State.farCmd_goesOn hready hissues hb hlegal rfl
      ((State.farOp_outside (kind := .atom .cas16 _ _) hout halign).trans (State.asks_atom ..))

/-! ### The control registers and the services (R406, R407) -/

/-- Settles O16: a CSR reads as the model shows it, and a write has its own effect. -/
theorem controlRegisters : Obligations.ControlRegisters := by
  unfold Obligations.ControlRegisters
  rintro s e rd rs1 n a hready hissues rfl rfl
  have reads : ∀ {k : BitVec 12} {v : DWord}, csrNamed k.toNat = true → s.csrRead e k.toNat = v →
      exec (.crd e rd 0 k) s = s.goesOn (s.updEngine e fun n => (n.setG rd v).next) := by
    rintro k v hnamed rfl
    rw [exec_crd, execCrd]
    exact State.pilotOp_goesOn hready hissues (by simp [legalCrd, hnamed]) rfl
  have writes : ∀ {k : BitVec 12} {f : DWord → DWord → DWord} {u : State}, legalCsrWrite 0 k = true →
      s.csrWrite e k.toNat (f (s.csrRead e k.toNat) ((s.engine e).reg rs1)) = u → s.csrCmd e 0 rs1 k f = s.goesOn u :=
    fun hlegal hu => State.pilotOp_goesOn hready hissues hlegal hu
  rw [exec_cwr, exec_cset, exec_cclr, exec_cwr, exec_cset, exec_cclr, execCwr, execCset, execCclr, execCwr, execCset, execCclr]
  refine ⟨fun k v h => ?reads, writes rfl rfl, writes rfl ?_, writes rfl ?_, writes rfl rfl, writes rfl ?_, writes rfl ?_⟩
  case reads =>
    obtain ⟨rfl, rfl⟩ | ⟨rfl, rfl⟩ | ⟨rfl, rfl⟩ | ⟨rfl, rfl⟩ | ⟨rfl, rfl⟩ | ⟨rfl, rfl⟩ | ⟨rfl, rfl⟩ | ⟨rfl, hmsgs, rfl⟩ |
      ⟨rfl, m, r, hmsgs, rfl⟩ | ⟨rfl, rfl⟩ | ⟨rfl, rfl⟩ | ⟨rfl, rfl⟩ := h
    · have hsum : e.val / 8 * 2 ^ 16 + (s.engine e).phys * 2 ^ 8 + e.val = e.val + (s.engine e).phys * 2 ^ 8 + e.val / 8 * 2 ^ 16 := by
        omega
      exact reads (by decide) (congrArg (BitVec.ofNat 64) hsum)
    · exact reads (by decide) rfl
    · exact reads (by decide) (BitVec.ofNat_toNat _ _)
    · exact reads (by decide) rfl
    · exact reads (by decide) rfl
    · exact reads (by decide) rfl
    · exact reads (by decide) rfl
    · refine reads (by decide) ?_
      show (s.engine e).msgHead = 0
      rw [Engine.msgHead, hmsgs]
    · refine reads (by decide) ?_
      show (s.engine e).msgHead = _
      rw [Engine.msgHead, hmsgs]
    · exact reads (by decide) rfl
    · exact reads (by decide) rfl
    · exact reads (by decide) rfl
  all_goals rfl

section
variable {s : State} {e : EngineNo} {rd rs1 : BitVec 5} {imm : BitVec 12}

/-- With nothing under way an ordered instruction is not held up. -/
theorem State.ordered_of_empty (f : State → State) (hloads : (s.engine e).loads = []) (hbuffer : (s.engine e).buffer = []) :
    s.ordered e f = f s := by
  rw [State.ordered, if_pos (by simp [Engine.performed, hloads, hbuffer])]

theorem State.msgPop_empty (h : (s.engine e).msgs = []) : s.msgPop e = s.updEngine e Engine.next := by
  rw [State.msgPop, h]

theorem State.msgPop_cons {m : BitVec 6 × List Byte} {r : List (BitVec 6 × List Byte)} (h : (s.engine e).msgs = m :: r) :
    s.msgPop e = if 0x40000 < (s.engine e).msgDst.toNat + m.2.length then
      s.localFault e (localBase + (s.engine e).msgDst.toNat)
    else s.updEngine e fun n => { n with msgs := r, dmem := memPut n.dmem (s.engine e).msgDst.toNat m.2 }.next := by
  rw [State.msgPop, h]

section
variable (hloads : (s.engine e).loads = []) (hbuffer : (s.engine e).buffer = [])
include hloads hbuffer

theorem State.takeOp_busy {d : Desc} (h : (s.engine e).desc = some d) : s.takeOp e rd rs1 imm = s.traps e 0x30 none := by
  rw [State.takeOp, State.ordered_of_empty _ hloads hbuffer]
  simp only [h, Option.isSome_some, if_true]
  rfl

theorem State.takeOp_none (hdesc : (s.engine e).desc = none) (h : (s.engine e).inbox = []) : s.takeOp e rd rs1 imm =
    if imm.getLsbD 0 then s.updEngine e (fun n => (n.setG rd 0).next) else s.updEngine e fun n => { n with wait := .descriptor } := by
  rw [State.takeOp, State.ordered_of_empty _ hloads hbuffer]
  simp only [hdesc, h, Option.isSome_none, Bool.false_eq_true, if_false]

theorem State.takeOp_oldest {d : Desc} {r : List Desc} (hdesc : (s.engine e).desc = none) (h : (s.engine e).inbox = d :: r)
    (halign : ((s.engine e).reg rs1).toNat % 64 = 0) (hfits : ((s.engine e).reg rs1).toNat + 64 ≤ 0x40000) :
    s.takeOp e rd rs1 imm = s.updEngine e fun n =>
      { n.setG rd 1 with
        desc := some d, svc := none, inbox := r, dmem := memPut n.dmem ((s.engine e).reg rs1).toNat d.bytes }.next := by
  have hgood : (((s.engine e).reg rs1).toNat % 64 != 0 || decide (0x40000 < ((s.engine e).reg rs1).toNat + 64)) = false := by
    simp [halign, hfits]
  rw [State.takeOp, State.ordered_of_empty _ hloads hbuffer]
  simp only [hdesc, h, hgood, Option.isSome_none, Bool.false_eq_true, if_false]

theorem State.postOp_none (h : (s.engine e).desc = none) : s.postOp e rd rs1 = s.traps e 0x30 none := by
  rw [State.postOp, State.ordered_of_empty _ hloads hbuffer]
  simp only [h]
  rfl

theorem State.postOp_some {d : Desc} (h : (s.engine e).desc = some d) : s.postOp e rd rs1 =
    (s.updEngine e fun n => { n with desc := none, svc := none }.next).complete d (((s.engine e).reg rs1).setWidth 16)
      ((s.engine e).reg rd) := by
  rw [State.postOp, State.ordered_of_empty _ hloads hbuffer]
  simp only [h]

end

theorem State.waitOp_empty (hinbox : (s.engine e).inbox = []) (hmsgs : (s.engine e).msgs = []) :
    s.waitOp e = s.updEngine e fun n => { n with wait := .message } := by
  rw [State.waitOp, hinbox, hmsgs]
  rfl

theorem State.waitOp_filled (h : (s.engine e).inbox ≠ [] ∨ (s.engine e).msgs ≠ []) : s.waitOp e = s.updEngine e Engine.next := by
  refine if_neg ?_
  rw [Bool.and_eq_true, List.isEmpty_iff, List.isEmpty_iff]
  exact fun hempty => h.elim (fun hinbox => hinbox hempty.1) (fun hmsgs => hmsgs hempty.2)

end

/-- Settles O17: each service is one of the cases of its operation. -/
theorem pilotServices : Obligations.PilotServices := by
  unfold Obligations.PilotServices
  rintro s e rd rs1 imm n hready hissues rfl
  have op : ∀ {f : State → State} {u : State}, f s = u → s.pilotOp e true f = s.goesOn u :=
    fun hf => State.pilotOp_goesOn hready hissues rfl hf
  rw [exec_msgPop, exec_take, exec_post, exec_wait, exec_halt, execMsgPop, execTake, execPost, execWait, execHalt]
  refine ⟨fun h => op (State.msgPop_empty h), fun m r h hfits => op ?_, fun m r h hlong => op ?_,
    fun hloads hbuffer hdesc => ⟨fun h hpoll => op ?_, fun h hwaits => op ?_, fun d r h halign hfits => op ?_, op ?_⟩,
    fun d hloads hbuffer hdesc => ⟨op (State.postOp_some hloads hbuffer hdesc), op (State.takeOp_busy hloads hbuffer hdesc)⟩,
    fun hinbox hmsgs => op (State.waitOp_empty hinbox hmsgs), fun h => op (State.waitOp_filled h), op rfl⟩
  · rw [State.msgPop_cons h, if_neg (Nat.not_lt.mpr hfits)]
    exact State.updEngine_congr rfl
  · rw [State.msgPop_cons h, if_pos hlong]
    rfl
  · rw [State.takeOp_none hloads hbuffer hdesc h, if_pos hpoll]
  · rw [State.takeOp_none hloads hbuffer hdesc h, hwaits, if_neg Bool.false_ne_true]
  · rw [State.takeOp_oldest hloads hbuffer hdesc h halign hfits]
    exact State.updEngine_congr rfl
  · exact State.postOp_none hloads hbuffer hdesc

/-! ### Illegal words and fields (R399) -/

/-- A word whose opcode names no instruction is illegal. -/
theorem legalWord_of_opcode {w : Word} (h : w.toNat / 2 ^ 26 ∉ [1, 2, 3, 4, 5, 6, 7, 8, 9, 10, 0x10, 0x11, 0x12, 0x13, 0x14, 0x15,
    0x16, 0x17, 0x18, 0x19, 0x20, 0x26, 0x27, 0x28, 0x30, 0x32, 0x33, 0x38, 0x39, 0x3A]) : legalWord w = false := by
  have hopcode : (wbits w 26 6).toNat = w.toNat / 2 ^ 26 := by
    have hw := w.isLt
    rw [wbits, BitVec.extractLsb'_toNat, Nat.shiftRight_eq_div_pow, Nat.mod_eq_of_lt (by omega)]
  rw [← hopcode] at h
  unfold legalWord
  split <;> simp_all

/-- Settles O18: each form fails its own check of the fields. -/
theorem illegalForms : Obligations.IllegalForms := by
  unfold Obligations.IllegalForms
  intro s e rd rs1 rs2 imm size off func f w csr hready hissues
  have load : ∀ {legal : Bool} {kind : LoadKind}, legal = false → s.loadCmd e legal rs1 off kind = s.goesOn (s.traps e 0x10 none) :=
    fun h => State.loadCmd_illegal hready hissues h
  have op : ∀ {legal : Bool} {g : State → State}, legal = false → s.pilotOp e legal g = s.goesOn (s.traps e 0x10 none) :=
    fun h => State.pilotOp_illegal hready hissues h
  have reg : ∀ {legal : Bool} {g : Engine → Engine}, legal = false → s.regOp e legal g = .next (s.traps e 0x10 none).flush :=
    fun h => State.regOp_illegal hready hissues h
  refine ⟨fun h => ?word, fun h => ?size, fun h => ?odd, fun h => ?sweep, fun h => ?func, fun h => ?csr, fun h => ?level,
    fun h => ?jumpr, fun h => ?movi, fun h => ?unary, fun h => ?shift, fun hall hmask => ?mask, fun h => ?dest⟩
  case word =>
    rw [exec_illegalInstruction, execIllegalInstruction]
    exact State.act_goesOn hready (by rw [hissues, legalWord_of_opcode h]; rfl)
  case size =>
    have hillegal : legalSize size = false := decide_eq_false (Nat.not_lt.mpr h)
    rw [exec_ld, exec_ldu, exec_st, execLd, execLdu, execSt]
    exact ⟨load hillegal, load hillegal, op hillegal⟩
  case odd =>
    have hodd : evenReg rd = false := by simp [evenReg, h]
    have hpair : legalPair rd size = false := by rw [legalPair, hodd, Bool.false_and]
    rw [exec_ldp, exec_stp, exec_farCas16, execLdp, execStp, execFarCas16]
    exact ⟨load hpair, op hpair, op (by rw [legalFar16, hodd, Bool.and_false, Bool.false_and])⟩
  case sweep =>
    have hillegal : legalVmem rd size = false := by
      rw [legalVmem, legalSweep, decide_eq_false (Nat.not_lt.mpr h), Bool.false_and]
    rw [exec_vld, exec_vst, execVld, execVst]
    exact ⟨load hillegal, op hillegal⟩
  case func =>
    have hillegal : legalResv func = false := beq_eq_false_iff_ne.mpr h
    rw [exec_ldr, exec_stc, execLdr, execStc]
    exact ⟨op hillegal, op hillegal⟩
  case csr =>
    have hnumbers : csr.toNat ∉ [0x003, 0x011, 0x012] := by
      simp only [List.mem_cons, List.not_mem_nil, or_false] at h ⊢
      bv_omega
    have hillegal : legalCsrWrite rd csr = false := by
      rw [legalCsrWrite, csrWritable, List.contains_eq_mem, decide_eq_false hnumbers, Bool.false_and]
    rw [exec_cwr, exec_cset, exec_cclr, execCwr, execCset, execCclr]
    exact ⟨op hillegal, op hillegal, op hillegal⟩
  case level =>
    rw [exec_pilotPfence, execPilotPfence]
    exact op (by rw [legalPfence, h]; rfl)
  case jumpr =>
    rw [exec_jumpr, execJumpr]
    refine State.within_traps hready ?_
    rw [hissues, legalJumpr, beq_eq_false_iff_ne.mpr h]
    rfl
  case movi =>
    rw [exec_movi, execMovi]
    exact reg (beq_eq_false_iff_ne.mpr h)
  case unary =>
    have hillegal : legalUnary rs2 = false := beq_eq_false_iff_ne.mpr h
    rw [exec_clz, exec_bswap, execClz, execBswap]
    exact ⟨reg hillegal, reg hillegal⟩
  case shift =>
    rw [exec_shiSll, execShiSll]
    exact reg (beq_eq_false_iff_ne.mpr (by omega))
  case mask =>
    have hillegal : legalV f = false := by rw [legalV, hall, beq_eq_false_iff_ne.mpr hmask]; rfl
    rw [exec_vadd, exec_vsel, exec_vcmpeq, execVadd, execVsel, execVcmpeq]
    exact ⟨reg hillegal, reg hillegal, reg (by rw [legalVcmp, hillegal, Bool.false_and])⟩
  case dest =>
    rw [exec_vcmplt, execVcmplt]
    exact reg (by rw [legalVcmp, decide_eq_false (Nat.not_lt.mpr h), Bool.and_false])

end Sys2Proof.Machine
end

section
/-! PROOFS. The Sweep instructions (O5–O9): the elements of a register that is packed, the bits of a mask that is summed up, the
folds of a reduction, and each instruction as one register operation over them. -/

namespace Sys2Proof.Machine

/-! ### Elements of a Sweep register (R394, R398) -/

theorem elemBits_mul_elemCount (e : BitVec 2) : elemBits e * elemCount e = 512 := by decide +revert

theorem elemCount_le (e : BitVec 2) : elemCount e ≤ 64 := by decide +revert

theorem elemAt_lt (l : Line) (w i : Nat) : elemAt l w i < 2 ^ w := Nat.mod_lt _ (Nat.two_pow_pos w)

theorem elemAt_mod (l : Line) (w i : Nat) : elemAt l w i % 2 ^ w = elemAt l w i := Nat.mod_eq_of_lt (elemAt_lt l w i)

/-- Elements of w bits placed one above the other. -/
def packNat (w : Nat) (xs : List Nat) : Nat := xs.foldr (fun x n => x % 2 ^ w + n * 2 ^ w) 0

theorem packNat_cons (w x : Nat) (xs : List Nat) : packNat w (x :: xs) = x % 2 ^ w + packNat w xs * 2 ^ w := rfl

theorem packNat_lt (w : Nat) (xs : List Nat) : packNat w xs < 2 ^ (w * xs.length) := by
  induction xs with
  | nil => simp [packNat]
  | cons x r ih =>
    have hx : x % 2 ^ w < 2 ^ w := Nat.mod_lt _ (Nat.two_pow_pos w)
    rw [packNat_cons, List.length_cons, Nat.mul_succ, Nat.pow_add]
    calc x % 2 ^ w + packNat w r * 2 ^ w < 2 ^ w + packNat w r * 2 ^ w := Nat.add_lt_add_right hx _
      _ = (packNat w r + 1) * 2 ^ w := by rw [Nat.add_mul, Nat.one_mul, Nat.add_comm]
      _ ≤ 2 ^ (w * r.length) * 2 ^ w := Nat.mul_le_mul_right _ ih

theorem packNat_elem (w : Nat) (xs : List Nat) (i : Nat) : packNat w xs >>> (w * i) % 2 ^ w = (xs[i]?).getD 0 % 2 ^ w := by
  induction xs generalizing i with
  | nil => simp [packNat]
  | cons x r ih =>
    cases i with
    | zero => simp [packNat_cons]
    | succ i =>
      have hdiv : (x % 2 ^ w + packNat w r * 2 ^ w) / 2 ^ w = packNat w r := by
        rw [Nat.add_mul_div_right _ _ (Nat.two_pow_pos w), Nat.div_eq_of_lt (Nat.mod_lt _ (Nat.two_pow_pos w)), Nat.zero_add]
      rw [packNat_cons, Nat.mul_succ, Nat.add_comm (w * i), Nat.shiftRight_add, Nat.shiftRight_eq_div_pow _ w, hdiv, ih,
        List.getElem?_cons_succ]

/-- An element of a packed register is the one given, modulo its width. -/
theorem elemAt_packElems {w : Nat} {xs : List Nat} (h : w * xs.length ≤ 512) (i : Nat) :
    elemAt (packElems w xs) w i = (xs[i]?).getD 0 % 2 ^ w := by
  have hfits : packNat w xs < 2 ^ 512 := (packNat_lt w xs).trans_le (Nat.pow_le_pow_right (by decide) h)
  have hpacked : (packElems w xs).toNat = packNat w xs := by
    rw [packElems, BitVec.toNat_ofNat]
    exact Nat.mod_eq_of_lt hfits
  rw [elemAt, hpacked, packNat_elem]

/-- A register of all its elements. -/
theorem elemAt_packElems_range (e : BitVec 2) (f : Nat → Nat) {i : Nat} (hi : i < elemCount e) :
    elemAt (packElems (elemBits e) ((List.range (elemCount e)).map f)) (elemBits e) i = f i % 2 ^ elemBits e := by
  rw [elemAt_packElems (by simp [elemBits_mul_elemCount]), List.getElem?_map, List.getElem?_range hi]
  rfl

/-- Elements of a register, and 0 past their end, fit their width. -/
theorem getD_elems_mod (l : Line) (w : Nat) (is : List Nat) (i : Nat) :
    ((is.map (elemAt l w))[i]?).getD 0 % 2 ^ w = ((is.map (elemAt l w))[i]?).getD 0 := by
  rw [List.getElem?_map]
  cases is[i]? with
  | none => exact Nat.zero_mod _
  | some j => exact elemAt_mod ..

/-! ### Register operations on elements (R402) -/

theorem legalV_of {f : VFields} (h : f.all = 1 → f.mask = 0) : legalV f = true := by
  obtain hall | hall : f.all = 0 ∨ f.all = 1 := by have := f.all.isLt; bv_omega
  · rw [legalV, hall]
    rfl
  · rw [legalV, h hall]
    exact Bool.or_true _

section
variable {s : State} {e : EngineNo} {f : VFields} (hpilot : s.pilotReady e = true)
include hpilot

/-- A legal operation that writes the Sweep register `l`. -/
theorem State.regOp_writesVec {legal : Bool} {vd : BitVec 4} {w count : Nat} {l : Line} {g : Engine → Line} {elem : Nat → Nat}
    (hlegal : legal = true) (hl : g (s.engine e) = l) (helem : ∀ i, i < count → elemAt l w i = elem i) :
    s.writesVec e vd w count elem (s.regOp e legal fun n => n.setV vd (g n)) :=
  ⟨l, State.regOp_legal hpilot hlegal (by rw [hl]), helem⟩

variable (hmask : f.all = 1 → f.mask = 0)
include hmask

/-- An elementwise operation with the result `r` of each element. -/
theorem State.lanes_become {op : Nat → Nat → Nat → Nat} {r : Nat → Nat}
    (hr : ∀ i, op (elemBits f.elem) (elemAt ((s.engine e).vec f.va) (elemBits f.elem) i)
      (elemAt ((s.engine e).vec f.vb) (elemBits f.elem) i) = r i) :
    s.lanesBecome e f.vd (elemBits f.elem) (elemCount f.elem)
      (fun i => f.all == 1 || ((s.engine e).mask f.mask).getLsbD i) r (s.lanes e f op) := by
  refine State.regOp_writesVec (g := fun n => packElems (elemBits f.elem) ((List.range (elemCount f.elem)).map fun i =>
    if n.selects f i then op (elemBits f.elem) (elemAt (n.vec f.va) (elemBits f.elem) i) (elemAt (n.vec f.vb) (elemBits f.elem) i)
    else elemAt (n.vec f.vd) (elemBits f.elem) i)) hpilot (legalV_of hmask) rfl fun i hi => ?_
  rw [elemAt_packElems_range _ _ hi, Engine.selects, hr]
  split
  · rfl
  · exact elemAt_mod ..

end

/-- Settles O5: each elementwise operation packs its results. -/
theorem sweepElementwise : Obligations.SweepElementwise := by
  unfold Obligations.SweepElementwise
  rintro s e f w k x y sel hpilot hmask rfl rfl rfl rfl rfl
  have lanes := @State.lanes_become s e f hpilot hmask
  simp only [exec_vadd, execVadd, exec_vsub, execVsub, exec_vmul, execVmul, exec_vmin, execVmin, exec_vmax, execVmax, exec_vminu,
    execVminu, exec_vmaxu, execVmaxu, exec_vand, execVand, exec_vor, execVor, exec_vxor, execVxor, exec_vandn, execVandn,
    exec_vsll, execVsll, exec_vsrl, execVsrl, exec_vsra, execVsra]
  exact ⟨lanes fun _ => rfl, lanes fun _ => rfl, lanes fun _ => rfl, lanes fun _ => rfl, lanes fun _ => rfl, lanes fun _ => rfl,
    lanes fun _ => rfl, lanes fun _ => rfl, lanes fun _ => rfl, lanes fun _ => rfl, lanes fun _ => rfl, lanes fun _ => rfl,
    lanes fun _ => rfl, lanes fun _ => rfl⟩

/-- Settles O6: VSEL packs one element of either register for each, VCOMPRESS the selected ones. -/
theorem sweepSelection : Obligations.SweepSelection := by
  unfold Obligations.SweepSelection
  rintro s e f w k x y sel hpilot hmask rfl rfl rfl rfl rfl
  rw [exec_vsel, exec_vcompress, execVsel, execVcompress]
  refine ⟨State.regOp_writesVec (g := fun n => packElems (elemBits f.elem) ((List.range (elemCount f.elem)).map fun i =>
      if n.selects f i then elemAt (n.vec f.va) (elemBits f.elem) i else elemAt (n.vec f.vb) (elemBits f.elem) i))
      hpilot (legalV_of hmask) rfl fun i hi => ?_,
    State.regOp_writesVec (g := fun n => packElems (elemBits f.elem) (((List.range (elemCount f.elem)).filter fun i =>
      n.selects f i).map fun i => elemAt (n.vec f.va) (elemBits f.elem) i)) hpilot (legalV_of hmask) rfl fun i hi => ?_⟩
  · refine (elemAt_packElems_range _ _ hi).trans ?_
    rw [Engine.selects]
    split <;> exact elemAt_mod ..
  · have hcount : (((List.range (elemCount f.elem)).filter fun i => (s.engine e).selects f i).map fun i =>
        elemAt ((s.engine e).vec f.va) (elemBits f.elem) i).length ≤ elemCount f.elem := by
      rw [List.length_map]
      exact (List.length_filter_le _ _).trans_eq List.length_range
    refine (elemAt_packElems ((Nat.mul_le_mul_left _ hcount).trans_eq (elemBits_mul_elemCount _)) i).trans ?_
    exact getD_elems_mod ..

/-! ### Compares (R402) -/

/-- The sum of the powers of two a predicate selects has its bits. -/
theorem testBit_sum_pow (p : Nat → Bool) (k i : Nat) :
    ((List.range k).map fun j => if p j then 2 ^ j else 0).sum < 2 ^ k
      ∧ (((List.range k).map fun j => if p j then 2 ^ j else 0).sum).testBit i = (decide (i < k) && p i) := by
  induction k with
  | zero => simp
  | succ k ih =>
    obtain ⟨hlt, hbit⟩ := ih
    have hsum : ((List.range (k + 1)).map fun j => if p j then 2 ^ j else 0).sum =
        2 ^ k * (p k).toNat + ((List.range k).map fun j => if p j then 2 ^ j else 0).sum := by
      rw [List.range_succ, List.map_append, List.sum_append, Nat.add_comm]
      cases hp : p k <;> simp [hp]
    have hone : (p k).toNat < 2 := (p k).toNat_lt
    refine ⟨?_, ?_⟩
    · rw [hsum, Nat.pow_succ]
      have := Nat.mul_le_mul_left (2 ^ k) (Nat.le_of_lt_succ hone)
      omega
    · rw [hsum, Nat.testBit_two_pow_mul_add _ hlt, hbit]
      by_cases hi : i < k
      · simp [hi, Nat.lt_succ_of_lt hi]
      · rw [if_neg hi]
        obtain rfl | hgt : i = k ∨ k < i := by omega
        · rw [Nat.sub_self, Nat.testBit_zero, decide_eq_true (Nat.lt_succ_self i)]
          cases p i <;> rfl
        · rw [decide_eq_false (by omega), Bool.false_and]
          exact Nat.testBit_lt_two_pow (hone.trans_le (Nat.le_self_pow (by omega) 2))

theorem getLsbD_sum_pow (p : Nat → Bool) {k : Nat} (hk : k ≤ 64) (i : Nat) :
    (BitVec.ofNat 64 (((List.range k).map fun j => if p j then 2 ^ j else 0).foldl (· + ·) 0)).getLsbD i =
      (decide (i < k) && p i) := by
  rw [← List.sum_eq_foldl, BitVec.getLsbD_ofNat, (testBit_sum_pow p k i).2, ← Bool.and_assoc, ← Bool.decide_and]
  congr 1
  exact decide_eq_decide.mpr ⟨And.right, fun h => ⟨by omega, h⟩⟩

/-- Settles O7: each compare sums up the bits of the selected elements for which it holds. -/
theorem sweepCompares : Obligations.SweepCompares := by
  unfold Obligations.SweepCompares
  rintro s e f w k x y sel hpilot hmask hdest rfl rfl rfl rfl rfl
  have hlegal : legalVcmp f = true := by rw [legalVcmp, legalV_of hmask, decide_eq_true hdest]; rfl
  have compare : ∀ {p : Nat → Nat → Nat → Bool} {q : Nat → Bool},
      (∀ i, p (elemBits f.elem) (elemAt ((s.engine e).vec f.va) (elemBits f.elem) i)
        (elemAt ((s.engine e).vec f.vb) (elemBits f.elem) i) = q i) →
      s.writesMask e (f.vd.setWidth 3) (elemCount f.elem)
        (fun i => (f.all == 1 || ((s.engine e).mask f.mask).getLsbD i) && q i) (s.cmpLanes e f p) := by
    intro p q hq
    refine ⟨_, State.regOp_legal hpilot hlegal rfl, fun i => ?_⟩
    refine (getLsbD_sum_pow (fun j => (s.engine e).selects f j && p (elemBits f.elem)
      (elemAt ((s.engine e).vec f.va) (elemBits f.elem) j) (elemAt ((s.engine e).vec f.vb) (elemBits f.elem) j))
      (elemCount_le f.elem) i).trans ?_
    rw [hq, Engine.selects]
  simp only [exec_vcmpeq, execVcmpeq, exec_vcmpne, execVcmpne, exec_vcmplt, execVcmplt, exec_vcmpltu, execVcmpltu, exec_vcmple,
    execVcmple, exec_vcmpleu, execVcmpleu]
  exact ⟨compare fun _ => rfl, compare fun _ => decide_not.symm, compare fun _ => rfl, compare fun _ => rfl,
    compare fun _ => rfl, compare fun _ => rfl⟩

/-! ### Reductions (R402) -/

theorem foldElems_sum (xs : List Nat) : foldElems (fun a b => a + b) xs = xs.sum := by
  cases xs with
  | nil => rfl
  | cons x r => rw [foldElems, List.sum_eq_foldl, List.foldl_cons, Nat.zero_add]

/-- A fold that picks one of two by a key ends with an element whose key is least. -/
theorem foldElems_least {f : Nat → Nat → Nat} (key : Nat → Int) (hpick : ∀ a b, f a b = a ∨ f a b = b)
    (hleft : ∀ a b, key (f a b) ≤ key a) (hright : ∀ a b, key (f a b) ≤ key b) (x : Nat) (r : List Nat) :
    foldElems f (x :: r) ∈ x :: r ∧ ∀ j ∈ x :: r, key (foldElems f (x :: r)) ≤ key j := by
  show r.foldl f x ∈ x :: r ∧ ∀ j ∈ x :: r, key (r.foldl f x) ≤ key j
  induction r generalizing x with
  | nil => simp
  | cons y r ih =>
    obtain ⟨hmem, hleast⟩ := ih (f x y)
    rw [List.foldl_cons]
    refine ⟨?_, fun j hj => ?_⟩
    · rcases List.mem_cons.mp hmem with h | h
      · rw [h]
        rcases hpick x y with hp | hp <;> simp [hp]
      · exact List.mem_cons_of_mem _ (List.mem_cons_of_mem _ h)
    · have hfirst := hleast _ List.mem_cons_self
      rcases List.mem_cons.mp hj with rfl | hj
      · exact hfirst.trans (hleft _ _)
      · rcases List.mem_cons.mp hj with rfl | hj
        · exact hfirst.trans (hright _ _)
        · exact hleast _ (List.mem_cons_of_mem _ hj)

/-- An element that is sign-extended is its signed value. -/
theorem signExtend_elem {w m : Nat} (h : m < 2 ^ w) : (BitVec.ofNat w m).signExtend 64 = BitVec.ofInt 64 (elemInt w m) := by
  have hint : (BitVec.ofNat w m).toInt = elemInt w m := by
    rw [BitVec.toInt_eq_toNat_cond, BitVec.toNat_ofNat, Nat.mod_eq_of_lt h, elemInt]
    push_cast
    rfl
  rw [BitVec.signExtend, hint]

theorem elemInt_zero (w : Nat) : elemInt w 0 = 0 := if_pos (Nat.two_pow_pos w)

theorem legalVred_of {rs1 rs2 : BitVec 5} {func : BitVec 11} (hrs1 : rs1.toNat < 16) (h10 : func.getLsbD 10 = false)
    (hzero : func.extractLsb' 4 4 = 0) (hall : func.getLsbD 3 = true → rs2 = 0) (hrs2 : rs2.toNat < 8) :
    legalVred rs1 rs2 func = true := by
  rw [legalVred, legalSweep, decide_eq_true hrs1, h10, hzero]
  cases h3 : func.getLsbD 3 with
  | true => simp [hall h3]
  | false => simp [legalMask, hrs2]

theorem pickInt_picks (w : Nat) (least : Bool) (a b : Nat) : pickInt w least a b = a ∨ pickInt w least a b = b := by
  unfold pickInt
  split <;> split <;> simp

theorem pickInt_least (w a b : Nat) :
    elemInt w (pickInt w true a b) ≤ elemInt w a ∧ elemInt w (pickInt w true a b) ≤ elemInt w b := by
  rw [pickInt, if_pos rfl]
  split <;> omega

theorem pickInt_greatest (w a b : Nat) :
    -elemInt w (pickInt w false a b) ≤ -elemInt w a ∧ -elemInt w (pickInt w false a b) ≤ -elemInt w b := by
  rw [pickInt, if_neg Bool.false_ne_true]
  split <;> omega

/-- Settles O8: each reduction folds the selected elements. That SUM adds them zero-extended is the model's choice (log
entry 23). -/
theorem sweepReductions : Obligations.SweepReductions := by
  unfold Obligations.SweepReductions
  rintro s e rd rs1 rs2 func w k xs hpilot hrs1 h10 hzero hall hrs2 rfl rfl hxs
  have hlegal := legalVred_of hrs1 h10 hzero hall hrs2
  have hchosen : (s.engine e).chosen rs1 rs2 func = xs := hxs.symm
  have hsmall : ∀ j ∈ xs, j < 2 ^ (8 * 2 ^ (func.extractLsb' 8 2).toNat) := by
    intro j hj
    rw [hxs, List.mem_map] at hj
    obtain ⟨i, -, rfl⟩ := hj
    exact elemAt_lt ..
  have unsigned : ∀ {f : Nat → Nat → Nat → Nat} {v : Nat}, foldElems (f (8 * 2 ^ (func.extractLsb' 8 2).toNat)) xs = v →
      s.reduction e rd rs1 rs2 func false f = s.writesReg e rd (BitVec.ofNat 64 v) := by
    rintro f v rfl
    exact State.regOp_legal hpilot hlegal (by rw [Engine.reduce, hchosen]; rfl)
  have signed : ∀ {f : Nat → Nat → Nat → Nat} {m : Nat}, foldElems (f (8 * 2 ^ (func.extractLsb' 8 2).toNat)) xs = m →
      m < 2 ^ (8 * 2 ^ (func.extractLsb' 8 2).toNat) → s.reduction e rd rs1 rs2 func true f =
        s.writesReg e rd (BitVec.ofInt 64 (elemInt (8 * 2 ^ (func.extractLsb' 8 2).toNat) m)) := by
    intro f m hm hlt
    rw [← signExtend_elem hlt, ← hm]
    exact State.regOp_legal hpilot hlegal (by rw [Engine.reduce, hchosen]; rfl)
  simp only [exec_vredSum, execVredSum, exec_vredMin, execVredMin, exec_vredMax, execVredMax, exec_vredMinu, execVredMinu,
    exec_vredMaxu, execVredMaxu, exec_vredAnd, execVredAnd, exec_vredOr, execVredOr, exec_vredXor, execVredXor]
  refine ⟨unsigned (foldElems_sum xs), fun hempty => ?empty, fun x r hcons => ⟨?min, ?max, ?minu, ?maxu, ?bitwise⟩⟩
  case empty =>
    have hnone : ∀ g, foldElems g xs = 0 := fun g => by rw [hempty, foldElems]
    have none : ∀ f, s.reduction e rd rs1 rs2 func true f = s.writesReg e rd 0 := fun f =>
      (signed (hnone _) (Nat.two_pow_pos _)).trans (by rw [elemInt_zero]; rfl)
    exact ⟨none _, none _, unsigned (hnone _), unsigned (hnone _),
      unsigned (hnone _), unsigned (hnone _), unsigned (hnone _)⟩
  case min =>
    obtain ⟨hmem, hleast⟩ := foldElems_least (elemInt _) (pickInt_picks (8 * 2 ^ (func.extractLsb' 8 2).toNat) true)
      (fun a b => (pickInt_least _ a b).1) (fun a b => (pickInt_least _ a b).2) x r
    rw [← hcons] at hmem hleast
    exact ⟨_, hmem, hleast, signed rfl (hsmall _ hmem)⟩
  case max =>
    obtain ⟨hmem, hleast⟩ := foldElems_least (-elemInt _ ·) (pickInt_picks (8 * 2 ^ (func.extractLsb' 8 2).toNat) false)
      (fun a b => (pickInt_greatest _ a b).1) (fun a b => (pickInt_greatest _ a b).2) x r
    rw [← hcons] at hmem hleast
    exact ⟨_, hmem, fun j hj => Int.neg_le_neg_iff.mp (hleast j hj), signed rfl (hsmall _ hmem)⟩
  case minu =>
    obtain ⟨hmem, hleast⟩ := foldElems_least (fun v => (v : Int)) (f := Nat.min) min_choice
      (fun a b => Int.ofNat_le.mpr (Nat.min_le_left a b)) (fun a b => Int.ofNat_le.mpr (Nat.min_le_right a b)) x r
    rw [← hcons] at hmem hleast
    exact ⟨_, hmem, fun j hj => Int.ofNat_le.mp (hleast j hj), unsigned rfl⟩
  case maxu =>
    obtain ⟨hmem, hleast⟩ := foldElems_least (fun v => -(v : Int)) (f := Nat.max) max_choice
      (fun a b => Int.neg_le_neg (Int.ofNat_le.mpr (Nat.le_max_left a b)))
      (fun a b => Int.neg_le_neg (Int.ofNat_le.mpr (Nat.le_max_right a b))) x r
    rw [← hcons] at hmem hleast
    exact ⟨_, hmem, fun j hj => Int.ofNat_le.mp (Int.neg_le_neg_iff.mp (hleast j hj)), unsigned rfl⟩
  case bitwise =>
    subst hcons
    exact ⟨unsigned rfl, unsigned rfl, unsigned rfl⟩

/-! ### Moves (R402) -/

/-- Settles O9: each move reads one register file and writes another. That MPOPC counts all 64 bits of the mask (log entry 12), and
the element VEXT takes from rs2 and the bits of FUNC that name nothing (log entry 23), are the model's choices. -/
theorem sweepMoves : Obligations.SweepMoves := by
  unfold Obligations.SweepMoves
  rintro s e rd rs1 rs2 func w k a hpilot h10 hzero rfl rfl rfl
  have hfunc : legalVmovFunc func = true := by rw [legalVmovFunc, h10, hzero]; rfl
  have sweep : ∀ {r : BitVec 5}, r.toNat < 16 → (legalVmovFunc func && legalSweep r) = true := fun h => by
    rw [hfunc, legalSweep, decide_eq_true h]; rfl
  have mask : ∀ {r : BitVec 5}, r.toNat < 8 → legalVmask r func = true := fun h => by
    rw [legalVmask, hfunc, legalMask, decide_eq_true h]; rfl
  rw [exec_vbcast, exec_vext, exec_mtog, exec_gtom, exec_mpopc, execVbcast, execVext, execMtog, execGtom, execMpopc]
  refine ⟨fun h => ?vbcast, fun h => State.regOp_legal hpilot (sweep h) rfl, fun h => State.regOp_legal hpilot (mask h) rfl,
    fun h => State.regOp_legal hpilot (mask h) rfl, fun h => State.regOp_legal hpilot (mask h) ?mpopc⟩
  case vbcast =>
    refine State.regOp_writesVec (g := fun n => packElems (elemBits (funcElem func))
      (List.replicate (elemCount (funcElem func)) (n.reg rs1).toNat)) hpilot (sweep h) rfl fun i hi => ?_
    refine (elemAt_packElems (by rw [List.length_replicate, elemBits_mul_elemCount]) i).trans ?_
    rw [List.getElem?_replicate, if_pos (show i < elemCount (funcElem func) from hi)]
    rfl
  case mpopc => rw [popc64, List.countP_eq_length_filter]

end Sys2Proof.Machine
end

section
/-! PROOFS. The control of an engine (O43): the effect of a write to its two registers, an equation for each command in each
state, the image stream by its length, and the end of a stop. -/

namespace Sys2Proof.Machine

/-! ### The registers of an engine's page (R388) -/

section
variable {s u : State} {p : Path} {e : EngineNo} {w : Word}

theorem peaPage_page {off : Nat} (hoff : off < 0x2000) :
    (peaPage e + off) / 0x10000 = e.val / 8 + 48 ∧ inPea (peaPage e + off) = true ∧ (peaPage e + off) % 0x2000 = off
      ∧ peaOf (peaPage e + off) = e := by
  have he := e.isLt
  have hpage : peaPage e = 0x300000 + e.val * 0x2000 := rfl
  refine ⟨by omega, ?_, by omega, Fin.ext ?_⟩
  · rw [inPea, decide_eq_true (by omega), decide_eq_true (by omega)]
    rfl
  · show (peaPage e + off - 0x300000) / 0x2000 % 32 = e.val
    omega

theorem State.effect_peaCtl : s.effect (peaPage e) w = s.peaCtl e w := by
  obtain ⟨hpage, hpea, hword, he⟩ := peaPage_page (e := e) (off := 0) (by decide)
  rw [Nat.add_zero] at hpage hpea hword he
  simp only [State.effect, hpage, hpea, hword, he]
  rfl

theorem State.effect_peaImg : s.effect (peaPage e + 0x100) w = s.peaImg e w := by
  obtain ⟨hpage, hpea, hword, he⟩ := peaPage_page (e := e) (off := 0x100) (by decide)
  simp only [State.effect, hpage, hpea, hword, he]
  rfl

theorem regSpec_peaCtl : ∀ e : EngineNo, (regSpec (peaPage e)).map (fun r => r.rw ||| r.lk ||| r.wo1 ||| r.w1p ||| r.wo) = some 0xF := by
  decide

theorem regSpec_peaImg : ∀ e : EngineNo,
    (regSpec (peaPage e + 0x100)).map (fun r => r.rw ||| r.lk ||| r.wo1 ||| r.w1p ||| r.wo) = some 0xFFFFFFFF := by
  decide

/-- A write of the stream carries the word as it is given. -/
theorem State.newWord_peaImg (v : Word) : s.newWord (peaPage e + 0x100) v = v := by
  rw [State.newWord_of (regSpec_peaImg e), show (0xFFFFFFFF : Word) = BitVec.allOnes 32 from rfl, BitVec.and_allOnes,
    BitVec.not_allOnes, BitVec.and_zero, BitVec.zero_or]

/-- A write of PEA_CTL acts by its low four bits. -/
theorem State.act_peaCtl {v : Word} {c : Code} (hpass : s.passes p (peaPage e) v = true)
    (h : ∀ w : Word, field w 0 4 = field v 0 4 → s.peaCtl e w = (c, u)) :
    (s.act fun t => t.writeReg p (peaPage e) v) = s.answers p c u := by
  refine State.act_writeReg_code hpass (State.effect_peaCtl.trans (h _ ?_))
  exact State.field_newWord (regSpec_peaCtl e) (by decide)

end

/-! ### START, STOP, LOAD and RESET (R366, R368, R371) -/

section
variable {s : State} {e : EngineNo} {w : Word}

theorem State.peaCtl_start (h : field w 0 4 = 1) : s.peaCtl e w = s.peaStart e := by simp only [State.peaCtl, h]

theorem State.peaCtl_stop (h : field w 0 4 = 2) : s.peaCtl e w = (.ok, s.peaStop e) := by simp only [State.peaCtl, h]

theorem State.peaCtl_load (h : field w 0 4 = 4) : s.peaCtl e w = s.peaLoad e := by simp only [State.peaCtl, h]

theorem State.peaCtl_reset (h : field w 0 4 = 8) : s.peaCtl e w = (.ok, s.peaReset e) := by simp only [State.peaCtl, h]

section
variable (hserves : s.cfg.mode.serves = true)
include hserves

theorem State.peaStart_begins (h : (s.engine e).state = .loaded ∨ (s.engine e).state = .halted) :
    s.peaStart e = (.ok, s.updEngine e Engine.begin_) := by
  rw [State.peaStart, hserves]
  obtain h | h := h <;> simp [h]

theorem State.peaStart_continues (h : (s.engine e).state = .stopped) :
    s.peaStart e = (.ok, s.updEngine e fun n => { n with state := .running }) := by
  simp [State.peaStart, hserves, h]

theorem State.peaStart_refused (hloaded : (s.engine e).state ≠ .loaded) (hhalted : (s.engine e).state ≠ .halted)
    (hstopped : (s.engine e).state ≠ .stopped) : s.peaStart e = (.ok, s.ctlRej e) := by
  rw [State.peaStart, hserves, if_neg (by decide)]
  cases h : (s.engine e).state <;> simp_all

end

theorem State.peaLoad_loads (hmode : s.cfg.mode ≠ .save)
    (h : (s.engine e).state ∈ [EState.empty, .loaded, .stopped, .halted, .rejected]) :
    s.peaLoad e = (.ok, (s.abandonEngine e).updEngine e fun n => n.cleared .loading) := by
  rw [State.peaLoad, if_neg hmode]
  cases hs : (s.engine e).state <;> simp_all

theorem State.peaLoad_refused (hmode : s.cfg.mode ≠ .save)
    (h : (s.engine e).state ∉ [EState.empty, .loaded, .stopped, .halted, .rejected]) :
    s.peaLoad e = (.ok, s.ctlRej e) := by
  rw [State.peaLoad, if_neg hmode]
  cases hs : (s.engine e).state <;> simp_all

/-! ### The image stream (R366, R367) -/

section
variable {v : Word} {img : List Byte} (hmode : s.cfg.mode ≠ .save)
include hmode

theorem State.peaImg_refused (h : (s.engine e).state ≠ .loading) : s.peaImg e v = (.errAccess, s.logImage 0x3002 e) := by
  rw [State.peaImg, if_neg hmode]
  exact if_pos (bne_iff_ne.mpr h)

section
variable (hstate : (s.engine e).state = .loading) (himg : img = (s.engine e).image ++ natBytes 4 v.toNat)
include hstate himg

theorem State.peaImg_head (h : img.length < 16) : s.peaImg e v = (.ok, s.setEngine e { s.engine e with image := img }) := by
  subst himg
  simp only [State.peaImg, hmode, hstate, h]
  rfl

theorem State.peaImg_header (h : img.length = 16) : s.peaImg e v = if badHead img then
      (.ok, ((s.setEngine e { s.engine e with state := .rejected, image := [] }).logImage 0x3002 e).imageRej e)
    else (.ok, s.setEngine e { s.engine e with image := img, entry := BitVec.ofNat 16 (imageHead img).2.2 }) := by
  subst himg
  simp only [State.peaImg, hmode, hstate, h]
  rfl

theorem State.peaImg_body (h : 16 < img.length) : s.peaImg e v =
    (.ok, if img.length = 16 + (imageHead img).1 + (imageHead img).2.1 then
        (s.setEngine e ({ s.engine e with image := img }.place (natBytes 4 v.toNat) ((s.engine e).image.length - 16)
          (imageHead img).1)).checkImage e img
      else s.setEngine e ({ s.engine e with image := img }.place (natBytes 4 v.toNat) ((s.engine e).image.length - 16)
        (imageHead img).1)) := by
  subst himg
  have hlong : ¬((s.engine e).image ++ natBytes 4 v.toNat).length < 16 := by omega
  have hmore : ¬((s.engine e).image ++ natBytes 4 v.toNat).length = 16 := by omega
  simp only [State.peaImg, hmode, hstate, hlong, hmore]
  rfl

end
end

/-- A header with a field out of range (R366). -/
theorem badHead_of_field {b : List Byte} {ilen dlen entry : Nat} (hhead : (ilen, dlen, entry) = imageHead b)
    (h : ilen % 4 ≠ 0 ∨ ilen = 0 ∨ 65536 < ilen ∨ dlen % 4 ≠ 0 ∨ 262144 < dlen ∨ entry % 4 ≠ 0 ∨ ilen ≤ entry) :
    badHead b = true := by
  rw [badHead, ← hhead]
  simp only [Bool.or_eq_true, bne_iff_ne, beq_iff_eq, decide_eq_true_eq]
  tauto

/-- A complete stream whose digest is not checked, or is as expected, is loaded. -/
theorem State.checkImage_loaded {b : List Byte} {dg : List Word} (hdg : dg = digestWords b)
    (h : bit (s.reg (peaPage e + 0x40)) 0 = true ∧ dg = s.digestWanted e
      ∨ bit (s.reg (peaPage e + 0x40)) 0 = false ∧ s.locked = false) :
    s.checkImage e b = (s.updEngine e fun n => { n with digest := dg }).updEngine e
      fun n => { n with state := .loaded, image := [] } := by
  unfold State.checkImage
  rw [← hdg]
  obtain ⟨hflag, hwanted⟩ | ⟨hflag, hlocked⟩ := h
  · simp only [State.flag, hflag, if_true]
    rw [if_pos hwanted]
  · simp only [State.flag, hflag, hlocked, Bool.false_eq_true, if_false]

section
variable (hstate : (s.engine e).state = .stopping) (hloads : (s.engine e).loads = [])
  (hbuffer : ∀ b ∈ (s.engine e).buffer, b.issued = true)
include hstate hloads hbuffer

theorem State.stopDone_exc {c : BitVec 8} (h : (s.engine e).pendExc = some c) : s.stopDone e =
    (s.updEngine e fun n => { n with state := .halted, pendExc := none }).event (peaPage e + 0x200) 1 := by
  have hissued : ((s.engine e).buffer.all fun b => b.issued) = true := List.all_eq_true.mpr hbuffer
  simp only [State.stopDone, hstate, hloads, hissued, h]
  rfl

theorem State.stopDone_stopped (h : (s.engine e).pendExc = none) : s.stopDone e =
    (s.updEngine e fun n => { n with state := .stopped }).event (peaPage e + 0x200) 3 := by
  have hissued : ((s.engine e).buffer.all fun b => b.issued) = true := List.all_eq_true.mpr hbuffer
  simp only [State.stopDone, hstate, hloads, hissued, h]
  rfl

end
end

/-- Settles O43: PEA_CTL acts by its one bit, PEA_IMG by the length of the stream. That START judges ERR_MODE before the engine's
state, and LOAD in Save too, is the model's choice (log entry 31). -/
theorem engineControl : Obligations.EngineControl := by
  unfold Obligations.EngineControl
  intro s p e
  refine ⟨fun hpass => ?start, fun hpass => ?stop, fun hpass => ?load, fun hpass => ?reset,
    fun v n img ilen dlen entry t hpass hmode hn himg hhead => ?image, fun img dg t hdg ht => ?check,
    fun hready hstate hloads hbuffer => ⟨fun c h => ?halted, fun h => ?stopped⟩⟩
  case start =>
    rw [exec_peaStart, execPeaStart]
    have starts : ∀ {c u}, s.peaStart e = (c, u) → (s.act fun t => t.writeReg p (peaPage e) 1) = s.answers p c u :=
      fun h => State.act_peaCtl hpass fun w hw => (State.peaCtl_start hw).trans h
    refine ⟨fun hserves => starts ?_, fun hserves h => starts (State.peaStart_begins hserves h),
      fun hserves h => starts (State.peaStart_continues hserves h),
      fun hserves hloaded hhalted hstopped => starts (State.peaStart_refused hserves hloaded hhalted hstopped)⟩
    rw [State.peaStart, hserves]
    rfl
  case stop =>
    rw [exec_peaStop, execPeaStop, State.act_peaCtl hpass fun w hw => State.peaCtl_stop hw]
    exact ⟨fun h => by rw [State.peaStop, if_pos h], fun h => by rw [State.peaStop, if_neg h]; rfl⟩
  case load =>
    rw [exec_peaLoad, execPeaLoad]
    have loads : ∀ {c u}, s.peaLoad e = (c, u) → (s.act fun t => t.writeReg p (peaPage e) 4) = s.answers p c u :=
      fun h => State.act_peaCtl hpass fun w hw => (State.peaCtl_load hw).trans h
    exact ⟨fun hmode => loads (if_pos hmode), fun hmode h => loads (State.peaLoad_loads hmode h),
      fun hmode h => loads (State.peaLoad_refused hmode h)⟩
  case reset =>
    rw [exec_peaReset, execPeaReset, State.act_peaCtl hpass fun w hw => State.peaCtl_reset hw]
    exact ⟨fun h => by rw [State.peaReset, if_pos h]; rfl, fun h => by rw [State.peaReset, if_neg h]; rfl⟩
  case image =>
    subst hn
    have streams : ∀ {c u}, s.peaImg e v = (c, u) → exec (.peaImg p e v) s = s.answers p c u := by
      intro c u h
      rw [exec_peaImg, execPeaImg]
      exact State.act_writeReg_code hpass (by rw [State.newWord_peaImg, State.effect_peaImg, h])
    refine ⟨fun h => streams (State.peaImg_refused hmode h), fun hstate h => streams (State.peaImg_head hmode hstate himg h),
      fun hstate h hfield => streams ?_, fun hstate h hgood => streams ?_, fun hstate h ht => streams ?_⟩
    · rw [State.peaImg_header hmode hstate himg h, if_pos (badHead_of_field hhead hfield)]
      rfl
    · rw [State.peaImg_header hmode hstate himg h, hgood, ← hhead]
      rfl
    · rw [State.peaImg_body hmode hstate himg h, ← hhead]
      have hplace : s.setEngine e ({ s.engine e with image := img }.place (natBytes 4 v.toNat)
          ((s.engine e).image.length - 16) ilen) = t := by rw [ht, Engine.place]
      simp only [hplace]
  case check =>
    rw [ht]
    exact ⟨fun hflag hwanted => State.checkImage_loaded hdg (.inl ⟨hflag, hwanted⟩),
      fun hflag hlocked => State.checkImage_loaded hdg (.inr ⟨hflag, hlocked⟩)⟩
  case halted =>
    rw [exec_stopDone, execStopDone]
    exact State.act_goesOn hready (State.stopDone_exc hstate hloads hbuffer h)
  case stopped =>
    rw [exec_stopDone, execStopDone]
    exact State.act_goesOn hready (State.stopDone_stopped hstate hloads hbuffer h)

end Sys2Proof.Machine
end

section
/-! PROOFS. The key port (O41), key zeroing, known-answer runs and key jobs (O42), and the arbiter of the shared units (O44). -/

namespace Sys2Proof.Machine

/-! ### The key port (R341, R345) -/

@[simp] theorem State.reeval_cph (s : State) : s.reeval.cph = s.cph := by
  unfold State.reeval
  split <;> rfl

@[simp] theorem State.setCause_cph (s : State) (k : Nat) : (s.setCause k).cph = s.cph := by
  unfold State.setCause
  dsimp only
  split
  · rfl
  · exact State.reeval_cph _

/-- The slots after one is zeroed: it keeps only that it has held a key. -/
theorem State.zeroSlot_slots (s : State) (k : Nat) :
    (s.zeroSlot k).cph.slots = aputD s.cph.slots k { spent := (s.keySlot k).spent } {} := by
  simp only [State.zeroSlot, apply_ite State.cph, State.setCause_cph, State.event_cph, State.logE_cph, ite_self,
    State.updCph_cph, State.setKeySlot]

section
variable {s : State} {slot : Fin 64} {key : BitVec 512} {wide : Bool}

section
variable (hmode : s.cfg.mode ≠ .save)
include hmode

theorem State.loadKey_bound (hbound : s.boundSlot slot = true) (hspent : (s.keySlot slot).spent = true) :
    s.loadKey slot key wide = s.keyRefuse slot 1 := by
  rw [State.loadKey, if_neg hmode, hbound, hspent]
  rfl

section
variable (hfree : (s.boundSlot slot && (s.keySlot slot).spent) = false)
include hfree

theorem State.loadKey_session (hslot : slot.val = s.sessionSlot) (hlink : s.twn.link ≠ 0) :
    s.loadKey slot key wide = s.keyRefuse slot 2 := by
  rw [State.loadKey, if_neg hmode, hfree, if_neg Bool.false_ne_true,
    decide_eq_true hslot, decide_eq_true hlink]
  rfl

section
variable (hsession : ¬(slot.val = s.sessionSlot ∧ s.twn.link ≠ 0))
include hsession

theorem State.loadKey_equal (h : key.extractLsb' 0 256 = key.extractLsb' 256 256) :
    s.loadKey slot key true = s.keyRefuse slot 3 := by
  rw [State.loadKey, if_neg hmode, hfree, if_neg Bool.false_ne_true, ← Bool.decide_and, decide_eq_false hsession,
    if_neg Bool.false_ne_true, equalHalves, h, beq_self_eq_true]
  rfl

/-- A load that nothing refuses. -/
theorem State.loadKey_loads (h : (wide && equalHalves key) = false) : s.loadKey slot key wide =
    ((s.setKeySlot slot { key := if wide then key else (key.extractLsb' 0 256).setWidth 512, loaded := true, wide := wide,
                          fresh := true, spent := true }).event 0x0B0300 4).keyAnswer slot 0 := by
  rw [State.loadKey, if_neg hmode, hfree, if_neg Bool.false_ne_true, ← Bool.decide_and, decide_eq_false hsession,
    if_neg Bool.false_ne_true, h, if_neg Bool.false_ne_true]

end
end
end
end

/-- Settles O41: the port answers by its rows in order, and zeroing writes one slot. -/
theorem keyPortAnswers : Obligations.KeyPortAnswers := by
  unfold Obligations.KeyPortAnswers
  rintro s slot key refused bound session hready rfl hbound hsession
  have hboundSlot : bound ↔ (s.boundSlot slot && (s.keySlot slot).spent) = true := by
    rw [hbound, State.boundSlot, State.boundNames, State.xslot]
    simp only [List.contains_eq_mem, List.mem_cons, List.not_mem_nil, or_false, Bool.and_eq_true, decide_eq_true_eq, State.fld]
    tauto
  have hsessionSlot : session ↔ slot.val = s.sessionSlot ∧ s.twn.link ≠ 0 := hsession
  have go : ∀ {f : State → State} {u : State}, f s = u → s.act f = s.goesOn u := fun h => State.act_goesOn hready h
  rw [exec_keyBadOp, exec_keyZero, exec_load256, exec_load512, execKeyBadOp, execKeyZero, execLoad256, execLoad512]
  refine ⟨go rfl, go rfl, fun hmode => ⟨go (if_pos hmode), go (if_pos hmode)⟩, fun hmode h => ?bound,
    fun hmode hfree h => ?session, fun hmode hfree hother => ?loads, fun hrise => ?zeroed⟩
  case bound =>
    obtain ⟨hb, hspent⟩ := Bool.and_eq_true_iff.mp (hboundSlot.mp h)
    exact ⟨go (State.loadKey_bound hmode hb hspent), go (State.loadKey_bound hmode hb hspent)⟩
  case session =>
    obtain ⟨hslot, hlink⟩ := hsessionSlot.mp h
    have hfree' := Bool.eq_false_iff.mpr (mt hboundSlot.mpr hfree)
    exact ⟨go (State.loadKey_session hmode hfree' hslot hlink), go (State.loadKey_session hmode hfree' hslot hlink)⟩
  case loads =>
    have hfree' := Bool.eq_false_iff.mpr (mt hboundSlot.mpr hfree)
    have hother' := mt hsessionSlot.mpr hother
    exact ⟨go (State.loadKey_loads hmode hfree' hother' rfl), fun h => go (State.loadKey_equal hmode hfree' hother' h),
      fun h => go (State.loadKey_loads hmode hfree' hother' (beq_eq_false_iff_ne.mpr h))⟩
  case zeroed =>
    have hslot : (s.zeroSlot slot).keySlot slot = { spent := (s.keySlot slot).spent } := by
      rw [State.keySlot, State.zeroSlot_slots, agetD_aputD_same _ _ _ _ hrise]
    refine ⟨by rw [hslot], by rw [hslot], by rw [hslot], fun k hk => ?_⟩
    rw [State.keySlot, State.zeroSlot_slots, agetD_aputD_other _ _ _ _ (fun h => hk (Fin.ext h))]
    rfl

/-! ### Zeroing, known-answer runs and key jobs (R354–R359) -/

/-- The word of CPH_KZERO names the slot. -/
theorem kzeroWord_slot : ∀ slot : Fin 64, bit (0x80000000 ||| BitVec.ofNat 32 slot.val) 31 = true
    ∧ field (0x80000000 ||| BitVec.ofNat 32 slot.val) 0 6 = slot.val := by decide

theorem State.effect_kzero {s : State} {w : Word} (h : bit w 31 = true) :
    s.effect 0x0B0008 w = (.ok, s.zeroSlot (field w 0 6)) := by
  rw [show s.effect 0x0B0008 w = (.ok, if bit w 31 then s.zeroSlot (field w 0 6) else s) from rfl, h, if_pos rfl]

section
variable {s : State}

theorem State.coreKat_active {core : Nat} (pass : Bool) (h : s.cph.cores[core]? = some .active) :
    s.coreKat core pass = if pass then
      { s with chron := max s.chron (s.cph.lastKat + max 1 (field (s.reg 0x0B0004) 24 8) * 1000000)
               cph := { s.cph with lastKat := max s.chron (s.cph.lastKat + max 1 (field (s.reg 0x0B0004) 24 8) * 1000000) } }
    else State.coreFails
      { s with chron := max s.chron (s.cph.lastKat + max 1 (field (s.reg 0x0B0004) 24 8) * 1000000)
               cph := { s.cph with lastKat := max s.chron (s.cph.lastKat + max 1 (field (s.reg 0x0B0004) 24 8) * 1000000) } }
      core := by
  rw [State.coreKat, h, if_neg (by decide), State.fld, orOne_eq_max]
  rfl

section
variable {j : KeyJob} {r : List KeyJob} (hcontexts : s.cph.contexts = []) (hjobs : s.cph.jobs = j :: r)
include hcontexts hjobs

theorem State.keyJobDone_aborted (h : j.aborted = true) : s.keyJobDone = s.jobEnds 1 := by
  have hresume : s.resumeJob = s := by rw [State.resumeJob, hcontexts]
  simp only [State.keyJobDone, hresume, hjobs, h, if_true]

theorem State.keyJobDone_handed (haborted : j.aborted = false) (hhanded : j.handed = true) : s.keyJobDone =
    if s.unitOut 27 then s else s.jobEnds (if (aget s.sua.faults 27).isSome then 2 else j.code) := by
  have hresume : s.resumeJob = s := by rw [State.resumeJob, hcontexts]
  simp only [State.keyJobDone, hresume, hjobs, haborted, hhanded, if_true, Bool.false_eq_true, if_false]

end
end

/-- Settles O42: CPH_KZERO zeroes the slot its word names, a known-answer run is timed, and a job at the head ends. -/
theorem keyCommands : Obligations.KeyCommands := by
  unfold Obligations.KeyCommands
  intro s p slot hready
  refine ⟨fun hpass => ?zero, fun core now t hactive hnow ht => ?kat, fun j r hcontexts hjobs => ?job⟩
  case zero =>
    have hspec : (regSpec 0x0B0008).map (fun r => r.rw ||| r.lk ||| r.wo1 ||| r.w1p ||| r.wo) = some 0x8000003F := by decide
    obtain ⟨hgo, hslot⟩ := kzeroWord_slot slot
    rw [exec_cphKzero, execCphKzero, State.act_writeReg hpass (State.effect_kzero
      ((State.bit_newWord hspec (by decide)).trans hgo)), State.field_newWord hspec (by decide), hslot]
  case kat =>
    rw [exec_coreKat, exec_coreKat, execCoreKat, execCoreKat]
    subst hnow ht
    exact ⟨State.act_goesOn hready (State.coreKat_active true hactive), State.act_goesOn hready (State.coreKat_active false hactive)⟩
  case job =>
    rw [exec_keyJobDone, execKeyJobDone]
    refine ⟨fun h => State.act_goesOn hready (State.keyJobDone_aborted hcontexts hjobs h), fun haborted hhanded hout => ?_,
      fun haborted hhanded hout => ?_⟩ <;>
    refine State.act_goesOn hready ((State.keyJobDone_handed hcontexts hjobs haborted hhanded).trans ?_)
    · rw [hout, if_neg Bool.false_ne_true]
    · rw [hout, if_pos rfl]

/-! ### The arbiter of the shared units (R375–R381) -/

/-- The requests of one requester for one unit, changed. -/
theorem mapIf_asks (l : List Ask) (who : Asker) (u : Nat) (f : Ask → Ask) :
    mapIf l (fun a => a.who == who && a.unit == u) f = l.map fun a => if a.who = who ∧ a.unit = u then f a else a := by
  simp only [mapIf, Bool.and_eq_true, beq_iff_eq]

theorem mapIf_grants (l : List Grant) (inst : Nat) (f : Grant → Grant) :
    mapIf l (fun g => g.inst == inst) f = l.map fun g => if g.inst = inst then f g else g := by
  simp only [mapIf, beq_iff_eq]

section
variable {s t : State} {e : EngineNo} {u : Nat}

section
variable {prio : Nat} (ht : t = s.updEngine e fun n => { n with prio := aput n.prio u prio })
include ht

theorem State.suaRequest_held (h : (t.heldInst e u).isSome = true) : s.suaRequest e u prio = t := by
  subst ht
  exact if_pos h

theorem State.suaRequest_new (hheld : t.heldInst e u = none) (h : t.waits (.engine e) u = false) : s.suaRequest e u prio =
    (t.updSua fun x => { x with asks := x.asks ++ [{ who := .engine e, unit := u, prio := prio, since := s.chron }] }).arbitrate u := by
  subst ht
  unfold State.suaRequest State.keepPrio
  dsimp only
  rw [hheld, h]
  rfl

theorem State.suaRequest_moves (hheld : t.heldInst e u = none) (h : t.waits (.engine e) u = true) : s.suaRequest e u prio =
    (t.updSua fun x => { x with asks := x.asks.map fun (a : Ask) =>
      if a.who = (.engine e) ∧ a.unit = u then { a with prio := prio } else a }).arbitrate u := by
  subst ht
  unfold State.suaRequest State.keepPrio
  dsimp only
  rw [hheld, h]
  simp only [mapIf_asks]
  rfl

end

theorem State.suaRelease_held {g : Grant} (h : s.grantOf (.engine e) u = some g) :
    (s.suaRelease e u).getD s = if s.busyInst g.inst then s else s.endGrant g := by
  rw [State.suaRelease, h]
  dsimp only
  split <;> rfl

theorem State.askInternal_asks {who : Internal} (hasks : internalAsks who u = true) (hwaits : s.waits (.internal who) u = false)
    (hgrant : s.grantOf (.internal who) u = none) (hmode : s.cfg.mode ≠ .save) :
    s.askInternal who u = (s.eventIf (who == .twn) 0x340300 1).ask
      { who := .internal who, unit := u, prio := 0, since := s.chron, due := who == .twn } := by
  rw [State.askInternal, hasks, hwaits, hgrant, decide_eq_false hmode]
  rfl

theorem State.requestDue_of {who : Internal} {a : Ask}
    (h : (s.sua.asks.find? fun a => a.who == .internal who && a.unit == u && !a.due) = some a) :
    s.requestDue who u = (((({ s with chron := max s.chron (s.deadline a) } : State).updSua fun x =>
      { x with asks := x.asks.map fun (b : Ask) =>
          if b.who = (.internal who) ∧ b.unit = u then { b with due := true } else b }).event 0x340300 1).arbitrate u) := by
  rw [State.requestDue, h]
  simp only [mapIf_asks]
  rfl

theorem State.longHold_of {inst : Nat} {g : Grant} (h : (s.sua.grants.find? fun g => g.inst == inst && !g.longLogged) = some g) :
    s.longHold inst = ((({ s with chron := max s.chron (g.since + s.holdTime) } : State).updSua fun x =>
      { x with grants := x.grants.map fun (k : Grant) =>
          if k.inst = inst then { k with longLogged := true } else k }).logE 0x3401 0x6034 0
        (inst + g.who.code * 2 ^ 8)).event 0x340300 0 := by
  rw [State.longHold, h]
  simp only [mapIf_grants]
  rfl

end

/-- Settles O44: each command is one case of the arbiter's operation on requests and grants. -/
theorem arbiterCommands : Obligations.ArbiterCommands := by
  unfold Obligations.ArbiterCommands
  intro s u hready
  have go : ∀ {f : State → State} {u : State}, f s = u → s.act f = s.goesOn u := fun h => State.act_goesOn hready h
  refine ⟨fun e prio t ht => ?request, fun e => ?leave, fun who hasks hwaits hgrant hmode => ?internal, fun who a ha => ?due,
    fun w hw => ?window, fun inst g hg => ?hold⟩
  case request =>
    rw [exec_suaRequest, execSuaRequest]
    exact ⟨fun h => go (State.suaRequest_held ht h), fun hheld h => go (State.suaRequest_new ht hheld h),
      fun hheld h => go (State.suaRequest_moves ht hheld h)⟩
  case leave =>
    rw [exec_suaWithdraw, exec_suaRelease, execSuaWithdraw, execSuaRelease]
    refine ⟨fun h => go (if_pos h), fun h => go (if_neg (by rw [h]; exact Bool.false_ne_true)), fun h => go ?_, fun g hg => ⟨fun h => go ?_, fun h => go ?_⟩⟩
    · rw [State.suaRelease, h]
      rfl
    · rw [State.suaRelease_held hg, if_pos h]
    · rw [State.suaRelease_held hg, h, if_neg Bool.false_ne_true]
  case internal =>
    rw [exec_suaInternalRequest, execSuaInternalRequest]
    have hask := State.askInternal_asks hasks hwaits hgrant hmode
    refine ⟨fun h => go (hask.trans ?_), fun h => go (hask.trans ?_)⟩
    · subst h
      rfl
    · rw [beq_eq_false_iff_ne.mpr h]
      rfl
  case due =>
    rw [exec_suaRequestDue, execSuaRequestDue]
    exact go (State.requestDue_of ha)
  case window =>
    rw [exec_suaWindow, execSuaWindow]
    refine go ?_
    rw [hw, State.suaWindow, orOne_eq_max]
    rfl
  case hold =>
    rw [exec_longHold, execLongHold]
    exact go (State.longHold_of hg)

end Sys2Proof.Machine
end

section
/-! PROOFS. The rings of DRE (O47, O48): the effect of a write to each ring register, what a configuration word may change, and an
equation for each step of the fetch, the dispatch and the host-memory port. -/

namespace Sys2Proof.Machine

/-! ### The ring registers (R413, R416, R417, R430) -/

section
variable {s : State} {q : Fin 64} {w : Word}

theorem State.effect_sqCfg : s.effect (sqPage q + 8) w = (.ok, s.sqConfig q w) := by
  have hq := q.isLt
  have hpage : (sqPage q + 8) / 0x10000 = 3 := by unfold sqPage; omega
  have hring : Fin.ofNat 64 ((sqPage q + 8) % 0x1000 / 0x20) = q := Fin.ext (by simp only [sqPage, Fin.ofNat]; omega)
  have hcfg : 0x031000 ≤ sqPage q + 8 ∧ sqPage q + 8 < 0x031800 ∧ (sqPage q + 8) % 0x20 = 8 := by unfold sqPage; omega
  simp only [State.effect, hpage, hring, hcfg, and_self, if_true]

theorem State.effect_sqBell : s.effect (sqPage q + 0xC) w = (.ok, s.sqBell q w) := by
  have hq := q.isLt
  have hpage : (sqPage q + 0xC) / 0x10000 = 3 := by unfold sqPage; omega
  have hring : Fin.ofNat 64 ((sqPage q + 0xC) % 0x1000 / 0x20) = q := Fin.ext (by simp only [sqPage, Fin.ofNat]; omega)
  have hbell : 0x031000 ≤ sqPage q + 0xC ∧ sqPage q + 0xC < 0x031800 ∧ (sqPage q + 0xC) % 0x20 = 0xC := by unfold sqPage; omega
  simp only [State.effect, hpage, hring, hbell, and_self, and_false, if_true, Nat.reduceEqDiff, if_false]

theorem State.effect_cqCfg : s.effect (cqPage q + 8) w = (.ok, s.cqConfig q w) := by
  have hq := q.isLt
  have hpage : (cqPage q + 8) / 0x10000 = 3 := by unfold cqPage; omega
  have hring : Fin.ofNat 64 ((cqPage q + 8) % 0x1000 / 0x20) = q := Fin.ext (by simp only [cqPage, Fin.ofNat]; omega)
  have hbelow : ¬ cqPage q + 8 < 0x031800 := by unfold cqPage; omega
  have hcfg : 0x032000 ≤ cqPage q + 8 ∧ cqPage q + 8 < 0x032800 ∧ (cqPage q + 8) % 0x20 = 8 := by unfold cqPage; omega
  simp only [State.effect, hpage, hring, hbelow, hcfg, and_self, and_false, false_and, if_true, if_false]

theorem State.effect_cqBell : s.effect (cqPage q + 0xC) w = (.ok, (s.cqBell q w).flushCompl q) := by
  have hq := q.isLt
  have hpage : (cqPage q + 0xC) / 0x10000 = 3 := by unfold cqPage; omega
  have hring : Fin.ofNat 64 ((cqPage q + 0xC) % 0x1000 / 0x20) = q := Fin.ext (by simp only [cqPage, Fin.ofNat]; omega)
  have hbelow : ¬ cqPage q + 0xC < 0x031800 := by unfold cqPage; omega
  have hbell : 0x032000 ≤ cqPage q + 0xC ∧ cqPage q + 0xC < 0x032800 ∧ (cqPage q + 0xC) % 0x20 = 0xC := by unfold cqPage; omega
  simp only [State.effect, hpage, hring, hbelow, hbell, and_self, and_false, false_and, if_true, if_false, Nat.reduceEqDiff]

theorem State.effect_vecCtl : s.effect (vecPage q + 0xC) w = (.ok, s.vecCtl q w) := by
  have hq := q.isLt
  have hpage : (vecPage q + 0xC) / 0x10000 = 3 := by unfold vecPage; omega
  have hvec : Fin.ofNat 64 ((vecPage q + 0xC - 0x033000) / 0x10) = q := Fin.ext (by simp only [vecPage, Fin.ofNat]; omega)
  have hsq : ¬ vecPage q + 0xC < 0x031800 := by unfold vecPage; omega
  have hcq : ¬ vecPage q + 0xC < 0x032800 := by unfold vecPage; omega
  have hctl : 0x033000 ≤ vecPage q + 0xC ∧ vecPage q + 0xC < 0x033400 ∧ (vecPage q + 0xC) % 0x10 = 0xC := by unfold vecPage; omega
  simp only [State.effect, hpage, hvec, hsq, hcq, hctl, and_self, and_false, false_and, if_true, if_false]

end

/-! ### What a configuration word may change (R432, R433) -/

theorem field_eq_iff {v w : Word} {lo n : Nat} : field v lo n = field w lo n ↔ ∀ i < n, bit v (lo + i) = bit w (lo + i) := by
  refine ⟨fun h i hi => ?_, field_eq_of_bits⟩
  have hbit := congrArg (Nat.testBit · i) h
  simpa [field, bitsOf, hi, Nat.testBit_shiftRight, bit, BitVec.getLsbD] using hbit

theorem masked_ne_iff (a b m : Word) : (a ^^^ b) &&& m ≠ 0 ↔ ∃ i < 32, bit m i = true ∧ bit a i ≠ bit b i := by
  refine not_iff_comm.mp ⟨fun h => ?_, fun h => ?_⟩
  · refine BitVec.eq_of_getLsbD_eq fun i hi => ?_
    by_cases hm : bit m i = true
    · have hsame : bit a i = bit b i := by
        by_contra hne
        exact h ⟨i, hi, hm, hne⟩
      rw [bit, bit] at hsame
      simp [hsame]
    · rw [bit, Bool.not_eq_true] at hm
      simp [hm]
  · rintro ⟨i, hi, hm, hne⟩
    have hbit := congrArg (BitVec.getLsbD · i) h
    simp only [bit] at hm hne
    simp [hm, hne] at hbit

/-- The bits of DRE_SQ_CFG that may not change while EN is 1. -/
theorem sqFixed_bits : ∀ i < 32, bit (0x003F801F : Word) i = (decide (i < 5) || decide (i = 15) || (decide (16 ≤ i) && decide (i < 22))) := by
  decide

/-- They are CQ, LOC and LOG2SIZE. -/
theorem sqFixed_iff (old w : Word) : (old ^^^ w) &&& 0x003F801F ≠ 0 ↔
    field old 16 6 ≠ field w 16 6 ∨ bit old 15 ≠ bit w 15 ∨ field old 0 5 ≠ field w 0 5 := by
  simp only [masked_ne_iff, ne_eq, field_eq_iff]
  constructor
  · rintro ⟨i, hi, hm, hne⟩
    rw [sqFixed_bits i hi] at hm
    simp only [Bool.or_eq_true, Bool.and_eq_true, decide_eq_true_eq] at hm
    obtain (hlow | rfl) | ⟨hlo, hhi⟩ := hm
    · exact .inr (.inr fun h => hne (by simpa using h i hlow))
    · exact .inr (.inl hne)
    · exact .inl fun h => hne (by simpa [Nat.add_sub_cancel' hlo] using h (i - 16) (by omega))
  · rintro (h | h | h)
    · simp only [not_forall] at h
      obtain ⟨i, hi, hne⟩ := h
      exact ⟨16 + i, by omega, by rw [sqFixed_bits _ (by omega)]; simp [show 16 + i < 22 by omega], hne⟩
    · exact ⟨15, by decide, by decide, h⟩
    · simp only [not_forall] at h
      obtain ⟨i, hi, hne⟩ := h
      exact ⟨0 + i, by omega, by rw [sqFixed_bits _ (by omega)]; simp [hi], hne⟩

theorem fixedBits_iff (old w m : Word) : fixedBits old w m = true ↔ bit old 31 = true ∧ (old ^^^ w) &&& m ≠ 0 := by
  rw [fixedBits, Bool.and_eq_true, bne_iff_ne]

theorem goodSize_false_iff (w : Word) : goodSize w = false ↔ field w 0 5 < 6 ∨ 16 < field w 0 5 := by
  simp only [goodSize, Bool.and_eq_false_iff, decide_eq_false_iff_not]
  omega

/-- Settles O47: a word that changes what is fixed, or that does not fit, is refused; EN starts and ends the ring. -/
theorem submissionRingConfig : Obligations.SubmissionRingConfig := by
  unfold Obligations.SubmissionRingConfig
  rintro s p q v w old changed badSize noRing hpass rfl rfl hchanged hsize hring
  have hrefused : changed ∨ badSize ∨ noRing ↔ (fixedBits (s.reg (sqPage q + 8)) (s.newWord (sqPage q + 8) v) 0x003F801F
      || !goodSize (s.newWord (sqPage q + 8) v)
      || (bit (s.newWord (sqPage q + 8) v) 31 && !s.cqOn (field (s.newWord (sqPage q + 8) v) 16 6))) = true := by
    rw [hchanged, hsize, hring, Bool.or_eq_true, Bool.or_eq_true, fixedBits_iff, sqFixed_iff, Bool.not_eq_true',
      goodSize_false_iff, Bool.and_eq_true, Bool.not_eq_true', State.cqOn, State.flag]
    exact or_assoc.symm
  rw [exec_dreSqCfgWrite, execDreSqCfgWrite, State.act_writeReg hpass State.effect_sqCfg, State.sqConfig]
  refine ⟨fun h => by rw [if_pos (hrefused.mp h)], fun hc hb hn => ?_⟩
  have hok := mt hrefused.mpr (not_or.mpr ⟨hc, not_or.mpr ⟨hb, hn⟩⟩)
  simp only [if_neg hok]
  refine ⟨fun hold hnew => ?_, fun hsame => ?_, fun hold hnew => ?_⟩
  · rw [hold, hnew]
    rfl
  · rw [hsame]
    cases bit (s.newWord (sqPage q + 8) v) 31 <;> rfl
  · rw [hold, hnew]
    rfl

/-! ### Doorbells and the other ring registers (R413, R416, R417, R433) -/

section
variable {s : State} {q : Fin 64} {w : Word}

theorem at_low16 (w : Word) : at_ (field w 0 16) 0 16 = BitVec.ofNat 32 (field w 0 16) := by
  have hlt : field w 0 16 < 2 ^ 16 := Nat.mod_lt _ (by decide)
  rw [at_, Nat.mod_eq_of_lt hlt, Nat.shiftLeft_zero]

theorem State.sqBell_refused (h : 2 ^ field (s.reg (sqPage q + 8)) 0 5 ≤ field w 0 16) : s.sqBell q w =
    (s.logE 0x0301 0x6003 0 (q.val + field w 0 16 * 2 ^ 16)).event 0x030100 1 := by
  rw [State.sqBell, State.sqSize, State.fld, if_pos h, State.doorbellBad, Nat.zero_mul, Nat.add_zero]
  rfl

theorem State.sqBell_moves (h : field w 0 16 < 2 ^ field (s.reg (sqPage q + 8)) 0 5) : s.sqBell q w =
    s.setReg (sqPage q + 0xC) (BitVec.ofNat 32 (field w 0 16)) := by
  rw [State.sqBell, State.sqSize, State.fld, if_neg (Nat.not_le.mpr h), at_low16]

theorem State.cqBell_refused (h : s.cqSize q ≤ field w 0 16
      ∨ ringDist (s.cqHead q) (s.cq q).tail (s.cqSize q) < ringDist (s.cqHead q) (field w 0 16) (s.cqSize q)) :
    s.cqBell q w = (s.logE 0x0301 0x6003 0 (q.val + 2 ^ 8 + field w 0 16 * 2 ^ 16)).event 0x030100 1 := by
  rw [State.cqBell]
  simp only [Bool.or_eq_true, decide_eq_true_eq, if_pos h, State.doorbellBad, Nat.one_mul]
  rfl

theorem State.cqBell_moves (hsize : field w 0 16 < s.cqSize q)
    (hdist : ringDist (s.cqHead q) (field w 0 16) (s.cqSize q) ≤ ringDist (s.cqHead q) (s.cq q).tail (s.cqSize q)) :
    s.cqBell q w = s.setReg (cqPage q + 0xC) (BitVec.ofNat 32 (field w 0 16)) := by
  have hgood : ¬(s.cqSize q ≤ field w 0 16
      ∨ ringDist (s.cqHead q) (s.cq q).tail (s.cqSize q) < ringDist (s.cqHead q) (field w 0 16) (s.cqSize q)) := by omega
  rw [State.cqBell]
  simp only [Bool.or_eq_true, decide_eq_true_eq, if_neg hgood, at_low16]

/-- A DRE_CQ_CFG word that is refused. -/
theorem cqRefused_iff : (fixedBits (s.reg (cqPage q + 8)) w 0x9F || !goodSize w
      || (!bit w 31 && bit (s.reg (cqPage q + 8)) 31 && s.cqNamed q)) = true ↔
    (bit (s.reg (cqPage q + 8)) 31 = true ∧ (s.reg (cqPage q + 8) ^^^ w) &&& 0x9F ≠ 0) ∨ field w 0 5 < 6 ∨ 16 < field w 0 5
      ∨ (bit w 31 = false ∧ bit (s.reg (cqPage q + 8)) 31 = true ∧ s.cqNamed q = true) := by
  rw [Bool.or_eq_true, Bool.or_eq_true, fixedBits_iff, Bool.not_eq_true', goodSize_false_iff, Bool.and_eq_true, Bool.and_eq_true,
    Bool.not_eq_true', or_assoc, or_assoc, and_assoc]

theorem State.vecCtl_keeps (h : bit w 0 = true ∨ q.val ∉ s.dre.pending ∨ s.cfg.mode = .save) :
    s.vecCtl q w = s.setReg (vecPage q + 0xC) w := by
  refine if_neg ?_
  rw [Bool.and_eq_true, Bool.and_eq_true, List.contains_iff_mem, bne_iff_ne]
  rintro ⟨⟨hmask, hpending⟩, hmode⟩
  obtain h | h | h := h
  · rw [h] at hmask
    exact Bool.false_ne_true hmask
  · exact h hpending
  · exact hmode h

theorem State.vecCtl_sends (hmask : bit w 0 = false) (hpending : q.val ∈ s.dre.pending) (hmode : s.cfg.mode ≠ .save) :
    s.vecCtl q w = ((s.setReg (vecPage q + 0xC) w).updDre fun d => { d with pending := d.pending.filter (· != q.val) }).sendMsg q := by
  refine if_pos ?_
  rw [Bool.and_eq_true, Bool.and_eq_true, List.contains_iff_mem, bne_iff_ne, hmask]
  exact ⟨⟨rfl, hpending⟩, hmode⟩

end

/-! ### Fetch and dispatch (R414, R420) -/

section
variable {s : State} {q : Fin 64}

theorem State.fetchTurn_idle (h : s.dreRuns = false) : s.fetchTurn = s := by
  rw [State.fetchTurn, h]
  rfl

theorem State.dispatch_idle (h : s.dreRuns = false) : s.dispatch q = s := by
  rw [State.dispatch, h]
  rfl

theorem State.fetchTurn_ring (hruns : s.dreRuns = true)
    (h : ((List.range 64).map fun i => (s.dre.turn + i) % 64).find? s.ringFetchable = some q.val) :
    s.fetchTurn = (List.range (max 1 (field (s.reg (sqPage q + 8)) 8 4))).foldl (fun t _ => t.fetchNext q)
      (s.updDre fun d => { d with turn := (q.val + 1) % 64 }) := by
  have hq : Fin.ofNat 64 q.val = q := Fin.ext (Nat.mod_eq_of_lt q.isLt)
  rw [State.fetchTurn, hruns, if_neg (by decide), h]
  simp only [hq, orOne_eq_max, State.fld]

section
variable {d : Desc} {n : Nat} (hruns : s.dreRuns = true) (hring : bit (s.reg (sqPage q + 8)) 31 = true)
  (hhead : (s.sq q).fetched.find? (fun d => d.slot == (s.sq q).head) = some d) (hn : n = field (s.reg (sqPage q + 8)) 16 6)
  (hcq : bit (s.reg (cqPage n + 8)) 31 = true) (hfault : (s.cq n).fault = false) (hfree : s.cqFree n ≠ 0)
include hruns hring hhead hn hcq hfault hfree

/-- A descriptor a check refuses completes with its status. -/
theorem State.dispatch_refused {st : BitVec 16} (hcheck : s.descCheck d.bytes = some st) :
    s.dispatch q = (s.takeHead q d false).2.complete (s.takeHead q d false).1 st 0 := by
  subst hn
  simp [State.dispatch, State.sqOn, State.cqOn, State.flag, State.fld, hruns, hring, hhead, hcq, hfault, hfree, hcheck]

section
variable (hcheck : s.descCheck d.bytes = none) (hfence : (d.bytes.getD 1 0).getLsbD 7 = false ∨ (s.sq q).open_ = [])
include hcheck hfence

theorem State.dispatch_dti (hsvc : descService d.bytes = none) :
    s.dispatch q = (s.takeHead q d true).2.updDre fun y => { y with dtiWork := y.dtiWork ++ [(s.takeHead q d true).1] } := by
  have hgoes : ((d.bytes.getD 1 0).getLsbD 7 && !(s.sq q).open_.isEmpty) = false := by
    obtain h | h := hfence <;> simp only [h, Bool.false_and, List.isEmpty_nil, Bool.not_true, Bool.and_false]
  subst hn
  simp only [State.dispatch, State.sqOn, State.cqOn, State.flag, State.fld, hruns, hring, hhead, hcq, hfault, hfree, hcheck, hgoes, hsvc]
  rfl

theorem State.dispatch_engine {svc : Nat} {e : EngineNo} (hsvc : descService d.bytes = some svc)
    (hpick : s.pickEngine svc = some e) : s.dispatch q =
      (s.takeHead q d true).2.updEngine e fun n => { n with inbox := n.inbox ++ [(s.takeHead q d true).1] } := by
  have hgoes : ((d.bytes.getD 1 0).getLsbD 7 && !(s.sq q).open_.isEmpty) = false := by
    obtain h | h := hfence <;> simp only [h, Bool.false_and, List.isEmpty_nil, Bool.not_true, Bool.and_false]
  subst hn
  simp only [State.dispatch, State.sqOn, State.cqOn, State.flag, State.fld, hruns, hring, hhead, hcq, hfault, hfree, hcheck, hgoes,
    hsvc, hpick]
  rfl

end
end

/-! ### Messages and the host-memory port (R417, R427) -/

theorem State.coalesce_sends {o : Nat} (holdest : (s.cq q).oldest = some o) (htime : field (s.reg (cqPage q + 8)) 8 8 ≠ 0)
    (hcount : field (s.reg (cqPage q + 8)) 16 8 ≠ 0) (hmode : s.cfg.mode ≠ .save) :
    s.coalesce q = State.ringMsg { s with chron := max s.chron (o + field (s.reg (cqPage q + 8)) 8 8 * 1000) } q := by
  rw [State.coalesce, holdest]
  refine if_neg ?_
  rw [State.cqCnt, State.fld, State.fld, decide_eq_false htime, decide_eq_false hcount, decide_eq_false hmode]
  exact Bool.false_ne_true

theorem State.hmpTimeout_of {tag : Byte} {o : HmpOut} (h : s.dre.hmp.find? (fun o => o.tag == tag) = some o) :
    s.hmpTimeout tag = State.hmpDone (State.event { s with
        chron := max s.chron (o.since + max 1 (field (s.reg 0x030000) 0 16) * 1000)
        dre := { s.dre with hmp := s.dre.hmp.filter (fun x => x.tag != tag), hmpQuar := s.dre.hmpQuar ++ [tag] } }
      0x030100 4) o 1 0 := by
  rw [State.hmpTimeout, h]
  simp only [State.hmpTmo, orOne_eq_max, State.fld]
  rfl

end

/-- Settles O48: each command of the rings is one case of its operation. -/
theorem ringCommands : Obligations.RingCommands := by
  unfold Obligations.RingCommands
  intro s p q
  refine ⟨fun v w hpass hw => ?sqBell, fun v w n h hpass hw hn hh => ?cqBell, fun v w old refused hpass hw hold hrefused => ?cqCfg,
    fun v w hpass hw => ?vec, fun hready hidle => ?idle, fun hready hruns => ⟨fun h => ?fetch,
      fun d n hring hhead hn hcq hfault hfree => ⟨fun st x hcheck hx => ?refusal, fun x hcheck hfence hx => ?dispatch⟩⟩,
    fun o hready holdest htime hcount hmode => ?coalesce, fun tag stat data hready => ?port⟩
  case sqBell =>
    rw [exec_sqDoorbell, execSqDoorbell, State.act_writeReg hpass State.effect_sqBell, ← hw]
    exact ⟨fun h => by rw [State.sqBell_refused h], fun h => by rw [State.sqBell_moves h]⟩
  case cqBell =>
    have hsize : n = s.cqSize q := hn
    have hhead : h = s.cqHead q := hh
    subst hsize hhead
    rw [exec_cqDoorbell, execCqDoorbell, State.act_writeReg hpass State.effect_cqBell, ← hw]
    exact ⟨fun h => by rw [State.cqBell_refused h], fun h1 h2 => by rw [State.cqBell_moves h1 h2]⟩
  case cqCfg =>
    subst hold
    rw [← cqRefused_iff] at hrefused
    rw [exec_dreCqCfgWrite, execDreCqCfgWrite, State.act_writeReg hpass State.effect_cqCfg, ← hw, State.cqConfig]
    refine ⟨fun h => by rw [if_pos (hrefused.mp h)], fun h hkept => ?_, fun h hwas hnow => ?_⟩ <;>
      simp only [if_neg (mt hrefused.mpr h)]
    · obtain hkept | hkept := hkept <;>
        simp only [hkept, Bool.not_true, Bool.and_false, Bool.false_and, Bool.false_eq_true, if_false]
    · simp only [hwas, hnow]
      rfl
  case vec =>
    rw [exec_dreVecCtlWrite, execDreVecCtlWrite, State.act_writeReg hpass State.effect_vecCtl, ← hw]
    exact ⟨fun h => by rw [State.vecCtl_keeps h], fun hmask hpending hmode => by rw [State.vecCtl_sends hmask hpending hmode]⟩
  case idle =>
    rw [exec_descriptorFetch, exec_descriptorDispatch, execDescriptorFetch, execDescriptorDispatch]
    exact ⟨State.act_goesOn hready (State.fetchTurn_idle hidle), State.act_goesOn hready (State.dispatch_idle hidle)⟩
  case fetch =>
    rw [exec_descriptorFetch, execDescriptorFetch]
    exact State.act_goesOn hready (State.fetchTurn_ring hruns h)
  case refusal =>
    subst hx
    rw [exec_descriptorDispatch, execDescriptorDispatch]
    exact State.act_goesOn hready (State.dispatch_refused hruns hring hhead hn hcq hfault hfree hcheck)
  case dispatch =>
    subst hx
    rw [exec_descriptorDispatch, execDescriptorDispatch]
    exact ⟨fun hsvc => State.act_goesOn hready (State.dispatch_dti hruns hring hhead hn hcq hfault hfree hcheck hfence hsvc),
      fun svc e hsvc hpick =>
        State.act_goesOn hready (State.dispatch_engine hruns hring hhead hn hcq hfault hfree hcheck hfence hsvc hpick)⟩
  case coalesce =>
    rw [exec_irqCoalesceTimeout, execIrqCoalesceTimeout]
    exact State.act_goesOn hready (State.coalesce_sends holdest htime hcount hmode)
  case port =>
    rw [exec_hmpResponse, execHmpResponse, exec_hmpTimeout, execHmpTimeout]
    refine ⟨fun h => State.act_goesOn hready (if_pos h), fun o t h ht hquar => State.act_goesOn hready ?_,
      fun o h => State.act_goesOn hready (State.hmpTimeout_of h)⟩
    rw [State.hmpResponse, hquar, if_neg Bool.false_ne_true, h, ht]

end Sys2Proof.Machine
end

section
/-! PROOFS. The frames of the management chain (O53): one equation for each thing a whole frame can be, the register access of a
READ and a WRITE, and the bytes of a response. -/

namespace Sys2Proof.Machine

section
variable {s u : State} {f : List Byte}

/-! ### What a frame is (R465, R466) -/

section
variable (hself : s.pins.selftestDone = true)
include hself

/-- A frame whose CHECK or length is wrong is logged and dropped. -/
theorem State.chainFrame_dropped (h : chainCheck f = false ∨ (chainReserved f = false ∧ f.length ≠ chainLength f)) :
    s.chainFrame f = (s.logE 0x0005 0x4000 0 (chainByte f 0 + chainByte f 1 * 2 ^ 8)).event 0x000050 4 := by
  have hbad : (!chainCheck f || (!chainReserved f && f.length != chainLength f)) = true := by
    obtain h | ⟨hres, hlen⟩ := h
    · rw [h]
      rfl
    · rw [hres, bne_iff_ne.mpr hlen]
      exact Bool.or_true _
  rw [State.chainFrame, hself, if_neg (by decide), if_pos hbad]
  rfl

section
variable (hcheck : chainCheck f = true) (hres : chainReserved f = false) (hlen : f.length = chainLength f)
include hcheck hres hlen

/-- A whole frame: the five ways it can go. -/
theorem State.chainFrame_whole : s.chainFrame f =
    if (!chainDir f && chainAddr f == 0x7E && chainCmd f != 2) = true then (s.mcNote f 0x0006 5).mcSend f
    else if chainDir f = true then s.mcSend f
    else if chainAddr f = 0x7E then (s.mcWrite f).2.mcSend f
    else if s.mcMine f = true then s.mcPerform f
    else s.mcSend f := by
  rw [State.chainFrame, hself, if_neg (by decide), hcheck, hres, hlen, bne_self_eq_false]
  rfl

theorem State.chainFrame_response (hdir : chainDir f = true) : s.chainFrame f = s.mcSend f := by
  rw [State.chainFrame_whole hself hcheck hres hlen, hdir]
  rfl

section
variable (hdir : chainDir f = false)
include hdir

theorem State.chainFrame_badBroadcast (haddr : chainAddr f = 0x7E) (hcmd : chainCmd f ≠ 2) :
    s.chainFrame f = (s.mcNote f 0x0006 5).mcSend f := by
  rw [State.chainFrame_whole hself hcheck hres hlen, hdir, haddr, bne_iff_ne.mpr hcmd]
  rfl

theorem State.chainFrame_broadcast (haddr : chainAddr f = 0x7E) (hcmd : chainCmd f = 2) :
    s.chainFrame f = (s.mcWrite f).2.mcSend f := by
  rw [State.chainFrame_whole hself hcheck hres hlen, hdir, haddr, hcmd]
  rfl

section
variable (haddr : chainAddr f ≠ 0x7E)
include haddr

theorem State.chainFrame_other (hmine : s.mcMine f = false) : s.chainFrame f = s.mcSend f := by
  rw [State.chainFrame_whole hself hcheck hres hlen, hdir, if_neg haddr, beq_eq_false_iff_ne.mpr haddr, hmine]
  rfl

theorem State.chainFrame_mine (hmine : s.mcMine f = true) : s.chainFrame f = s.mcPerform f := by
  rw [State.chainFrame_whole hself hcheck hres hlen, hdir, if_neg haddr, beq_eq_false_iff_ne.mpr haddr, hmine]
  rfl

end
end
end
end

/-! ### What this block performs (R465, R467) -/

theorem State.mcPerform_read (h : chainCmd f = 1) : s.mcPerform f = (s.mcRead f).2.2.mcRespond f (s.mcRead f).1 (s.mcRead f).2.1 := by
  simp only [State.mcPerform, h]

theorem State.mcPerform_write (h : chainCmd f = 2) : s.mcPerform f = (s.mcWrite f).2.mcRespond f (s.mcWrite f).1 [] := by
  simp only [State.mcPerform, h]

theorem State.mcPerform_setaddr (h : chainCmd f = 3) : s.mcPerform f = s.mcSetAddr f := by simp only [State.mcPerform, h]

theorem State.mcPerform_ping (h : chainCmd f = 4) : s.mcPerform f = s.mcRespond f .ok (natBytes 4 (s.view 0).toNat) := by
  simp only [State.mcPerform, h]

theorem State.mcSetAddr_takes (haddr : s.cfg.chainAddr = 0x7F) (hn : chainByte f 7 % 128 < 0x40) : s.mcSetAddr f =
    (((s.updCfg fun c => { c with chainAddr := BitVec.ofNat 7 (chainByte f 7 % 128) }).event 0x000050 6).mcRespond f .ok []).updCfg
      fun c => { c with enumOut := true } := by
  rw [State.mcSetAddr, haddr, decide_eq_true hn]
  rfl

theorem State.mcSetAddr_refused (h : s.cfg.chainAddr ≠ 0x7F ∨ 0x40 ≤ chainByte f 7 % 128) :
    s.mcSetAddr f = s.mcRespond f .errAccess [] := by
  refine if_neg ?_
  rw [Bool.and_eq_true, beq_iff_eq, decide_eq_true_eq]
  rintro ⟨haddr, hn⟩
  obtain h | h := h
  · exact h haddr
  · omega

section
variable {a : Nat} (hsize : chainSize f = 2) (ha : a = chainOffset f) (halign : a % 4 = 0) (hwindow : a < 0x1000000)
include hsize ha halign hwindow

/-- A READ of a register answers the bytes its word shows. -/
theorem State.mcRead_word (hport : dataPort a = none) (hspec : (regSpec a).isSome = true) : s.mcRead f =
    (.ok, natBytes 4 (s.peek4 .chain a).toNat, (s.readEffect .chain a).answered .chain .ok
      (BitVec.ofNat 512 ((s.peek4 .chain a).toNat <<< (8 * (a % 64))))) := by
  obtain ⟨r, hr⟩ := Option.isSome_iff_exists.mp hspec
  have hin : inWindow a = true := by rw [inWindow, decide_eq_true (by omega)]; rfl
  have hread : s.windowRead .chain a 2 =
      (.ok, BitVec.ofNat 512 ((s.peek4 .chain a).toNat <<< (8 * (a % 64))), s.readEffect .chain a) := by
    simp [State.windowRead, halign, hwindow, State.regRead, hport, State.read4, hr]
  have hlane := bitsOf_lane (s.peek4 .chain a).isLt halign
  rw [State.mcRead, ← ha, hsize, hin, if_pos rfl, hread]
  simp only [if_true, BitVec.toNat_ofNat, sizeBytes, if_neg (show ¬ 2 = 4 by decide), hlane, Nat.reducePow, Nat.reduceMul]

/-- A WRITE of a register that passes every check has the register's effect. -/
theorem State.mcWrite_word {v : Word} {c : Code} (hv : v = BitVec.ofNat 32 (bytesNat ((f.drop 7).take 4)))
    (hpass : s.passes .chain a v = true) (heffect : s.effect a (s.newWord a v) = (c, u)) :
    s.mcWrite f = (c, u.answered .chain c 0) := by
  have hin : inWindow a = true := by rw [inWindow, decide_eq_true (by omega)]; rfl
  have hbytes : bytesNat ((f.drop 7).take 4) < 2 ^ 32 :=
    (bytesNat_lt _).trans_le (Nat.pow_le_pow_right (by decide) (by have := List.length_take_le 4 (f.drop 7); omega))
  have hlane := bitsOf_lane hbytes halign
  have hwrite : s.windowWrite .chain a 2 (BitVec.ofNat 512 (bytesNat ((f.drop 7).take 4) <<< (8 * (a % 64)))) =
      s.regWrite .chain a v := by
    simp [State.windowWrite, halign, hwindow, hlane, hv]
  have hreg : s.regWrite .chain a v = (c, u) := by
    rw [State.regWrite, (State.passes_checks hpass).1]
    exact (State.write4_passes hpass).trans heffect
  rw [hreg] at hwrite
  simp only [State.mcWrite, ← ha, hsize, hin, if_pos, sizeBytes, if_neg (show ¬ 2 = 4 by decide), show 2 ^ 2 = 4 from rfl, hwrite]

end

/-! ### The bytes of a response (R465) -/

/-- What stands in front of the data of a response: this block's address with DIR, the request's two bytes, the result. -/
def State.mcHead (s : State) (f : List Byte) (code : Code) : List Byte :=
  [BitVec.ofNat 8 (128 + s.cfg.chainAddr.toNat), f.getD 1 0, f.getD 2 0, BitVec.ofNat 8 code.bits.toNat]

theorem State.mcRespond_eq (code : Code) (data : List Byte) : s.mcRespond f code data = s.updCfg fun c =>
    { c with mcOut := (s.mcHead f code ++ data) ++ natBytes 4 (crc32c (s.mcHead f code ++ data)).toNat } := rfl

theorem State.length_mcBody (code : Code) (data : List Byte) : (s.mcHead f code ++ data).length = 4 + data.length := by
  rw [List.length_append]
  rfl

end

/-- Settles O53: a frame that is wrong is dropped whatever it is, a whole one goes the one way its direction, address and command
name, and a response carries its head, its data and their CRC. -/
theorem chainFrames : Obligations.ChainFrames := by
  unfold Obligations.ChainFrames
  intro s f hready hself
  refine ⟨?dropped, ?whole, ?response⟩
  case dropped =>
    intro u hu hbad
    have hframe : s.chainFrame f = u := (State.chainFrame_dropped hself hbad).trans hu.symm
    refine ⟨?_, ?_, ?_, ?_, ?_, ?_⟩
    · rw [exec_mcRead, execMcRead]; exact State.act_goesOn hready hframe
    · rw [exec_mcWrite, execMcWrite]; exact State.act_goesOn hready hframe
    · rw [exec_mcSetaddr, execMcSetaddr]; exact State.act_goesOn hready hframe
    · rw [exec_mcPing, execMcPing]; exact State.act_goesOn hready hframe
    · rw [exec_mcForward, execMcForward]; exact State.act_goesOn hready hframe
    · rw [exec_mcCrc, execMcCrc]; exact State.act_goesOn hready hframe
  case whole =>
    intro hcheck hres hlen
    refine ⟨?back, ?badBroadcast, ?broadcast, ?other, ?mine⟩
    case back =>
      intro hdir
      rw [exec_mcForward, execMcForward]
      exact State.act_goesOn hready (State.chainFrame_response hself hcheck hres hlen hdir)
    case badBroadcast =>
      intro hdir haddr hcmd
      rw [exec_mcForward, execMcForward]
      exact State.act_goesOn hready (State.chainFrame_badBroadcast hself hcheck hres hlen hdir haddr hcmd)
    case broadcast =>
      intro a v c u hdir haddr hcmd hsize ha halign hwindow hv hpass heffect
      rw [exec_mcWrite, execMcWrite]
      refine State.act_goesOn hready ((State.chainFrame_broadcast hself hcheck hres hlen hdir haddr hcmd).trans ?_)
      rw [State.mcWrite_word hsize ha halign hwindow hv hpass heffect]
    case other =>
      intro hdir haddr hmine
      rw [exec_mcForward, execMcForward]
      exact State.act_goesOn hready (State.chainFrame_other hself hcheck hres hlen hdir haddr hmine)
    case mine =>
      intro hdir haddr hmine
      have hframe := State.chainFrame_mine hself hcheck hres hlen hdir haddr hmine
      refine ⟨fun hcmd => ?ping, fun n hcmd hn => ⟨fun hfree hsmall => ?takes, fun hbad => ?refused⟩, ?read, ?write⟩
      case ping =>
        rw [exec_mcPing, execMcPing]
        exact State.act_goesOn hready (hframe.trans (State.mcPerform_ping hcmd))
      case takes =>
        rw [exec_mcSetaddr, execMcSetaddr]
        refine State.act_goesOn hready (hframe.trans ((State.mcPerform_setaddr hcmd).trans ?_))
        rw [State.mcSetAddr_takes hfree (hn ▸ hsmall), hn]
      case refused =>
        rw [exec_mcSetaddr, execMcSetaddr]
        refine State.act_goesOn hready (hframe.trans ((State.mcPerform_setaddr hcmd).trans ?_))
        exact State.mcSetAddr_refused (hn ▸ hbad)
      case read =>
        intro a hcmd hsize ha halign hwindow hport hspec
        rw [exec_mcRead, execMcRead]
        refine State.act_goesOn hready (hframe.trans ((State.mcPerform_read hcmd).trans ?_))
        rw [State.mcRead_word hsize ha halign hwindow hport hspec]
      case write =>
        intro a v c u hcmd hsize ha halign hwindow hv hpass heffect
        rw [exec_mcWrite, execMcWrite]
        refine State.act_goesOn hready (hframe.trans ((State.mcPerform_write hcmd).trans ?_))
        rw [State.mcWrite_word hsize ha halign hwindow hv hpass heffect]
  case response =>
    intro code data
    have hbody := State.length_mcBody (s := s) (f := f) code data
    refine ⟨_, State.mcRespond_eq code data, ?_, rfl, ?_⟩
    · rw [List.length_append, hbody, length_natBytes]
      omega
    · rw [List.drop_left' hbody, List.take_left' hbody]

end Sys2Proof.Machine
end

section
/-! PROOFS. The windows, slots and commits of the bandwidth chart (O39). -/

namespace Sys2Proof.Machine

section
variable {s : State}

theorem State.bwrSlot_next {k : Nat} {b : Bwr} (hslot : s.bwr.slot < 63) (hk : k = s.bwr.slot + 1)
    (hb : b = if k = 48 then { s.bwr with pool := s.bwr.pool + s.bwr.credit.sum, credit := List.replicate 16 0 } else s.bwr) :
    s.bwrSlot = { s with
      chron := max s.chron (s.bwr.start + k * s.bwr.act.window / 64)
      bwr := Bwr.giveSlot { b with slot := k } k }.pass State.hostCfg fun w => w.cls == some 15 := by
  subst hk hb
  exact if_neg (by omega)

section
variable {set : BwrSet} {f : Nat × Nat × BitVec 4} {need : Nat}
  (hset : set = s.bwrShadow) (hf : f = s.figures set) (hneed : need = f.2.1 + set.min.sum)
include hset hf hneed

theorem State.bwrCommitGo_fits (h : need ≤ f.1) :
    s.bwrCommitGo = { s with bwr := { s.bwr with need := need, have_ := f.1, pend := some set } } := by
  simp only [State.bwrCommitGo, ← hset, ← hf, ← hneed, if_pos h]

theorem State.bwrCommitGo_exceeds (h : f.1 < need) :
    s.bwrCommitGo = { s with bwr := { s.bwr with need := need, have_ := f.1 } }.event 0x060300 2 := by
  simp only [State.bwrCommitGo, ← hset, ← hf, ← hneed, if_neg (Nat.not_le.mpr h)]

end

theorem State.effect_bwrCommit {w : Word} (h : bit w 0 = true) : s.effect 0x06000C w = (.ok, s.bwrCommitGo) := by
  rw [show s.effect 0x06000C w = (.ok, if bit w 0 then s.bwrCommitGo else s) from rfl, h, if_pos rfl]

theorem State.effect_chartCommit {w : Word} (h : bit w 0 = true) : s.effect 0x060010 w = (.ok, s.chartCommitGo) := by
  rw [show s.effect 0x060010 w = (.ok, if bit w 0 then s.chartCommitGo else s) from rfl, h, if_pos rfl]

theorem State.bwrCommit_answers {p : Path} {u : State} (hpass : s.passes p 0x06000C 1 = true) (h : s.bwrCommitGo = u) :
    exec (.bwrCommit p) s = s.answers p .ok u := by
  have hgo : bit (s.newWord 0x06000C 1) 0 = true := (State.bit_newWord (m := 0x1) (by decide) (by decide)).trans (by decide)
  rw [exec_bwrCommit, execBwrCommit]
  exact State.act_writeReg hpass (h ▸ State.effect_bwrCommit hgo)

end

/-- Settles O39: a boundary and a slot give credit and try the waiting requests of class 15 first, and a commit is held
against the deliverable figure. -/
theorem bandwidthCommands : Obligations.BandwidthCommands := by
  unfold Obligations.BandwidthCommands
  intro s p
  refine ⟨fun hready => ?window, fun k b hready hslot hk hb => ?slot,
    fun set f need hpass hset hf hneed => ⟨fun h => ?fits, fun h => ?exceeds⟩, fun hpass => ?chart⟩
  case window =>
    rw [exec_bwrWindow, execBwrWindow]
    exact State.act_goesOn hready rfl
  case slot =>
    rw [exec_bwrSlot, execBwrSlot]
    exact State.act_goesOn hready (State.bwrSlot_next hslot hk hb)
  case fits => exact State.bwrCommit_answers hpass (State.bwrCommitGo_fits hset hf hneed h)
  case exceeds => exact State.bwrCommit_answers hpass (State.bwrCommitGo_exceeds hset hf hneed h)
  case chart =>
    have hgo : bit (s.newWord 0x060010 1) 0 = true := (State.bit_newWord (m := 0x1) (by decide) (by decide)).trans (by decide)
    rw [exec_bwrChartCommit, execBwrChartCommit]
    exact State.act_writeReg hpass (State.effect_chartCommit hgo)

end Sys2Proof.Machine
end

section
/-! PROOFS. Firmware's ECC commands with their marks and sparings, the sparing copy, the heal table and Sounding (O38). -/

namespace Sys2Proof.Machine

/-! ### The word of a command (R290) -/

/-- GO and OP lie outside the fields a command takes from its word. -/
theorem eccWord_fields : bit 0x80000000 31 = true ∧ ∀ i < 3, bit 0x0FBFE00F (28 + i) = false ∧ bit 0x80000000 (28 + i) = false := by
  decide

theorem eccWord_go (op : Nat) (v : Word) : bit (eccWord op v) 31 = true := by
  have h := eccWord_fields.1
  rw [bit] at h
  rw [eccWord, bit, BitVec.getLsbD_or, h, Bool.or_true]

theorem eccWord_op {op : Nat} (hop : op < 8) (v : Word) : field (eccWord op v) 28 3 = op := by
  have hfield : field (eccWord op v) 28 3 = field (BitVec.ofNat 32 (op * 2 ^ 28)) 28 3 := by
    refine field_eq_of_bits fun i hi => ?_
    obtain ⟨hargs, hgo⟩ := eccWord_fields.2 i hi
    rw [bit] at hargs hgo
    rw [eccWord, bit, bit, BitVec.getLsbD_or, BitVec.getLsbD_or, BitVec.getLsbD_and, hargs, hgo, Bool.and_false, Bool.false_or,
      Bool.or_false]
  rw [hfield, field, bitsOf, BitVec.toNat_ofNat, Nat.shiftRight_eq_div_pow]
  omega

section
variable {s u : State} {p : Path} {v w : Word}

theorem State.eccCmd_eccWord {op : Nat} (hop : op < 8) :
    bit (s.newWord 0x090010 (eccWord op v)) 31 = true ∧ field (s.newWord 0x090010 (eccWord op v)) 28 3 = op :=
  ⟨(State.bit_newWord (m := 0xFFBFE00F) (by decide) (by decide)).trans (eccWord_go op v),
    (State.field_newWord (m := 0xFFBFE00F) (by decide) (by decide)).trans (eccWord_op hop v)⟩

theorem State.effect_eccCmd (w : Word) : s.effect 0x090010 w = (.ok, s.eccCmd w) := rfl

theorem State.eccOp_answers {op : Nat} (hop : op < 8) (hpass : s.passes p 0x090010 (eccWord op v) = true)
    (h : s.eccCmd (s.newWord 0x090010 (eccWord op v)) = u) : s.act (fun t => t.eccOp p op v) = s.answers p .ok u := by
  have hword : (v &&& 0x0FBFE00F) ||| at_ op 28 3 ||| 0x80000000 = eccWord op v := by
    rw [at_, Nat.mod_eq_of_lt (show op < 2 ^ 3 from hop), Nat.shiftLeft_eq, eccWord]
  rw [show (fun t : State => t.eccOp p op v) = fun t => t.writeReg p 0x090010 (eccWord op v) from
    funext fun t => by rw [State.eccOp, hword]]
  exact State.act_writeReg hpass (h ▸ State.effect_eccCmd _)

section
variable (hidle : s.ecc.cmdBusy = false) (hgo : bit w 31 = true)
include hidle hgo

theorem State.eccCmd_retireRow (h : field w 28 3 = 1) : s.eccCmd w = s.cmdRetireRow w := by
  simp only [State.eccCmd, hidle, hgo, h]
  rfl

theorem State.eccCmd_markDev (h : field w 28 3 = 2) : s.eccCmd w = s.cmdMarkDev w := by
  simp only [State.eccCmd, hidle, hgo, h]
  rfl

theorem State.eccCmd_spareBank (h : field w 28 3 = 3) : s.eccCmd w = s.cmdSpareBank w := by
  simp only [State.eccCmd, hidle, hgo, h]
  rfl

theorem State.eccCmd_spareRank (h : field w 28 3 = 4) : s.eccCmd w = s.cmdSpareRank w := by
  simp only [State.eccCmd, hidle, hgo, h]
  rfl

theorem State.eccCmd_retirePe (h : field w 28 3 = 5) : s.eccCmd w = s.cmdRetirePe := by
  simp only [State.eccCmd, hidle, hgo, h]
  rfl

end

/-! ### Rows (R282, R283) -/

section
variable {row : Loc} (hrest : ∀ m ∈ s.ecc.moves, m.row ≠ row)
include hrest

theorem State.moves_any_row : (s.ecc.moves.any fun m => m.row == row) = false :=
  List.any_eq_false.mpr fun m hm h => hrest m hm (beq_iff_eq.mp h)

/-- With the pool full the row is repaired in place, if sPPR has not repaired it before. -/
theorem State.remapRow_full {t : State} (hfull : s.freePool = none)
    (ht : t = (s.logE 0x0907 0x6009 0 (infoLoc row)).event 0x090300 4) :
    s.remapRow row 0 true = (.full (!(t.spprRow row).1), (t.spprRow row).2) := by
  rw [State.remapRow, State.moves_any_row hrest, hfull, ht]
  rfl

end

theorem State.spprRow_new {row : Loc} (h : s.sgt.sppr.contains row = false) : s.spprRow row =
    (true, { s with sgt := { s.sgt with sppr := s.sgt.sppr ++ [row] } }.dirtyMirror) := by
  rw [State.spprRow, h]
  rfl

theorem State.spprRow_again {row : Loc} (h : s.sgt.sppr.contains row = true) : s.spprRow row = (false, s) := by
  rw [State.spprRow, h, if_pos rfl]

section
variable {l : Loc} (hl : l = s.cmdLoc w)
include hl

theorem State.cmdRetireRow_unfit (h : s.rowFits l = false) : s.cmdRetireRow w = s.cmdResult 1 := by
  simp only [State.cmdRetireRow, ← hl, h]
  rfl

section
variable (hfits : s.rowFits l = true)
include hfits

theorem State.cmdRetireRow_under (h : ∃ m ∈ s.ecc.moves, m.row = rowKey l) : s.cmdRetireRow w = s.cmdResult 1 := by
  have hany : (s.ecc.moves.any fun m => m.row == rowKey l) = true := by
    obtain ⟨m, hm, hrow⟩ := h
    exact List.any_eq_true.mpr ⟨m, hm, beq_iff_eq.mpr hrow⟩
  simp only [State.cmdRetireRow, ← hl, hfits, State.retireRow, State.remapRow, hany]
  rfl

section
variable (hrest : ∀ m ∈ s.ecc.moves, m.row ≠ rowKey l)
include hrest

theorem State.cmdRetireRow_begins {k : Nat} (h : s.freePool = some k) : s.cmdRetireRow w = { s with ecc := { s.ecc with
    moves := s.ecc.moves ++ [{ row := rowKey l, slot := k, addr := 0, byCmd := true, todo := s.rowTier (rowKey l) }]
    cmdBusy := true, cmdRes := 0 } } := by
  simp only [State.cmdRetireRow, ← hl, hfits, State.retireRow, State.remapRow, State.moves_any_row hrest, h]
  rfl

section
variable {t : State} (hfull : s.freePool = none) (ht : t = (s.logE 0x0907 0x6009 0 (infoLoc (rowKey l))).event 0x090300 4)
include hfull ht

theorem State.cmdRetireRow_repairs (h : t.sgt.sppr.contains (rowKey l) = false) : s.cmdRetireRow w =
    ({ t with sgt := { t.sgt with sppr := t.sgt.sppr ++ [rowKey l] } }.dirtyMirror).cmdResult 0 := by
  simp only [State.cmdRetireRow, ← hl, hfits, State.retireRow, State.remapRow_full hrest hfull ht, State.spprRow_new h]
  rfl

theorem State.cmdRetireRow_counts (h : t.sgt.sppr.contains (rowKey l) = true) :
    s.cmdRetireRow w = (t.countBank (rowKey l)).cmdResult 3 := by
  simp only [State.cmdRetireRow, ← hl, hfits, State.retireRow, State.remapRow_full hrest hfull ht, State.spprRow_again h]
  rfl

end
end
end

/-! ### Marks, banks, ranks and engines (R270, R284, R286) -/

theorem State.cmdMarkDev_marks (h : s.canMark l.sub l.cs (field w 0 4) = true) :
    s.cmdMarkDev w = (s.markDevice l.sub l.cs (field w 0 4)).cmdResult 0 := by
  subst hl
  exact if_pos h

theorem State.cmdMarkDev_refused (h : s.canMark l.sub l.cs (field w 0 4) = false) : s.cmdMarkDev w = s.cmdResult 1 := by
  subst hl
  exact if_neg (Bool.eq_false_iff.mp h)

theorem State.cmdSpareBank_spares (hfits : s.cmdFits l = true) (h : s.bankTaken (l.sub.val / 2) l.rank (bankNo l) = false) :
    s.cmdSpareBank w = State.cmdStarted (s.spareBank (l.sub.val / 2) l.rank (bankNo l) true) s.ecc.migrations.length := by
  simp only [State.cmdSpareBank, ← hl, hfits, h]
  rfl

theorem State.cmdSpareBank_taken (h : s.bankTaken (l.sub.val / 2) l.rank (bankNo l) = true) : s.cmdSpareBank w = s.cmdResult 1 := by
  simp only [State.cmdSpareBank, ← hl, h, Bool.or_true, if_true]

theorem State.cmdSpareRank_spares (hfits : s.cmdFits l = true)
    (h : (agetD s.ecc.rankFail (2 * (l.sub.val / 2)) 0).testBit l.rank = false) :
    s.cmdSpareRank w = State.cmdStarted (s.spareRank (l.sub.val / 2) l.rank true) s.ecc.migrations.length := by
  simp only [State.cmdSpareRank, ← hl, hfits, h]
  rfl

theorem State.cmdSpareRank_unfit (h : s.cmdFits l = false) : s.cmdSpareRank w = s.cmdResult 1 := by
  simp only [State.cmdSpareRank, ← hl, h, Bool.not_false, Bool.true_or, if_true]

end

section
variable {n : Nat} (hn : n = field (s.reg 0x090014) 24 6)
include hn

theorem State.cmdRetirePe_none (h : 32 ≤ n) : s.cmdRetirePe = s.cmdResult 1 := by
  simp only [State.cmdRetirePe, State.fld, ← hn, decide_eq_true h, Bool.true_or, if_true]

theorem State.cmdRetirePe_fails {e : EngineNo} (he : n = e.val) (hstate : (s.engine n).state ≠ .failed) :
    s.cmdRetirePe = (s.failEngine e).cmdResult (if (s.spareEngine e).isNone then 2 else 0) := by
  have hsmall : ¬ 32 ≤ n := by have := e.isLt; omega
  have hsame : Fin.ofNat 32 n = e := by rw [he]; exact Fin.ext (Nat.mod_eq_of_lt e.isLt)
  simp only [State.cmdRetirePe, State.fld, ← hn, decide_eq_false hsmall, beq_eq_false_iff_ne.mpr hstate, Bool.or_false, hsame,
    Bool.false_eq_true, if_false]

end

theorem State.effect_mark (c : Sub) : s.effect (0x090100 + 4 * c.val) w = (.ok, s.markWrite c.val w) := by
  have hc := c.isLt
  have hpage : (0x090100 + 4 * c.val) / 0x10000 = 9 := by omega
  have hcmd : ¬ 0x090100 + 4 * c.val = 0x090010 := by omega
  have hrange : 0x090100 ≤ 0x090100 + 4 * c.val ∧ 0x090100 + 4 * c.val < 0x090180 := by omega
  have hindex : (0x090100 + 4 * c.val - 0x090100) / 4 = c.val := by omega
  simp only [State.effect, hpage, if_neg hcmd, if_pos hrange, hindex]

/-! ### The sparing copy (R284) -/

section
variable {ch : Fin 16} {g : Migration} {t : State} (hserves : s.cfg.mode.serves = true)
  (hmigrates : s.ecc.migrations.find? (fun g => g.ch.val == ch.val) = some g) (hfree : aget s.ecc.copying ch.val = none)
  (hgrant : (s.grantOf (.internal .snd) 0).isSome = true)
  (ht : t = { s with chron := max s.chron (agetD s.ecc.copiedAt ch.val 0 + s.copyNs) })
include hserves hmigrates hfree hgrant ht

theorem State.spareCopy_held (h : ∃ x ∈ t.copyLines g, t.rowHeld x.1 = true ∨ t.copyRuns x.1 = true) :
    s.spareCopy ch.val = s := by
  have hcopier : s.copier = (true, s) := if_pos hgrant
  have huntil : s.until_ (agetD s.ecc.copiedAt ch.val 0 + s.copyNs) = t := ht.symm
  have hany : ((t.copyLines g).any fun x => t.rowHeld x.1 || t.copyRuns x.1) = true := by
    obtain ⟨x, hx, hheld⟩ := h
    exact List.any_eq_true.mpr ⟨x, hx, Bool.or_eq_true_iff.mpr hheld⟩
  simp only [State.spareCopy, hmigrates, hfree, hserves, hcopier, huntil, hany]
  rfl

theorem State.spareCopy_full (h : t.askAll (t.copyLines g) = none) : s.spareCopy ch.val = s := by
  have hcopier : s.copier = (true, s) := if_pos hgrant
  have huntil : s.until_ (agetD s.ecc.copiedAt ch.val 0 + s.copyNs) = t := ht.symm
  simp only [State.spareCopy, hmigrates, hfree, hserves, hcopier, huntil, h, ite_self]

theorem State.spareCopy_copies {u : State} (hfits : ∀ x ∈ t.copyLines g, t.rowHeld x.1 = false ∧ t.copyRuns x.1 = false)
    (h : t.askAll (t.copyLines g) = some u) : s.spareCopy ch.val = { u with
      ecc := { u.ecc with
        copiedAt := aput u.ecc.copiedAt ch.val t.chron
        copying := aput u.ecc.copying ch.val ((t.copyLines g).map (·.1)) }
      atu := { u.atu with locks := u.atu.locks ++ (t.copyLines g).map (·.1) } } := by
  have hcopier : s.copier = (true, s) := if_pos hgrant
  have huntil : s.until_ (agetD s.ecc.copiedAt ch.val 0 + s.copyNs) = t := ht.symm
  have hany : ((t.copyLines g).any fun x => t.rowHeld x.1 || t.copyRuns x.1) = false :=
    List.any_eq_false.mpr fun x hx hor => by
      rw [(hfits x hx).1, (hfits x hx).2] at hor
      exact Bool.false_ne_true hor
  simp only [State.spareCopy, hmigrates, hfree, hserves, hcopier, huntil, hany, h]
  rfl

end

/-! ### The heal table (R277) -/

section
variable {leaf : Nat} {h : Heal} (hheal : s.healOf leaf = some h)
include hheal

theorem State.healTimeout_fails : s.healTimeout leaf =
    { s with chron := max s.chron (h.since + max 1 (field (s.reg 0x090008) 0 16) * 1000000) }.healFails leaf := by
  rw [State.healTimeout, hheal, ← orOne_eq_max]
  rfl

theorem State.healFetch_fetches {id : Nat} (hnew : h.fetched = false) (hreached : h.wpl ≤ s.plg.wpt)
    (hstep : s.twinInStep (reachOfLeaf leaf) = true) (hid : id = s.twn.nextFetch % 4096) : s.healFetch leaf =
    ({ s with
        ecc := { s.ecc with heals := s.ecc.heals.map fun (x : Heal) => if x.leaf = leaf then { x with fetched := true } else x }
        twn := { s.twn with fetches := aput s.twn.fetches id leaf, nextFetch := (id + 1) % 4096 } }).ctrlPush
      (ctrlFrame 7 0 0 (BitVec.ofNat 64 leaf) (BitVec.ofNat 32 id) []) := by
  have hword : at_ id 0 12 = BitVec.ofNat 32 id := by
    rw [at_, Nat.shiftLeft_zero, Nat.mod_eq_of_lt (by omega)]
  have hheals : mapIf s.ecc.heals (fun x => x.leaf == leaf) (fun x => { x with fetched := true }) =
      s.ecc.heals.map fun x => if x.leaf = leaf then { x with fetched := true } else x := by
    simp only [mapIf, beq_iff_eq]
  have hwait : ¬ s.plg.wpt < h.wpl := by omega
  simp only [State.healFetch, hheal, hnew, hwait, hstep, ← hid, hword, State.updEcc, State.updTwn, hheals, Bool.false_eq_true,
    decide_false, Bool.or_false, Bool.not_true, if_false]

end

/-! ### Sounding (R278–R280, R385) -/

section
variable {t : State} (ht : t = { s with chron := max s.chron (s.ecc.passStart + s.sndPeriod) })
include ht

theorem State.passBegins_on (hon : bit (t.reg 0x0A0000) 31 = true) (hdone : ∀ c ∈ t.sndSubs, (t.sndLines c : Int) ≤ t.sndAt c) :
    s.passBegins = t.updEcc fun e => { e with
      passStart := t.chron, sndCfg := t.reg 0x0A0000, rowCe := [], posCount := []
      sndPos := t.sndSubs.foldl (fun l c => aput l c (t.sndAt c - t.sndLines c)) e.sndPos } := by
  have hlate : (t.sndSubs.filter fun c => decide (t.sndAt c < t.sndLines c)) = [] :=
    List.filter_eq_nil_iff.mpr fun c hc h => absurd (of_decide_eq_true h) (Int.not_lt.mpr (hdone c hc))
  have hflag : t.flag 0x0A0000 31 = true := hon
  have huntil : s.until_ (s.ecc.passStart + s.sndPeriod) = t := ht.symm
  simp only [State.passBegins, huntil, hflag, if_true, hlate, List.foldl_nil]

theorem State.passBegins_off (hoff : bit (t.reg 0x0A0000) 31 = false) : s.passBegins = t.updEcc fun e => { e with
    passStart := t.chron, sndCfg := t.reg 0x0A0000, rowCe := [], posCount := []
    sndPos := t.sndSubs.foldl (fun l c => aput l c 0) e.sndPos } := by
  have hflag : t.flag 0x0A0000 31 = false := hoff
  have huntil : s.until_ (s.ecc.passStart + s.sndPeriod) = t := ht.symm
  simp only [State.passBegins, huntil, hflag, Bool.false_eq_true, if_false, List.foldl_nil]

end

@[simp] theorem State.noteDue_probe (c : Nat) : (s.noteDue c).ecc.probe = s.ecc.probe := by
  unfold State.noteDue
  split_ifs <;> simp

section
variable {c : Sub} (hserves : s.cfg.mode.serves = true) (hoffer : (s.sub c.val).offer = none)
include hserves

theorem State.soundingRead_walks {t : State} (hprobe : s.ecc.probe = none) (hon : bit (s.reg 0x0A0000) 31 = true)
    (ht : t = s.noteDue c.val) (hfree : (t.sub c.val).offer = none) :
    s.soundingRead c = t.soundStep c.val (t.ecc.sndDue.contains c.val) := by
  have hflag : s.flag 0x0A0000 31 = true := hon
  have hprobe' : t.ecc.probe = none := by rw [ht, State.noteDue_probe, hprobe]
  simp only [State.soundingRead, hserves, hflag, Bool.not_true, Bool.false_eq_true, if_false, if_true, ← ht, hfree, hprobe', Bool.true_and]

include hoffer

theorem State.soundingRead_probes {line : Nat} (hprobe : s.ecc.probe = some line) (hoff : bit (s.reg 0x0A0000) 31 = false)
    (hsub : s.subOf line = c) : s.soundingRead c = s.soundProbe c.val line := by
  have hflag : s.flag 0x0A0000 31 = false := hoff
  simp only [State.soundingRead, hserves, hflag, Bool.not_true, Bool.false_eq_true, if_false, hoffer, hprobe, hsub, if_true]

end

section
variable {c line : Nat}

theorem State.soundProbe_skips (h : s.deadLine line = true ∨ s.leafState (leafOfLine line) ≠ 0) :
    s.soundProbe c line = { s with ecc := { s.ecc with probe := none } }.probeResult 4 := by
  have hskip : (s.deadLine line || s.leafState (leafOfLine line) != 0) = true := by
    rw [Bool.or_eq_true, bne_iff_ne]
    exact h
  rw [State.soundProbe, hskip]
  rfl

theorem State.soundProbe_offers {t : State} (ht : t = { s with ecc := { s.ecc with probe := none } })
    (hlive : s.deadLine line = false) (hpresent : s.leafState (leafOfLine line) = 0) (hwrite : s.writeEntry line = none) :
    s.soundProbe c line = t.soundOffer c (t.soundEntry c (t.locOf line) line (.sounding true) false) := by
  rw [State.soundProbe, hlive, hpresent, hwrite, ht]
  rfl

end
end

/-- Settles O38: every ECC command with its result, the mark words, one step of the sparing copy, of the heal table and of
Sounding. That the copy reads through a Mover channel (log entry 77) and that a pass without EN restarts the positions at 0 (log
entry 39) are the model's choices. -/
theorem eccCommands : Obligations.EccCommands := by
  unfold Obligations.EccCommands
  intro s p
  refine ⟨fun v w l hpass hw hidle hl => ?retireRow, fun v w l hpass hw hidle hl => ?markDev,
    fun v w l hpass hw hidle hl => ?spareBank, fun v w l hpass hw hidle hl => ?spareRank, fun v n e hpass hidle hn => ?retirePe,
    fun c v hpass => ?marks, fun ch g t hready hserves hmigrates hfree hgrant ht => ?copy, fun leaf id h hready hheal => ?heal,
    fun t hready ht hon hdone => ?passOn, fun t hready ht hoff => ?passOff, fun c hready hserves hoffer => ?sounding⟩
  case retireRow =>
    obtain ⟨hgo, hop⟩ : bit w 31 = true ∧ field w 28 3 = 1 := hw ▸ State.eccCmd_eccWord (by decide)
    have answers : ∀ {u}, s.cmdRetireRow w = u → exec (.eccRetireRow p v) s = s.answers p .ok u := fun h => by
      rw [exec_eccRetireRow, execEccRetireRow]
      exact State.eccOp_answers (by decide) hpass (hw ▸ (State.eccCmd_retireRow hidle hgo hop).trans h)
    exact ⟨fun h => answers (State.cmdRetireRow_unfit hl h), fun hfits h => answers (State.cmdRetireRow_under hl hfits h),
      fun k hfits hrest h => answers (State.cmdRetireRow_begins hl hfits hrest h), fun t hfits hrest hfull ht =>
        ⟨fun h => answers (State.cmdRetireRow_repairs hl hfits hrest hfull ht h),
          fun h => answers (State.cmdRetireRow_counts hl hfits hrest hfull ht h)⟩⟩
  case markDev =>
    obtain ⟨hgo, hop⟩ : bit w 31 = true ∧ field w 28 3 = 2 := hw ▸ State.eccCmd_eccWord (by decide)
    have answers : ∀ {u}, s.cmdMarkDev w = u → exec (.eccMarkDev p v) s = s.answers p .ok u := fun h => by
      rw [exec_eccMarkDev, execEccMarkDev]
      exact State.eccOp_answers (by decide) hpass (hw ▸ (State.eccCmd_markDev hidle hgo hop).trans h)
    exact ⟨fun h => answers (State.cmdMarkDev_marks hl h), fun h => answers (State.cmdMarkDev_refused hl h)⟩
  case spareBank =>
    obtain ⟨hgo, hop⟩ : bit w 31 = true ∧ field w 28 3 = 3 := hw ▸ State.eccCmd_eccWord (by decide)
    have answers : ∀ {u}, s.cmdSpareBank w = u → exec (.eccSpareBank p v) s = s.answers p .ok u := fun h => by
      rw [exec_eccSpareBank, execEccSpareBank]
      exact State.eccOp_answers (by decide) hpass (hw ▸ (State.eccCmd_spareBank hidle hgo hop).trans h)
    exact ⟨fun hfits h => answers (State.cmdSpareBank_spares hl hfits h), fun h => answers (State.cmdSpareBank_taken hl h)⟩
  case spareRank =>
    obtain ⟨hgo, hop⟩ : bit w 31 = true ∧ field w 28 3 = 4 := hw ▸ State.eccCmd_eccWord (by decide)
    have answers : ∀ {u}, s.cmdSpareRank w = u → exec (.eccSpareRank p v) s = s.answers p .ok u := fun h => by
      rw [exec_eccSpareRank, execEccSpareRank]
      exact State.eccOp_answers (by decide) hpass (hw ▸ (State.eccCmd_spareRank hidle hgo hop).trans h)
    exact ⟨fun hfits h => answers (State.cmdSpareRank_spares hl hfits h), fun h => answers (State.cmdSpareRank_unfit hl h)⟩
  case retirePe =>
    obtain ⟨hgo, hop⟩ := State.eccCmd_eccWord (s := s) (v := v) (op := 5) (by decide)
    have answers : ∀ {u}, s.cmdRetirePe = u → exec (.eccRetirePe p v) s = s.answers p .ok u := fun h => by
      rw [exec_eccRetirePe, execEccRetirePe]
      exact State.eccOp_answers (by decide) hpass ((State.eccCmd_retirePe hidle hgo hop).trans h)
    exact ⟨fun h => answers (State.cmdRetirePe_none hn h), fun he hstate => answers (State.cmdRetirePe_fails hn he hstate)⟩
  case marks =>
    rw [exec_eccMarkWrite, execEccMarkWrite]
    exact State.act_writeReg hpass (State.effect_mark c)
  case copy =>
    have goes : ∀ {u}, s.spareCopy ch.val = u → exec (.spareCopy ch) s = s.goesOn u := fun h => by
      rw [exec_spareCopy, execSpareCopy]
      exact State.act_goesOn hready h
    exact ⟨fun u hfits h => goes (State.spareCopy_copies hserves hmigrates hfree hgrant ht hfits h),
      fun h => goes (State.spareCopy_held hserves hmigrates hfree hgrant ht h),
      fun h => goes (State.spareCopy_full hserves hmigrates hfree hgrant ht h)⟩
  case heal =>
    rw [exec_healTimeout, execHealTimeout, exec_wqHealFetch, execWqHealFetch]
    exact ⟨State.act_goesOn hready (State.healTimeout_fails hheal), fun hnew hreached hstep hid =>
      State.act_goesOn hready (State.healFetch_fetches hheal hnew hreached hstep hid)⟩
  case passOn =>
    rw [exec_soundingPassStart, execSoundingPassStart]
    exact State.act_goesOn hready (State.passBegins_on ht hon hdone)
  case passOff =>
    rw [exec_soundingPassStart, execSoundingPassStart]
    exact State.act_goesOn hready (State.passBegins_off ht hoff)
  case sounding =>
    rw [exec_soundingRead, execSoundingRead]
    refine ⟨fun t hprobe hon ht hfree => State.act_goesOn hready (State.soundingRead_walks hserves hprobe hon ht hfree),
      fun line t hprobe hoff hsub ht => ?_⟩
    have hread := State.soundingRead_probes hserves hoffer hprobe hoff hsub
    exact ⟨fun h => State.act_goesOn hready (hread.trans (ht ▸ State.soundProbe_skips h)),
      fun hlive hpresent hwrite => State.act_goesOn hready (hread.trans (State.soundProbe_offers ht hlive hpresent hwrite))⟩

end Sys2Proof.Machine
end

section
/-! PROOFS. The deep tier (O40): the fills and slots, the seals and the publication, and the commands of the deep port. -/

namespace Sys2Proof.Machine

section
variable {s t u : State}

/-! ### Fills (R316, R317, R320–R322) -/

section
variable {f : Fill} {r : List Fill} {k : Nat} (hrun : s.fillsRun = true) (hroom : s.dti.inFlight.length < s.fillMax)
  (horder : s.fillOrder = f :: r) (htake : s.takeSlot f.seg = (some k, t))
include hrun hroom horder htake

theorem State.fillIssue_starts {x : Level} (h : t.admitAs (.fill f.seg f.sub) t.fillClass 64 = (some x, u)) :
    s.fillIssue = u.startFill f k := by
  simp only [State.fillIssue, hrun, decide_eq_true hroom, Bool.and_self, if_true, horder, State.issueFrom, htake, h, Option.isSome_some]

theorem State.fillIssue_held (h : t.admitAs (.fill f.seg f.sub) t.fillClass 64 = (none, u)) : s.fillIssue = u := by
  simp only [State.fillIssue, hrun, decide_eq_true hroom, Bool.and_self, if_true, horder, State.issueFrom, htake, h,
    Option.isSome_none, Bool.false_eq_true, if_false]

end

theorem State.slotEvict_frees {k : Nat} {v : Slot} (hslot : aget s.dti.slots k = some v) (hevict : s.evicting k v = true)
    (hreaders : v.readers = 0) : s.slotEvict k = { s with dti := { s.dti with slots := adel s.dti.slots k } }.fillIssue := by
  rw [State.slotEvict, hslot]
  simp only [hevict, hreaders, beq_self_eq_true, Bool.and_self, if_true]
  rfl

section
variable {g k : Nat} {f : Fill} {data : List Byte} {side : BitVec 256} (hk : k < 512) (hfill : s.dti.fill g k = some f)
include hk hfill

theorem State.fillComplete_lands {plain : List Byte} (harrived : f.arrived = some (true, data, side)) (hslot : (s.seg g).slot ≠ 0)
    (hopen : s.openSub g k data side = some plain) (hfirst : f.refetch = false) : s.fillComplete (g * 512 + k) =
    ((((List.range 64).foldl (fun t i =>
      t.stageWrite (t.map.act.stageLine ((s.seg g).slot - 1) k i) (lineOf plain i) false) (s.cphJob 4 (segIndex g k))).updDti
        fun d => { d with
          fills := mapIf d.fills (fun x => x.isFor g k) fun x => { x with arrived := none, staged := true } }).landFills).count 9 0 0 1 := by
  have hg : (g * 512 + k) / 512 = g := by omega
  have hsub : (g * 512 + k) % 512 = k := by omega
  simp only [State.fillComplete, hg, hsub, hfill, harrived, bne_iff_ne.mpr hslot, Bool.and_self, if_true, hopen, hfirst,
    Bool.false_eq_true, if_false, Bool.not_false]

section
variable (harrived : f.arrived = some (false, data, side))
include harrived

/-- A unit that came back bad fails its fill, once there is room for the change of the segment's entry. -/
theorem State.fillComplete_bad (hroom : (f.refetch && !s.dirtyRoom (s.map.act.segUnit g)) = false) :
    s.fillComplete (g * 512 + k) = s.fillFails f := by
  have hg : (g * 512 + k) / 512 = g := by omega
  have hsub : (g * 512 + k) % 512 = k := by omega
  simp only [State.fillComplete, hg, hsub, hfill, harrived, hroom, Bool.false_and, Bool.false_eq_true, if_false]

theorem State.fillComplete_refetches (hfirst : f.refetch = false) : s.fillComplete (g * 512 + k) =
    (s.updDti fun d => { d with
      fills := mapIf d.fills (fun x => x.isFor f.seg f.sub) fun x => { x with refetch := true, arrived := none } }).dpPush
        { op := 0, tgt := true, unit := s.subUnit f.seg f.sub, owner := .fill f.seg f.sub (s.seg f.seg).gen, level := 1 } := by
  rw [State.fillComplete_bad hk hfill harrived (by rw [hfirst, Bool.false_and]), State.fillFails, hfirst]
  rfl

theorem State.fillComplete_loses (hagain : f.refetch = true) (hroom : s.dirtyRoom (s.map.act.segUnit g) = true) :
    s.fillComplete (g * 512 + k) = s.loseSegment f.seg f.sub := by
  rw [State.fillComplete_bad hk hfill harrived (by rw [hroom, Bool.not_true, Bool.and_false]), State.fillFails, hagain]
  rfl

end
end

/-! ### Seals and publication (R327, R329) -/

section
variable {g : Nat} {l : Seal} (hseal : s.dti.seals.find? (fun l => l.seg == g) = some l) (hwritten : l.writesLeft = 0)
include hseal hwritten

theorem State.sealFlush_flushes (h : l.flushLeft = 3) : s.sealFlush g = (({ s with dti := { s.dti with
    seals := s.dti.seals.map fun (x : Seal) => if x.seg = g then { x with flushLeft := 2 } else x } }).dpPush
      { op := 2, tgt := false, unit := 0, owner := .sealFlush g (s.seg g).gen, level := 4 }).dpPush
      { op := 2, tgt := true, unit := 0, owner := .sealFlush g (s.seg g).gen, level := 4 } := by
  simp only [State.sealFlush, hseal, hwritten, h, decide_true, beq_self_eq_true, Bool.and_self, if_true, State.updDti, mapIf,
    beq_iff_eq]

theorem State.sealDone_seals (h : l.flushLeft = 0) (hroom : s.dirtyRoom (s.map.act.segUnit g) = true) : s.sealDone g =
    ((s.changeSeg g { s.seg g with state := 1, reseal := false, stamp := s.chron }).sealEnds l 0 0).refillWaiters g := by
  simp only [State.sealDone, hseal, hwritten, h, hroom, decide_true, beq_self_eq_true, Bool.and_self, if_true]

end

section
variable {g : Nat} {gen : Word} (hg : g = field (s.reg 0x0E0030) 0 31)
include hg

theorem State.pubGo_beyond (h : s.map.act.t1Segs ≤ g) :
    s.pubGo = ({ s with dti := { s.dti with pubRes := true } }.event 0x0E0300 8) := by
  simp only [State.pubGo, State.fld, ← hg, decide_eq_false (Nat.not_lt.mpr h), Bool.false_and, Bool.false_eq_true, if_false]
  rfl

theorem State.pubGo_publishes (hgen : gen = s.reg 0x0E0034) (hin : g < s.map.act.t1Segs) (hstate : (s.seg g).stateOf ≠ 3)
    (hlater : serialLater gen (s.seg g).gen = true) (hzero : s.vlt.zeroFill = false) : s.pubGo =
    (((((s.noteSeg g).discardFills g).evictSeg g).changeSeg g
      { state := 1, reseal := false, slot := 0, gen := gen, stamp := s.chron, ok := true }).updDti fun d =>
        { d with pubRes := false }).refillWaiters g := by
  simp only [State.pubGo, State.fld, ← hg, ← hgen, decide_eq_true hin, bne_iff_ne.mpr hstate, hlater, hzero, Bool.not_false,
    Bool.and_self, if_true]

end

theorem State.effect_pubGo {w : Word} (h : bit w 0 = true) : s.effect 0x0E0038 w = (.ok, s.pubGo) := by
  rw [show s.effect 0x0E0038 w = (.ok, if bit w 0 then s.pubGo else s) from rfl, h, if_pos rfl]

theorem State.effect_portReset {w : Word} (h : bit w 0 = true) : s.effect 0x0E0040 w = (.ok, s.dpReset) := by
  rw [show s.effect 0x0E0040 w = (.ok, if bit w 0 then s.dpReset else s) from rfl, h, if_pos rfl]

theorem State.dtiPubGo_answers {p : Path} (hpass : s.passes p 0x0E0038 1 = true) (h : s.pubGo = u) :
    exec (.dtiPubGo p) s = s.answers p .ok u := by
  have hgo : bit (s.newWord 0x0E0038 1) 0 = true := (State.bit_newWord (m := 0x1) (by decide) (by decide)).trans (by decide)
  rw [exec_dtiPubGo, execDtiPubGo]
  exact State.act_writeReg hpass (h ▸ State.effect_pubGo hgo)

/-! ### The deep port (R331–R333) -/

theorem State.dpIssue_issues {c : DpCmd} {id : BitVec 12} (hnext : s.nextCommand = some c) (hid : s.dti.freeId = some id)
    (hup : s.dti.down = false) (hbare : s.bareSave = false) (hdone : s.cfg.saveDonePin = false) :
    s.dpIssue = (s.qOut .dtiCmd).updDti fun d => { d with
      rstream := if c.op = 0 then dropFirst d.rstream (· == c) else d.rstream
      wstream := if c.op = 0 then d.wstream else dropFirst d.wstream (· == c)
      lastWrite := c.op != 0
      out := d.out ++ [{ id := id, cmd := c, since := s.chron }] } := by
  simp only [State.dpIssue, hnext, hid, hup, hbare, hdone, Bool.or_self, Bool.false_eq_true, if_false]

theorem State.dpBeat_eq (id : BitVec 12) (beat : BitVec 6) (data : Line) : s.dpBeat id beat data = s.updDti fun d => { d with
    out := d.out.map fun (o : DpOut) =>
      if o.id = id ∧ o.cmd.op = 0 ∧ o.beats.length = beat.toNat then { o with beats := o.beats ++ [data] } else o } := by
  simp only [State.dpBeat, mapIf, Bool.and_eq_true, beq_iff_eq, and_assoc]

section
variable {id : BitVec 12} {stat : BitVec 3} {sb : BitVec 256}

theorem State.dpComplete_quarantined (h : s.dti.quarantine.contains id = true) :
    s.dpComplete id stat sb = s.updDti fun d => { d with quarantine := d.quarantine.filter (· != id) } := if_pos h

section
variable {o : DpOut} (hout : s.dti.out.find? (fun o => o.id == id) = some o)
include hout

section
variable (hquarantine : s.dti.quarantine.contains id = false)
  (ht : t = (s.updDti fun d => { d with out := d.out.filter fun x => x.id != id }).noteRead o)
include hquarantine ht

theorem State.dpComplete_ok (h : stat = 0) : s.dpComplete id stat sb = t.dpDeliver o.cmd 0 (o.beats.flatMap lineBytes) sb := by
  simp only [State.dpComplete, hquarantine, Bool.false_eq_true, if_false, hout, h, if_true, ht]

theorem State.dpComplete_fails (h : stat ≠ 0) : s.dpComplete id stat sb = t.dpFails o.cmd stat.toNat := by
  simp only [State.dpComplete, hquarantine, Bool.false_eq_true, if_false, hout, h, ht]

end

theorem State.dpTimeout_quarantines (ht : t = { s with chron := max s.chron (o.since + s.dpLimit o.cmd) }.updDti fun d => { d with
      out := d.out.filter fun x => x.id != id, quarantine := d.quarantine ++ [id] }) : s.dpTimeout id =
    ((((t.logE 0x0E05 0x600E o.cmd.unit.toNat ((if o.cmd.tgt then 1 else 0) + o.cmd.op.toNat * 16 + id.toNat * 256)).event
      0x0E0300 2).checkDown).dpFails o.cmd 3).failQueued := by
  rw [State.dpTimeout, hout, ht]
  rfl

end
end
end

/-- Settles O40: a fill that starts, waits, lands or fails, a slot that is freed, a seal's flushes and its end, a publication,
and what the deep port issues, hears and gives up. -/
theorem deepTierCommands : Obligations.DeepTierCommands := by
  unfold Obligations.DeepTierCommands
  intro s p hready
  refine ⟨fun f r k t u hrun hroom horder htake => ?issue, fun k v hslot hevict hreaders => ?evict,
    fun g k f data side hk hfill => ?complete, fun g l hseal hwritten => ?sealing, fun g gen hpass hg hgen => ?publish,
    fun c id hnext hid hup hbare hdone => ?command, fun id beat data => ?beat, fun id stat sb => ?completion, fun hpass => ?reset⟩
  case issue =>
    rw [exec_fillIssue, execFillIssue]
    exact ⟨fun x h => State.act_goesOn hready (State.fillIssue_starts hrun hroom horder htake h),
      fun h => State.act_goesOn hready (State.fillIssue_held hrun hroom horder htake h)⟩
  case evict =>
    rw [exec_slotEvict, execSlotEvict]
    exact State.act_goesOn hready (State.slotEvict_frees hslot hevict hreaders)
  case complete =>
    rw [exec_fillComplete, execFillComplete]
    exact ⟨fun plain harrived hslot hopen hfirst =>
        State.act_goesOn hready (State.fillComplete_lands hk hfill harrived hslot hopen hfirst),
      fun harrived hfirst => State.act_goesOn hready (State.fillComplete_refetches hk hfill harrived hfirst),
      fun harrived hagain hroom => State.act_goesOn hready (State.fillComplete_loses hk hfill harrived hagain hroom)⟩
  case sealing =>
    rw [exec_sealFlush, execSealFlush, exec_sealDone, execSealDone]
    exact ⟨fun h => State.act_goesOn hready (State.sealFlush_flushes hseal hwritten h),
      fun h hroom => State.act_goesOn hready (State.sealDone_seals hseal hwritten h hroom)⟩
  case publish =>
    exact ⟨fun h => State.dtiPubGo_answers hpass (State.pubGo_beyond hg h),
      fun hin hstate hlater hzero => State.dtiPubGo_answers hpass (State.pubGo_publishes hg hgen hin hstate hlater hzero)⟩
  case command =>
    rw [exec_dpCommandIssue, execDpCommandIssue]
    exact State.act_goesOn hready (State.dpIssue_issues hnext hid hup hbare hdone)
  case beat =>
    rw [exec_dpReadBeat, execDpReadBeat]
    exact State.act_goesOn hready (State.dpBeat_eq id beat data)
  case completion =>
    rw [exec_dpCompletion, execDpCompletion, exec_dpTimeout, execDpTimeout]
    exact ⟨fun h => State.act_goesOn hready (State.dpComplete_quarantined h),
      fun o t hquarantine hout ht =>
        ⟨fun h => State.act_goesOn hready (State.dpComplete_ok hout hquarantine ht h),
          fun h => State.act_goesOn hready (State.dpComplete_fails hout hquarantine ht h)⟩,
      fun o t hout ht => State.act_goesOn hready (State.dpTimeout_quarantines hout ht)⟩
  case reset =>
    have hgo : bit (s.newWord 0x0E0040 1) 0 = true := (State.bit_newWord (m := 0x1) (by decide) (by decide)).trans (by decide)
    rw [exec_portReset, execPortReset]
    exact State.act_writeReg hpass (State.effect_portReset hgo)

end Sys2Proof.Machine
end

section
/-! PROOFS. What the descriptors do (O49): the stagings and Courses of DTI, and the built-in services of an engine, each for the
descriptor it has in hand. -/

namespace Sys2Proof.Machine

section
variable {s t u v : State}

/-! ### Stagings and Courses (R323, R326, R423) -/

section
variable {q : Fin 64} {d : Desc}

theorem State.descStage_stages (h : s.dtiDesc q 1 = some d) : s.descStage q = ((s.dtiTake d).updDti fun x => { x with
    stages := x.stages ++ [⟨d, (natsFrom ((dget d.bytes 16 8 - 0x0010000000000000) / 4096) (dget d.bytes 24 4)).map
      (fun i => (i / 512, i % 512)), 0, false⟩] }).stageStep := by
  rw [State.descStage, h]

section
variable {no total : Nat} (hdesc : s.dtiDesc q 2 = some d) (hno : s.freeCourse = some no)
  (htotal : total = (s.dti.courses.map fun c => c.ahead + 1).sum + dget d.bytes 28 1 + 1)
include hdesc hno htotal

theorem State.descCourse_refused (h : s.usable / 2 < total) : s.descCourse q = (s.dtiTake d).complete d 8 0 := by
  simp only [State.descCourse, hdesc, hno, ← htotal, if_pos h]

theorem State.descCourse_starts {l m : Nat} {x : Line} {c : Course} {lines : List Line} (hroom : total ≤ s.usable / 2)
    (hl : l = dget d.bytes 16 8) (hm : m = (l % 64 + 4 * dget d.bytes 24 4 + 63) / 64)
    (hread : s.unitReads 0x600E (l / 64 * 64) m = (.got x, lines, t))
    (hpaid : t.pay (listInst q) t.fillClass (List.replicate m 1) = (true, u))
    (hc : c = { no := no, d := d, list := listWords lines (l % 64) (dget d.bytes 24 4), ahead := dget d.bytes 28 1
                cfill := dget d.bytes 30 2, byPort := (dget d.bytes 32 2).testBit 15, port := bitsOf (dget d.bytes 32 2) 8 4
                who := bitsOf (dget d.bytes 32 2) 0 6 }) :
    s.descCourse q =
      (((u.spend (listInst q)).dtiTake d).updDti fun x => { x with courses := x.courses ++ [c] }).courseOne no := by
  have hsrc : srcInt 0x0E = 0x600E := rfl
  simp only [State.descCourse, hdesc, hno, ← htotal, if_neg (Nat.not_lt.mpr hroom), ← hl, ← hm, hsrc, hread, hpaid, Bool.not_true,
    Bool.false_eq_true, if_false, hc]

end

section
variable {hit : Option Course} (hdesc : s.dtiDesc q 3 = some d) (ht : t = s.dtiTake d)
  (hhit : hit = lowestCourse (t.dti.courses.filter fun c => c.d.sq.val == dget d.bytes 16 1 && dget c.d.bytes 4 2 == dget d.bytes 18 2))
include hdesc ht hhit

theorem State.descCourseAbort_none (h : hit = none) : s.descCourseAbort q = t.complete d 0x12 0 := by
  simp only [State.descCourseAbort, hdesc, ← ht, ← hhit, h]

theorem State.descCourseAbort_ends {c : Course} (h : hit = some c) : s.descCourseAbort q = (t.courseEnds c 9).complete d 0 0 := by
  simp only [State.descCourseAbort, hdesc, ← ht, ← hhit, h]

end
end

/-! ### A bulk service with its units in hand (R370, R380) -/

section
variable {e : EngineNo} {d : Desc}

theorem State.bulkDesc_runs {run : State → State} (hphase : s.svcPhase e = 0) (hunits : s.svcUnits e d.bytes = (true, u)) :
    s.bulkDesc e d run = (run u).svcFinish e d := by
  simp only [State.bulkDesc, hphase, ne_eq, not_true_eq_false, if_false, hunits, if_true]

theorem State.bulkRun_done {y : Bulk × State} {got : List Line} {result : Bulk → DWord} (h : y.1.wait = false) :
    State.bulkRun e y got result = y.2.setSvc e { phase := 1, status := y.1.status.getD 0, result := result y.1 } := by
  rw [State.bulkRun, h]
  rfl

/-- A service that has not begun: its phase is 0 and it has read nothing. -/
theorem State.svc_none (h : (s.engine e).svc = none) : s.svcPhase e = 0 ∧ s.svcGot e = [] := by
  rw [State.svcPhase, State.svcGot, h]
  exact ⟨rfl, rfl⟩

section
variable {y : Bulk × State}

theorem State.descCopy_copies (hdesc : s.svcDesc e (isOp 0x12) = some (d, t)) (hphase : t.svcPhase e = 0)
    (hunits : t.svcUnits e d.bytes = (true, u))
    (hy : y = u.bulkCopy e (dget d.bytes 16 8) (dget d.bytes 32 8) (dget d.bytes 24 4)) (hdone : y.1.wait = false) :
    s.descCopy e = (y.2.setSvc e { phase := 1, status := y.1.status.getD 0, result := bulkResult y.1 }).svcFinish e d := by
  simp only [State.descCopy, hdesc, State.bulkDesc_runs hphase hunits, ← hy, State.bulkRun_done hdone]

theorem State.descFill_fills (hdesc : s.svcDesc e (isOp 0x13) = some (d, t)) (hphase : t.svcPhase e = 0)
    (hunits : t.svcUnits e d.bytes = (true, u))
    (hy : y = u.bulkFill e (dget d.bytes 32 8) (dget d.bytes 24 4) ((d.bytes.drop 40).take 8)) (hdone : y.1.wait = false) :
    s.descFill e = (y.2.setSvc e { phase := 1, status := y.1.status.getD 0, result := bulkResult y.1 }).svcFinish e d := by
  simp only [State.descFill, hdesc, State.bulkDesc_runs hphase hunits, ← hy, State.bulkRun_done hdone]

/-! ### Snapshots (R425) -/

theorem State.descSnapTake_pins (hdesc : s.svcDesc e (isSnap 0) = some (d, t)) :
    s.descSnapTake e = (t.setPin (dget d.bytes 41 1) t.plg.w).svcPost e d 0 (BitVec.ofNat 64 t.plg.w) := by
  rw [State.descSnapTake, hdesc]

theorem State.descSnapDrop_clears (hdesc : s.svcDesc e (isSnap 2) = some (d, t)) :
    s.descSnapDrop e = (t.clearPin (dget d.bytes 41 1)).svcPost e d 0 0 := by
  rw [State.descSnapDrop, hdesc]

section
variable (hdesc : s.svcDesc e (isSnap 1) = some (d, t))
include hdesc

theorem State.descSnapCopy_released (h : aget t.plg.pins (dget d.bytes 41 1) = none) :
    s.descSnapCopy e = t.svcPost e d 0x11 0 := by
  simp only [State.descSnapCopy, hdesc, h, Option.isNone_none, if_true]

theorem State.descSnapCopy_copies {x : Nat} (hpin : aget t.plg.pins (dget d.bytes 41 1) = some x) (hphase : t.svcPhase e = 0)
    (hunits : t.svcUnits e d.bytes = (true, u))
    (hpaid : u.pay (svcInst e) u.moverClass (List.replicate (lineParts (dget d.bytes 32 8) (dget d.bytes 24 4)).length 2) = (true, v))
    (hy : y = v.bulkCopy e (dget d.bytes 16 8) (dget d.bytes 32 8) (dget d.bytes 24 4)) (hdone : y.1.wait = false) :
    s.descSnapCopy e = ((y.2.spend (svcInst e)).setSvc e
      { phase := 1, status := y.1.status.getD 0, result := BitVec.ofNat 64 y.2.plg.w }).svcFinish e d := by
  have hrun : State.bulkRun e (y.1, y.2.spend (svcInst e)) [] (fun _ => BitVec.ofNat 64 y.2.plg.w) =
      (y.2.spend (svcInst e)).setSvc e { phase := 1, status := y.1.status.getD 0, result := BitVec.ofNat 64 y.2.plg.w } :=
    State.bulkRun_done hdone
  simp only [State.descSnapCopy, hdesc, hpin, Option.isNone_some, Bool.false_eq_true, if_false, State.bulkDesc_runs hphase hunits,
    hpaid, ← hy, hdone, Bool.not_true, hrun]

end

/-! ### VSYNC, PROBE and USER (R421) -/

section
variable (hdesc : s.svcDesc e (isOp 0x17) = some (d, t))
include hdesc

theorem State.descVsync_reached (h : d.wpl ≤ t.plg.wpv) : s.descVsync e = t.svcPost e d 0 (BitVec.ofNat 64 d.wpl) := by
  simp only [State.descVsync, hdesc, if_pos h]

theorem State.descVsync_late (hbehind : t.plg.wpv < d.wpl)
    (h : d.at_ + max 1 (field (t.reg 0x0C0010) 0 16) * 1000000 ≤ t.chron) : s.descVsync e = t.svcPost e d 0x0E 0 := by
  simp only [State.descVsync, hdesc, if_neg (Nat.not_le.mpr hbehind), State.fld, orOne_eq_max, if_pos h]

theorem State.descVsync_waits (hbehind : t.plg.wpv < d.wpl)
    (h : t.chron < d.at_ + max 1 (field (t.reg 0x0C0010) 0 16) * 1000000) : s.descVsync e = t := by
  simp only [State.descVsync, hdesc, if_neg (Nat.not_le.mpr hbehind), State.fld, orOne_eq_max, if_neg (Nat.not_le.mpr h)]

end

section
variable {ok : Bool} (hdesc : s.svcDesc e (isOp 0x18) = some (d, t)) (hunits : t.svcUnits e d.bytes = (ok, u))
include hdesc hunits

theorem State.descProbe_waits (h : ok = false ∨ u.busyInst 24 = true) : s.descProbe e = u := by
  have hwait : (!ok || u.busyInst 24) = true := by
    rw [Bool.or_eq_true, Bool.not_eq_true']
    exact h
  simp only [State.descProbe, hdesc, hunits, hwait, if_true]

section
variable {n : Nat} (hn : n = (dget d.bytes 24 4 + 63) / 64) (hok : ok = true) (hidle : u.busyInst 24 = false)
include hn hok hidle

theorem State.descProbe_begins (h : (t.engine e).svc = none) : s.descProbe e = u.probeNext e d { phase := 0 } n := by
  simp only [State.descProbe, hdesc, hunits, hok, hidle, h, ← hn, Bool.not_true, Bool.or_self, Bool.false_eq_true, if_false,
    Option.getD_none, decide_true, Bool.true_or, if_true, Nat.sub_zero]

theorem State.descProbe_goesOn {r : SvcRun} (hsvc : (t.engine e).svc = some r) (hphase : r.phase ≠ 0)
    (hheld : (t.heldInst e 2).isSome = true) : s.descProbe e =
    u.probeNext e d (r.probed (t.unitReg 24 8).toNat) (n - (r.probed (t.unitReg 24 8).toNat).done) := by
  have hunit : (t.heldInst e 2).isNone = false := by rw [← Option.not_isSome, hheld, Bool.not_true]
  simp only [State.descProbe, hdesc, hunits, hok, hidle, hsvc, hphase, hunit, ← hn, Bool.not_true, Bool.or_self, Bool.false_eq_true,
    if_false, Option.getD_some, decide_false]

end
end

theorem SvcRun.probed_skipped {r : SvcRun} {res : Nat} (h : res.testBit 2 = true) : r.probed res = { r with done := r.done + 1 } :=
  if_pos h

theorem SvcRun.probed_read {r : SvcRun} {res : Nat} (h : res.testBit 2 = false) : r.probed res =
    { r with done := r.done + 1, result := r.result + 1, pois := r.pois + (if res % 4 = 0 then 0 else 1) } :=
  if_neg (Bool.eq_false_iff.mp h)

theorem State.descUser_posts {status : BitVec 16} {result : DWord} (hdesc : s.svcDesc e (isOp 0x20) = some (d, t)) :
    s.descUser e status result = t.svcPost e d status result := by
  rw [State.descUser, hdesc]

/-! ### SCAN and CHECKSUM (R421, R422) -/

section
variable {x : Line} {lines : List Line}

section
variable (hdesc : s.svcDesc e (isOp 0x11) = some (d, t)) (hsvc : (t.engine e).svc = none)
  (hread : t.svcRead e (dget d.bytes 16 8) ((dget d.bytes 24 4 + 63) / 64) [] = (.got x, lines, u))
include hdesc hsvc hread

theorem State.descScan_packs : s.descScan e =
    u.scanPack e d lines (scanHits d.bytes (dget d.bytes 24 4) ((lines.flatMap lineBytes).take (dget d.bytes 24 4))) 0 := by
  obtain ⟨hphase, hgot⟩ := State.svc_none hsvc
  simp only [State.descScan, hdesc, hphase, hgot, ne_eq, not_true_eq_false, if_false, hread]

end

theorem State.scanPack_counts {hits : List (List Byte)} (h : dget d.bytes 32 8 = 0) :
    s.scanPack e d lines hits 0 = (s.setSvc e { phase := 1, result := scanResult d.bytes hits }).svcFinish e d := if_pos h

theorem State.scanPack_writes {hits : List (List Byte)} (h : dget d.bytes 32 8 ≠ 0)
    (hy : y = s.bulkBytes e (dget d.bytes 32 8) hits.flatten) (hdone : y.1.wait = false) : s.scanPack e d lines hits 0 =
    (y.2.setSvc e { phase := 1, status := y.1.status.getD 0
                    result := scanResult d.bytes (hits.take (y.1.bytes / 2 ^ bitsOf (dget d.bytes 48 1) 0 2)) }).svcFinish e d := by
  simp only [State.scanPack, if_neg h, ← hy, State.bulkRun, hdone, Bool.false_eq_true, if_false]
  cases y.1.status <;> rfl

section
variable {a : Nat} {h : State} {data : List Byte} (hdesc : s.svcDesc e (isOp 0x15) = some (d, t)) (hphase : t.svcPhase e = 0)
  (ha : a = dget d.bytes 16 8) (hunits : t.svcUnits e d.bytes = (true, h))
  (hread : h.svcRead e (a / 64 * 64) ((a % 64 + dget d.bytes 24 4 + 63) / 64) (h.svcGot e) = (.got x, lines, u))
  (hdata : data = ((lines.flatMap lineBytes).drop (a % 64)).take (dget d.bytes 24 4))
include hdesc hphase ha hunits hread hdata

theorem State.descChecksum_crc (hmode : dget d.bytes 28 1 = 0) :
    s.descChecksum e = (u.setSvc e { phase := 1, result := (crc32c data).setWidth 64 }).svcFinish e d := by
  simp only [State.descChecksum, hdesc, State.bulkDesc_runs hphase hunits, ← ha, hread, ← hdata, if_pos hmode]

section
variable (hmode : dget d.bytes 28 1 ≠ 0)
include hmode

theorem State.descChecksum_unloaded (hkey : (u.keySlot (dget d.bytes 29 1)).loaded = false) :
    s.descChecksum e = (u.setSvc e { phase := 1, status := 0x10 }).svcFinish e d := by
  simp only [State.descChecksum, hdesc, State.bulkDesc_runs hphase hunits, ← ha, hread, ← hdata, if_neg hmode, hkey, Bool.not_false,
    if_true]

theorem State.descChecksum_tag {k : KeySlot} (hk : k = u.keySlot (dget d.bytes 29 1)) (hloaded : k.loaded = true)
    (hy : y = (u.cphJob 5 (dget d.bytes 40 12)).bulkBytes e (dget d.bytes 32 8)
      ((beBytes 16 (gcmTag (k1 k.key) (dget d.bytes 40 12) (data.map (·.toNat)) [])).map (BitVec.ofNat 8)))
    (hdone : y.1.wait = false) :
    s.descChecksum e = (y.2.setSvc e { phase := 1, status := y.1.status.getD 0 }).svcFinish e d := by
  simp only [State.descChecksum, hdesc, State.bulkDesc_runs hphase hunits, ← ha, hread, ← hdata, if_neg hmode, ← hk, hloaded,
    Bool.not_true, Bool.false_eq_true, if_false, ← hy, State.bulkRun_done hdone]

end
end
end

/-! ### SEAL (R327, R421) -/

section
variable {m : Nat} (hdesc : s.svcDesc e (isOp 0x14) = some (d, t))
include hdesc

section
variable (hphase : t.svcPhase e = 0)
include hphase

theorem State.descSeal_waits (hunits : (t.setSvc e { phase := 0 }).svcUnits e d.bytes = (false, u)) : s.descSeal e = u := by
  simp only [State.descSeal, hdesc, hphase, if_true, hunits]

section
variable (hunits : (t.setSvc e { phase := 0 }).svcUnits e d.bytes = (true, u)) (hheld : u.heldInst e 0 = some m)
  (hv : v = (((u.setUnitReg m 8 (BitVec.ofNat 64 (dget d.bytes 16 8))).setUnitReg m 0x10 (BitVec.ofNat 64
    (bitsOf (dget d.bytes 24 4) 0 31 + if (dget d.bytes 24 4).testBit 31 then 2 ^ 63 else 0))).setUnitReg m 0x18 32768).moverGo m e 2)
include hunits hheld hv

theorem State.descSeal_starts (h : v.busyInst m = true) : s.descSeal e = v.setSvc e { phase := 1 } := by
  simp only [State.descSeal, hdesc, hphase, if_true, hunits, hheld, ← hv, h]

theorem State.descSeal_refused (h : v.busyInst m = false) : s.descSeal e = v.svcPost e d 8 0 := by
  simp only [State.descSeal, hdesc, hphase, if_true, hunits, hheld, ← hv, h, Bool.false_eq_true, if_false]

end
end

theorem State.descSeal_ends (hphase : t.svcPhase e ≠ 0) (hheld : t.heldInst e 0 = some m) (hidle : t.busyInst m = false)
    (hcode : bitsOf (t.unitReg m 0x30).toNat 58 4 = 0) : s.descSeal e =
    (t.sealNotice e (bitsOf (dget d.bytes 24 4) 0 31)).svcPost e d 0 ((t.seg (bitsOf (dget d.bytes 24 4) 0 31)).gen.setWidth 64) := by
  simp only [State.descSeal, hdesc, if_neg hphase, hheld, hidle, hcode, ne_eq, not_true_eq_false, Bool.false_eq_true, if_false]

end
end
end

/-! ### COMMIT (R424) -/

section
variable {e : EngineNo} {d : Desc} {s0 : State} {targets : List Nat} {data : List Line} {w : DWord} {n : Nat} {y : State}

theorem State.commitFence_timedOut {next : DWord → State → State} (hfence : s.svcFence e n = (some w, u))
    (h : w.getLsbD 7 = true) : s.commitFence e d n next = u.svcPost e d 0x0E w := by
  simp only [State.commitFence, hfence, fenceTimedOut, h, if_true]

theorem State.commitFence_passed {next : DWord → State → State} (hfence : s.svcFence e n = (some w, u))
    (h : w.getLsbD 7 = false) : s.commitFence e d n next = next w u := by
  simp only [State.commitFence, hfence, fenceTimedOut, h, Bool.false_eq_true, if_false]

section
variable (hreplay : (true, s0) = if (s.engine e).state = .running ∧ (s.engine e).desc = none then s.redoReplay e else (true, s))
include hreplay

/-- With no unretired record left, the engine works on the descriptor it has. -/
theorem State.redo_clear : (if (decide ((s.engine e).state = .running) && (s.engine e).desc.isNone) = true then s.redoReplay e
    else (true, s)) = (true, s0) := by
  rw [hreplay]
  simp only [Bool.and_eq_true, decide_eq_true_eq, Option.isNone_iff_eq_none]

section
variable (hdesc : s0.svcDesc e (isOp 0x10) = some (d, t))
include hdesc

section
variable {x : Line} (hphase : t.svcPhase e = 0) (hread : t.commitRead e d.bytes = (.got x, targets, data, u))
include hphase hread

theorem State.descCommit_fails {st : BitVec 16} (h : targets.findSome? u.commitCheck = some st) :
    s.descCommit e = u.svcPost e d st 0 := by
  simp only [State.descCommit, State.redo_clear hreplay, Bool.not_true, Bool.false_eq_true, if_false, hdesc, hphase, hread, h]

theorem State.descCommit_records (hchecks : targets.findSome? u.commitCheck = none) (hfits : u.redoFits e = true)
    (hleaves : u.commitReady (u.redoAt e :: targets) = (true, v))
    (hpaid : u.svcPay e ((targets.length + 7) / 8 + targets.length + 1) = (true, y)) :
    s.descCommit e = (y.redoWrite e targets data).setSvc e { phase := 1 } := by
  simp only [State.descCommit, State.redo_clear hreplay, Bool.not_true, Bool.false_eq_true, if_false, hdesc, hphase, hread,
    hchecks, hfits, hleaves, hpaid, if_true]

end

theorem State.descCommit_fences (hphase : t.svcPhase e = 1) (hn : n = (t.redoRead e).length)
    (hpaid : t.pay (svcInst e) (t.engineClass e) (List.replicate (1 + (n + 7) / 8 + 2 * n) 1) = (true, y)) :
    s.descCommit e = y.commitFence e d (dget d.bytes 34 1) fun _ u =>
      ((u.redoRead e).foldl (fun v x => v.svcStore e x.1 x.2) (u.spend (svcInst e))).setSvc e { phase := 2 } := by
  simp only [State.descCommit, State.redo_clear hreplay, Bool.not_true, Bool.false_eq_true, if_false, hdesc, hphase, ← hn,
    hpaid, if_true]

theorem State.descCommit_fencesAgain (hphase : 2 ≤ t.svcPhase e)
    (hpaid : t.pay (svcInst e) (t.engineClass e) [1] = (true, y)) :
    s.descCommit e = y.commitFence e d (dget d.bytes 34 1) fun w u =>
      ((u.spend (svcInst e)).redoRetire e).svcPost e d 0 w := by
  obtain ⟨k, hk⟩ := Nat.exists_eq_add_of_le' hphase
  simp only [State.descCommit, State.redo_clear hreplay, Bool.not_true, Bool.false_eq_true, if_false, hdesc, hk, hpaid, if_true]

end
end
end
end

/-- Settles O49: what the descriptors of DTI and of the built-in services do. The services as commands that go on row by row (log
entry 30), CHECKSUM's GMAC over additional data alone (32), the layout of the redo record (33), the admission of a service's lines
(71), and the units a service holds and the level of a staging's fills (81) are the model's choices. -/
theorem serviceDescriptors : Obligations.ServiceDescriptors := by
  unfold Obligations.ServiceDescriptors
  intro s hready
  refine ⟨fun q d hdesc => ?stage, fun q d no total hdesc hno htotal => ?course, fun q d t hit hdesc ht hhit => ?abort,
    fun e d t hdesc => ?take, fun e d t hdesc => ?drop, fun e d t hdesc => ?snapCopy, fun e d t hdesc => ?vsync,
    fun e d t ok u n hdesc hunits hn => ?probe, fun e status result d t hdesc => ?user,
    fun e d t u y hdesc hphase hunits hy hdone => ?copy, fun e d t u y hdesc hphase hunits hy hdone => ?fill,
    fun e d t x lines u w uns hits hdesc hsvc hread hw huns hhits res hres => ?scan,
    fun e d t a x lines h u hdesc hphase ha hunits hread data hdata => ?checksum, fun e d t u hdesc => ?sealing,
    fun e s0 d t hreplay hdesc => ?commit⟩
  case stage =>
    rw [exec_descStage, execDescStage]
    exact State.act_goesOn hready (State.descStage_stages hdesc)
  case course =>
    rw [exec_descCourse, execDescCourse]
    exact ⟨fun h => State.act_goesOn hready (State.descCourse_refused hdesc hno htotal h),
      fun l m x c lines t u hroom hl hm hread hpaid hc =>
        State.act_goesOn hready (State.descCourse_starts hdesc hno htotal hroom hl hm hread hpaid hc)⟩
  case abort =>
    rw [exec_descCourseAbort, execDescCourseAbort]
    exact ⟨fun h => State.act_goesOn hready (State.descCourseAbort_none hdesc ht hhit h),
      fun c h => State.act_goesOn hready (State.descCourseAbort_ends hdesc ht hhit h)⟩
  case take =>
    rw [exec_descSnapshotTake, execDescSnapshotTake]
    exact State.act_goesOn hready (State.descSnapTake_pins hdesc)
  case drop =>
    rw [exec_descSnapshotDrop, execDescSnapshotDrop]
    exact State.act_goesOn hready (State.descSnapDrop_clears hdesc)
  case snapCopy =>
    rw [exec_descSnapshotCopy, execDescSnapshotCopy]
    exact ⟨fun h => State.act_goesOn hready (State.descSnapCopy_released hdesc h),
      fun x u v y hpin hphase hunits hpaid hy hdone =>
        State.act_goesOn hready (State.descSnapCopy_copies hdesc hpin hphase hunits hpaid hy hdone)⟩
  case vsync =>
    rw [exec_descVsync, execDescVsync]
    exact ⟨fun h => State.act_goesOn hready (State.descVsync_reached hdesc h),
      fun hbehind h => State.act_goesOn hready (State.descVsync_late hdesc hbehind h),
      fun hbehind h => State.act_goesOn hready (State.descVsync_waits hdesc hbehind h)⟩
  case probe =>
    rw [exec_descProbe, execDescProbe]
    refine ⟨fun h => State.act_goesOn hready (State.descProbe_waits hdesc hunits h),
      fun hok hidle h => State.act_goesOn hready (State.descProbe_begins hdesc hunits hn hok hidle h),
      fun r res hok hidle hsvc hphase hheld hres => ?_⟩
    have hprobe := State.descProbe_goesOn hdesc hunits hn hok hidle hsvc hphase hheld
    rw [← hres] at hprobe
    exact ⟨fun h => State.act_goesOn hready (hprobe.trans (by rw [SvcRun.probed_skipped h])),
      fun h => State.act_goesOn hready (hprobe.trans (by rw [SvcRun.probed_read h]))⟩
  case user =>
    rw [exec_descUser, execDescUser]
    exact State.act_goesOn hready (State.descUser_posts hdesc)
  case copy =>
    rw [exec_descCopy, execDescCopy]
    exact State.act_goesOn hready (State.descCopy_copies hdesc hphase hunits hy hdone)
  case fill =>
    rw [exec_descFill, execDescFill]
    exact State.act_goesOn hready (State.descFill_fills hdesc hphase hunits hy hdone)
  case scan =>
    subst hw huns
    have hscan : s.descScan e = u.scanPack e d lines hits 0 := hhits ▸ State.descScan_packs hdesc hsvc hread
    have hresult : ∀ l, scanResult d.bytes l = res l := fun l => (hres l).symm
    rw [exec_descScan, execDescScan]
    refine ⟨fun h => State.act_goesOn hready (hscan.trans ?_), fun y h hy hdone => State.act_goesOn hready (hscan.trans ?_)⟩
    · rw [State.scanPack_counts h, hresult]
    · rw [State.scanPack_writes h hy hdone, hresult]
  case checksum =>
    rw [exec_descChecksum, execDescChecksum]
    exact ⟨fun hmode => State.act_goesOn hready (State.descChecksum_crc hdesc hphase ha hunits hread hdata hmode),
      fun hmode hkey => State.act_goesOn hready (State.descChecksum_unloaded hdesc hphase ha hunits hread hdata hmode hkey),
      fun k y hmode hk hloaded hy hdone =>
        State.act_goesOn hready (State.descChecksum_tag hdesc hphase ha hunits hread hdata hmode hk hloaded hy hdone)⟩
  case sealing =>
    rw [exec_descSeal, execDescSeal]
    exact ⟨fun hphase hunits => State.act_goesOn hready (State.descSeal_waits hdesc hphase hunits),
      fun m v hphase hunits hheld hv =>
        ⟨fun h => State.act_goesOn hready (State.descSeal_starts hdesc hphase hunits hheld hv h),
          fun h => State.act_goesOn hready (State.descSeal_refused hdesc hphase hunits hheld hv h)⟩,
      fun m hphase hheld hidle hcode => State.act_goesOn hready (State.descSeal_ends hdesc hphase hheld hidle hcode)⟩
  case commit =>
    rw [exec_descCommit, execDescCommit]
    refine ⟨fun x targets data u st hphase hread h =>
        State.act_goesOn hready (State.descCommit_fails hreplay hdesc hphase hread h),
      fun x targets data u v y hphase hread hchecks hfits hleaves hpaid =>
        State.act_goesOn hready (State.descCommit_records hreplay hdesc hphase hread hchecks hfits hleaves hpaid),
      fun n y w u hphase hn hpaid hfence => ?first, fun y w u hphase hpaid hfence => ?second⟩
    case first =>
      have hcommit := State.descCommit_fences hreplay hdesc hphase hn hpaid
      exact ⟨fun h => State.act_goesOn hready (hcommit.trans (State.commitFence_timedOut hfence h)),
        fun h => State.act_goesOn hready (hcommit.trans (State.commitFence_passed hfence h))⟩
    case second =>
      have hcommit := State.descCommit_fencesAgain hreplay hdesc hphase hpaid
      exact ⟨fun h => State.act_goesOn hready (hcommit.trans (State.commitFence_timedOut hfence h)),
        fun h => State.act_goesOn hready (hcommit.trans (State.commitFence_passed hfence h))⟩

end Sys2Proof.Machine
end
